-- ==== Sys2Proof/Word.lean ====
section
/-!
DEFINITION. The words of the device: bytes, 32-bit registers and 128-bit words (spec/01_fabric.md R24, R50).
-/
namespace Sys2Proof

/-- One byte of memory. -/
abbrev Byte := BitVec 8
/-- A register or a general register of a cell. -/
abbrev Word := BitVec 32
/-- A fabric word, a descriptor word, a wide register. -/
abbrev Quad := BitVec 128

end Sys2Proof
end

