-- ==== Sys2Proof/Syntax.lean ====
section
/-!
DEFINITION. The commands of the device: one constructor of `Instr` for each row of spec/opcode_table.json, and
the types of their operands. A command is everything another agent does to the device, or a step that the device
itself is ready to take (spec/95_what_each_step_holds.md).
-/
namespace Sys2Proof

/-- Who makes a register or memory access (R4, R577). -/
inductive Master where
  | host
  | cell (n : Fin 8)
  | keeper
  | loadPath
  | unit (window : Fin 256)
  deriving DecidableEq, Repr

/-- A logical cell of the Hive (R52). -/
abbrev Cell := Fin 8
/-- A general register g0-g31 of a cell (R59). -/
abbrev Gr := Fin 32
/-- A wide register w0-w7 of a cell (R59). -/
abbrev Wr := Fin 8

/-- The three directions of SHI (R61); imm[6:5] = 0b11 is illegal and has no name. -/
inductive ShiftDir where
  | left | rightLogical | rightArith
  deriving DecidableEq, Repr

/-- What the common code finds on a descriptor's word 0 (R25, R26): nothing, a bit that it corrects as the descriptor is taken, an
uncorrectable word on entry, one at the head of the queue, or one at the head whose queue record is uncorrectable too. -/
inductive DescFault where
  | ok | corrected | onEntry | atHead | atHeadAndRecord
  deriving DecidableEq, Repr

/-- Is word 0 uncorrectable at the head? -/
def DescFault.lost (f : DescFault) : Bool := f == .atHead || f == .atHeadAndRecord

/-- What one physical lane of a port, or of a gang (the partner's lanes from 16 on), carries in one line, as the words
stand on the lane before the polarity mask is applied: whether words came at all, the bit offset of the start sequence,
its arrival in words after the first lane's, the three preamble words and the code of the start sequence, the pixel
words, the preamble and code of the end sequence, and the CRC word (R101, R104 to R107). -/
structure LaneLine where
  found : Bool
  offset : Nat
  skew : Nat
  pre : List Nat
  code : Nat
  words : List Nat
  endPre : List Nat
  endCode : Nat
  crc : Nat
  deriving DecidableEq, Repr

/-- An SLVS line as it arrives on a port's lanes, by physical lane; `cut` says that the elastic queue found itself full
and cut it (R22). -/
structure SlvsLine where
  lanes : List LaneLine
  cut : Bool
  deriving DecidableEq, Repr

/-- How a CSI-2 packet header arrives: right, with a corrected bit, or beyond correction (R102, R103). -/
inductive CsiHeader where
  | ok | corrected | lost
  deriving DecidableEq, Repr

/-- A CSI-2 short packet on link 0 or 1 (R102): virtual channel, data type, number field. -/
structure Csi2Short where
  link : Fin 2
  vc : Nat
  dt : Nat
  num : Nat
  header : CsiHeader
  deriving DecidableEq, Repr

/-- A CSI-2 long packet on link 0 or 1 (R102, R103); `crc` is the CRC-16 that came with it; `cut` as for an SLVS
line. -/
structure Csi2Long where
  link : Fin 2
  vc : Nat
  dt : Nat
  payload : List Byte
  crc : Nat
  header : CsiHeader
  cut : Bool
  deriving DecidableEq, Repr

/-- A line that the compositor composes under its threshold (R226): the layers whose pixels are missing, whether a residue check fails on it
(R222), whether the write-back's buffer is full (R231). -/
structure LateLine where
  missing : BitVec 16
  residue : Bool
  wbFull : Bool
  deriving DecidableEq, Repr

/-- What a lane's receiver sees (R283): its bits while it hunts, and once it is locked whether the header of each block is valid. -/
structure LaneBits where
  lane : Fin 52
  bits : List Bool
  deriving DecidableEq, Repr

/-- A codec core that decodes, and whether a residue check fails as it does (R339). -/
structure CoreRun where
  core : Fin 4
  residue : Bool
  deriving DecidableEq, Repr

/-- What a controller has when a refresh falls due (R412): whether requests wait, and how many refreshes it makes ahead. -/
structure RefreshSlot where
  waiting : Bool
  ahead : Fin 9
  deriving DecidableEq, Repr

/-- How a replay ends (R417): whether the alert comes again, whether the retraining then passes, whether it repairs a lane. -/
structure ReplayEnd where
  again : Bool
  trained : Bool
  repaired : Bool
  deriving DecidableEq, Repr

/-- A stack that leaves self-refresh (R414): the pseudo-channels whose retraining fails, and those with a lane repaired. -/
structure StackExit where
  stack : Fin 2
  failed : BitVec 32
  repaired : BitVec 32
  deriving DecidableEq, Repr

/-- What a core brings to a CTU row: the QP that rate control chooses for it, which is the encoder's own choice (R330), and whether a
residue check fails (R339). -/
structure EncRow where
  qp : Int
  residue : Bool
  deriving DecidableEq, Repr

/-- The outcome of one SSD bring-up step (R394). -/
inductive BringUp where
  | linkUp (speed width : Nat)
  | initialised (blocks : Nat) (queues : Nat) (lba4k : Bool) (vwc : Bool)
  | unsuitable
  | failed
  deriving DecidableEq, Repr

/-- Where a clip-store command comes from: command queue 18 or host queue pair n (R386). -/
inductive ClsSrc where
  | device
  | hostPair (n : Fin 4)
  deriving DecidableEq, Repr

/-- What a read of a 128-bit word finds wrong (R25). -/
inductive WordErr where
  | none | corrected | uncorrectable
  deriving DecidableEq, Repr

/-- What a read of a DRAM burst finds wrong: in its two words, and whether the binding field differs (R25, R32). -/
structure BurstErr where
  lower : WordErr
  upper : WordErr
  mismatch : Bool
  deriving DecidableEq, Repr

/-- A request to a pseudo-channel controller (R406 to R408), by a master; what its read finds, and what the second read of
R418 finds. -/
structure MemReq where
  master : Master
  write : Bool
  addr : Nat
  bytes : List Byte
  err : BurstErr
  retryErr : BurstErr
  deriving DecidableEq, Repr

/-- A packet of the Adeoft link (R444); `arrival` is its arrival stamp in 2⁻¹⁶ ns. -/
structure AdeoftPkt where
  kind : Nat
  origin : Nat
  dest : Nat
  broadcast : Bool
  upstream : Bool
  wraps : Nat
  linkLocal : Bool
  hops : Nat
  seq : Nat
  arrival : Nat
  payload : List Byte
  deriving DecidableEq, Repr

/-- Why an Adeoft packet is dropped (R445). -/
inductive BadPacket where
  | crc | unknownKind | control | guardFail
  deriving DecidableEq, Repr

/-- How a two-wire transfer ends (R486). -/
inductive TwResult where
  | done (bytes : List Byte)
  | addressNack
  | dataNack (index : Nat)
  deriving DecidableEq, Repr

/-- A wake source of Doze (R508). -/
inductive WakeSrc where
  | tw4 | gpio | pcie | alarm
  deriving DecidableEq, Repr

/-- The straps sampled when the last reset is released (R566). -/
structure Straps where
  bootSrc : BitVec 2
  tw4Addr : BitVec 3
  pmbAddr : BitVec 2
  casMaster : Bool
  testEn : Bool
  twRail33 : Bool
  deriving DecidableEq, Repr

/-- The commands of the device, in the order of spec/opcode_table.json. -/
inductive Instr where
  /-- ABSENT_ACCESS (R4). A register access by any master falls in the window of an absent unit or a reserved window: reads return zero, writes are ignored and HCI_ABSENT_ACCESS fires. -/
  | absentAccess (m : Master) (addr : Nat) (isWrite : Bool)
  /-- REGISTER_WRITE (R50). A write to a register that has no row of its own sets RW fields, clears W1C bits and ignores RO fields, reserved fields and partial writes. -/
  | registerWrite (m : Master) (addr size : Nat) (value : BitVec 64)
  /-- HOST_MEMORY_WRITE (R465). A host write through BAR2 or BAR4 is carried out in arrival order on Comb or DRAM. -/
  | hostMemoryWrite (bar4 : Bool) (offset : Nat) (bytes : List Byte)
  /-- HOST_MEMORY_READ (R465). A host read through BAR2 or BAR4 returns data only after every earlier host write is visible. -/
  | hostMemoryRead (bar4 : Bool) (offset len : Nat)
  /-- RESUME (R45). The common RESUME descriptor lifts the domain's fence when its epoch matches, and completes with STALE otherwise. -/
  | resume (q : Fin 64)
  /-- ABORT (R42). The common ABORT descriptor overtakes waiting descriptors and aborts its target tag, posting exactly one completion for the target. -/
  | abort (q : Fin 64)
  /-- NOP (R37). The common NOP descriptor is taken and waits for every earlier descriptor of its queue to complete. -/
  | nop (q : Fin 64)
  /-- NOP_RELEASE (R37). The last earlier descriptor of the queue completes and the waiting NOP completes. -/
  | nopRelease (q : Fin 64)
  /-- COMPLETION_QUEUE_ROOM (R43). A full completion queue gains room and the unit waiting to post to it posts its completion and resumes its command queue. -/
  | completionQueueRoom (q : Fin 64)
  /-- INVALID_CODE (R12). A completion detector sees an invalid code: the stage stalls and reports to Foghorn until its domain restarts. -/
  | invalidCode (window : Fin 256) (stage : BitVec 8)
  /-- STALL_WATCHDOG_EXPIRY (R13). A stage group has been owed for longer than its bound, and the watchdog reports a stall naming the innermost owed stage. -/
  | stallWatchdogExpiry (window : Fin 256) (stage : BitVec 8)
  /-- PACE_WINDOW_END (R15). A pace meter window of Beacon time ends and the meter reports items × 16 over busy microseconds. -/
  | paceWindowEnd (window : Fin 256) (meter : Fin 16) (items busy : Nat)
  /-- PACE_CLEAR_MIN (R51). A write of clear_min to a pace control register restarts pace_min. -/
  | paceClearMin (m : Master) (window : Fin 256) (meter : Fin 16) (value : BitVec 32)
  /-- GOVERNOR_EVALUATION (R17). The governor's evaluation period ends and it raises, lowers or keeps the VCORE setpoint from the governed meters. -/
  | governorEvaluation
  /-- GOVERNOR_SETTLE_END (R17). The settle time after a VOUT_COMMAND write passes and the governor starts a new evaluation period. -/
  | governorSettleEnd
  /-- VOUT_COMMAND_TRANSFER_DONE (R18). A governor VOUT_COMMAND write on TW_5 ends, acknowledged or not, and a failure is retried or sets pmbus_error. -/
  | voutCommandTransferDone (ack : Bool)
  /-- VOUT_MODE_READ_DONE (R18). The read of VOUT_MODE after a reset ends: kind and exponent are recorded, or the read is retried or sets pmbus_error. -/
  | voutModeReadDone (ack : Bool) (mode : Byte)
  /-- PMBUS_ERROR_CLEAR (R18). Software clears pmbus_error and the governor rereads VOUT_MODE if needed, writes its last setpoint and resumes. -/
  | pmbusErrorClear (m : Master) (value : BitVec 32)
  /-- GOV_LIMITS_WRITE (R21). A write to FGH_GOV_LIMITS is judged and sets or clears limit_error. -/
  | govLimitsWrite (m : Master) (value : BitVec 32)
  /-- ECC_THRESH_WRITE (R29). A write of <W>_ECC_THRESH compares the threshold with the corrected count and may report a corrected-error rate at once. -/
  | eccThreshWrite (m : Master) (window : Fin 256) (value : BitVec 32)
  /-- ECC_COUNT_CLEAR (R29). A W1C write to <W>_ECC_n clears counts and re-arms the rate report when the corrected count reaches zero. -/
  | eccCountClear (m : Master) (window : Fin 256) (n : Fin 64) (value : BitVec 32)
  /-- LOCKSTEP_MISMATCH (R53). A comparator finds the two cells of a pair disagree: the item is held back, the cell stops with cause 0x06 and HIV_LOCKSTEP fires. -/
  | lockstepMismatch (c : Cell)
  /-- ILLEGAL_INSTRUCTION (R61). A cell executes an illegal opcode or field and stops with fault cause 0x01. -/
  | illegalInstruction (c : Cell)
  /-- INSTRUCTION_FETCH_UNCORRECTABLE (R58). A fetched instruction word is uncorrectable and the cell stops with fault cause 0x08. -/
  | instructionFetchUncorrectable (c : Cell)
  /-- ADD (R62). ALU function 0x00 writes g[rs] + g[rt]. -/
  | add (c : Cell) (rd rs rt : Gr)
  /-- SUB (R62). ALU function 0x01 writes g[rs] − g[rt]. -/
  | sub (c : Cell) (rd rs rt : Gr)
  /-- AND (R62). ALU function 0x02 writes the bitwise AND. -/
  | and (c : Cell) (rd rs rt : Gr)
  /-- OR (R62). ALU function 0x03 writes the bitwise OR. -/
  | or (c : Cell) (rd rs rt : Gr)
  /-- XOR (R62). ALU function 0x04 writes the bitwise XOR. -/
  | xor (c : Cell) (rd rs rt : Gr)
  /-- NOR (R62). ALU function 0x05 writes the bitwise NOR. -/
  | nor (c : Cell) (rd rs rt : Gr)
  /-- SLL (R62). ALU function 0x06 shifts left by g[rt][4:0]. -/
  | sll (c : Cell) (rd rs rt : Gr)
  /-- SRL (R62). ALU function 0x07 shifts right with zero fill. -/
  | srl (c : Cell) (rd rs rt : Gr)
  /-- SRA (R62). ALU function 0x08 shifts right with sign fill. -/
  | sra (c : Cell) (rd rs rt : Gr)
  /-- SLT (R62). ALU function 0x09 writes 1 when g[rs] < g[rt] signed. -/
  | slt (c : Cell) (rd rs rt : Gr)
  /-- SLTU (R62). ALU function 0x0A writes 1 when g[rs] < g[rt] unsigned. -/
  | sltu (c : Cell) (rd rs rt : Gr)
  /-- MUL (R62). ALU function 0x0B writes the low 32 bits of the product. -/
  | mul (c : Cell) (rd rs rt : Gr)
  /-- MULHU (R62). ALU function 0x0C writes the high 32 bits of the unsigned product. -/
  | mulhu (c : Cell) (rd rs rt : Gr)
  /-- DIVU (R62). ALU function 0x0D writes the unsigned quotient, or all ones for division by zero. -/
  | divu (c : Cell) (rd rs rt : Gr)
  /-- REMU (R62). ALU function 0x0E writes the unsigned remainder, or g[rs] for division by zero. -/
  | remu (c : Cell) (rd rs rt : Gr)
  /-- ADDI (R61). Adds a sign-extended immediate. -/
  | addi (c : Cell) (rd rs : Gr) (imm : BitVec 16)
  /-- ANDI (R61). ANDs a zero-extended immediate. -/
  | andi (c : Cell) (rd rs : Gr) (imm : BitVec 16)
  /-- ORI (R61). ORs a zero-extended immediate. -/
  | ori (c : Cell) (rd rs : Gr) (imm : BitVec 16)
  /-- XORI (R61). XORs a zero-extended immediate. -/
  | xori (c : Cell) (rd rs : Gr) (imm : BitVec 16)
  /-- SLTI (R61). Compares with a sign-extended immediate, signed. -/
  | slti (c : Cell) (rd rs : Gr) (imm : BitVec 16)
  /-- SLTIU (R61). Compares with a sign-extended immediate, unsigned. -/
  | sltiu (c : Cell) (rd rs : Gr) (imm : BitVec 16)
  /-- SHI (R61). Shifts g[rs] by an immediate amount in the direction that imm[6:5] selects. -/
  | shi (c : Cell) (rd rs : Gr) (dir : ShiftDir) (amount : BitVec 5)
  /-- LUI (R61). Loads an immediate into the upper half of g[rd]. -/
  | lui (c : Cell) (rd : Gr) (imm : BitVec 16)
  /-- LW (R57). Loads a 32-bit word from the cell address space, faulting on misalignment, access errors or poison. -/
  | lw (c : Cell) (rd rs : Gr) (imm : BitVec 16)
  /-- SW (R57). Stores a 32-bit word to the cell address space. -/
  | sw (c : Cell) (rd rs : Gr) (imm : BitVec 16)
  /-- LQ (R57). Loads a 128-bit word into a wide register. -/
  | lq (c : Cell) (rd : Wr) (rs : Gr) (imm : BitVec 16)
  /-- SQ (R57). Stores a wide register as a 128-bit word. -/
  | sq (c : Cell) (rd : Wr) (rs : Gr) (imm : BitVec 16)
  /-- WDEP (R63). Deposits low bits of g[rs] into a field of w[rd]. -/
  | wdep (c : Cell) (rd : Wr) (rs : Gr) (pos : BitVec 7) (lenM1 : BitVec 5)
  /-- WEXT (R63). Extracts a field of w[rs] into g[rd]. -/
  | wext (c : Cell) (rd : Gr) (rs : Wr) (pos : BitVec 7) (lenM1 : BitVec 5)
  /-- WMOV (R61). Copies or clears a wide register. -/
  | wmov (c : Cell) (rd rs : Wr) (clear : Bool)
  /-- BEQ (R61). Branches when the registers are equal. -/
  | beq (c : Cell) (rd rs : Gr) (imm : BitVec 16)
  /-- BNE (R61). Branches when the registers differ. -/
  | bne (c : Cell) (rd rs : Gr) (imm : BitVec 16)
  /-- BLT (R61). Branches on signed less-than. -/
  | blt (c : Cell) (rd rs : Gr) (imm : BitVec 16)
  /-- BGE (R61). Branches on signed greater-or-equal. -/
  | bge (c : Cell) (rd rs : Gr) (imm : BitVec 16)
  /-- BLTU (R61). Branches on unsigned less-than. -/
  | bltu (c : Cell) (rd rs : Gr) (imm : BitVec 16)
  /-- BGEU (R61). Branches on unsigned greater-or-equal. -/
  | bgeu (c : Cell) (rd rs : Gr) (imm : BitVec 16)
  /-- J (R61). Jumps by a sign-extended offset. -/
  | j (c : Cell) (offset : BitVec 26)
  /-- JAL (R61). Jumps and writes the return address to g31. -/
  | jal (c : Cell) (offset : BitVec 26)
  /-- JALR (R61). Jumps to g[rs] and writes the return address to g[rd]. -/
  | jalr (c : Cell) (rd rs : Gr)
  /-- POST (R64). Posts a descriptor from wide registers to a command queue, waiting while the queue is full. -/
  | post (c : Cell) (rd : Wr) (q : Fin 64) (flt : DescFault)
  /-- POSTM (R65). Posts a descriptor read from memory to a command queue. -/
  | postm (c : Cell) (rs : Gr) (q : Fin 64) (flt : DescFault)
  /-- POST_QUEUE_ROOM (R66). A full command queue gains room and the waiting POST or POSTM enters its descriptor whole. -/
  | postQueueRoom (c : Cell)
  /-- TAKE (R67). Takes one completion item, or the buoy, from the cell's own completion queue. -/
  | take (c : Cell) (rd : Wr) (rs : Gr) (q : Fin 64)
  /-- WAIT (R68). Returns the lowest pending masked event or waits for one, with an optional timeout. -/
  | wait (c : Cell) (rd rs : Gr)
  /-- WAIT_EVENT (R68). A masked event becomes pending while a cell waits, and WAIT returns it and clears its pending bit. -/
  | waitEvent (c : Cell)
  /-- WAIT_TIMEOUT (R68). A WAIT timeout expires with no masked event pending and g[rd] receives all ones. -/
  | waitTimeout (c : Cell)
  /-- ARM (R71). Arms a Beacon trigger or the cell alarm for a time and returns 0, or 1 when the time is already reached. -/
  | arm (c : Cell) (rd rs : Gr) (target : Fin 17)
  /-- DISARM (R71). Disarms a Beacon trigger or the cell alarm and returns whether it was armed, acted or idle. -/
  | disarm (c : Cell) (rd rs : Gr) (target : Fin 17)
  /-- TIME (R70). Reads the 32-bit Beacon nanosecond counter. -/
  | time (c : Cell) (rd : Gr)
  /-- COMMIT (R75). A local commit copies a shadow group's staged values into its pending set and returns the frame it lands on. -/
  | commit (c : Cell) (rd rt : Gr) (group : Fin 16)
  /-- SWARM_COMMIT (R77). A swarm commit for a target frame returns LATE at once or sends COMMIT_REQ to the frame-timing role. -/
  | swarmCommit (c : Cell) (rd rs rt : Gr) (group : Fin 16)
  /-- SNAP (R78). Latches the device's own snapshot registers at once and returns the sequence. -/
  | snap (c : Cell) (rd : Gr)
  /-- SWARM_SNAP (R78). Sends a swarm snapshot request for a Beacon time at least the ring lead time away. -/
  | swarmSnap (c : Cell) (rd rs : Gr)
  /-- FENCE (R79). Waits for earlier stores to be visible and, with imm[1], for every posted descriptor's completion. -/
  | fence (c : Cell) (rd rs : Gr) (kinds : BitVec 2)
  /-- FENCE_RELEASE (R79). The awaited stores become visible or completions are posted, and the waiting FENCE ends. -/
  | fenceRelease (c : Cell)
  /-- BAR (R80). A cell joins a barrier and waits until every cell of the mask has arrived. -/
  | bar (c : Cell) (rd rs : Gr) (barrier : Fin 4) (mask : BitVec 8)
  /-- BAR_TIMEOUT (R80). A barrier wait times out, the cell leaves with g[rd] = 1 and HIV_BAR_TIMEOUT fires. -/
  | barTimeout (c : Cell)
  /-- MBOX_SEND (R81). Sends a 128-bit message to a cell or the host mailbox, or reports the mailbox full. -/
  | mboxSend (c : Cell) (rd : Wr) (rs : Gr) (dest : Fin 9)
  /-- MBOX_RECEIVE (R81). Takes the oldest message of the cell's own inbound mailbox. -/
  | mboxReceive (c : Cell) (rd : Wr) (rs : Gr) (sel : BitVec 4)
  /-- CSRR (R85). Reads a cell CSR, stopping the cell for an undefined CSR. -/
  | csrr (c : Cell) (rd : Gr) (csr : BitVec 12)
  /-- CSRW_WRITE (R83). Writes g[rs] to a CSR. -/
  | csrwWrite (c : Cell) (rs : Gr) (csr : BitVec 12)
  /-- CSRW_SET (R83). Sets the bits of a CSR that are 1 in g[rs]. -/
  | csrwSet (c : Cell) (rs : Gr) (csr : BitVec 12)
  /-- CSRW_CLEAR (R83). Clears the bits of a CSR that are 1 in g[rs]. -/
  | csrwClear (c : Cell) (rs : Gr) (csr : BitVec 12)
  /-- STOP (R84). Stops the cell with state 4 and exit code imm, and HIV_CELL_STOPPED fires. -/
  | stop (c : Cell) (imm : BitVec 16)
  /-- CELL_ALARM_FIRE (R72). An armed cell alarm's time is reached and HIV_ALARM_n fires. -/
  | cellAlarmFire (c : Cell)
  /-- CELL_WATCHDOG_EXPIRY (R86). CSR_WDOG microseconds pass without a kick, the cell stops with cause 0x07 and HIV_WDOG fires. -/
  | cellWatchdogExpiry (c : Cell)
  /-- CELL_STOP_REQUEST (R87). The host writes stop in HIV_CELL_n_CTRL and the cell stops within 2 µs. -/
  | cellStopRequest (m : Master) (c : Cell) (value : BitVec 32)
  /-- CELL_START (R87). The host writes start in HIV_CELL_n_CTRL and a stopped cell with an image starts at entry with g1 = 0. -/
  | cellStart (m : Master) (c : Cell) (value : BitVec 32)
  /-- CELL_UNLOAD (R98). The host writes unload, the cell's image is removed and the declarations are recomputed. -/
  | cellUnload (m : Master) (c : Cell) (value : BitVec 32)
  /-- H2C_SEND (R94). The host sends a message to a cell mailbox, or sets overflow when it is full. -/
  | h2cSend (m : Master) (c : Cell) (value : BitVec 32)
  /-- C2H_POP (R94). The host removes the oldest message of the host mailbox. -/
  | c2hPop (m : Master) (value : BitVec 32)
  /-- IMAGE_LOAD_START (R96). A start in HIV_LOAD_CTRL sets busy, checks the header and stops the target cell. -/
  | imageLoadStart (m : Master) (value : BitVec 32)
  /-- IMAGE_LOAD_DRAINED (R96). Every descriptor of the target cell has its completion posted, and the old claims and queues are cleared. -/
  | imageLoadDrained
  /-- IMAGE_LOAD_BUSY_TAGS (R97). 100 ms pass with descriptors of the cell still without a completion, and the load fails with BUSY_TAGS. -/
  | imageLoadBusyTags
  /-- IMAGE_LOAD_COPY_DONE (R96). Keeper finishes reading, hashing and writing the image through the load path. -/
  | imageLoadCopyDone
  /-- IMAGE_LOAD_VERIFIED (R96). Keeper's signature checks end; claims and pace declarations are recorded, the cell may start and event 75 fires. -/
  | imageLoadVerified
  /-- PORT_SETUP (R127). Sets a sensor port's PHY mode, lanes, gang or split and line buffer, and starts hunting. -/
  | portSetup (n : Fin 4)
  /-- GANG_MAP (R128). Supplies the partner's lane map and polarity for a gang, which then starts hunting. -/
  | gangMap (n : Fin 4)
  /-- FRAME (R116). A FRAME descriptor is armed to claim the next frame start of its port. -/
  | frame (n : Fin 4)
  /-- XTRIG_SETUP (R114). Connects the port's XTRIG to a Beacon trigger with polarity, mode and width. -/
  | xtrigSetup (n : Fin 4)
  /-- MCLK_SETUP (R113). Sets and enables the sensor master clock frequency. -/
  | mclkSetup (n : Fin 4)
  /-- PORT_STOP (R127). Ends the port's setup after the frame in progress closes and stops the PHY. -/
  | portStop (n : Fin 4)
  /-- SLVS_LINE (R118). An SLVS line with its sync codes arrives, is checked against W, stored in the line buffer or discarded. -/
  | slvsLine (n : Fin 4) (line : SlvsLine)
  /-- CSI2_SHORT_PACKET (R102). A CSI-2 Frame Start, Frame End, Line Start or Line End packet arrives. -/
  | csi2ShortPacket (n : Fin 4) (pkt : Csi2Short)
  /-- CSI2_LONG_PACKET (R103). A CSI-2 long packet arrives and its pixels are joined into the line, or it is discarded and counted. -/
  | csi2LongPacket (n : Fin 4) (pkt : Csi2Long)
  /-- LANE_LOCK_TIMEOUT (R105). No sync sequence arrives within line_timeout and a lane loses lock. -/
  | laneLockTimeout (n : Fin 4) (lane : Fin 16)
  /-- SOF_TIMEOUT (R117). No frame start arrives within sof_timeout of arming and the FRAME completes with NO_FRAME. -/
  | sofTimeout (n : Fin 4)
  /-- LINE_TIMEOUT (R120). line_timeout passes without a line and the open frame closes with close_reason 3. -/
  | lineTimeout (n : Fin 4)
  /-- BEACON_TRIGGER_ACT (R433). An armed Beacon trigger's time is reached; it records the time and drives its XTRIG and GPIO outputs. -/
  | beaconTriggerAct (n : Fin 16)
  /-- XTRIG_PULSE_END (R115). An XTRIG pulse ends and a pending XTRIG_SETUP takes effect. -/
  | xtrigPulseEnd (n : Fin 4)
  /-- RFE_FRAME (R152). Arms a raw front-end frame on a slot after reading its frame parameter block. -/
  | rfeFrame (x : Fin 2)
  /-- RFE_TABLE_LOAD (R161). Copies words into a raw front-end table bank unless the bank is in use. -/
  | rfeTableLoad (x : Fin 2)
  /-- RFE_LINE_SET (R135). The front end takes a line set by arbitration and processes it through the eight stages. -/
  | rfeLineSet (x : Fin 2) (residue : Bool)
  /-- RFE_MEMORY_LINE_FETCH (R154). A memory-source slot completes the fetch of a line set, which becomes ready for arbitration. -/
  | rfeMemoryLineFetch (x slot : Fin 2)
  /-- RFE_FRAME_START_MARK (R153). A port's frame-start mark reaches a slot; the frame opens or is taken as unclaimed. -/
  | rfeFrameStartMark (x slot : Fin 2)
  /-- RFE_FRAME_END_MARK (R155). A frame-end mark reaches a slot; statistics are written and RFE_FRAME completes, dropped or not. -/
  | rfeFrameEndMark (x slot : Fin 2)
  /-- RFE_TBL_DATA3_WRITE (R162). A write of RFE_x_TBL_DATA3 stores a table word and increments the word index, unless the bank is in use. -/
  | rfeTblData3Write (m : Master) (x : Fin 2) (value : BitVec 32)
  /-- CLR_FRAME (R193). Arms a colour-engine frame on a slot. -/
  | clrFrame (x : Fin 2)
  /-- CLR_TABLE_LOAD (R202). Copies words into a colour-engine table bank unless the bank is in use. -/
  | clrTableLoad (x : Fin 2)
  /-- CLR_LINE (R169). A line from the front end passes the colour stages and is written to every enabled output. -/
  | clrLine (x : Fin 2) (residue : Bool)
  /-- CLR_FRAME_START_MARK (R193). A frame start from the front end opens a slot's frame or is discarded as unclaimed. -/
  | clrFrameStartMark (x slot : Fin 2)
  /-- CLR_FRAME_END_MARK (R194). A frame end reaches the engine; packed block rows and rings are closed and CLR_FRAME completes. -/
  | clrFrameEndMark (x slot : Fin 2)
  /-- CLR_RING_ROOM (R187). The consumer raises released_total and a slot waiting on a ring writes its line. -/
  | clrRingRoom (x slot : Fin 2)
  /-- CLR_RING_WAIT_THRESHOLD (R187). A ring wait exceeds CLR_x_RING_THRESH and CLR_RING_WAIT fires once. -/
  | clrRingWaitThreshold (x slot : Fin 2)
  /-- CLR_TBL_DATA3_WRITE (R199). A write of CLR_x_TBL_DATA3 stores a table word and increments the word index. -/
  | clrTblData3Write (m : Master) (x : Fin 2) (value : BitVec 32)
  /-- CMP_WRITEBACK (R229). Arms write-back of an output's next frame into a surface. -/
  | cmpWriteback
  /-- CMP_COMPOSE (R232). Composes one frame of a stopped output into memory, waiting for every source. -/
  | cmpCompose
  /-- CMP_REPORT (R237). Claims an output's next frame and writes its frame report when the frame has left. -/
  | cmpReport
  /-- CMP_TABLE_LOAD (R233). Copies words into a compositor table bank unless the bank is in use. -/
  | cmpTableLoad
  /-- CMP_TBL_DATA3_WRITE (R162). A write of CMP_TBL_DATA3 stores a table word and increments the word index. -/
  | cmpTblData3Write (m : Master) (value : BitVec 32)
  /-- CMP_LINE_COMPOSE (R225). Every covering layer holds its source pixels and the compositor composes an output line. -/
  | cmpLineCompose (o : Fin 2) (residue wbFull : Bool)
  /-- CMP_LATE_THRESHOLD (R226). The outbound queue falls to late_fill with pixels owed; the line is composed and missing layers are switched off. -/
  | cmpLateThreshold (o : Fin 2) (line : LateLine)
  /-- MAP_LOAD (R256). Copies and checks tile map entries into a bank. -/
  | mapLoad (g : Fin 2)
  /-- CAL_LOAD (R261). Copies calibration entries into a bank unless it is in use. -/
  | calLoad (g : Fin 2)
  /-- START (R247). Starts a stopped or held generator, applying its pending set. -/
  | start (g : Fin 2)
  /-- HOLD (R264). Takes a running generator into Hold at its next latch point. -/
  | hold (g : Fin 2)
  /-- WLO_REPORT (R272). Claims a generator's next frame and writes its report after the Daymark checks. -/
  | wloReport (g : Fin 2)
  /-- WLO_LATCH_POINT (R242). A generator reaches its first line of vertical blanking; pending sets are applied and the frame counter increments. -/
  | wloLatchPoint (g : Fin 2)
  /-- GENERATOR_RETIMED (R251). The generator's synthesiser finishes retiming to a new line period. -/
  | generatorRetimed (g : Fin 2)
  /-- RASTER_RESTART (R251). The restart time is reached and the raster restarts with the vertical blanking of the new timing. -/
  | rasterRestart (g : Fin 2)
  /-- FRAME_INSTANT (R245). A frame instant passes; the generator measures its phase error and corrects or re-lands. -/
  | frameInstant (g : Fin 2) (actual : Nat)
  /-- WLO_LINE_SCAN (R259). A generator sends a line's segments on its lanes, replacing missing pixels with KEEP runs. -/
  | wloLineScan (g : Fin 2) (missing : List (Nat × Nat)) (residue : Bool)
  /-- FREF_EDGE (R246). A FREF_IN rising edge is stamped, and accepted or ignored against its predicted position. -/
  | frefEdge (stamp : Nat)
  /-- FREF_LOST_TIMEOUT (R246). No accepted FREF pulse arrives for 2 × fref_div × P, ref_lost sets and the generator coasts. -/
  | frefLostTimeout (g : Fin 2)
  /-- HOLD_ACK_TIMEOUT (R264). ack_timeout passes without every receiver reporting held and the generator stops with HOLD_INCOMPLETE. -/
  | holdAckTimeout (g : Fin 2)
  /-- DAYMARK_DEADLINE (R267). F_(N+2) + 2 ms passes and missing or mismatching receiver Daymarks are reported. -/
  | daymarkDeadline (g : Fin 2)
  /-- LANE_SETUP (R305). Sets a wall lane's mode, guard and equalisation and starts it. -/
  | laneSetup
  /-- ENUMERATE (R306). Queues an ENUM on a wall lane to number its tile receivers. -/
  | enumerate
  /-- TILE_WRITE (R306). Queues a WRITE management command to a receiver register. -/
  | tileWrite
  /-- TILE_READ (R307). Queues a READ management command to a receiver register. -/
  | tileRead
  /-- EYE_SCAN (R281). Starts an eye scan of a lane's monitor sampler. -/
  | eyeScan
  /-- EYE_SCAN_DONE (R281). An eye scan ends and writes its counts, width and height. -/
  | eyeScanDone (lane : Fin 52) (counts : List (BitVec 32))
  /-- MANAGEMENT_GROUP_SEND (R286). A free blanking line comes and queued management commands leave in a control group. -/
  | managementGroupSend (lane : Fin 24)
  /-- TILE_STATUS_REPORT (R304). A STATUS report arrives on the return channel and updates the receiver's status entry. -/
  | tileStatusReport (lane : Fin 24) (f : BitVec 56) (full : Bool)
  /-- TILE_DAYMARK_REPORT (R267). A receiver's DAYMARK arrives and is compared with the generator's own. -/
  | tileDaymarkReport (lane : Fin 24) (f : BitVec 56) (full : Bool)
  /-- TILE_HELD_REPORT (R264). A receiver's HELD report arrives and is counted toward Hold entry. -/
  | tileHeldReport (lane : Fin 24) (f : BitVec 56) (full : Bool)
  /-- TILE_ENUM_REPLY (R295). An ENUM_REPLY arrives and is written to the ENUMERATE destination. -/
  | tileEnumReply (lane : Fin 24) (f : BitVec 56) (full : Bool)
  /-- TILE_READ_REPLY (R307). A READ_REPLY arrives and completes its TILE_READ. -/
  | tileReadReply (lane : Fin 24) (f : BitVec 56) (full : Bool)
  /-- TILE_READ_TIMEOUT (R307). No READ_REPLY arrives within timeout and TILE_READ completes with NO_REPLY. -/
  | tileReadTimeout (lane : Fin 24) (position : BitVec 8)
  /-- ENUMERATE_TIMEOUT (R306). The ENUMERATE timeout passes and it completes with the replies gathered. -/
  | enumerateTimeout (lane : Fin 24)
  /-- RX_LOCK_GAINED (R283). A receiver sees 64 consecutive valid headers at one offset and locks. -/
  | rxLockGained (rx : LaneBits)
  /-- RX_LOCK_LOST (R283). Sixteen invalid headers fall within 512 blocks and the receiver hunts again. -/
  | rxLockLost (rx : LaneBits)
  /-- CTLE_ADAPTED (R280). A lane's CTLE code finishes adapting and is held. -/
  | ctleAdapted (lane : Fin 52) (code : BitVec 4)
  /-- QUAD_PLL_UNLOCK (R278). A quad PLL loses lock and its lanes stop. -/
  | quadPllUnlock (q : Fin 13)
  /-- QUAD_PLL_RELOCK (R278). A quad PLL relocks and the quad restarts. -/
  | quadPllRelock (q : Fin 13)
  /-- LEGACY_RETRAIN (R284). A legacy lane's return channel has been out of lock for 1 ms and TRAIN blocks are sent. -/
  | legacyRetrain (lane : Fin 24)
  /-- CTX_SETUP (R316). Sets up an encode or decode context from its parameter block. -/
  | ctxSetup (x : Fin 4)
  /-- ENC_FRAME (R323). Starts encoding one picture of an encode context. -/
  | encFrame (x : Fin 4)
  /-- ENC_SOURCE_FRAME_OPEN (R324). A newer frame opens in the source ring and the waiting encoder takes it. -/
  | encSourceFrameOpen (x : Fin 4)
  /-- ENC_ROW (R331). A CTU row's source lines become visible and the row is coded normally or in floor mode. -/
  | encRow (x : Fin 4) (row : EncRow)
  /-- NAL_RING_ROOM (R328). The NAL ring gains room and the waiting slice is written with its report. -/
  | nalRingRoom (x : Fin 4)
  /-- VCX_WAIT_THRESHOLD (R328). A ring or DPB wait exceeds VCX_x_WAIT_THRESH and VCX_RING_WAIT or VCX_DPB_WAIT fires. -/
  | vcxWaitThreshold (x : Fin 4)
  /-- DEC_AU (R340). Hands a byte range to the decoder, which decodes its pictures and writes a report. -/
  | decAu (x : CoreRun)
  /-- DEC_RELEASE (R341). Ends the application's hold on a decoded buffer. -/
  | decRelease (x : Fin 4)
  /-- DECODE_BUFFER_FREE (R342). A buffer becomes free and the decoder waiting for one resumes. -/
  | decodeBufferFree (x : CoreRun)
  /-- CTX_CLEAR (R350). Clears a context after its earlier descriptors, releasing its buffers. -/
  | ctxClear (x : Fin 4)
  /-- MIRROR_SLICE (R337). A slice report becomes visible and the mirror decodes it and checks the picture hash. -/
  | mirrorSlice (x : CoreRun)
  /-- LPK_PACK (R367). Packs a raw frame into a chain of buffers. -/
  | lpkPack (n : Fin 2)
  /-- LPK_UNPACK (R368). Unpacks a packed stream into raw rows. -/
  | lpkUnpack (n : Fin 2)
  /-- LPK_BLOCK_CODED (R367). A sub-engine finishes coding a block, checks it and writes it in block order. -/
  | lpkBlockCoded (n : Fin 2) (mismatch : Bool)
  /-- STORE_SETUP (R394). Sets up the clip store and brings up the SSDs of its mask. -/
  | storeSetup (src : ClsSrc)
  /-- SSD_BRINGUP_STEP_DONE (R394). A step of SSD bring-up completes or fails. -/
  | ssdBringupStepDone (r : Fin 2) (result : BringUp)
  /-- CLIP_OPEN (R377). Opens a clip with data and index extents. -/
  | clipOpen (src : ClsSrc)
  /-- CLIP_WRITE (R378). Appends bytes to a clip with an optional index entry, or waits for write-buffer room. -/
  | clipWrite (src : ClsSrc)
  /-- WRITE_BUFFER_ROOM (R382). Dirty pages fall below dirty_mib and a waiting CLIP_WRITE copies its bytes. -/
  | writeBufferRoom
  /-- CLIP_READ (R380). Copies an acknowledged byte range of a clip, or waits. -/
  | clipRead (src : ClsSrc)
  /-- INDEX_READ (R381). Copies index entries of a clip, or waits. -/
  | indexRead (src : ClsSrc)
  /-- FLUSH (R385). Completes once every earlier CLIP_WRITE is on the medium. -/
  | flush (src : ClsSrc)
  /-- CLIP_CLOSE (R399). Writes a clip's dirty pages and closes it. -/
  | clipClose (src : ClsSrc)
  /-- CLIP_DROP (R399). Discards a clip's pages and frees its number. -/
  | clipDrop (src : ClsSrc)
  /-- CLIP_QUERY (R399). Writes a clip's acknowledged, durable and index counts. -/
  | clipQuery (src : ClsSrc)
  /-- AGE (R388). Returns how long a command has been outstanding. -/
  | age (src : ClsSrc)
  /-- SQ_TAIL_DOORBELL (R386). The host writes a submission tail doorbell and the store fetches entries. -/
  | sqTailDoorbell (m : Master) (n : Fin 4) (value : BitVec 32)
  /-- CQ_HEAD_DOORBELL (R386). The host writes a completion head doorbell, ending tags and freeing ring room. -/
  | cqHeadDoorbell (m : Master) (n : Fin 4) (value : BitVec 32)
  /-- HQ_ENABLE (R401). A write of CLS_HQ_n_CTRL enables or disables a host queue pair. -/
  | hqEnable (m : Master) (n : Fin 4) (value : BitVec 32)
  /-- CLS_RESET (R390). The host writes reset in CLS_CTRL and the clip-store reset begins. -/
  | clsReset (m : Master) (value : BitVec 32)
  /-- CLS_RESET_FLUSH_DONE (R390). Every dirty page of the reset is written, or ssd_timeout passes; pending commands complete and the store restarts. -/
  | clsResetFlushDone
  /-- CLS_ACTIVATE (R391). Activation starts; the store stops fetching and lets running commands complete. -/
  | clsActivate (m : Master) (value : BitVec 32)
  /-- ACTIVATION_READY (R391). The last running command completes and the store becomes activation-ready. -/
  | activationReady
  /-- CLS_RESUME (R391). Resume in CLS_CTRL restarts fetching after activation. -/
  | clsResume (m : Master) (value : BitVec 32)
  /-- PAGE_FLUSH_DUE (R382). flush_delay passes after a dirty page's last change and it is written to the medium. -/
  | pageFlushDue (clip page : Nat)
  /-- NVME_COMPLETION (R383). An NVMe command completes or fails on an SSD and its pages or reads move on. -/
  | nvmeCompletion (r : Fin 2) (cid : Nat) (ok : Bool) (data : List Byte)
  /-- SSD_TIMEOUT (R395). An NVMe command has been outstanding for ssd_timeout and the SSD is marked stalled. -/
  | ssdTimeout (r : Fin 2) (cid : Nat)
  /-- SSD_FAILURE (R395). A link down or controller fatal status marks an SSD failed. -/
  | ssdFailure (r : Fin 2)
  /-- HEALTH_LOG_POLL (R393). Every 10 s the store reads each SSD's health log. -/
  | healthLogPoll (r : Fin 2) (temperature : BitVec 16) (warning : Byte)
  /-- CLS_AGE_THRESHOLD (R388). A command's age passes CLS_AGE_THRESH and CLS_AGE fires once. -/
  | clsAgeThreshold (src : ClsSrc) (tag : BitVec 16)
  /-- MEM_FILL (R424). Writes a pattern to every word of a range. -/
  | memFill
  /-- MEM_SCRUB (R424). Scrubs a range at once. -/
  | memScrub (errs : List (Nat × BurstErr × BurstErr))
  /-- MEM_RETRAIN (R424). Retrains pseudo-channels in a mask one at a time. -/
  | memRetrain (passed repaired : BitVec 32)
  /-- MEM_TRAINING_DONE (R413). Boot training of the stacks completes, DRAM is zeroed, grain locks and MEM_READY fires. -/
  | memTrainingDone (failed0 failed1 repaired0 repaired1 : BitVec 32)
  /-- MEM_REQUEST (R408). A request reaches a pseudo-channel controller and is scheduled and carried out. -/
  | memRequest (req : MemReq)
  /-- AGE_CAP_EXPIRY (R408). A request waits longer than age_cap and is served first. -/
  | ageCapExpiry (stack : Fin 2) (pc : Fin 32)
  /-- REFRESH_DUE (R412). A bank's tREFI passes and its refresh is issued or postponed. -/
  | refreshDue (stack : Fin 2) (pc : Fin 32) (slot : RefreshSlot)
  /-- STACK_TEMPERATURE_READ (R411). The stack temperature is read and the refresh rate may change. -/
  | stackTemperatureRead (stack : Fin 2) (t : BitVec 8)
  /-- PARITY_ALERT (R417). A stack signals a parity alert and the controller replays its retry buffer. -/
  | parityAlert (stack : Fin 2) (pc : Fin 32) (replay : ReplayEnd)
  /-- PERIODIC_RETRAIN (R415). retrain_ms or a temperature drift passes and one pseudo-channel is re-centred. -/
  | periodicRetrain (stack : Fin 2) (pc : Fin 32) (ok retrained repaired : Bool)
  /-- PATROL_SCRUB (R420). The patrol reaches its next DRAM burst and scrubs it. -/
  | patrolScrub (stack : Fin 2) (err retryErr : BurstErr)
  /-- COMB_SCRUB (R423). The Comb patrol reaches its next word and scrubs it. -/
  | combScrub (err : WordErr)
  /-- SELF_REFRESH_EXIT_DONE (R414). A stack completes self-refresh exit and MEM_READY fires. -/
  | selfRefreshExitDone (exit : StackExit)
  /-- COMB_INIT_DONE (R423). Comb's zero initialisation after power-up ends and accesses proceed. -/
  | combInitDone
  /-- MEM_MAP_WRITE (R405). A write to MEM_MAP sets grain before boot training, or is ignored and reported when locked. -/
  | memMapWrite (m : Master) (value : BitVec 32)
  /-- BEACON_WRAP (R429). A carry out of ns increments wrap and BCN_WRAP fires. -/
  | beaconWrap
  /-- BCN_NOW_NS_READ (R429). A read of BCN_NOW_NS latches frac and wrap of the same tick. -/
  | bcnNowNsRead (m : Master)
  /-- BCN_INC_WRITE (R430). A write of BCN_INC sets the increment or sets inc_error. -/
  | bcnIncWrite (m : Master) (value : BitVec 32)
  /-- BCN_STEP (R431). A write of BCN_STEP_HI steps Beacon time and passed triggers act late. -/
  | bcnStep (m : Master) (value : BitVec 32)
  /-- PTP_BASE_WRITE (R432). A write of BCN_PTP_BASE_HI applies the staged low half and the high half together. -/
  | ptpBaseWrite (m : Master) (value : BitVec 32)
  /-- HOST_TRIGGER_ARM (R434). The host arms an unclaimed Beacon trigger. -/
  | hostTriggerArm (m : Master) (n : Fin 16) (value : BitVec 32)
  /-- HOST_TRIGGER_DISARM (R434). The host disarms an unclaimed Beacon trigger. -/
  | hostTriggerDisarm (m : Master) (n : Fin 16) (value : BitVec 32)
  /-- TRIGGER_PULSE_END (R484). A trigger's GPIO pulse ends and the pin returns to the next pulse or HCI_GPIO_OUT. -/
  | triggerPulseEnd (n : Fin 16)
  /-- ETH_SETUP (R435). Sets up an Ethernet port. -/
  | ethSetup
  /-- RX_FILTER (R439). Sets a receive filter. -/
  | rxFilter
  /-- RX_RING (R439). Sets the receive ring. -/
  | rxRing
  /-- PKT_SEND (R440). Copies and sends a frame, with optional one-step PTP insertion. -/
  | pktSend
  /-- PKT_DEPARTURE (R440). A frame leaves and PKT_SEND completes with its departure stamp. -/
  | pktDeparture (p : Fin 4)
  /-- RTP_SETUP (R441). Sets up an RTP stream. -/
  | rtpSetup
  /-- RTP_SEND (R442). Sends a NAL-unit range as RTP packets. -/
  | rtpSend
  /-- ETH_FRAME_RECEIVED (R439). A frame arrives and enters the receive ring, or is dropped and counted. -/
  | ethFrameReceived (p : Fin 4) (bytes : List Byte) (fcsOk : Bool) (stamp : Nat)
  /-- ETH_LINK_CHANGE (R435). An Ethernet port's link state changes and BCN_LINK fires. -/
  | ethLinkChange (p : Fin 4) (up : Bool)
  /-- CAS_SETUP (R448). Sets up the cascade, optionally enumerating the ring. -/
  | casSetup
  /-- CAS_EXPORT (R452). Makes the device export a local line ring to the ring. -/
  | casExport
  /-- CAS_IMPORT (R452). Makes the device import a stream into a local ring. -/
  | casImport
  /-- CAS_STOP (R459). Stops an export or import. -/
  | casStop
  /-- CAS_MSG (R459). Sends a 48-byte message to a ring position. -/
  | casMsg
  /-- CAS_EXPORT_LINE (R452). A ring line becomes visible and the exporter sends it as LINE packets. -/
  | casExportLine (stream : Fin 64)
  /-- WAGGLE_RECEIVED (R449). A Waggle arrives and the grid and offset are recorded. -/
  | waggleReceived (link : Fin 2) (pkt : AdeoftPkt)
  /-- WAGGLE_SEND (R449). waggle_period passes and the role holder sends a Waggle. -/
  | waggleSend
  /-- WAGGLE_MISS (R449). A waggle_period passes without a Waggle and a miss is counted. -/
  | waggleMiss
  /-- COMMIT_REQ_RECEIVED (R456). The role holder takes a swarm commit request and sends PREPARE. -/
  | commitReqReceived (link : Fin 2) (pkt : AdeoftPkt)
  /-- PREPARE_RECEIVED (R456). A PREPARE arrives; devices copy staged values and vote, or the role holder decides. -/
  | prepareReceived (link : Fin 2) (pkt : AdeoftPkt)
  /-- PREPARE_TIMEOUT (R456). PREPARE is not back by t_p + T_lead/2 and the role holder sends DECIDE refuse. -/
  | prepareTimeout
  /-- DECIDE_RECEIVED (R456). A DECIDE arrives and the prepared set becomes pending or is discarded. -/
  | decideReceived (link : Fin 2) (pkt : AdeoftPkt)
  /-- SNAP_PACKET_RECEIVED (R458). A swarm SNAP packet arrives and schedules the latch. -/
  | snapPacketReceived (link : Fin 2) (pkt : AdeoftPkt)
  /-- SWARM_SNAPSHOT_LATCH (R458). The swarm snapshot latch time is reached and the snapshot registers latch. -/
  | swarmSnapshotLatch
  /-- ADEOFT_MSG_RECEIVED (R459). A MSG arrives and enters the message ring. -/
  | adeoftMsgReceived (link : Fin 2) (pkt : AdeoftPkt)
  /-- DELAY_REQ_RECEIVED (R450). A DELAY_REQ arrives and is answered with DELAY_RESP. -/
  | delayReqReceived (link : Fin 2) (pkt : AdeoftPkt)
  /-- DELAY_RESP_RECEIVED (R450). A DELAY_RESP arrives and the link delay is computed. -/
  | delayRespReceived (link : Fin 2) (pkt : AdeoftPkt)
  /-- LINK_DELAY_MEASURE (R450). Every 10 ms a device sends DELAY_REQ on each receive link. -/
  | linkDelayMeasure
  /-- ADEOFT_ENUM_RECEIVED (R448). An ENUM arrives; the device takes its position and forwards next + 1. -/
  | adeoftEnumReceived (link : Fin 2) (pkt : AdeoftPkt)
  /-- FRAME_OPEN_RECEIVED (R452). FRAME_OPEN arrives and the importer starts a frame. -/
  | frameOpenReceived (link : Fin 2) (pkt : AdeoftPkt)
  /-- LINE_PACKET_RECEIVED (R452). A LINE packet arrives and is written into the importer's ring. -/
  | linePacketReceived (link : Fin 2) (pkt : AdeoftPkt)
  /-- FRAME_CLOSE_RECEIVED (R452). FRAME_CLOSE arrives and the importer closes the frame. -/
  | frameCloseReceived (link : Fin 2) (pkt : AdeoftPkt)
  /-- ADEOFT_LINK_DOWN (R447). An Adeoft link goes down and the device reverses traffic and resends recent control packets. -/
  | adeoftLinkDown (link : Fin 2)
  /-- ADEOFT_LINK_UP (R443). All lanes of a link stay locked and aligned for 1 ms and the link is up. -/
  | adeoftLinkUp (link : Fin 2)
  /-- ADEOFT_TX_RESTART (R443). 1 ms after stopping, a device restarts transmitting on a link. -/
  | adeoftTxRestart (link : Fin 2)
  /-- ADEOFT_LINK_REUSE (R447). 10 ms after a link comes up it is used again. -/
  | adeoftLinkReuse (link : Fin 2)
  /-- TW_XFER (R485). Starts a two-wire transfer on a controller port. -/
  | twXfer
  /-- TW_XFER_COMPLETE (R486). A two-wire transfer ends and its completion is posted. -/
  | twXferComplete (port : Fin 6) (res : TwResult)
  /-- TW_ARBITRATION_LOST (R475). The controller drives 1 and sees 0, releases the bus and retries or fails with ARB_LOST. -/
  | twArbitrationLost (port : Fin 6) (byteIx : BitVec 8) (bitIx : BitVec 4)
  /-- TW_SR_ERROR (R476). A STOP or repeated START cannot complete and the transfer ends with ARB_SR_ERR. -/
  | twSrError (port : Fin 6)
  /-- TW_CLOCK_LOW_TIMEOUT (R474). SCL is held low for clk_low µs and the transfer ends with CLOCK_LOW_TIMEOUT. -/
  | twClockLowTimeout (port : Fin 6)
  /-- TW_DATA_LOW_TIMEOUT (R474). SDA is held low for data_low µs and the transfer ends with DATA_LOW_TIMEOUT. -/
  | twDataLowTimeout (port : Fin 6)
  /-- TW_BUS_CLEAR (R477). Pulses SCL up to nine times to free SDA and sends STOP. -/
  | twBusClear (sclStuck : Bool) (freedAt : Option (Fin 9))
  /-- TW_CONTROLLER_RESET (R477). A controller reset releases both lines and abandons the transfer. -/
  | twControllerReset (m : Master) (port : Fin 6) (value : BitVec 32)
  /-- TW_MODE_WRITE (R472). Writing mode loads that mode's reset timing. -/
  | twModeWrite (m : Master) (port : Fin 6) (value : BitVec 32)
  /-- TW4_WRITE (R479). A board controller writes TW_4 target registers. -/
  | tw4Write (bytes : List Byte)
  /-- TW4_READ (R479). A board controller reads TW_4 target registers, latching and clearing OUT. -/
  | tw4Read (count : Nat)
  /-- TW4_OUT_VALID_WRITE (R479). A cell writes 1 to out_valid to offer a message. -/
  | tw4OutValidWrite (m : Master) (value : BitVec 32)
  /-- TW4_WAKE_MATCH (R480). The TW_4 address matches in Doze and the device wakes. -/
  | tw4WakeMatch
  /-- TW4_STRETCH_TIMEOUT (R480). stretch_max passes during wake, SCL is released and wake_timeout sets. -/
  | tw4StretchTimeout
  /-- FLASH_READ (R485). Reads boot flash into memory. -/
  | flashRead
  /-- FLASH_PROGRAM (R470). Programs boot flash pages. -/
  | flashProgram
  /-- FLASH_ERASE (R471). Erases boot flash sectors and blocks. -/
  | flashErase
  /-- FLASH_PAGE_DONE (R470). Read Status shows a page program or erase finished. -/
  | flashPageDone
  /-- FLASH_POLL_TIMEOUT (R470). A page or block takes too long and the descriptor completes with FLASH_ERROR. -/
  | flashPollTimeout
  /-- GPIO_EDGE (R484). An enabled GPIO edge sets its flag and may wake the device. -/
  | gpioEdge (pin : Fin 16) (level : Bool)
  /-- PCIE_LINK_CHANGE (R463). The PCIe link goes up or down. -/
  | pcieLinkChange (up : Bool) (width : BitVec 4) (speed : BitVec 3)
  /-- HOT_RESET (R510). A PCIe hot reset arrives and the device-wide reset sequence runs. -/
  | hotReset
  /-- FLR (R467). A Function Level Reset arrives and the reset sequence runs. -/
  | flr
  /-- MSIX_UNMASK (R467). The host unmasks a vector and its pending message is sent. -/
  | msixUnmask (v : Fin 256)
  /-- BAR4_BASE_WRITE (R466). A write of HCI_BAR4_BASE moves the DRAM aperture. -/
  | bar4BaseWrite (m : Master) (value : BitVec 32)
  /-- BOOT_DIRECTORY_READ_DONE (R469). The boot directory is read and checked. -/
  | bootDirectoryReadDone (primaryPoisoned backupPoisoned : Bool)
  /-- KEEPER_FIRMWARE_VERIFIED (R528). The boot ROM finishes checking Keeper firmware. -/
  | keeperFirmwareVerified (selfTestsPass : Bool)
  /-- BOOT_ENTRY_COPY_DONE (R469). A boot entry is copied and any hive image is loaded. -/
  | bootEntryCopyDone (poisoned : Bool)
  /-- PD_SET (R503). Powers domains on, off or restarts them. -/
  | pdSet
  /-- DOMAIN_POWER_UP_DONE (R503). A domain powers up fenced with its epoch incremented. -/
  | domainPowerUpDone (d : Fin 30)
  /-- STATE (R505). Enters Hold or returns to Run. -/
  | state
  /-- STATE_HOLD_REACHED (R505). Every generator is held, domains power down and the state becomes Hold. -/
  | stateHoldReached
  /-- REC_READ (R520). Copies records or pinned slots to memory. -/
  | recRead
  /-- SNAP_COPY (R502). Copies the snapshot bank to memory. -/
  | snapCopy (torn : Bool)
  /-- REPORT (R520). Enters a SOFTWARE report from a cell. -/
  | report
  /-- INTAKE_WINDOW_CLOSE (R496). An intake entry's 10 ms merge window closes and it becomes ready. -/
  | intakeWindowClose (idx : Nat)
  /-- RECORD_WRITE (R498). A ready entry is written to MRAM, at most one per 50 µs. -/
  | recordWrite
  /-- SELF_TEST_CYCLE (R492). A 64 ms cycle exercises every checker. -/
  | selfTestCycle (failures : List (Fin 256 × BitVec 8))
  /-- CLOCK_MONITOR_MEASURE (R494). Every 100 µs clocks are measured against the housekeeping oscillator. -/
  | clockMonitorMeasure (domain : Fin 60) (outside : Bool)
  /-- FOGHORN_MISMATCH (R493). The halves of Foghorn disagree and FAULT_N asserts. -/
  | foghornMismatch
  /-- CLEAR_FAULT (R493). Software writes clear_fault and FAULT_N is released. -/
  | clearFault (m : Master) (value : BitVec 32)
  /-- PIN_CLEAR (R499). A write of FGH_PIN_CLEAR frees pinned slots. -/
  | pinClear (m : Master) (value : BitVec 32)
  /-- HOST_SNAP_TRIGGER (R501). A write of FGH_SNAP_TRIG latches a local snapshot. -/
  | hostSnapTrigger (m : Master) (value : BitVec 32)
  /-- SOFT_RESET (R509). 0x5EED_0001 is written to FGH_RESET and the reset sequence runs. -/
  | softReset (m : Master) (value : BitVec 32)
  /-- WDOG_WRITE (R509). A write of FGH_WDOG with a non-zero timeout starts the count. -/
  | wdogWrite (m : Master) (value : BitVec 32)
  /-- WDOG_KICK (R509). A write of FGH_KICK restarts the watchdog count. -/
  | wdogKick (m : Master) (value : BitVec 32)
  /-- WDOG_EXPIRY (R509). The device watchdog expires and resets or reports. -/
  | wdogExpiry
  /-- RESET_HOLD_WINDOW_END (R510). The reset's Hold completes or 50 ms pass, and the reset continues. -/
  | resetHoldWindowEnd
  /-- DOZE_ENTRY (R507). The host writes doze and Doze entry begins. -/
  | dozeEntry (m : Master) (value : BitVec 32)
  /-- DOZE_STEP_DONE (R507). A step of Doze entry completes and the next begins. -/
  | dozeStepDone
  /-- DOZE_WAKE (R508). An enabled wake source starts Doze exit. -/
  | dozeWake (src : WakeSrc)
  /-- DOZE_EXIT_STEP_DONE (R508). A step of Doze exit completes. -/
  | dozeExitStepDone
  /-- POWER_ON_RESET (R509). Supplies rise or a rail falls below its reset level. -/
  | powerOnReset
  /-- RESET_N_ASSERT (R509). RESET_N is held low for at least 1 µs. -/
  | resetNAssert
  /-- RESET_RELEASE (R557). The last reset is released, straps are sampled and boot starts. -/
  | resetRelease (straps : Straps)
  /-- SUPPLY_WARNING (R512). VCORE falls below W and a warning begins. -/
  | supplyWarning (mv : BitVec 16)
  /-- SUPPLY_RECOVERY (R512). VCORE holds above W + 10 mV for 10 µs and the warning ends. -/
  | supplyRecovery (minMv : BitVec 16) (duration : BitVec 32)
  /-- SUPPLY_DWELL_EXPIRY (R513). A warning lasts longer than dwell_ms and protective Hold is taken. -/
  | supplyDwellExpiry
  /-- OTHER_RAIL_WARNING (R514). Another rail falls below its warning level. -/
  | otherRailWarning (rail : Fin 11) (mv : BitVec 16)
  /-- OTHER_RAIL_RECOVERY (R514). Another rail recovers and its warning ends. -/
  | otherRailRecovery (rail : Fin 11) (minMv : BitVec 16) (duration : BitVec 32)
  /-- SENSOR_READ (R515). Thermal sensors are read and thresholds checked. -/
  | sensorRead (readings : List (BitVec 16))
  /-- OSCILLATOR_TRIM (R519). The AON oscillator and monitor reference are trimmed. -/
  | oscillatorTrim
  /-- KPR_CMD (R546). A cell posts a Keeper request. -/
  | kprCmd
  /-- KPR_MB_GO (R546). The host sets go for a mailbox request. -/
  | kprMbGo (m : Master) (value : BitVec 32)
  /-- GET_INFO (R547). Returns Keeper information. -/
  | getInfo
  /-- GET_IDENTITY (R547). Returns UID and device key. -/
  | getIdentity
  /-- GET_RANDOM (R542). Returns random bytes. -/
  | getRandom
  /-- SESSION_OPEN (R530). Opens a session. -/
  | sessionOpen
  /-- SESSION_PROVE (R530). Proves a session and derives its key. -/
  | sessionProve
  /-- SESSION_CLOSE (R532). Closes a session. -/
  | sessionClose
  /-- SESSION_VERIFY (R533). Verifies a command's tag. -/
  | sessionVerify
  /-- KEY_INSTALL (R536). Installs WK or SK. -/
  | keyInstall
  /-- LANE_KEY (R537). Draws a lane key and queues KEYX. -/
  | laneKey
  /-- KEYX_SENT (R537). The KEYX group leaves and LANE_KEY completes. -/
  | keyxSent (lane : Fin 24)
  /-- CAS_GUARD (R540). Turns cascade guard on or off. -/
  | casGuard
  /-- KEY_PROGRAM (R526). Programs a key slot. -/
  | keyProgram
  /-- REVOKE (R527). Revokes a key slot. -/
  | revoke
  /-- ROLLBACK_ADVANCE (R529). Raises a rollback floor. -/
  | rollbackAdvance
  /-- LIFECYCLE (R525). Moves the lifecycle state forward. -/
  | lifecycle
  /-- FUSE_BURN_DONE (R525). An OTP fuse burn completes and verifies. -/
  | fuseBurnDone (verified : Bool)
  /-- PROTECT (R535). Sets content lock, ranges and flash boundary. -/
  | protect
  /-- TAMPER_CONFIG (R544). Sets the tamper action. -/
  | tamperConfig
  /-- TAMPER_CLEAR (R544). Clears tampered. -/
  | tamperClear
  /-- ZEROISE (R544). Zeroises keys on demand. -/
  | zeroise
  /-- DEBUG_CHALLENGE (R543). Returns a debug nonce. -/
  | debugChallenge
  /-- DEBUG_UNLOCK (R543). Unlocks debug at a level. -/
  | debugUnlock
  /-- DEBUG_NONCE_EXPIRY (R543). A debug nonce expires after 60 s. -/
  | debugNonceExpiry
  /-- SELF_TEST (R545). Runs Keeper's known-answer tests. -/
  | selfTest (passed : Bool)
  /-- NV_READ (R547). Reads the general MRAM partition. -/
  | nvRead
  /-- NV_WRITE (R547). Writes the general MRAM partition. -/
  | nvWrite
  /-- FW_LOAD (R528). Loads Keeper firmware from Comb in the ROM. -/
  | fwLoad
  /-- SESSION_PROVE_TIMEOUT (R530). A session is not proved within 10 s and is dropped. -/
  | sessionProveTimeout (id : Fin 4)
  /-- SESSION_IDLE_TIMEOUT (R532). idle_s pass without a request and the session closes. -/
  | sessionIdleTimeout (id : Fin 4)
  /-- SESSION_LIFETIME_EXPIRY (R532). 24 h after opening, a session closes. -/
  | sessionLifetimeExpiry (id : Fin 4)
  /-- TAMPER (R544). TAMPER_N low for 10 µs sets tampered and acts. -/
  | tamper
  /-- TRNG_HEALTH_FAIL (R542). An entropy health test fails and trng_ok clears. -/
  | trngHealthFail
  /-- DFE_TAP_AT_RAIL (R280). A continuously adapting DFE tap reaches either end of its range, at_rail sets and the first such entry raises LNX_ADAPT_LIMIT. -/
  | dfeTapAtRail (lane : Fin 52) (tap : Fin 8) (value : BitVec 8)
  /-- TILE_UNKNOWN_REPORT (R304). A return-channel block of an unknown type arrives on a wall lane and is dropped and counted in unknown_reports. -/
  | tileUnknownReport (lane : Fin 24) (block : BitVec 64)
  /-- ADEOFT_BAD_PACKET (R445). An Adeoft packet with a wrong crc, block count or length, a packet of kind 12 to 15, an unknown control block, or a guard failure arrives and is dropped and counted. -/
  | adeoftBadPacket (link : Fin 2) (reason : BadPacket)
  /-- CAS_WAGGLE_STAMP_READ (R461). A read of CAS_WAGGLE_ORIGIN_LO holds all six Waggle stamp registers until CAS_WAGGLE_ARRIVAL_HI is read, which releases them. -/
  | casWaggleStampRead (m : Master) (k : Fin 6)
  /-- KEEPER_LOCKSTEP_MISMATCH (R491). The two processors of Keeper's lockstep pair disagree and a LOCKSTEP report is entered within 10 µs. -/
  | keeperLockstepMismatch
  deriving DecidableEq, Repr

end Sys2Proof
end

