-- ==== Sys2Proof/WellFormed.lean ====
section
/-!
DEFINITION. Which commands are well formed: the operands that the type of a command admits but the wire, the lane, the packet
or the instruction word that the spec gives it cannot carry.
-/
namespace Sys2Proof

/-- Does the field of WDEP and WEXT lie inside a wide register (R63)? -/
def fieldFits (pos : BitVec 7) (lenM1 : BitVec 5) : Bool := decide (pos.toNat + lenM1.toNat + 1 ≤ 128)

/-- A lane's words are at most 16 bits wide (R101, R104). -/
def LaneLine.wf (l : LaneLine) : Bool :=
  (l.pre ++ l.words ++ l.endPre ++ [l.code, l.endCode, l.crc]).all (fun x => decide (x < 65536))

/-- The fields of PKT_START (R444, R445). -/
def AdeoftPkt.wf (p : AdeoftPkt) : Bool :=
  decide (p.kind < 16 ∧ p.origin < 16 ∧ p.dest < 16 ∧ p.wraps < 4 ∧ p.hops < 128 ∧ p.seq < 65536 ∧ p.payload.length ≤ 8192)

/-- Is the command well formed? -/
def Instr.wf : Instr → Bool
  | .absentAccess _ addr _ => decide (0x20_0000_0000 ≤ addr ∧ addr < 0x20_0100_0000)
  | .registerWrite _ _ size _ => size == 1 || size == 2 || size == 4 || size == 8
  | .hostMemoryWrite _ _ bytes => !bytes.isEmpty
  | .hostMemoryRead _ _ len => decide (0 < len)
  | .paceWindowEnd _ _ items busy => decide (items < 2 ^ 32 ∧ busy < 2 ^ 32)
  | .wdep _ _ _ pos lenM1 => fieldFits pos lenM1
  | .wext _ _ _ pos lenM1 => fieldFits pos lenM1
  | .bar c _ _ _ mask => mask.getLsbD c.val
  | .slvsLine _ line => decide (line.lanes.length ≤ 32) && line.lanes.all LaneLine.wf
  | .csi2ShortPacket _ pkt => decide (pkt.vc < 16 ∧ pkt.dt < 64 ∧ pkt.num < 65536)
  | .csi2LongPacket _ pkt => decide (pkt.vc < 16 ∧ pkt.dt < 64 ∧ pkt.payload.length < 65536 ∧ pkt.crc < 65536)
  | .eyeScanDone _ counts => counts.length == 8128
  | .encRow _ row => decide (-12 ≤ row.qp ∧ row.qp ≤ 51)
  | .nvmeCompletion _ cid _ _ => decide (cid < 65536)
  | .ssdTimeout _ cid => decide (cid < 65536)
  | .memRequest req => decide (0 < req.bytes.length ∧ req.bytes.length ≤ 32 ∧ req.addr % 32 + req.bytes.length ≤ 32)
  | .ethFrameReceived _ bytes _ _ => decide (14 ≤ bytes.length)
  | .waggleReceived _ pkt => pkt.wf
  | .commitReqReceived _ pkt => pkt.wf
  | .prepareReceived _ pkt => pkt.wf
  | .decideReceived _ pkt => pkt.wf
  | .snapPacketReceived _ pkt => pkt.wf
  | .adeoftMsgReceived _ pkt => pkt.wf
  | .delayReqReceived _ pkt => pkt.wf
  | .delayRespReceived _ pkt => pkt.wf
  | .adeoftEnumReceived _ pkt => pkt.wf
  | .frameOpenReceived _ pkt => pkt.wf
  | .linePacketReceived _ pkt => pkt.wf
  | .frameCloseReceived _ pkt => pkt.wf
  | .tw4Write bytes => !bytes.isEmpty
  | .sensorRead readings => readings.length == 16
  | .resume .. | .abort .. | .nop .. | .nopRelease .. | .completionQueueRoom .. | .invalidCode ..
  | .stallWatchdogExpiry .. | .paceClearMin .. | .governorEvaluation | .governorSettleEnd
  | .voutCommandTransferDone .. | .voutModeReadDone .. | .pmbusErrorClear .. | .govLimitsWrite ..
  | .eccThreshWrite .. | .eccCountClear .. | .lockstepMismatch .. | .illegalInstruction ..
  | .instructionFetchUncorrectable .. | .add .. | .sub .. | .and .. | .or .. | .xor .. | .nor .. | .sll .. | .srl ..
  | .sra .. | .slt .. | .sltu .. | .mul .. | .mulhu .. | .divu .. | .remu .. | .addi .. | .andi .. | .ori ..
  | .xori .. | .slti .. | .sltiu .. | .shi .. | .lui .. | .lw .. | .sw .. | .lq .. | .sq .. | .wmov .. | .beq ..
  | .bne .. | .blt .. | .bge .. | .bltu .. | .bgeu .. | .j .. | .jal .. | .jalr .. | .post .. | .postm ..
  | .postQueueRoom .. | .take .. | .wait .. | .waitEvent .. | .waitTimeout .. | .arm .. | .disarm .. | .time ..
  | .commit .. | .swarmCommit .. | .snap .. | .swarmSnap .. | .fence .. | .fenceRelease .. | .barTimeout ..
  | .mboxSend .. | .mboxReceive .. | .csrr .. | .csrwWrite .. | .csrwSet .. | .csrwClear .. | .stop ..
  | .cellAlarmFire .. | .cellWatchdogExpiry .. | .cellStopRequest .. | .cellStart .. | .cellUnload .. | .h2cSend ..
  | .c2hPop .. | .imageLoadStart .. | .imageLoadDrained | .imageLoadBusyTags | .imageLoadCopyDone
  | .imageLoadVerified | .portSetup .. | .gangMap .. | .frame .. | .xtrigSetup .. | .mclkSetup .. | .portStop ..
  | .laneLockTimeout .. | .sofTimeout .. | .lineTimeout .. | .beaconTriggerAct .. | .xtrigPulseEnd .. | .rfeFrame ..
  | .rfeTableLoad .. | .rfeLineSet .. | .rfeMemoryLineFetch .. | .rfeFrameStartMark .. | .rfeFrameEndMark ..
  | .rfeTblData3Write .. | .clrFrame .. | .clrTableLoad .. | .clrLine .. | .clrFrameStartMark ..
  | .clrFrameEndMark .. | .clrRingRoom .. | .clrRingWaitThreshold .. | .clrTblData3Write .. | .cmpWriteback
  | .cmpCompose | .cmpReport | .cmpTableLoad | .cmpTblData3Write .. | .cmpLineCompose .. | .cmpLateThreshold ..
  | .mapLoad .. | .calLoad .. | .start .. | .hold .. | .wloReport .. | .wloLatchPoint .. | .generatorRetimed ..
  | .rasterRestart .. | .frameInstant .. | .wloLineScan .. | .frefEdge .. | .frefLostTimeout .. | .holdAckTimeout ..
  | .daymarkDeadline .. | .laneSetup | .enumerate | .tileWrite | .tileRead | .eyeScan | .managementGroupSend ..
  | .tileStatusReport .. | .tileDaymarkReport .. | .tileHeldReport .. | .tileEnumReply .. | .tileReadReply ..
  | .tileReadTimeout .. | .enumerateTimeout .. | .rxLockGained .. | .rxLockLost .. | .ctleAdapted ..
  | .quadPllUnlock .. | .quadPllRelock .. | .legacyRetrain .. | .ctxSetup .. | .encFrame .. | .encSourceFrameOpen ..
  | .nalRingRoom .. | .vcxWaitThreshold .. | .decAu .. | .decRelease .. | .decodeBufferFree .. | .ctxClear ..
  | .mirrorSlice .. | .lpkPack .. | .lpkUnpack .. | .lpkBlockCoded .. | .storeSetup .. | .ssdBringupStepDone ..
  | .clipOpen .. | .clipWrite .. | .writeBufferRoom | .clipRead .. | .indexRead .. | .flush .. | .clipClose ..
  | .clipDrop .. | .clipQuery .. | .age .. | .sqTailDoorbell .. | .cqHeadDoorbell .. | .hqEnable .. | .clsReset ..
  | .clsResetFlushDone | .clsActivate .. | .activationReady | .clsResume .. | .pageFlushDue .. | .ssdFailure ..
  | .healthLogPoll .. | .clsAgeThreshold .. | .memFill | .memScrub .. | .memRetrain .. | .memTrainingDone ..
  | .ageCapExpiry .. | .refreshDue .. | .stackTemperatureRead .. | .parityAlert .. | .periodicRetrain ..
  | .patrolScrub .. | .combScrub .. | .selfRefreshExitDone .. | .combInitDone | .memMapWrite .. | .beaconWrap
  | .bcnNowNsRead .. | .bcnIncWrite .. | .bcnStep .. | .ptpBaseWrite .. | .hostTriggerArm .. | .hostTriggerDisarm ..
  | .triggerPulseEnd .. | .ethSetup | .rxFilter | .rxRing | .pktSend | .pktDeparture .. | .rtpSetup | .rtpSend
  | .ethLinkChange .. | .casSetup | .casExport | .casImport | .casStop | .casMsg | .casExportLine .. | .waggleSend
  | .waggleMiss | .prepareTimeout | .swarmSnapshotLatch | .linkDelayMeasure | .adeoftLinkDown .. | .adeoftLinkUp ..
  | .adeoftTxRestart .. | .adeoftLinkReuse .. | .twXfer | .twXferComplete .. | .twArbitrationLost .. | .twSrError ..
  | .twClockLowTimeout .. | .twDataLowTimeout .. | .twBusClear .. | .twControllerReset .. | .twModeWrite ..
  | .tw4Read .. | .tw4OutValidWrite .. | .tw4WakeMatch | .tw4StretchTimeout | .flashRead | .flashProgram
  | .flashErase | .flashPageDone | .flashPollTimeout | .gpioEdge .. | .pcieLinkChange .. | .hotReset | .flr
  | .msixUnmask .. | .bar4BaseWrite .. | .bootDirectoryReadDone .. | .keeperFirmwareVerified ..
  | .bootEntryCopyDone .. | .pdSet | .domainPowerUpDone .. | .state | .stateHoldReached | .recRead | .snapCopy ..
  | .report | .intakeWindowClose .. | .recordWrite | .selfTestCycle .. | .clockMonitorMeasure .. | .foghornMismatch
  | .clearFault .. | .pinClear .. | .hostSnapTrigger .. | .softReset .. | .wdogWrite .. | .wdogKick .. | .wdogExpiry
  | .resetHoldWindowEnd | .dozeEntry .. | .dozeStepDone | .dozeWake .. | .dozeExitStepDone | .powerOnReset
  | .resetNAssert | .resetRelease .. | .supplyWarning .. | .supplyRecovery .. | .supplyDwellExpiry
  | .otherRailWarning .. | .otherRailRecovery .. | .oscillatorTrim | .kprCmd | .kprMbGo .. | .getInfo | .getIdentity
  | .getRandom | .sessionOpen | .sessionProve | .sessionClose | .sessionVerify | .keyInstall | .laneKey
  | .keyxSent .. | .casGuard | .keyProgram | .revoke | .rollbackAdvance | .lifecycle | .fuseBurnDone .. | .protect
  | .tamperConfig | .tamperClear | .zeroise | .debugChallenge | .debugUnlock | .debugNonceExpiry | .selfTest ..
  | .nvRead | .nvWrite | .fwLoad | .sessionProveTimeout .. | .sessionIdleTimeout .. | .sessionLifetimeExpiry ..
  | .tamper | .trngHealthFail | .dfeTapAtRail .. | .tileUnknownReport .. | .adeoftBadPacket ..
  | .casWaggleStampRead .. | .keeperLockstepMismatch => true

end Sys2Proof
end

