-- ==== Sys2Proof/Decode.lean ====
section
/-!
DEFINITION. Decoding. The table of commands gives no row any bits, so a table word spells none (DESIGN CHOICE, log entry 16). The block does
hold one instruction set, that of its cells: `hiveDecode` reads an instruction word of a cell by R60 to R84 as the command that
carries it out, and `hiveEncode` writes the word of such a command.
-/
namespace Sys2Proof

/-- The command that a word of the opcode table spells: the table's rows have no bits. -/
def decodeTableWord (_nbits _w : Nat) : Option Instr := none

/-! The fields of an instruction word (R60). -/

def wMajor (w : Nat) : Nat := w / 2 ^ 26 % 64
def wRd (w : Nat) : Nat := w / 2 ^ 21 % 32
def wRs (w : Nat) : Nat := w / 2 ^ 16 % 32
def wRt (w : Nat) : Nat := w / 2 ^ 11 % 32
def wFunc (w : Nat) : Nat := w % 2 ^ 11
def wImm (w : Nat) : Nat := w % 2 ^ 16
def wOffset (w : Nat) : Nat := w % 2 ^ 26

/-- A general register by number. -/
def gr (n : Nat) : Gr := Fin.ofNat 32 n
/-- A wide register by number: a larger one than w7 is illegal (R60). -/
def wr? (n : Nat) : Option Wr := if n < 8 then some (Fin.ofNat 8 n) else none
def imm16 (w : Nat) : BitVec 16 := BitVec.ofNat 16 (wImm w)

/-- The commands of the ALU functions (R62). -/
def decodeAlu (c : Cell) (rd rs rt : Gr) (func : Nat) : Option Instr :=
  match func with
  | 0x00 => some (.add c rd rs rt)
  | 0x01 => some (.sub c rd rs rt)
  | 0x02 => some (.and c rd rs rt)
  | 0x03 => some (.or c rd rs rt)
  | 0x04 => some (.xor c rd rs rt)
  | 0x05 => some (.nor c rd rs rt)
  | 0x06 => some (.sll c rd rs rt)
  | 0x07 => some (.srl c rd rs rt)
  | 0x08 => some (.sra c rd rs rt)
  | 0x09 => some (.slt c rd rs rt)
  | 0x0A => some (.sltu c rd rs rt)
  | 0x0B => some (.mul c rd rs rt)
  | 0x0C => some (.mulhu c rd rs rt)
  | 0x0D => some (.divu c rd rs rt)
  | 0x0E => some (.remu c rd rs rt)
  | _ => none

/-- A shift by an immediate (R61). -/
def decodeShi (c : Cell) (rd rs : Gr) (imm : Nat) : Option Instr :=
  match imm / 32 with
  | 0 => some (.shi c rd rs .left (BitVec.ofNat 5 imm))
  | 1 => some (.shi c rd rs .rightLogical (BitVec.ofNat 5 imm))
  | 2 => some (.shi c rd rs .rightArith (BitVec.ofNat 5 imm))
  | _ => none

/-- WDEP and WEXT (R61, R63): the field's place and length; imm[15:12] zero, and the field inside the register. -/
def decodeField (imm : Nat) : Option (BitVec 7 × BitVec 5) :=
  let pos := BitVec.ofNat 7 imm
  let lenM1 := BitVec.ofNat 5 (imm / 128)
  if imm / 4096 = 0 ∧ fieldFits pos lenM1 then some (pos, lenM1) else none

/-- ARM and DISARM (R71): the target, imm[15:6] zero. -/
def decodeArm (c : Cell) (rd rs : Gr) (imm : Nat) : Option Instr :=
  if 17 ≤ imm % 32 ∨ 64 ≤ imm then none
  else if imm / 32 = 1 then some (.disarm c rd rs (Fin.ofNat 17 (imm % 32)))
  else some (.arm c rd rs (Fin.ofNat 17 (imm % 32)))

/-- COMMIT (R74): func[3:0] the group, func[10] the swarm, func[9:4] zero; a local one has rs zero. -/
def decodeCommit (c : Cell) (rd rs rt func : Nat) : Option Instr :=
  if func / 16 % 64 ≠ 0 then none
  else if func / 1024 = 1 then some (.swarmCommit c (gr rd) (gr rs) (gr rt) (Fin.ofNat 16 func))
  else if rs = 0 then some (.commit c (gr rd) (gr rt) (Fin.ofNat 16 func))
  else none

/-- SNAP (R78). -/
def decodeSnap (c : Cell) (rd rs imm : Nat) : Option Instr :=
  if imm = 0 ∧ rs = 0 then some (.snap c (gr rd))
  else if imm = 1 then some (.swarmSnap c (gr rd) (gr rs))
  else none

/-- MBOX (R81): imm[15:5] zero; destinations 9 to 15 are illegal. -/
def decodeMbox (c : Cell) (rd : Wr) (rs : Gr) (imm : Nat) : Option Instr :=
  if 32 ≤ imm then none
  else if imm / 16 = 1 then some (.mboxReceive c rd rs (BitVec.ofNat 4 imm))
  else if imm < 9 then some (.mboxSend c rd rs (Fin.ofNat 9 imm))
  else none

/-- CSRW (R83): imm[13:12] the operation; rd and imm[15:14] zero. -/
def decodeCsrw (c : Cell) (rd : Nat) (rs : Gr) (imm : Nat) : Option Instr :=
  if rd ≠ 0 then none
  else match imm / 4096 with
    | 0 => some (.csrwWrite c rs (BitVec.ofNat 12 imm))
    | 1 => some (.csrwSet c rs (BitVec.ofNat 12 imm))
    | 2 => some (.csrwClear c rs (BitVec.ofNat 12 imm))
    | _ => none

/-- The command that carries out instruction word `w` on cell `c`; none for an illegal word, which ILLEGAL_INSTRUCTION
carries out (R61). What the common code finds on a posted descriptor is no part of the word. -/
def hiveDecode (c : Cell) (w : Nat) : Option Instr :=
  let rd := wRd w
  let rs := wRs w
  let imm := wImm w
  match wMajor w with
  | 0x01 => decodeAlu c (gr rd) (gr rs) (gr (wRt w)) (wFunc w)
  | 0x02 => some (.addi c (gr rd) (gr rs) (imm16 w))
  | 0x03 => some (.andi c (gr rd) (gr rs) (imm16 w))
  | 0x04 => some (.ori c (gr rd) (gr rs) (imm16 w))
  | 0x05 => some (.xori c (gr rd) (gr rs) (imm16 w))
  | 0x06 => some (.slti c (gr rd) (gr rs) (imm16 w))
  | 0x07 => some (.sltiu c (gr rd) (gr rs) (imm16 w))
  | 0x08 => decodeShi c (gr rd) (gr rs) imm
  | 0x09 => if rs = 0 then some (.lui c (gr rd) (imm16 w)) else none
  | 0x0A => some (.lw c (gr rd) (gr rs) (imm16 w))
  | 0x0B => some (.sw c (gr rd) (gr rs) (imm16 w))
  | 0x0C => (wr? rd).map (fun r => .lq c r (gr rs) (imm16 w))
  | 0x0D => (wr? rd).map (fun r => .sq c r (gr rs) (imm16 w))
  | 0x0E => (wr? rd).bind (fun r => (decodeField imm).map (fun f => .wdep c r (gr rs) f.1 f.2))
  | 0x0F => (wr? rs).bind (fun r => (decodeField imm).map (fun f => .wext c (gr rd) r f.1 f.2))
  | 0x10 => if 2 ≤ imm then none else (wr? rd).bind (fun r => (wr? rs).map (fun x => .wmov c r x (imm == 1)))
  | 0x11 => some (.beq c (gr rd) (gr rs) (imm16 w))
  | 0x12 => some (.bne c (gr rd) (gr rs) (imm16 w))
  | 0x13 => some (.blt c (gr rd) (gr rs) (imm16 w))
  | 0x14 => some (.bge c (gr rd) (gr rs) (imm16 w))
  | 0x15 => some (.bltu c (gr rd) (gr rs) (imm16 w))
  | 0x16 => some (.bgeu c (gr rd) (gr rs) (imm16 w))
  | 0x17 => some (.j c (BitVec.ofNat 26 (wOffset w)))
  | 0x18 => some (.jal c (BitVec.ofNat 26 (wOffset w)))
  | 0x19 => if imm = 0 then some (.jalr c (gr rd) (gr rs)) else none
  | 0x20 => if rs = 0 ∧ imm < 64 then (wr? rd).map (fun r => .post c r (Fin.ofNat 64 imm) .ok) else none
  | 0x21 => if rd = 0 ∧ imm < 64 then some (.postm c (gr rs) (Fin.ofNat 64 imm) .ok) else none
  | 0x22 => if imm < 64 then (wr? rd).map (fun r => .take c r (gr rs) (Fin.ofNat 64 imm)) else none
  | 0x23 => if imm = 0 then some (.wait c (gr rd) (gr rs)) else none
  | 0x24 => decodeArm c (gr rd) (gr rs) imm
  | 0x25 => if rs = 0 ∧ imm = 0 then some (.time c (gr rd)) else none
  | 0x26 => decodeCommit c rd rs (wRt w) (wFunc w)
  | 0x27 => decodeSnap c rd rs imm
  | 0x28 => if imm < 4 then some (.fence c (gr rd) (gr rs) (BitVec.ofNat 2 imm)) else none
  | 0x29 =>
    if imm < 1024 ∧ imm.testBit c.val then
      some (.bar c (gr rd) (gr rs) (Fin.ofNat 4 (imm / 256)) (BitVec.ofNat 8 imm))
    else none
  | 0x2A => (wr? rd).bind (fun r => decodeMbox c r (gr rs) imm)
  | 0x2B => if rs = 0 ∧ imm < 4096 then some (.csrr c (gr rd) (BitVec.ofNat 12 imm)) else none
  | 0x2C => decodeCsrw c rd (gr rs) imm
  | 0x2D => if rd = 0 ∧ rs = 0 then some (.stop c (imm16 w)) else none
  | _ => none

/-! Encoding. -/

/-- A word of format I (R60). -/
def encI (major rd rs imm : Nat) : Nat := major * 2 ^ 26 + rd * 2 ^ 21 + rs * 2 ^ 16 + imm
/-- A word of format A. -/
def encA (major rd rs rt func : Nat) : Nat := major * 2 ^ 26 + rd * 2 ^ 21 + rs * 2 ^ 16 + rt * 2 ^ 11 + func
/-- A word of format J. -/
def encJ (major offset : Nat) : Nat := major * 2 ^ 26 + offset

/-- The immediate of WDEP and WEXT. -/
def encField (pos : BitVec 7) (lenM1 : BitVec 5) : Nat := lenM1.toNat * 128 + pos.toNat

/-- imm[6:5] of SHI. -/
def encDir : ShiftDir → Nat
  | .left => 0
  | .rightLogical => 1
  | .rightArith => 2

/-- The cell and the instruction word of a command that carries out an instruction; none for the other commands. -/
def hiveEncode (i : Instr) : Option (Cell × Nat) :=
  match i with
  | .add c rd rs rt => some (c, encA 0x01 rd rs rt 0x00)
  | .sub c rd rs rt => some (c, encA 0x01 rd rs rt 0x01)
  | .and c rd rs rt => some (c, encA 0x01 rd rs rt 0x02)
  | .or c rd rs rt => some (c, encA 0x01 rd rs rt 0x03)
  | .xor c rd rs rt => some (c, encA 0x01 rd rs rt 0x04)
  | .nor c rd rs rt => some (c, encA 0x01 rd rs rt 0x05)
  | .sll c rd rs rt => some (c, encA 0x01 rd rs rt 0x06)
  | .srl c rd rs rt => some (c, encA 0x01 rd rs rt 0x07)
  | .sra c rd rs rt => some (c, encA 0x01 rd rs rt 0x08)
  | .slt c rd rs rt => some (c, encA 0x01 rd rs rt 0x09)
  | .sltu c rd rs rt => some (c, encA 0x01 rd rs rt 0x0A)
  | .mul c rd rs rt => some (c, encA 0x01 rd rs rt 0x0B)
  | .mulhu c rd rs rt => some (c, encA 0x01 rd rs rt 0x0C)
  | .divu c rd rs rt => some (c, encA 0x01 rd rs rt 0x0D)
  | .remu c rd rs rt => some (c, encA 0x01 rd rs rt 0x0E)
  | .addi c rd rs imm => some (c, encI 0x02 rd rs imm.toNat)
  | .andi c rd rs imm => some (c, encI 0x03 rd rs imm.toNat)
  | .ori c rd rs imm => some (c, encI 0x04 rd rs imm.toNat)
  | .xori c rd rs imm => some (c, encI 0x05 rd rs imm.toNat)
  | .slti c rd rs imm => some (c, encI 0x06 rd rs imm.toNat)
  | .sltiu c rd rs imm => some (c, encI 0x07 rd rs imm.toNat)
  | .shi c rd rs dir amount => some (c, encI 0x08 rd rs (encDir dir * 32 + amount.toNat))
  | .lui c rd imm => some (c, encI 0x09 rd 0 imm.toNat)
  | .lw c rd rs imm => some (c, encI 0x0A rd rs imm.toNat)
  | .sw c rd rs imm => some (c, encI 0x0B rd rs imm.toNat)
  | .lq c rd rs imm => some (c, encI 0x0C rd rs imm.toNat)
  | .sq c rd rs imm => some (c, encI 0x0D rd rs imm.toNat)
  | .wdep c rd rs pos lenM1 => some (c, encI 0x0E rd rs (encField pos lenM1))
  | .wext c rd rs pos lenM1 => some (c, encI 0x0F rd rs (encField pos lenM1))
  | .wmov c rd rs clear => some (c, encI 0x10 rd rs clear.toNat)
  | .beq c rd rs imm => some (c, encI 0x11 rd rs imm.toNat)
  | .bne c rd rs imm => some (c, encI 0x12 rd rs imm.toNat)
  | .blt c rd rs imm => some (c, encI 0x13 rd rs imm.toNat)
  | .bge c rd rs imm => some (c, encI 0x14 rd rs imm.toNat)
  | .bltu c rd rs imm => some (c, encI 0x15 rd rs imm.toNat)
  | .bgeu c rd rs imm => some (c, encI 0x16 rd rs imm.toNat)
  | .j c offset => some (c, encJ 0x17 offset.toNat)
  | .jal c offset => some (c, encJ 0x18 offset.toNat)
  | .jalr c rd rs => some (c, encI 0x19 rd rs 0)
  | .post c rd q .ok => some (c, encI 0x20 rd 0 q)
  | .postm c rs q .ok => some (c, encI 0x21 0 rs q)
  | .take c rd rs q => some (c, encI 0x22 rd rs q)
  | .wait c rd rs => some (c, encI 0x23 rd rs 0)
  | .arm c rd rs target => some (c, encI 0x24 rd rs target)
  | .disarm c rd rs target => some (c, encI 0x24 rd rs (32 + target))
  | .time c rd => some (c, encI 0x25 rd 0 0)
  | .commit c rd rt group => some (c, encA 0x26 rd 0 rt group)
  | .swarmCommit c rd rs rt group => some (c, encA 0x26 rd rs rt (1024 + group))
  | .snap c rd => some (c, encI 0x27 rd 0 0)
  | .swarmSnap c rd rs => some (c, encI 0x27 rd rs 1)
  | .fence c rd rs kinds => some (c, encI 0x28 rd rs kinds.toNat)
  | .bar c rd rs barrier mask => some (c, encI 0x29 rd rs (barrier * 256 + mask.toNat))
  | .mboxSend c rd rs dest => some (c, encI 0x2A rd rs dest)
  | .mboxReceive c rd rs sel => some (c, encI 0x2A rd rs (16 + sel.toNat))
  | .csrr c rd csr => some (c, encI 0x2B rd 0 csr.toNat)
  | .csrwWrite c rs csr => some (c, encI 0x2C 0 rs csr.toNat)
  | .csrwSet c rs csr => some (c, encI 0x2C 0 rs (4096 + csr.toNat))
  | .csrwClear c rs csr => some (c, encI 0x2C 0 rs (8192 + csr.toNat))
  | .stop c imm => some (c, encI 0x2D 0 0 imm.toNat)
  | _ => none

end Sys2Proof
end

