-- ==== Sys2Proof/Config.lean ====
section
/-!
DEFINITION. What the spec leaves to an implementation or to a standard it only names: free values and uninterpreted
functions, opaque constants with no body, so that no proof can see a value of them (DESIGN CHOICE, log entries 8, 17, 18); and the
sizes that the spec fixes.
-/
namespace Sys2Proof.Config

/-- The n-th free value of a run: the value of something the spec does not state (DESIGN CHOICE, log entry 8). -/
opaque freeQuad : Nat → BitVec 128

/-- The free choice of R182, R183: does code `i` of the `n`-th free value round up where either neighbour conforms? -/
opaque freeCode : Nat → Nat → Bool

/-- AES-256-GCM's keystream under a key and nonce, 64 bits of it at a time, and its tag over additional data and ciphertext
(R291); uninterpreted (DESIGN CHOICE, log entry 17). -/
opaque gcmStream (key nonce i : Nat) : BitVec 64
opaque gcmTag (key nonce : Nat) (aad text : List (BitVec 64)) : BitVec 128

/-- Keeper's engines, uninterpreted (DESIGN CHOICE, log entry 17): SHA-384; the public key of secret `n`, the device key being secret 0; the
ECDH secret of secret `n` and a public key; ECDSA verification of a message under a public key; the key under the hash in
the boot ROM; the device's identity and its signature. -/
opaque sha384 (m : List Byte) : List Byte
opaque ecPublic (n : Nat) : List Byte
opaque ecdh (n : Nat) (pub : List Byte) : List Byte
opaque ecdsaOk (pub m sig : List Byte) : Bool
opaque wofarilKey : List Byte
opaque deviceUid : BitVec 64
opaque deviceSignature : List Byte

/-! H.265 as the codec carries it out, as far as the manual leaves it to the standard or to the core (DESIGN CHOICE, log entry 18): what its
bits are and which samples they stand for is uninterpreted; what the manual says they must say is an argument. -/

/-- How a CTU row of a picture is reconstructed: as use `n` of the coder leaves it, or at the mid value (R333). -/
inductive RowRecon where
  | coded (n : Nat)
  | mid
  deriving DecidableEq, Repr

/-- What the parameter sets of a stream say (R312, R313, R319, R321): profile, tier, level, size, bit depth, CTU and minimum
CU, largest and smallest transform, quantisation group, pictures reordered, references, temporal motion vectors; the tools on: transform skip,
sign hiding, deblocking, SAO; those never on; the tile rows and the row of the split, the loop filter across them; the VUI: timing, range,
colours; the HRD's rate and size in bits, whether it is CBR. -/
structure StreamSpec where
  profile : Nat
  tier : Nat
  level : Nat
  width : Nat
  height : Nat
  depth : Nat
  ctu : Nat
  minCu : Nat
  maxTb : Nat
  minTb : Nat
  qg : Nat
  reorder : Nat
  refs : Nat
  temporalMvp : Bool
  transformSkip : Bool
  signHiding : Bool
  deblocking : Bool
  sao : Bool
  weighted : Bool
  longTerm : Bool
  scalingLists : Bool
  pcm : Bool
  dependentSlices : Bool
  wpp : Bool
  tileSplit : Option Nat
  filterAcrossTiles : Bool
  timing : Nat × Nat
  fullRange : Bool
  colours : Nat × Nat × Nat
  hrd : Option (Nat × Nat × Bool)
  deriving DecidableEq, Repr

/-- A CTU row to code normally: the QPs of its groups (R335) and its source samples in the coding domain, by component (R315). -/
structure RowJob where
  row : Nat
  qps : List Int
  source : List (List Nat)
  deriving DecidableEq, Repr

/-- What a slice segment's header says (R313, R321, R323, R333): its NAL unit type, its first CTU, the picture order count, the references as
picture order counts back, whether it is a floor slice; its QP, the merge candidates, deblocking off, SAO on, filtering across its upper
boundary, none where that is the encoder's own choice; the reference pictures' rows. -/
structure SliceSpec where
  nal : Nat
  address : Nat
  poc : Nat
  refs : List Nat
  floor : Bool
  qp : Option Int
  mergeCand : Option Nat
  deblockOff : Option Bool
  sao : Option Bool
  acrossUpper : Option Bool
  from_ : List (List RowRecon)
  deriving DecidableEq, Repr

/-- The payload bytes of a parameter set (NAL unit type 32 to 34), of a buffering-period or picture-timing message (0 or 1), and of a slice
segment with the rows it codes; `n` numbers the use. -/
opaque hevcSet (nal : Nat) (s : StreamSpec) : List Byte
opaque hevcTiming (n kind : Nat) (s : StreamSpec) : List Byte
opaque hevcSlice (n : Nat) (h : SliceSpec) (rows : List RowJob) : List Byte
/-- A reconstructed sample of use `n`: the encoder's, after its filters, and the decoder's. -/
opaque hevcRecon (n comp x y : Nat) : Nat
opaque hevcSample (n comp x y : Nat) : Nat
/-- What use `n` of the decoder finds in slice data: further damaged segments, whether damage leaves a CTU undecoded, whether a poisoned
reference sample is read. -/
opaque hevcFaults (n : Nat) : Nat
opaque hevcLost (n ctu : Nat) : Bool
opaque hevcReadsPoison (n : Nat) : Bool
/-- How many CTUs of a row would search a poisoned reference word; the fullness of the CPB at a stream's first picture; bytes in a layout of
the core's own. -/
opaque hevcIntra (n : Nat) : Nat
opaque hevcFullness (n : Nat) : Nat
opaque hevcBytes (n len : Nat) : List Byte

/-- Words a command queue holds (spec/01_fabric.md, "Queues and the buoy"). -/
def queueDepth : Nat := 64
/-- Items a completion queue holds. -/
def cqDepth : Nat := 256
/-- Entries of Foghorn's intake (R496). -/
def intakeDepth : Nat := 128
/-- Records of the log (R498). -/
def logRecords : Nat := 16384
/-- Messages a mailbox holds (R82). -/
def mailboxDepth : Nat := 16

end Sys2Proof.Config
end

