-- ==== Sys2Proof/Machine/Presets.lean ====
section
/-!
DEFINITION. The presets of the colour engine (R177): the conversions between RGB spaces, derived from the primaries and
white points of the named standards with Bradford adaptation and rounded to binary32. The standards' chromaticities and
the Bradford matrix are PRESUMED (log entry 21); the spec names the standards and does not print the numbers.
-/
namespace Sys2Proof.Machine

/-- From AP0 to AP0, row by row. -/
def presetAP0ToAP0 : List Nat :=
  [0x3F800000, 0x00000000, 0x00000000, 0x00000000, 0x3F800000, 0x00000000, 0x00000000, 0x00000000, 0x3F800000]

/-- From AP0 to AP1, row by row. -/
def presetAP0ToAP1 : List Nat :=
  [0x3FB9C8C3, 0xBE722FE0, 0xBE5C163C, 0xBD9CC83A, 0x3F968EB2, 0xBDCC22E4, 0x3C084074, 0xBBC5ABDB, 0x3F7F6A56]

/-- From AP0 to BT2020, row by row. -/
def presetAP0ToBT2020 : List Nat :=
  [0x3FBEC5BD, 0xBE88478E, 0xBE659ECE, 0xBDA42EDC, 0x3F975141, 0xBDD0E52D, 0x3B5386AA, 0xBD0E71C7, 0x3F8409CB]

/-- From AP0 to BT709, row by row. -/
def presetAP0ToBT709 : List Nat :=
  [0x4021634E, 0xBF912B34, 0xBEC66DA3, 0xBE8D8EC6, 0x3FAFB542, 0xBDC5190B, 0xBC7BF448, 0xBE1CA591, 0x3F958C9B]

/-- From AP1 to AP0, row by row. -/
def presetAP1ToAP0 : List Nat :=
  [0x3F320928, 0x3E100E14, 0x3E27CD4B, 0x3D377A81, 0x3F5C1368, 0x3DC3A77F, 0xBBB51276, 0x3B83E5E9, 0x3F80312D]

/-- From AP1 to AP1, row by row. -/
def presetAP1ToAP1 : List Nat :=
  [0x3F800000, 0x00000000, 0x00000000, 0x00000000, 0x3F800000, 0x00000000, 0x00000000, 0x00000000, 0x3F800000]

/-- From AP1 to BT2020, row by row. -/
def presetAP1ToBT2020 : List Nat :=
  [0x3F834E3A, 0xBCA44697, 0xBBBD1F54, 0xBB126E80, 0x3F80964A, 0xBB1A263C, 0xBBA4470A, 0xBCCF2D20, 0x3F83E0FC]

/-- From AP1 to BT709, row by row. -/
def presetAP1ToBT709 : List Nat :=
  [0x3FDA3F1C, 0xBF1F2DC5, 0xBDAA83A1, 0xBE0561F0, 0x3F9205E4, 0xBC2CD2DB, 0xBCC4A2B0, 0xBE041071, 0x3F939499]

/-- From BT2020 to AP0, row by row. -/
def presetBT2020ToAP0 : List Nat :=
  [0x3F2DD88E, 0x3E217C59, 0x3E27216D, 0x3D3C6C99, 0x3F5BEB02, 0x3DC271A5, 0xBA1674AD, 0x3CE9353D, 0x3F78DBF3]

/-- From BT2020 to AP1, row by row. -/
def presetBT2020ToAP1 : List Nat :=
  [0x3F7992B8, 0x3CA08E4F, 0x3BB46AF3, 0x3B0ED6FF, 0x3F7EDB6A, 0x3B15BF68, 0x3B9D322A, 0x3CC8F75E, 0x3F787DE1]

/-- From BT2020 to BT2020, row by row. -/
def presetBT2020ToBT2020 : List Nat :=
  [0x3F800000, 0x00000000, 0x00000000, 0x00000000, 0x3F800000, 0x00000000, 0x00000000, 0x00000000, 0x3F800000]

/-- From BT2020 to BT709, row by row. -/
def presetBT2020ToBT709 : List Nat :=
  [0x3FD48AF8, 0xBF166FA6, 0xBD95324F, 0xBDFF1452, 0x3F9102DD, 0xBC08CC04, 0xBC94B0E9, 0xBDCDFC4F, 0x3F8F3289]

/-- Element `k` of the preset from working space `s` to target `t` (CLR_x_PRESET_s_t_k). -/
def preset (s t k : Nat) : Nat :=
  (([presetAP0ToAP0,
    presetAP0ToAP1,
    presetAP0ToBT2020,
    presetAP0ToBT709,
    presetAP1ToAP0,
    presetAP1ToAP1,
    presetAP1ToBT2020,
    presetAP1ToBT709,
    presetBT2020ToAP0,
    presetBT2020ToAP1,
    presetBT2020ToBT2020,
    presetBT2020ToBT709] : List (List Nat)).getD (4 * s + t) []).getD k 0

end Sys2Proof.Machine
end

