-- ==== Sys2Proof/Machine/Regs.lean ====
section
/-!
DEFINITION. The register map: every register the spec lists, with its window, offset, writable bits (RW),
write-one-to-clear bits (W1C) and reset value (spec/01_fabric.md R50, R51 and the field maps of every chapter).
`Reg.<name>` is the key of a register in `State.regs`: window * 65,536 + offset. Fields that are WO, RO or
reserved are in neither mask.
-/
namespace Sys2Proof.Machine

/-- One listed register, or one family of registers at regular strides (a stride and a count for each index). -/
structure RegRow where
  win : Nat
  wins : Nat
  off : Nat
  dims : List (Nat × Nat)
  rw : Nat
  w1c : Nat
  init : Nat
  deriving DecidableEq, Repr

namespace Reg
/-- HCI_ID: window 0x0, 00_scope.md R3. -/
def hciId : Nat := 0x0
/-- FGH_GOV_CTRL: window 0x4, 01_fabric.md R17. -/
def govCtrl : Nat := 0x40100
/-- FGH_GOV_LIMITS: window 0x4, 01_fabric.md R21. -/
def govLimits : Nat := 0x40104
/-- FGH_GOV_STATUS: window 0x4, 01_fabric.md R20. -/
def govStatus : Nat := 0x40108
/-- HIV_LOAD_SRC_LO: window 0x48, 02_hive.md R96. -/
def hivLoadSrcLo : Nat := 0x480010
/-- HIV_LOAD_SRC_HI: window 0x48, 02_hive.md R96. -/
def hivLoadSrcHi : Nat := 0x480014
/-- HIV_LOAD_CTRL: window 0x48, 02_hive.md R96. -/
def hivLoadCtrl : Nat := 0x480018
/-- HIV_LOAD_STATUS: window 0x48, 02_hive.md R97. -/
def hivLoadStatus : Nat := 0x48001c
/-- HIV_H2C_n_DATAk: window 0x48, 02_hive.md R94. -/
def hivH2cData (i j : Nat) : Nat := 0x480000 + 0x100 + 32 * i + 4 * j
/-- HIV_H2C_n_SEND: window 0x48, 02_hive.md R94. -/
def hivH2cSend (i : Nat) : Nat := 0x480000 + 0x110 + 32 * i
/-- HIV_H2C_n_STATUS: window 0x48, 02_hive.md R94. -/
def hivH2cStatus (i : Nat) : Nat := 0x480000 + 0x114 + 32 * i
/-- HIV_C2H_DATAk: window 0x48, 02_hive.md R94. -/
def hivC2hData (i : Nat) : Nat := 0x480000 + 0x200 + 4 * i
/-- HIV_C2H_POP: window 0x48, 02_hive.md R94. -/
def hivC2hPop : Nat := 0x480210
/-- HIV_C2H_STATUS: window 0x48, 02_hive.md R94. -/
def hivC2hStatus : Nat := 0x480214
/-- HIV_OWNER_d: window 0x48, 02_hive.md R92. -/
def hivOwner (i : Nat) : Nat := 0x480000 + 0x400 + 4 * i
/-- HIV_ROUTE_e: window 0x48, 02_hive.md R90. -/
def hivRoute (i : Nat) : Nat := 0x480000 + 0x1000 + 4 * i
/-- HIV_CELL_n_CTRL: window 0x50 + n, 02_hive.md R87. -/
def hivCellCtrl (w : Nat) : Nat := (0x50 + w) * 65536 + 0x0
/-- HIV_CELL_n_STATUS: window 0x50 + n, 02_hive.md R87. -/
def hivCellStatus (w : Nat) : Nat := (0x50 + w) * 65536 + 0x4
/-- HIV_CELL_n_PC: window 0x50 + n, 02_hive.md R87. -/
def hivCellPc (w : Nat) : Nat := (0x50 + w) * 65536 + 0x8
/-- HIV_CELL_n_LOST: window 0x50 + n, 02_hive.md R43. -/
def hivCellLost (w : Nat) : Nat := (0x50 + w) * 65536 + 0xc
/-- HIV_CELL_n_BUILDk: window 0x50 + n, 02_hive.md R95. -/
def hivCellBuild (w i : Nat) : Nat := (0x50 + w) * 65536 + 0x10 + 4 * i
/-- SP_n_CAP: window 0x20 + n, 03_sensor_intake.md R132. -/
def spCap (w : Nat) : Nat := (0x20 + w) * 65536 + 0x0
/-- SP_n_STATUS: window 0x20 + n, 03_sensor_intake.md R132. -/
def spStatus (w : Nat) : Nat := (0x20 + w) * 65536 + 0x4
/-- SP_n_LANE_LOCK: window 0x20 + n, 03_sensor_intake.md R132. -/
def spLaneLock (w : Nat) : Nat := (0x20 + w) * 65536 + 0x8
/-- SP_n_EQ: window 0x20 + n, 03_sensor_intake.md R23. -/
def spEq (w : Nat) : Nat := (0x20 + w) * 65536 + 0xc
/-- SP_n_FRAMES: window 0x20 + n, 03_sensor_intake.md R132. -/
def spFrames (w : Nat) : Nat := (0x20 + w) * 65536 + 0x10
/-- SP_n_UNCLAIMED: window 0x20 + n, 03_sensor_intake.md R116. -/
def spUnclaimed (w : Nat) : Nat := (0x20 + w) * 65536 + 0x14
/-- SP_n_XTRIG_MISS: window 0x20 + n, 03_sensor_intake.md R115. -/
def spXtrigMiss (w : Nat) : Nat := (0x20 + w) * 65536 + 0x18
/-- SP_n_SNAP_k: window 0x20 + n, 03_sensor_intake.md R132. -/
def spSnap (w i : Nat) : Nat := (0x20 + w) * 65536 + 0x100 + 4 * i
/-- RFE_x_CAP: window 0x24 + n, 04_raw_front_end.md R163. -/
def rfeCap (w : Nat) : Nat := (0x24 + w) * 65536 + 0x0
/-- RFE_x_STATUS: window 0x24 + n, 04_raw_front_end.md R163. -/
def rfeStatus (w : Nat) : Nat := (0x24 + w) * 65536 + 0x4
/-- RFE_x_BANK: window 0x24 + n, 04_raw_front_end.md R161. -/
def rfeBank (w : Nat) : Nat := (0x24 + w) * 65536 + 0x8
/-- RFE_x_BANK_SHADOW: window 0x24 + n, 04_raw_front_end.md R161. -/
def rfeBankShadow (w : Nat) : Nat := (0x24 + w) * 65536 + 0xc
/-- RFE_x_FRAMES: window 0x24 + n, 04_raw_front_end.md R163. -/
def rfeFrames (w : Nat) : Nat := (0x24 + w) * 65536 + 0x10
/-- RFE_x_UNCLAIMED: window 0x24 + n, 04_raw_front_end.md R153. -/
def rfeUnclaimed (w : Nat) : Nat := (0x24 + w) * 65536 + 0x14
/-- RFE_x_THRESH: window 0x24 + n, 04_raw_front_end.md R163. -/
def rfeThresh (w : Nat) : Nat := (0x24 + w) * 65536 + 0x18
/-- RFE_x_DENIED: window 0x24 + n, 04_raw_front_end.md R161. -/
def rfeDenied (w : Nat) : Nat := (0x24 + w) * 65536 + 0x1c
/-- RFE_x_TBL_ADDR: window 0x24 + n, 04_raw_front_end.md R162. -/
def rfeTblAddr (w : Nat) : Nat := (0x24 + w) * 65536 + 0x20
/-- RFE_x_TBL_DATAk: window 0x24 + n, 04_raw_front_end.md R162. -/
def rfeTblData (w i : Nat) : Nat := (0x24 + w) * 65536 + 0x30 + 4 * i
/-- RFE_x_SNAP_k: window 0x24 + n, 04_raw_front_end.md R163. -/
def rfeSnap (w i : Nat) : Nat := (0x24 + w) * 65536 + 0x100 + 4 * i
/-- CLR_x_CAP: window 0x26 + n, 05_colour_engine.md R204. -/
def clrCap (w : Nat) : Nat := (0x26 + w) * 65536 + 0x0
/-- CLR_x_STATUS: window 0x26 + n, 05_colour_engine.md R204. -/
def clrStatus (w : Nat) : Nat := (0x26 + w) * 65536 + 0x4
/-- CLR_x_BANK: window 0x26 + n, 05_colour_engine.md R198. -/
def clrBank (w : Nat) : Nat := (0x26 + w) * 65536 + 0x8
/-- CLR_x_BANK_SHADOW: window 0x26 + n, 05_colour_engine.md R198. -/
def clrBankShadow (w : Nat) : Nat := (0x26 + w) * 65536 + 0xc
/-- CLR_x_FRAMES: window 0x26 + n, 05_colour_engine.md R204. -/
def clrFrames (w : Nat) : Nat := (0x26 + w) * 65536 + 0x10
/-- CLR_x_UNCLAIMED: window 0x26 + n, 05_colour_engine.md R193. -/
def clrUnclaimed (w : Nat) : Nat := (0x26 + w) * 65536 + 0x14
/-- CLR_x_DENIED: window 0x26 + n, 05_colour_engine.md R198. -/
def clrDenied (w : Nat) : Nat := (0x26 + w) * 65536 + 0x18
/-- CLR_x_RING_THRESH: window 0x26 + n, 05_colour_engine.md R187. -/
def clrRingThresh (w : Nat) : Nat := (0x26 + w) * 65536 + 0x1c
/-- CLR_x_TBL_ADDR: window 0x26 + n, 05_colour_engine.md R199. -/
def clrTblAddr (w : Nat) : Nat := (0x26 + w) * 65536 + 0x20
/-- CLR_x_TBL_DATAk: window 0x26 + n, 05_colour_engine.md R199. -/
def clrTblData (w i : Nat) : Nat := (0x26 + w) * 65536 + 0x30 + 4 * i
/-- CLR_x_SNAP_k: window 0x26 + n, 05_colour_engine.md R204. -/
def clrSnap (w i : Nat) : Nat := (0x26 + w) * 65536 + 0x100 + 4 * i
/-- CLR_x_PRESET_s_t_k: window 0x26 + n, 05_colour_engine.md R204. -/
def clrPreset (w i j : Nat) : Nat := (0x26 + w) * 65536 + 0x400 + 64 * i + 4 * j
/-- CMP_TBL_ADDR: window 0x2a, 06_compositor.md R233. -/
def cmpTblAddr : Nat := 0x2a0020
/-- CMP_TBL_DATAk: window 0x2a, 06_compositor.md R233. -/
def cmpTblData (i : Nat) : Nat := 0x2a0000 + 0x30 + 4 * i
/-- CMP_Ll_CTRL: window 0x29, 06_compositor.md R239. -/
def cmpLCtrl (i : Nat) : Nat := 0x290000 + 0x0 + 256 * i
/-- CMP_Ll_ADDR_LO: window 0x29, 06_compositor.md R239. -/
def cmpLAddrLo (i : Nat) : Nat := 0x290000 + 0x4 + 256 * i
/-- CMP_Ll_ADDR_HI: window 0x29, 06_compositor.md R239. -/
def cmpLAddrHi (i : Nat) : Nat := 0x290000 + 0x8 + 256 * i
/-- CMP_Ll_ADDR2_LO: window 0x29, 06_compositor.md R239. -/
def cmpLAddr2Lo (i : Nat) : Nat := 0x290000 + 0xc + 256 * i
/-- CMP_Ll_ADDR2_HI: window 0x29, 06_compositor.md R239. -/
def cmpLAddr2Hi (i : Nat) : Nat := 0x290000 + 0x10 + 256 * i
/-- CMP_Ll_STRIDE: window 0x29, 06_compositor.md R239. -/
def cmpLStride (i : Nat) : Nat := 0x290000 + 0x14 + 256 * i
/-- CMP_Ll_SRC_SIZE: window 0x29, 06_compositor.md R239. -/
def cmpLSrcSize (i : Nat) : Nat := 0x290000 + 0x18 + 256 * i
/-- CMP_Ll_CROP_POS: window 0x29, 06_compositor.md R239. -/
def cmpLCropPos (i : Nat) : Nat := 0x290000 + 0x1c + 256 * i
/-- CMP_Ll_CROP_SIZE: window 0x29, 06_compositor.md R239. -/
def cmpLCropSize (i : Nat) : Nat := 0x290000 + 0x20 + 256 * i
/-- CMP_Ll_DST_POS: window 0x29, 06_compositor.md R239. -/
def cmpLDstPos (i : Nat) : Nat := 0x290000 + 0x24 + 256 * i
/-- CMP_Ll_DST_SIZE: window 0x29, 06_compositor.md R239. -/
def cmpLDstSize (i : Nat) : Nat := 0x290000 + 0x28 + 256 * i
/-- CMP_Ll_STEP_X: window 0x29, 06_compositor.md R239. -/
def cmpLStepX (i : Nat) : Nat := 0x290000 + 0x2c + 256 * i
/-- CMP_Ll_STEP_Y: window 0x29, 06_compositor.md R239. -/
def cmpLStepY (i : Nat) : Nat := 0x290000 + 0x30 + 256 * i
/-- CMP_Ll_INIT: window 0x29, 06_compositor.md R239. -/
def cmpLInit (i : Nat) : Nat := 0x290000 + 0x34 + 256 * i
/-- CMP_Ll_ALPHA: window 0x29, 06_compositor.md R239. -/
def cmpLAlpha (i : Nat) : Nat := 0x290000 + 0x38 + 256 * i
/-- CMP_Ll_CLEAR_LO: window 0x29, 06_compositor.md R239. -/
def cmpLClearLo (i : Nat) : Nat := 0x290000 + 0x3c + 256 * i
/-- CMP_Ll_CLEAR_HI: window 0x29, 06_compositor.md R239. -/
def cmpLClearHi (i : Nat) : Nat := 0x290000 + 0x40 + 256 * i
/-- CMP_Ll_RING: window 0x29, 06_compositor.md R239. -/
def cmpLRing (i : Nat) : Nat := 0x290000 + 0x44 + 256 * i
/-- CMP_Ll_CTRL (active): window 0x29, 06_compositor.md R239. -/
def cmpLACtrl (i : Nat) : Nat := 0x290000 + 0x80 + 256 * i
/-- CMP_Ll_ADDR_LO (active): window 0x29, 06_compositor.md R239. -/
def cmpLAAddrLo (i : Nat) : Nat := 0x290000 + 0x84 + 256 * i
/-- CMP_Ll_ADDR_HI (active): window 0x29, 06_compositor.md R239. -/
def cmpLAAddrHi (i : Nat) : Nat := 0x290000 + 0x88 + 256 * i
/-- CMP_Ll_ADDR2_LO (active): window 0x29, 06_compositor.md R239. -/
def cmpLAAddr2Lo (i : Nat) : Nat := 0x290000 + 0x8c + 256 * i
/-- CMP_Ll_ADDR2_HI (active): window 0x29, 06_compositor.md R239. -/
def cmpLAAddr2Hi (i : Nat) : Nat := 0x290000 + 0x90 + 256 * i
/-- CMP_Ll_STRIDE (active): window 0x29, 06_compositor.md R239. -/
def cmpLAStride (i : Nat) : Nat := 0x290000 + 0x94 + 256 * i
/-- CMP_Ll_SRC_SIZE (active): window 0x29, 06_compositor.md R239. -/
def cmpLASrcSize (i : Nat) : Nat := 0x290000 + 0x98 + 256 * i
/-- CMP_Ll_CROP_POS (active): window 0x29, 06_compositor.md R239. -/
def cmpLACropPos (i : Nat) : Nat := 0x290000 + 0x9c + 256 * i
/-- CMP_Ll_CROP_SIZE (active): window 0x29, 06_compositor.md R239. -/
def cmpLACropSize (i : Nat) : Nat := 0x290000 + 0xa0 + 256 * i
/-- CMP_Ll_DST_POS (active): window 0x29, 06_compositor.md R239. -/
def cmpLADstPos (i : Nat) : Nat := 0x290000 + 0xa4 + 256 * i
/-- CMP_Ll_DST_SIZE (active): window 0x29, 06_compositor.md R239. -/
def cmpLADstSize (i : Nat) : Nat := 0x290000 + 0xa8 + 256 * i
/-- CMP_Ll_STEP_X (active): window 0x29, 06_compositor.md R239. -/
def cmpLAStepX (i : Nat) : Nat := 0x290000 + 0xac + 256 * i
/-- CMP_Ll_STEP_Y (active): window 0x29, 06_compositor.md R239. -/
def cmpLAStepY (i : Nat) : Nat := 0x290000 + 0xb0 + 256 * i
/-- CMP_Ll_INIT (active): window 0x29, 06_compositor.md R239. -/
def cmpLAInit (i : Nat) : Nat := 0x290000 + 0xb4 + 256 * i
/-- CMP_Ll_ALPHA (active): window 0x29, 06_compositor.md R239. -/
def cmpLAAlpha (i : Nat) : Nat := 0x290000 + 0xb8 + 256 * i
/-- CMP_Ll_CLEAR_LO (active): window 0x29, 06_compositor.md R239. -/
def cmpLAClearLo (i : Nat) : Nat := 0x290000 + 0xbc + 256 * i
/-- CMP_Ll_CLEAR_HI (active): window 0x29, 06_compositor.md R239. -/
def cmpLAClearHi (i : Nat) : Nat := 0x290000 + 0xc0 + 256 * i
/-- CMP_Ll_RING (active): window 0x29, 06_compositor.md R239. -/
def cmpLARing (i : Nat) : Nat := 0x290000 + 0xc4 + 256 * i
/-- CMP_CAP: window 0x28, 06_compositor.md R239. -/
def cmpCap : Nat := 0x280000
/-- CMP_STATUS: window 0x28, 06_compositor.md R239. -/
def cmpStatus : Nat := 0x280004
/-- CMP_OUT_o_0: window 0x28, 06_compositor.md R239. -/
def cmpOut0 (i : Nat) : Nat := 0x280000 + 0x8 + 8 * i
/-- CMP_OUT_o_1: window 0x28, 06_compositor.md R239. -/
def cmpOut1 (i : Nat) : Nat := 0x280000 + 0xc + 8 * i
/-- CMP_OUT_o_ACT_0: window 0x28, 06_compositor.md R239. -/
def cmpOutAct0 (i : Nat) : Nat := 0x280000 + 0x18 + 8 * i
/-- CMP_OUT_o_ACT_1: window 0x28, 06_compositor.md R239. -/
def cmpOutAct1 (i : Nat) : Nat := 0x280000 + 0x1c + 8 * i
/-- CMP_FRAMES_o: window 0x28, 06_compositor.md R210. -/
def cmpFrames (i : Nat) : Nat := 0x280000 + 0x30 + 4 * i
/-- CMP_LAYER_INVALID: window 0x28, 06_compositor.md R239. -/
def cmpLayerInvalid : Nat := 0x280038
/-- CMP_LATE_MASK: window 0x28, 06_compositor.md R239. -/
def cmpLateMask : Nat := 0x28003c
/-- CMP_Ll_COUNT: window 0x28, 06_compositor.md R239. -/
def cmpLCount (i : Nat) : Nat := 0x280000 + 0x40 + 4 * i
/-- CMP_DENIED: window 0x28, 06_compositor.md R234. -/
def cmpDenied : Nat := 0x280080
/-- CMP_SNAP_k: window 0x28, 06_compositor.md R239. -/
def cmpSnap (i : Nat) : Nat := 0x280000 + 0x100 + 4 * i
/-- WLO_x_CAP: window 0x2c + n, 07_wall_output.md R274. -/
def wloCap (w : Nat) : Nat := (0x2c + w) * 65536 + 0x0
/-- WLO_x_STATUS: window 0x2c + n, 07_wall_output.md R274. -/
def wloStatus (w : Nat) : Nat := (0x2c + w) * 65536 + 0x4
/-- WLO_x_FRAMES: window 0x2c + n, 07_wall_output.md R242. -/
def wloFrames (w : Nat) : Nat := (0x2c + w) * 65536 + 0x8
/-- WLO_x_EQ: window 0x2c + n, 07_wall_output.md R23. -/
def wloEq (w : Nat) : Nat := (0x2c + w) * 65536 + 0xc
/-- WLO_x_UNDERRUN: window 0x2c + n, 07_wall_output.md R262. -/
def wloUnderrun (w : Nat) : Nat := (0x2c + w) * 65536 + 0x10
/-- WLO_x_PHASE: window 0x2c + n, 07_wall_output.md R245. -/
def wloPhase (w : Nat) : Nat := (0x2c + w) * 65536 + 0x14
/-- WLO_x_DAYMARK: window 0x2c + n, 07_wall_output.md R267. -/
def wloDaymark (w : Nat) : Nat := (0x2c + w) * 65536 + 0x18
/-- WLO_x_FREEZE_RUN: window 0x2c + n, 07_wall_output.md R268. -/
def wloFreezeRun (w : Nat) : Nat := (0x2c + w) * 65536 + 0x1c
/-- WLO_x_CTRL: window 0x2c + n, 07_wall_output.md R274. -/
def wloCtrl (w : Nat) : Nat := (0x2c + w) * 65536 + 0x100
/-- WLO_x_H: window 0x2c + n, 07_wall_output.md R274. -/
def wloH (w : Nat) : Nat := (0x2c + w) * 65536 + 0x104
/-- WLO_x_V: window 0x2c + n, 07_wall_output.md R274. -/
def wloV (w : Nat) : Nat := (0x2c + w) * 65536 + 0x108
/-- WLO_x_LINE_LO: window 0x2c + n, 07_wall_output.md R274. -/
def wloLineLo (w : Nat) : Nat := (0x2c + w) * 65536 + 0x10c
/-- WLO_x_LINE_HI: window 0x2c + n, 07_wall_output.md R274. -/
def wloLineHi (w : Nat) : Nat := (0x2c + w) * 65536 + 0x110
/-- WLO_x_PERIOD_LO: window 0x2c + n, 07_wall_output.md R274. -/
def wloPeriodLo (w : Nat) : Nat := (0x2c + w) * 65536 + 0x114
/-- WLO_x_PERIOD_HI: window 0x2c + n, 07_wall_output.md R274. -/
def wloPeriodHi (w : Nat) : Nat := (0x2c + w) * 65536 + 0x118
/-- WLO_x_ANCHOR_LO: window 0x2c + n, 07_wall_output.md R274. -/
def wloAnchorLo (w : Nat) : Nat := (0x2c + w) * 65536 + 0x11c
/-- WLO_x_ANCHOR_HI: window 0x2c + n, 07_wall_output.md R274. -/
def wloAnchorHi (w : Nat) : Nat := (0x2c + w) * 65536 + 0x120
/-- WLO_x_FREF_OFFSET: window 0x2c + n, 07_wall_output.md R274. -/
def wloFrefOffset (w : Nat) : Nat := (0x2c + w) * 65536 + 0x124
/-- WLO_x_FADDR_LO: window 0x2c + n, 07_wall_output.md R274. -/
def wloFaddrLo (w : Nat) : Nat := (0x2c + w) * 65536 + 0x128
/-- WLO_x_FADDR_HI: window 0x2c + n, 07_wall_output.md R274. -/
def wloFaddrHi (w : Nat) : Nat := (0x2c + w) * 65536 + 0x12c
/-- WLO_x_FHDR_LO: window 0x2c + n, 07_wall_output.md R274. -/
def wloFhdrLo (w : Nat) : Nat := (0x2c + w) * 65536 + 0x130
/-- WLO_x_FHDR_HI: window 0x2c + n, 07_wall_output.md R274. -/
def wloFhdrHi (w : Nat) : Nat := (0x2c + w) * 65536 + 0x134
/-- WLO_x_FSTRIDE: window 0x2c + n, 07_wall_output.md R274. -/
def wloFstride (w : Nat) : Nat := (0x2c + w) * 65536 + 0x138
/-- WLO_x_WATCH_POS: window 0x2c + n, 07_wall_output.md R268. -/
def wloWatchPos (w : Nat) : Nat := (0x2c + w) * 65536 + 0x13c
/-- WLO_x_WATCH_SIZE: window 0x2c + n, 07_wall_output.md R268. -/
def wloWatchSize (w : Nat) : Nat := (0x2c + w) * 65536 + 0x140
/-- WLO_x_FREEZE: window 0x2c + n, 07_wall_output.md R268. -/
def wloFreeze (w : Nat) : Nat := (0x2c + w) * 65536 + 0x144
/-- WLO_x_CTRL (active): window 0x2c + n, 07_wall_output.md R274. -/
def wloActCtrl (w : Nat) : Nat := (0x2c + w) * 65536 + 0x180
/-- WLO_x active block, word k = 1-17: window 0x2c + n, 07_wall_output.md R274. -/
def wloAct (w i : Nat) : Nat := (0x2c + w) * 65536 + 0x184 + 4 * i
/-- WLO_x_SNAP_k: window 0x2c + n, 07_wall_output.md R274. -/
def wloSnap (w i : Nat) : Nat := (0x2c + w) * 65536 + 0x200 + 4 * i
/-- WLO_SH_MAP_b: window 0x2e, 07_wall_output.md R274. -/
def wloShMap (i : Nat) : Nat := 0x2e0000 + 0x0 + 4 * i
/-- WLO_SH_DENIED: window 0x2e, 07_wall_output.md R261. -/
def wloShDenied : Nat := 0x2e0008
/-- WLO_SH_CLIP: window 0x2e, 07_wall_output.md R260. -/
def wloShClip : Nat := 0x2e000c
/-- WLO_SH_LOAD_b_l: window 0x2e, 07_wall_output.md R274. -/
def wloShLoad (i j : Nat) : Nat := 0x2e0000 + 0x100 + 96 * i + 4 * j
/-- LNX_Qq_CAP: window 0x30 + q, 08_lanes_tile_link.md R308. -/
def lnxCap (w : Nat) : Nat := (0x30 + w) * 65536 + 0x0
/-- LNX_Qq_STATUS: window 0x30 + q, 08_lanes_tile_link.md R308. -/
def lnxStatus (w : Nat) : Nat := (0x30 + w) * 65536 + 0x4
/-- LNX_Qq_Lk_TX: window 0x30 + q, 08_lanes_tile_link.md R279. -/
def lnxTx (w i : Nat) : Nat := (0x30 + w) * 65536 + 0x10 + 16 * i
/-- LNX_Qq_Lk_RX: window 0x30 + q, 08_lanes_tile_link.md R280. -/
def lnxRx (w i : Nat) : Nat := (0x30 + w) * 65536 + 0x14 + 16 * i
/-- LNX_Qq_Lk_DFE_A: window 0x30 + q, 08_lanes_tile_link.md R280. -/
def lnxDfeA (w i : Nat) : Nat := (0x30 + w) * 65536 + 0x18 + 16 * i
/-- LNX_Qq_Lk_DFE_B: window 0x30 + q, 08_lanes_tile_link.md R280. -/
def lnxDfeB (w i : Nat) : Nat := (0x30 + w) * 65536 + 0x1c + 16 * i
/-- LNX_Qq_EQ_TX_k: window 0x30 + q, 08_lanes_tile_link.md R23. -/
def lnxEqTx (w i : Nat) : Nat := (0x30 + w) * 65536 + 0x80 + 4 * i
/-- LNX_Qq_EQ_RX_k: window 0x30 + q, 08_lanes_tile_link.md R23. -/
def lnxEqRx (w i : Nat) : Nat := (0x30 + w) * 65536 + 0x90 + 4 * i
/-- LNX_SH_CAP: window 0x3d, 08_lanes_tile_link.md R308. -/
def lnxShCap : Nat := 0x3d0000
/-- LNX_SH_UP: window 0x3d, 08_lanes_tile_link.md R308. -/
def lnxShUp : Nat := 0x3d0004
/-- LNX_SH_RXLOCK: window 0x3d, 08_lanes_tile_link.md R308. -/
def lnxShRxlock : Nat := 0x3d0008
/-- LNX_SH_GUARD: window 0x3d, 08_lanes_tile_link.md R308. -/
def lnxShGuard : Nat := 0x3d000c
/-- Where the registers of wall lane `i` begin: window 0x3d, 08_lanes_tile_link.md R308. Those of WL_16 have the offsets of LNX_SH_SNAP_0 to
_3; the snapshot is what a read there shows, and WL_16's are kept at offsets that nothing reads (DESIGN CHOICE, log entry 35). -/
def lnxWl (i : Nat) : Nat := if i = 16 then 0x3e0200 else 0x3d0100 + 16 * i
/-- LNX_WL_l_STATUS: 08_lanes_tile_link.md R308. -/
def lnxWlStatus (i : Nat) : Nat := lnxWl i
/-- LNX_WL_l_COUNT0: window 0x3d, 08_lanes_tile_link.md R304. -/
def lnxWlCount0 (i : Nat) : Nat := lnxWl i + 4
/-- LNX_WL_l_COUNT1: window 0x3d, 08_lanes_tile_link.md R305. -/
def lnxWlCount1 (i : Nat) : Nat := lnxWl i + 8
/-- LNX_WL_l_SEQ: window 0x3d, 08_lanes_tile_link.md R308. -/
def lnxWlSeq (i : Nat) : Nat := lnxWl i + 12
/-- LNX_SH_SNAP_k: window 0x3d, 08_lanes_tile_link.md R308. -/
def lnxShSnap (i : Nat) : Nat := 0x3d0000 + 0x200 + 4 * i
/-- VCX_x_CAP: window 0x40 + n, 09_codec.md R353. -/
def vcxCap (w : Nat) : Nat := (0x40 + w) * 65536 + 0x0
/-- VCX_x_STATUS: window 0x40 + n, 09_codec.md R353. -/
def vcxStatus (w : Nat) : Nat := (0x40 + w) * 65536 + 0x4
/-- VCX_x_CTX_VALID: window 0x40 + n, 09_codec.md R353. -/
def vcxCtxValid (w : Nat) : Nat := (0x40 + w) * 65536 + 0x8
/-- VCX_x_CTX_KIND: window 0x40 + n, 09_codec.md R353. -/
def vcxCtxKind (w : Nat) : Nat := (0x40 + w) * 65536 + 0xc
/-- VCX_x_FLOOR: window 0x40 + n, 09_codec.md R353. -/
def vcxFloor (w : Nat) : Nat := (0x40 + w) * 65536 + 0x10
/-- VCX_x_DAMAGE: window 0x40 + n, 09_codec.md R353. -/
def vcxDamage (w : Nat) : Nat := (0x40 + w) * 65536 + 0x14
/-- VCX_x_MIRROR: window 0x40 + n, 09_codec.md R338. -/
def vcxMirror (w : Nat) : Nat := (0x40 + w) * 65536 + 0x18
/-- VCX_x_HASH: window 0x40 + n, 09_codec.md R336. -/
def vcxHash (w : Nat) : Nat := (0x40 + w) * 65536 + 0x1c
/-- VCX_x_WAIT_THRESH: window 0x40 + n, 09_codec.md R353. -/
def vcxWaitThresh (w : Nat) : Nat := (0x40 + w) * 65536 + 0x20
/-- VCX_x_PICTURES: window 0x40 + n, 09_codec.md R353. -/
def vcxPictures (w : Nat) : Nat := (0x40 + w) * 65536 + 0x24
/-- VCX_x_SNAP_k: window 0x40 + n, 09_codec.md R353. -/
def vcxSnap (w i : Nat) : Nat := (0x40 + w) * 65536 + 0x100 + 4 * i
/-- LPK_n_CAP: window 0x44 + n, 10_recording_replay.md R373. -/
def lpkCap (w : Nat) : Nat := (0x44 + w) * 65536 + 0x0
/-- LPK_n_STATUS: window 0x44 + n, 10_recording_replay.md R373. -/
def lpkStatus (w : Nat) : Nat := (0x44 + w) * 65536 + 0x4
/-- LPK_n_COUNT0: window 0x44 + n, 10_recording_replay.md R373. -/
def lpkCount0 (w : Nat) : Nat := (0x44 + w) * 65536 + 0x8
/-- LPK_n_COUNT1: window 0x44 + n, 10_recording_replay.md R373. -/
def lpkCount1 (w : Nat) : Nat := (0x44 + w) * 65536 + 0xc
/-- LPK_n_FRAMES: window 0x44 + n, 10_recording_replay.md R373. -/
def lpkFrames (w : Nat) : Nat := (0x44 + w) * 65536 + 0x10
/-- LPK_n_SNAP_k: window 0x44 + n, 10_recording_replay.md R373. -/
def lpkSnap (w i : Nat) : Nat := (0x44 + w) * 65536 + 0x100 + 4 * i
/-- CLS_CAP: window 0x46, 10_recording_replay.md R401. -/
def clsCap : Nat := 0x460000
/-- CLS_STATUS: window 0x46, 10_recording_replay.md R401. -/
def clsStatus : Nat := 0x460004
/-- CLS_CTRL: window 0x46, 10_recording_replay.md R390. -/
def clsCtrl : Nat := 0x460008
/-- CLS_WB: window 0x46, 10_recording_replay.md R401. -/
def clsWb : Nat := 0x46000c
/-- CLS_LOST: window 0x46, 10_recording_replay.md R401. -/
def clsLost : Nat := 0x460010
/-- CLS_AGE_THRESH: window 0x46, 10_recording_replay.md R388. -/
def clsAgeThresh : Nat := 0x460014
/-- CLS_HQ_n_CTRL: window 0x46, 10_recording_replay.md R401. -/
def clsHqCtrl (i : Nat) : Nat := 0x460000 + 0x100 + 64 * i
/-- CLS_HQ_n_SQ_BASE_LO: window 0x46, 10_recording_replay.md R401. -/
def clsHqSqLo (i : Nat) : Nat := 0x460000 + 0x104 + 64 * i
/-- CLS_HQ_n_SQ_BASE_HI: window 0x46, 10_recording_replay.md R401. -/
def clsHqSqHi (i : Nat) : Nat := 0x460000 + 0x108 + 64 * i
/-- CLS_HQ_n_SQ_SIZE: window 0x46, 10_recording_replay.md R401. -/
def clsHqSqSize (i : Nat) : Nat := 0x460000 + 0x10c + 64 * i
/-- CLS_HQ_n_CQ_BASE_LO: window 0x46, 10_recording_replay.md R401. -/
def clsHqCqLo (i : Nat) : Nat := 0x460000 + 0x110 + 64 * i
/-- CLS_HQ_n_CQ_BASE_HI: window 0x46, 10_recording_replay.md R401. -/
def clsHqCqHi (i : Nat) : Nat := 0x460000 + 0x114 + 64 * i
/-- CLS_HQ_n_CQ_SIZE: window 0x46, 10_recording_replay.md R401. -/
def clsHqCqSize (i : Nat) : Nat := 0x460000 + 0x118 + 64 * i
/-- CLS_HQ_n_SQ_TAIL: window 0x46, 10_recording_replay.md R386. -/
def clsHqSqTail (i : Nat) : Nat := 0x460000 + 0x11c + 64 * i
/-- CLS_HQ_n_SQ_HEAD: window 0x46, 10_recording_replay.md R386. -/
def clsHqSqHead (i : Nat) : Nat := 0x460000 + 0x120 + 64 * i
/-- CLS_HQ_n_CQ_HEAD: window 0x46, 10_recording_replay.md R386. -/
def clsHqCqHead (i : Nat) : Nat := 0x460000 + 0x124 + 64 * i
/-- CLS_HQ_n_CQ_TAIL: window 0x46, 10_recording_replay.md R386. -/
def clsHqCqTail (i : Nat) : Nat := 0x460000 + 0x128 + 64 * i
/-- CLS_HQ_n_OLDEST: window 0x46, 10_recording_replay.md R388. -/
def clsHqOldest (i : Nat) : Nat := 0x460000 + 0x12c + 64 * i
/-- CLS_SNAP_k: window 0x46, 10_recording_replay.md R401. -/
def clsSnap (i : Nat) : Nat := 0x460000 + 0x400 + 4 * i
/-- CLS_RP_r_STATUS: window 0x47, 10_recording_replay.md R401. -/
def clsRpStatus (i : Nat) : Nat := 0x470000 + 0x0 + 256 * i
/-- CLS_RP_r_CAP_LO: window 0x47, 10_recording_replay.md R401. -/
def clsRpCapLo (i : Nat) : Nat := 0x470000 + 0x4 + 256 * i
/-- CLS_RP_r_CAP_HI: window 0x47, 10_recording_replay.md R401. -/
def clsRpCapHi (i : Nat) : Nat := 0x470000 + 0x8 + 256 * i
/-- CLS_RP_r_TIMEOUT: window 0x47, 10_recording_replay.md R395. -/
def clsRpTimeout (i : Nat) : Nat := 0x470000 + 0xc + 256 * i
/-- CLS_RP_r_ERRORS: window 0x47, 10_recording_replay.md R401. -/
def clsRpErrors (i : Nat) : Nat := 0x470000 + 0x10 + 256 * i
/-- CLS_RP_r_OUTSTANDING: window 0x47, 10_recording_replay.md R401. -/
def clsRpOutstanding (i : Nat) : Nat := 0x470000 + 0x14 + 256 * i
/-- CLS_RP_r_HEALTH: window 0x47, 10_recording_replay.md R393. -/
def clsRpHealth (i : Nat) : Nat := 0x470000 + 0x18 + 256 * i
/-- MEM_x_CAP: window 0x58 + n, 11_memory.md R426. -/
def memCap (w : Nat) : Nat := (0x58 + w) * 65536 + 0x0
/-- MEM_x_STATUS: window 0x58 + n, 11_memory.md R426. -/
def memStatus (w : Nat) : Nat := (0x58 + w) * 65536 + 0x4
/-- MEM_x_PC_FAILED: window 0x58 + n, 11_memory.md R426. -/
def memPcFailed (w : Nat) : Nat := (0x58 + w) * 65536 + 0x8
/-- MEM_x_REPAIRED: window 0x58 + n, 11_memory.md R426. -/
def memRepaired (w : Nat) : Nat := (0x58 + w) * 65536 + 0xc
/-- MEM_x_REPLAY: window 0x58 + n, 11_memory.md R426. -/
def memReplay (w : Nat) : Nat := (0x58 + w) * 65536 + 0x10
/-- MEM_x_READ_RETRY: window 0x58 + n, 11_memory.md R426. -/
def memReadRetry (w : Nat) : Nat := (0x58 + w) * 65536 + 0x14
/-- MEM_x_ADDR_FAULT: window 0x58 + n, 11_memory.md R426. -/
def memAddrFault (w : Nat) : Nat := (0x58 + w) * 65536 + 0x18
/-- MEM_x_LAST_ERR_LO: window 0x58 + n, 11_memory.md R426. -/
def memLastErrLo (w : Nat) : Nat := (0x58 + w) * 65536 + 0x1c
/-- MEM_x_LAST_ERR_HI: window 0x58 + n, 11_memory.md R426. -/
def memLastErrHi (w : Nat) : Nat := (0x58 + w) * 65536 + 0x20
/-- MEM_x_AGED: window 0x58 + n, 11_memory.md R426. -/
def memAged (w : Nat) : Nat := (0x58 + w) * 65536 + 0x24
/-- MEM_x_SNAP_k: window 0x58 + n, 11_memory.md R426. -/
def memSnap (w i : Nat) : Nat := (0x58 + w) * 65536 + 0x100 + 4 * i
/-- MEM_MAP: window 0x58, 11_memory.md R405. -/
def memMap : Nat := 0x580040
/-- MEM_SCHED: window 0x58, 11_memory.md R408. -/
def memSched : Nat := 0x580044
/-- MEM_SCRUB: window 0x58, 11_memory.md R420. -/
def memScrub : Nat := 0x580048
/-- MEM_SCRUB_PASSES: window 0x58, 11_memory.md R420. -/
def memScrubPasses : Nat := 0x58004c
/-- MEM_RETRAIN: window 0x58, 11_memory.md R415. -/
def memRetrain : Nat := 0x580050
/-- COMB_CAP: window 0x5a, 11_memory.md R426. -/
def combCap : Nat := 0x5a0000
/-- COMB_SCRUB: window 0x5a, 11_memory.md R423. -/
def combScrub : Nat := 0x5a0004
/-- BCN_CAP: window 0xc, 12_time_cascade.md R461. -/
def bcnCap : Nat := 0xc0000
/-- BCN_STATUS: window 0xc, 12_time_cascade.md R461. -/
def bcnStatus : Nat := 0xc0004
/-- BCN_NOW_NS: window 0xc, 12_time_cascade.md R429. -/
def bcnNowNs : Nat := 0xc0008
/-- BCN_NOW_FRAC: window 0xc, 12_time_cascade.md R429. -/
def bcnNowFrac : Nat := 0xc000c
/-- BCN_WRAP: window 0xc, 12_time_cascade.md R429. -/
def bcnWrap : Nat := 0xc0010
/-- BCN_INC: window 0xc, 12_time_cascade.md R430. -/
def bcnInc : Nat := 0xc0014
/-- BCN_STEP_LO: window 0xc, 12_time_cascade.md R431. -/
def bcnStepLo : Nat := 0xc0018
/-- BCN_STEP_HI: window 0xc, 12_time_cascade.md R431. -/
def bcnStepHi : Nat := 0xc001c
/-- BCN_PTP_BASE_LO: window 0xc, 12_time_cascade.md R432. -/
def bcnPtpBaseLo : Nat := 0xc0020
/-- BCN_PTP_BASE_HI: window 0xc, 12_time_cascade.md R432. -/
def bcnPtpBaseHi : Nat := 0xc0024
/-- BCN_TRIG_ACTED: window 0xc, 12_time_cascade.md R433. -/
def bcnTrigActed : Nat := 0xc0040
/-- BCN_TRIG_n_CTRL: window 0xc, 12_time_cascade.md R433. -/
def bcnTrigCtrl (i : Nat) : Nat := 0xc0000 + 0x100 + 16 * i
/-- BCN_TRIG_n_TIME: window 0xc, 12_time_cascade.md R434. -/
def bcnTrigTime (i : Nat) : Nat := 0xc0000 + 0x104 + 16 * i
/-- BCN_TRIG_n_STATE: window 0xc, 12_time_cascade.md R434. -/
def bcnTrigState (i : Nat) : Nat := 0xc0000 + 0x108 + 16 * i
/-- BCN_TRIG_n_ARM: window 0xc, 12_time_cascade.md R434. -/
def bcnTrigArm (i : Nat) : Nat := 0xc0000 + 0x10c + 16 * i
/-- BCN_TRIG_LAST_n: window 0xc, 12_time_cascade.md R433. -/
def bcnTrigLast (i : Nat) : Nat := 0xc0000 + 0x200 + 4 * i
/-- BCN_SNAP_k: window 0xc, 12_time_cascade.md R461. -/
def bcnSnap (i : Nat) : Nat := 0xc0000 + 0x300 + 4 * i
/-- BCN_ETH_p_STATUS: window 0xd, 12_time_cascade.md R435. -/
def ethStatus (i : Nat) : Nat := 0xd0000 + 0x0 + 64 * i
/-- BCN_ETH_p_LAT: window 0xd, 12_time_cascade.md R438. -/
def ethLat (i : Nat) : Nat := 0xd0000 + 0x4 + 64 * i
/-- BCN_ETH_p_ASYM: window 0xd, 12_time_cascade.md R438. -/
def ethAsym (i : Nat) : Nat := 0xd0000 + 0x8 + 64 * i
/-- BCN_ETH_p_COUNT0: window 0xd, 12_time_cascade.md R461. -/
def ethCount0 (i : Nat) : Nat := 0xd0000 + 0xc + 64 * i
/-- BCN_ETH_p_COUNT1: window 0xd, 12_time_cascade.md R461. -/
def ethCount1 (i : Nat) : Nat := 0xd0000 + 0x10 + 64 * i
/-- BCN_RTP_s_STATE: window 0xe, 12_time_cascade.md R441. -/
def rtpState (i : Nat) : Nat := 0xe0000 + 0x0 + 16 * i
/-- BCN_RTP_s_PACKETS: window 0xe, 12_time_cascade.md R441. -/
def rtpPackets (i : Nat) : Nat := 0xe0000 + 0x4 + 16 * i
/-- BCN_RTP_s_OCTETS: window 0xe, 12_time_cascade.md R441. -/
def rtpOctets (i : Nat) : Nat := 0xe0000 + 0x8 + 16 * i
/-- CAS_CAP: window 0x10, 12_time_cascade.md R461. -/
def casCap : Nat := 0x100000
/-- CAS_STATUS: window 0x10, 12_time_cascade.md R461. -/
def casStatus : Nat := 0x100004
/-- CAS_TERM: window 0x10, 12_time_cascade.md R451. -/
def casTerm : Nat := 0x100008
/-- CAS_LINK_d_STATUS: window 0x10, 12_time_cascade.md R461. -/
def casLinkStatus (i : Nat) : Nat := 0x100000 + 0x10 + 8 * i
/-- CAS_LINK_d_DELAY: window 0x10, 12_time_cascade.md R450. -/
def casLinkDelay (i : Nat) : Nat := 0x100000 + 0x14 + 8 * i
/-- CAS_GRID_ANCHOR_LO: window 0x10, 12_time_cascade.md R449. -/
def casGridAnchorLo : Nat := 0x100020
/-- CAS_GRID_ANCHOR_HI: window 0x10, 12_time_cascade.md R449. -/
def casGridAnchorHi : Nat := 0x100024
/-- CAS_GRID_PERIOD_LO: window 0x10, 12_time_cascade.md R449. -/
def casGridPeriodLo : Nat := 0x100028
/-- CAS_GRID_PERIOD_HI: window 0x10, 12_time_cascade.md R449. -/
def casGridPeriodHi : Nat := 0x10002c
/-- CAS_GRID_FRAME: window 0x10, 12_time_cascade.md R449. -/
def casGridFrame : Nat := 0x100030
/-- CAS_WAGGLE_ORIGIN_LO, _HI, CORR_LO, _HI, ARRIVAL_LO, _HI (k = 0-5): window 0x10, 12_time_cascade.md R450. -/
def casWaggle (i : Nat) : Nat := 0x100000 + 0x34 + 4 * i
/-- CAS_LEAD: window 0x10, 12_time_cascade.md R454. -/
def casLead : Nat := 0x10004c
/-- CAS_COUNT0: window 0x10, 12_time_cascade.md R461. -/
def casCount0 : Nat := 0x100050
/-- CAS_COUNT1: window 0x10, 12_time_cascade.md R461. -/
def casCount1 : Nat := 0x100054
/-- CAS_COMMIT_LAST: window 0x10, 12_time_cascade.md R456. -/
def casCommitLast : Nat := 0x100058
/-- CAS_COMMIT_FRAME: window 0x10, 12_time_cascade.md R456. -/
def casCommitFrame : Nat := 0x10005c
/-- CAS_SNAP_k: window 0x10, 12_time_cascade.md R461. -/
def casSnap (i : Nat) : Nat := 0x100000 + 0x100 + 4 * i
/-- CAS_EXP_s: window 0x11, 12_time_cascade.md R452. -/
def casExp (i : Nat) : Nat := 0x110000 + 0x0 + 8 * i
/-- CAS_IMP_s: window 0x11, 12_time_cascade.md R453. -/
def casImp (i : Nat) : Nat := 0x110000 + 0x200 + 8 * i
/-- HCI_CAP: window 0x0, 13_host_control_buses.md R487. -/
def hciCap : Nat := 0x4
/-- HCI_PCIE_STATUS: window 0x0, 13_host_control_buses.md R487. -/
def hciPcieStatus : Nat := 0x8
/-- HCI_BAR4_BASE: window 0x0, 13_host_control_buses.md R466. -/
def hciBar4Base : Nat := 0xc
/-- HCI_BOOT_STATUS: window 0x0, 13_host_control_buses.md R487. -/
def hciBootStatus : Nat := 0x10
/-- MSI-X table entry v, dword k: window 0x1, 13_host_control_buses.md R487. -/
def msixTable (i j : Nat) : Nat := 0x10000 + 0x0 + 16 * i + 4 * j
/-- MSI-X PBA dword k: window 0x1, 13_host_control_buses.md R487. -/
def msixPba (i : Nat) : Nat := 0x10000 + 0x1000 + 4 * i
/-- HCI_TW_n_CTRL: window 0x2, 13_host_control_buses.md R477. -/
def twCtrl (i : Nat) : Nat := 0x20000 + 0x0 + 64 * i
/-- HCI_TW_n_TIMING0: window 0x2, 13_host_control_buses.md R473. -/
def twTiming0 (i : Nat) : Nat := 0x20000 + 0x4 + 64 * i
/-- HCI_TW_n_TIMING1: window 0x2, 13_host_control_buses.md R473. -/
def twTiming1 (i : Nat) : Nat := 0x20000 + 0x8 + 64 * i
/-- HCI_TW_n_TIMING2: window 0x2, 13_host_control_buses.md R473. -/
def twTiming2 (i : Nat) : Nat := 0x20000 + 0xc + 64 * i
/-- HCI_TW_n_TIMEOUT: window 0x2, 13_host_control_buses.md R474. -/
def twTimeout (i : Nat) : Nat := 0x20000 + 0x10 + 64 * i
/-- HCI_TW_n_STATUS: window 0x2, 13_host_control_buses.md R487. -/
def twStatus (i : Nat) : Nat := 0x20000 + 0x14 + 64 * i
/-- HCI_TW_n_COUNT: window 0x2, 13_host_control_buses.md R487. -/
def twCount (i : Nat) : Nat := 0x20000 + 0x18 + 64 * i
/-- HCI_TW4_CFG: window 0x2, 13_host_control_buses.md R478. -/
def tw4Cfg : Nat := 0x20180
/-- HCI_TW4_STATUS: window 0x2, 13_host_control_buses.md R479. -/
def tw4Status : Nat := 0x20184
/-- HCI_TW4_INk: window 0x2, 13_host_control_buses.md R479. -/
def tw4In (i : Nat) : Nat := 0x20000 + 0x190 + 4 * i
/-- HCI_TW4_OUTk: window 0x2, 13_host_control_buses.md R479. -/
def tw4Out (i : Nat) : Nat := 0x20000 + 0x1a0 + 4 * i
/-- HCI_PMBUS: window 0x2, 13_host_control_buses.md R481. -/
def hciPmbus : Nat := 0x20200
/-- HCI_GPIO_DIR: window 0x3, 13_host_control_buses.md R484. -/
def gpioDir : Nat := 0x30000
/-- HCI_GPIO_OUT: window 0x3, 13_host_control_buses.md R484. -/
def gpioOut : Nat := 0x30004
/-- HCI_GPIO_IN: window 0x3, 13_host_control_buses.md R484. -/
def gpioIn : Nat := 0x30008
/-- HCI_GPIO_EDGE: window 0x3, 13_host_control_buses.md R484. -/
def gpioEdge : Nat := 0x3000c
/-- HCI_GPIO_FLAGS: window 0x3, 13_host_control_buses.md R484. -/
def gpioFlags : Nat := 0x30010
/-- HCI_GPIO_WAKE: window 0x3, 13_host_control_buses.md R484. -/
def gpioWake : Nat := 0x30014
/-- HCI_FLASH_STATUS: window 0x3, 13_host_control_buses.md R487. -/
def flashStatus : Nat := 0x30100
/-- HCI_FLASH_PROT: window 0x3, 13_host_control_buses.md R471. -/
def flashProt : Nat := 0x30104
/-- FGH_CAP: window 0x4, 14_safety_power_reset.md R522. -/
def fghCap : Nat := 0x40000
/-- FGH_STATUS: window 0x4, 14_safety_power_reset.md R522. -/
def fghStatus : Nat := 0x40004
/-- FGH_CTRL: window 0x4, 14_safety_power_reset.md R522. -/
def fghCtrl : Nat := 0x40008
/-- FGH_RESET: window 0x4, 14_safety_power_reset.md R509. -/
def fghReset : Nat := 0x4000c
/-- FGH_POWER: window 0x4, 14_safety_power_reset.md R507. -/
def fghPower : Nat := 0x40010
/-- FGH_WDOG: window 0x4, 14_safety_power_reset.md R509. -/
def fghWdog : Nat := 0x40014
/-- FGH_KICK: window 0x4, 14_safety_power_reset.md R509. -/
def fghKick : Nat := 0x40018
/-- FGH_LOST_0: window 0x4, 14_safety_power_reset.md R497. -/
def fghLost0 : Nat := 0x4001c
/-- FGH_LOST_1: window 0x4, 14_safety_power_reset.md R497. -/
def fghLost1 : Nat := 0x40020
/-- FGH_INTAKE: window 0x4, 14_safety_power_reset.md R496. -/
def fghIntake : Nat := 0x40024
/-- FGH_LOG_HEAD: window 0x4, 14_safety_power_reset.md R499. -/
def fghLogHead : Nat := 0x40028
/-- FGH_PINNED: window 0x4, 14_safety_power_reset.md R499. -/
def fghPinned : Nat := 0x4002c
/-- FGH_PIN_CLEAR: window 0x4, 14_safety_power_reset.md R499. -/
def fghPinClear : Nat := 0x40030
/-- FGH_SELFTEST: window 0x4, 14_safety_power_reset.md R492. -/
def fghSelftest : Nat := 0x40034
/-- FGH_SUPPLY_CFG: window 0x4, 14_safety_power_reset.md R512. -/
def fghSupplyCfg : Nat := 0x40038
/-- FGH_SUPPLY_STATUS: window 0x4, 14_safety_power_reset.md R512. -/
def fghSupplyStatus : Nat := 0x4003c
/-- FGH_THERM_CFG: window 0x4, 14_safety_power_reset.md R517. -/
def fghThermCfg : Nat := 0x40040
/-- FGH_THERM_STATUS: window 0x4, 14_safety_power_reset.md R517. -/
def fghThermStatus : Nat := 0x40044
/-- FGH_TDIE: window 0x4, 14_safety_power_reset.md R515. -/
def fghTdie : Nat := 0x40048
/-- FGH_TS_n: window 0x4, 14_safety_power_reset.md R515. -/
def fghTs (i : Nat) : Nat := 0x40000 + 0x80 + 4 * i
/-- FGH_PD_STATUS: window 0x4, 14_safety_power_reset.md R504. -/
def fghPdStatus : Nat := 0x400c0
/-- FGH_PD_AUTO: window 0x4, 14_safety_power_reset.md R504. -/
def fghPdAuto : Nat := 0x400c4
/-- FGH_PD_RESTARTS: window 0x4, 14_safety_power_reset.md R504. -/
def fghPdRestarts : Nat := 0x400c8
/-- FGH_WAKE_CFG: window 0x4, 14_safety_power_reset.md R508. -/
def fghWakeCfg : Nat := 0x400d0
/-- FGH_WAKE_CAUSE: window 0x4, 14_safety_power_reset.md R508. -/
def fghWakeCause : Nat := 0x400d4
/-- FGH_WAKE_TIME_LO: window 0x4, 14_safety_power_reset.md R508. -/
def fghWakeTimeLo : Nat := 0x400d8
/-- FGH_WAKE_TIME_HI: window 0x4, 14_safety_power_reset.md R508. -/
def fghWakeTimeHi : Nat := 0x400dc
/-- FGH_DOZE_RESTORE: window 0x4, 14_safety_power_reset.md R508. -/
def fghDozeRestore : Nat := 0x400e0
/-- FGH_SNAP_TRIG: window 0x4, 14_safety_power_reset.md R501. -/
def fghSnapTrig : Nat := 0x400f0
/-- FGH_SNAP_SEQ: window 0x4, 14_safety_power_reset.md R501. -/
def fghSnapSeq : Nat := 0x400f4
/-- FGH_SNAP_TIME_LO: window 0x4, 14_safety_power_reset.md R501. -/
def fghSnapTimeLo : Nat := 0x400f8
/-- FGH_SNAP_TIME_HI: window 0x4, 14_safety_power_reset.md R501. -/
def fghSnapTimeHi : Nat := 0x400fc
/-- FGH_SNAP_CAUSE: window 0x4, 14_safety_power_reset.md R501. -/
def fghSnapCause : Nat := 0x40110
/-- FGH_SNAP_k: window 0x4, 14_safety_power_reset.md R501. -/
def fghSnap (i : Nat) : Nat := 0x40000 + 0x200 + 4 * i
/-- KPR_CAP: window 0x8, 15_security.md R550. -/
def kprCap : Nat := 0x80000
/-- KPR_STATUS: window 0x8, 15_security.md R550. -/
def kprStatus : Nat := 0x80004
/-- KPR_FW: window 0x8, 15_security.md R550. -/
def kprFw : Nat := 0x80008
/-- KPR_SLOTS: window 0x8, 15_security.md R550. -/
def kprSlots : Nat := 0x8000c
/-- KPR_MB_CTRL: window 0x8, 15_security.md R546. -/
def kprMbCtrl : Nat := 0x80010
/-- KPR_COUNT: window 0x8, 15_security.md R550. -/
def kprCount : Nat := 0x80014
/-- KPR_TAMPER: window 0x8, 15_security.md R544. -/
def kprTamper : Nat := 0x80018
/-- KPR_PROT_n base (k=0), size (k=1): window 0x8, 15_security.md R535. -/
def kprProt (i j : Nat) : Nat := 0x80000 + 0x40 + 8 * i + 4 * j
/-- KPR_SNAP_k: window 0x8, 15_security.md R550. -/
def kprSnap (i : Nat) : Nat := 0x80000 + 0x100 + 4 * i
/-- KPR_MB_REQ: window 0x8, 15_security.md R546. -/
def kprMbReq (i : Nat) : Nat := 0x80000 + 0x1000 + 4 * i
/-- KPR_MB_RESP: window 0x8, 15_security.md R546. -/
def kprMbResp (i : Nat) : Nat := 0x80000 + 0x1100 + 4 * i
/-- <W>_DOMAIN: window 0x0 + w, 01_fabric.md R51. -/
def cbDomain (w : Nat) : Nat := w * 65536 + 0xfc00
/-- <W>_ECC_THRESH: window 0x0 + w, 01_fabric.md R51. -/
def cbEccThresh (w : Nat) : Nat := w * 65536 + 0xfc04
/-- <W>_STALL: window 0x0 + w, 01_fabric.md R51. -/
def cbStall (w : Nat) : Nat := w * 65536 + 0xfc08
/-- <W>_LOST_n: window 0x0 + w, 01_fabric.md R51. -/
def cbLost (w i : Nat) : Nat := w * 65536 + 0xfd00 + 4 * i
/-- <W>_PACE_CTRL_n: window 0x0 + w, 01_fabric.md R51. -/
def cbPaceCtrl (w i : Nat) : Nat := w * 65536 + 0xfe00 + 16 * i
/-- <W>_PACE_NOW_n: window 0x0 + w, 01_fabric.md R51. -/
def cbPaceNow (w i : Nat) : Nat := w * 65536 + 0xfe04 + 16 * i
/-- <W>_PACE_MIN_n: window 0x0 + w, 01_fabric.md R51. -/
def cbPaceMin (w i : Nat) : Nat := w * 65536 + 0xfe08 + 16 * i
/-- <W>_PACE_DECL_n: window 0x0 + w, 01_fabric.md R51. -/
def cbPaceDecl (w i : Nat) : Nat := w * 65536 + 0xfe0c + 16 * i
/-- <W>_ECC_n: window 0x0 + w, 01_fabric.md R51. -/
def cbEcc (w i : Nat) : Nat := w * 65536 + 0xff00 + 4 * i
end Reg

/-- The registers of the hci windows. -/
def regRowsHci : List RegRow :=
  [ ⟨0x0, 1, 0x0, [], 0x0, 0x0, 0x9760b000⟩,
    ⟨0x0, 1, 0x4, [], 0x0, 0x0, 0xe8428000⟩,
    ⟨0x0, 1, 0x8, [], 0x0, 0xc00000, 0x0⟩,
    ⟨0x0, 1, 0xc, [], 0x3f, 0x0, 0x0⟩,
    ⟨0x0, 1, 0x10, [], 0x0, 0x0, 0xff⟩,
    ⟨0x1, 1, 0x0, [(16, 256), (4, 4)], 0xffffffff, 0x0, 0x0⟩,
    ⟨0x1, 1, 0x1000, [(4, 8)], 0x0, 0x0, 0x0⟩,
    ⟨0x2, 1, 0x0, [(64, 6)], 0x70000000, 0x0, 0x30000000⟩,
    ⟨0x2, 1, 0x4, [(64, 6)], 0xffffffff, 0x0, 0x4b0032⟩,
    ⟨0x2, 1, 0x8, [(64, 6)], 0xffffffff, 0x0, 0xf232323⟩,
    ⟨0x2, 1, 0xc, [(64, 6)], 0xff000000, 0x0, 0x46000000⟩,
    ⟨0x2, 1, 0x10, [(64, 6)], 0xffffffff, 0x0, 0x61a861a8⟩,
    ⟨0x2, 1, 0x14, [(64, 6)], 0x0, 0x3c000000, 0x40000000⟩,
    ⟨0x2, 1, 0x18, [(64, 6)], 0x0, 0xffffffff, 0x0⟩,
    ⟨0x2, 1, 0x180, [], 0xffff0000, 0x0, 0x4e200000⟩,
    ⟨0x2, 1, 0x184, [], 0x20000000, 0xd0000000, 0x0⟩,
    ⟨0x2, 1, 0x190, [(4, 4)], 0x0, 0x0, 0x0⟩,
    ⟨0x2, 1, 0x1a0, [(4, 4)], 0xffffffff, 0x0, 0x0⟩,
    ⟨0x2, 1, 0x200, [], 0x100007f, 0x0, 0xc1000000⟩,
    ⟨0x3, 1, 0x0, [], 0xffffffff, 0x0, 0x0⟩ ] ++
  [ ⟨0x3, 1, 0x4, [], 0xffff, 0x0, 0x0⟩,
    ⟨0x3, 1, 0x8, [], 0x0, 0x0, 0x0⟩,
    ⟨0x3, 1, 0xc, [], 0xffffffff, 0x0, 0x0⟩,
    ⟨0x3, 1, 0x10, [], 0x0, 0xffff, 0x0⟩,
    ⟨0x3, 1, 0x14, [], 0xffff, 0x0, 0x0⟩,
    ⟨0x3, 1, 0x100, [], 0x0, 0x0, 0x0⟩,
    ⟨0x3, 1, 0x104, [], 0x0, 0x0, 0x0⟩ ]

/-- The registers of the fgh windows. -/
def regRowsFgh : List RegRow :=
  [ ⟨0x4, 1, 0x100, [], 0x80ffffff, 0x0, 0x80100a0a⟩,
    ⟨0x4, 1, 0x104, [], 0x3ff03ff, 0x0, 0x384028a⟩,
    ⟨0x4, 1, 0x108, [], 0x0, 0x20000000, 0x320⟩,
    ⟨0x4, 1, 0x0, [], 0x0, 0x0, 0x9e108000⟩,
    ⟨0x4, 1, 0x4, [], 0x0, 0x200000, 0x0⟩,
    ⟨0x4, 1, 0x8, [], 0xf0000000, 0x0, 0xf0000000⟩,
    ⟨0x4, 1, 0xc, [], 0x0, 0x0, 0x0⟩,
    ⟨0x4, 1, 0x10, [], 0x0, 0x0, 0x0⟩,
    ⟨0x4, 1, 0x14, [], 0x8000ffff, 0x0, 0x0⟩,
    ⟨0x4, 1, 0x18, [], 0x0, 0x0, 0x0⟩,
    ⟨0x4, 1, 0x1c, [], 0x0, 0xffffffff, 0x0⟩,
    ⟨0x4, 1, 0x20, [], 0x0, 0xffffffff, 0x0⟩,
    ⟨0x4, 1, 0x24, [], 0x0, 0x0, 0x0⟩,
    ⟨0x4, 1, 0x28, [], 0x0, 0x0, 0x0⟩,
    ⟨0x4, 1, 0x2c, [], 0x0, 0x0, 0x0⟩,
    ⟨0x4, 1, 0x30, [], 0x0, 0x0, 0x0⟩,
    ⟨0x4, 1, 0x34, [], 0x0, 0xffff, 0x0⟩,
    ⟨0x4, 1, 0x38, [], 0xffff03ff, 0x0, 0x2805028a⟩,
    ⟨0x4, 1, 0x3c, [], 0x0, 0xffff, 0x0⟩,
    ⟨0x4, 1, 0x40, [], 0xffffffff, 0x0, 0x737d0000⟩ ] ++
  [ ⟨0x4, 1, 0x44, [], 0x0, 0xffff, 0x0⟩,
    ⟨0x4, 1, 0x48, [], 0x0, 0x0, 0x0⟩,
    ⟨0x4, 1, 0x80, [(4, 16)], 0x0, 0x0, 0x0⟩,
    ⟨0x4, 1, 0xc0, [], 0x0, 0x0, 0x11f80003⟩,
    ⟨0x4, 1, 0xc4, [], 0x3fffffff, 0x0, 0x0⟩,
    ⟨0x4, 1, 0xc8, [], 0x0, 0xffff, 0x0⟩,
    ⟨0x4, 1, 0xd0, [], 0xf0000000, 0x0, 0x0⟩,
    ⟨0x4, 1, 0xd4, [], 0x0, 0x0, 0x0⟩,
    ⟨0x4, 1, 0xd8, [], 0xffffffff, 0x0, 0x0⟩,
    ⟨0x4, 1, 0xdc, [], 0xffffffff, 0x0, 0x0⟩,
    ⟨0x4, 1, 0xe0, [], 0x3fffffff, 0x0, 0x0⟩,
    ⟨0x4, 1, 0xf0, [], 0x0, 0x0, 0x0⟩,
    ⟨0x4, 1, 0xf4, [], 0x0, 0x0, 0x0⟩,
    ⟨0x4, 1, 0xf8, [], 0x0, 0x0, 0x0⟩,
    ⟨0x4, 1, 0xfc, [], 0x0, 0x0, 0x0⟩,
    ⟨0x4, 1, 0x110, [], 0x0, 0x0, 0x0⟩,
    ⟨0x4, 1, 0x200, [(4, 4)], 0x0, 0x0, 0x0⟩ ]

/-- The registers of the hive windows. -/
def regRowsHive : List RegRow :=
  [ ⟨0x48, 1, 0x10, [], 0xfffffff0, 0x0, 0x0⟩,
    ⟨0x48, 1, 0x14, [], 0xffff, 0x0, 0x0⟩,
    ⟨0x48, 1, 0x18, [], 0x0, 0x0, 0x0⟩,
    ⟨0x48, 1, 0x1c, [], 0x0, 0x0, 0x0⟩,
    ⟨0x48, 1, 0x100, [(32, 8), (4, 4)], 0xffffffff, 0x0, 0x0⟩,
    ⟨0x48, 1, 0x110, [(32, 8)], 0x0, 0x0, 0x0⟩,
    ⟨0x48, 1, 0x114, [(32, 8)], 0x0, 0x80000000, 0x0⟩,
    ⟨0x48, 1, 0x200, [(4, 4)], 0x0, 0x0, 0x0⟩,
    ⟨0x48, 1, 0x210, [], 0x0, 0x0, 0x0⟩,
    ⟨0x48, 1, 0x214, [], 0x0, 0x0, 0x0⟩,
    ⟨0x48, 1, 0x400, [(4, 30)], 0x0, 0x0, 0xf⟩,
    ⟨0x48, 1, 0x1000, [(4, 256)], 0x1eff, 0x0, 0x0⟩,
    ⟨0x50, 8, 0x0, [], 0x0, 0x0, 0x0⟩,
    ⟨0x50, 8, 0x4, [], 0x0, 0x0, 0x0⟩,
    ⟨0x50, 8, 0x8, [], 0x0, 0x0, 0x0⟩,
    ⟨0x50, 8, 0xc, [], 0x0, 0xffff, 0x0⟩,
    ⟨0x50, 8, 0x10, [(4, 4)], 0x0, 0x0, 0x0⟩ ]

/-- The registers of the spx windows. -/
def regRowsSpx : List RegRow :=
  [ ⟨0x20, 4, 0x0, [], 0x0, 0x0, 0x983c4000⟩,
    ⟨0x20, 4, 0x4, [], 0x0, 0x0, 0x0⟩,
    ⟨0x20, 4, 0x8, [], 0x0, 0x0, 0x0⟩,
    ⟨0x20, 4, 0xc, [], 0x0, 0xff000000, 0x0⟩,
    ⟨0x20, 4, 0x10, [], 0x0, 0x0, 0x0⟩,
    ⟨0x20, 4, 0x14, [], 0x0, 0xffffffff, 0x0⟩,
    ⟨0x20, 4, 0x18, [], 0x0, 0xffff, 0x0⟩,
    ⟨0x20, 4, 0x100, [(4, 4)], 0x0, 0x0, 0x0⟩ ]

/-- The registers of the rfe windows. -/
def regRowsRfe : List RegRow :=
  [ ⟨0x24, 2, 0x0, [], 0x0, 0x0, 0xf0402000⟩,
    ⟨0x24, 2, 0x4, [], 0x0, 0x0, 0x0⟩,
    ⟨0x24, 2, 0x8, [], 0x0, 0x0, 0x0⟩,
    ⟨0x24, 2, 0xc, [], 0x77, 0x0, 0x0⟩,
    ⟨0x24, 2, 0x10, [], 0x0, 0x0, 0x0⟩,
    ⟨0x24, 2, 0x14, [], 0x0, 0xffffffff, 0x0⟩,
    ⟨0x24, 2, 0x18, [], 0xffffffff, 0x0, 0x0⟩,
    ⟨0x24, 2, 0x1c, [], 0x0, 0xffff, 0x0⟩,
    ⟨0x24, 2, 0x20, [], 0xf0003fff, 0x0, 0x0⟩,
    ⟨0x24, 2, 0x30, [(4, 4)], 0xffffffff, 0x0, 0x0⟩,
    ⟨0x24, 2, 0x100, [(4, 4)], 0x0, 0x0, 0x0⟩ ]

/-- The registers of the clr windows. -/
def regRowsClr : List RegRow :=
  [ ⟨0x26, 2, 0x0, [], 0x0, 0x0, 0xe0ffc100⟩,
    ⟨0x26, 2, 0x4, [], 0x0, 0x0, 0x0⟩,
    ⟨0x26, 2, 0x8, [], 0x0, 0x0, 0x0⟩,
    ⟨0x26, 2, 0xc, [], 0xfff, 0x0, 0x0⟩,
    ⟨0x26, 2, 0x10, [], 0x0, 0x0, 0x0⟩,
    ⟨0x26, 2, 0x14, [], 0x0, 0xffffffff, 0x0⟩,
    ⟨0x26, 2, 0x18, [], 0x0, 0xffff, 0x0⟩,
    ⟨0x26, 2, 0x1c, [], 0xffff, 0xffff0000, 0x0⟩,
    ⟨0x26, 2, 0x20, [], 0xf803ffff, 0x0, 0x0⟩,
    ⟨0x26, 2, 0x30, [(4, 4)], 0xffffffff, 0x0, 0x0⟩,
    ⟨0x26, 2, 0x100, [(4, 4)], 0x0, 0x0, 0x0⟩,
    ⟨0x26, 2, 0x400, [(64, 12), (4, 9)], 0x0, 0x0, 0x0⟩ ]

/-- The registers of the cmp windows. -/
def regRowsCmp : List RegRow :=
  [ ⟨0x2a, 1, 0x20, [], 0xfc0007ff, 0x0, 0x0⟩,
    ⟨0x2a, 1, 0x30, [(4, 4)], 0xffffffff, 0x0, 0x0⟩,
    ⟨0x29, 1, 0x0, [(256, 16)], 0xcffff800, 0x0, 0x20000⟩,
    ⟨0x29, 1, 0x4, [(256, 16)], 0xffffffc0, 0x0, 0x0⟩,
    ⟨0x29, 1, 0x8, [(256, 16)], 0xffff, 0x0, 0x0⟩,
    ⟨0x29, 1, 0xc, [(256, 16)], 0xffffffc0, 0x0, 0x0⟩,
    ⟨0x29, 1, 0x10, [(256, 16)], 0xffff, 0x0, 0x0⟩,
    ⟨0x29, 1, 0x14, [(256, 16)], 0xffffff, 0x0, 0x0⟩,
    ⟨0x29, 1, 0x18, [(256, 16)], 0xffffffff, 0x0, 0x0⟩,
    ⟨0x29, 1, 0x1c, [(256, 16)], 0xffffffff, 0x0, 0x0⟩,
    ⟨0x29, 1, 0x20, [(256, 16)], 0xffffffff, 0x0, 0x0⟩,
    ⟨0x29, 1, 0x24, [(256, 16)], 0xffffffff, 0x0, 0x0⟩,
    ⟨0x29, 1, 0x28, [(256, 16)], 0xffffffff, 0x0, 0x0⟩,
    ⟨0x29, 1, 0x2c, [(256, 16)], 0xffffffff, 0x0, 0x10000⟩,
    ⟨0x29, 1, 0x30, [(256, 16)], 0xffffffff, 0x0, 0x10000⟩,
    ⟨0x29, 1, 0x34, [(256, 16)], 0xffffffff, 0x0, 0x0⟩,
    ⟨0x29, 1, 0x38, [(256, 16)], 0xffff, 0x0, 0x3c00⟩,
    ⟨0x29, 1, 0x3c, [(256, 16)], 0xffffffff, 0x0, 0x0⟩,
    ⟨0x29, 1, 0x40, [(256, 16)], 0xffffffff, 0x0, 0x0⟩,
    ⟨0x29, 1, 0x44, [(256, 16)], 0xffff, 0x0, 0x0⟩ ] ++
  [ ⟨0x29, 1, 0x80, [(256, 16)], 0x0, 0x0, 0x20000⟩,
    ⟨0x29, 1, 0x84, [(256, 16)], 0x0, 0x0, 0x0⟩,
    ⟨0x29, 1, 0x88, [(256, 16)], 0x0, 0x0, 0x0⟩,
    ⟨0x29, 1, 0x8c, [(256, 16)], 0x0, 0x0, 0x0⟩,
    ⟨0x29, 1, 0x90, [(256, 16)], 0x0, 0x0, 0x0⟩,
    ⟨0x29, 1, 0x94, [(256, 16)], 0x0, 0x0, 0x0⟩,
    ⟨0x29, 1, 0x98, [(256, 16)], 0x0, 0x0, 0x0⟩,
    ⟨0x29, 1, 0x9c, [(256, 16)], 0x0, 0x0, 0x0⟩,
    ⟨0x29, 1, 0xa0, [(256, 16)], 0x0, 0x0, 0x0⟩,
    ⟨0x29, 1, 0xa4, [(256, 16)], 0x0, 0x0, 0x0⟩,
    ⟨0x29, 1, 0xa8, [(256, 16)], 0x0, 0x0, 0x0⟩,
    ⟨0x29, 1, 0xac, [(256, 16)], 0x0, 0x0, 0x10000⟩,
    ⟨0x29, 1, 0xb0, [(256, 16)], 0x0, 0x0, 0x10000⟩,
    ⟨0x29, 1, 0xb4, [(256, 16)], 0x0, 0x0, 0x0⟩,
    ⟨0x29, 1, 0xb8, [(256, 16)], 0x0, 0x0, 0x3c00⟩,
    ⟨0x29, 1, 0xbc, [(256, 16)], 0x0, 0x0, 0x0⟩,
    ⟨0x29, 1, 0xc0, [(256, 16)], 0x0, 0x0, 0x0⟩,
    ⟨0x29, 1, 0xc4, [(256, 16)], 0x0, 0x0, 0x0⟩,
    ⟨0x28, 1, 0x0, [], 0x0, 0x0, 0xc47f4086⟩,
    ⟨0x28, 1, 0x4, [], 0x0, 0x0, 0x0⟩ ] ++
  [ ⟨0x28, 1, 0x8, [(8, 2)], 0xffffffff, 0x0, 0x0⟩,
    ⟨0x28, 1, 0xc, [(8, 2)], 0xff00ffff, 0x0, 0x20000000⟩,
    ⟨0x28, 1, 0x18, [(8, 2)], 0x0, 0x0, 0x0⟩,
    ⟨0x28, 1, 0x1c, [(8, 2)], 0x0, 0x0, 0x20000000⟩,
    ⟨0x28, 1, 0x30, [(4, 2)], 0x0, 0x0, 0x0⟩,
    ⟨0x28, 1, 0x38, [], 0x0, 0x0, 0x0⟩,
    ⟨0x28, 1, 0x3c, [], 0x0, 0x0, 0x0⟩,
    ⟨0x28, 1, 0x40, [(4, 16)], 0x0, 0xffffffff, 0x0⟩,
    ⟨0x28, 1, 0x80, [], 0x0, 0xffff, 0x0⟩,
    ⟨0x28, 1, 0x100, [(4, 4)], 0x0, 0x0, 0x0⟩ ]

/-- The registers of the wlo windows. -/
def regRowsWlo : List RegRow :=
  [ ⟨0x2c, 2, 0x0, [], 0x0, 0x0, 0x983c4000⟩,
    ⟨0x2c, 2, 0x4, [], 0x0, 0x0, 0x0⟩,
    ⟨0x2c, 2, 0x8, [], 0x0, 0x0, 0x0⟩,
    ⟨0x2c, 2, 0xc, [], 0x0, 0xff000000, 0x0⟩,
    ⟨0x2c, 2, 0x10, [], 0x0, 0xffffffff, 0x0⟩,
    ⟨0x2c, 2, 0x14, [], 0x0, 0x0, 0x0⟩,
    ⟨0x2c, 2, 0x18, [], 0x0, 0xffffffff, 0x0⟩,
    ⟨0x2c, 2, 0x1c, [], 0x0, 0x0, 0x0⟩,
    ⟨0x2c, 2, 0x100, [], 0xffe0ffff, 0x0, 0x10001f4⟩,
    ⟨0x2c, 2, 0x104, [], 0xffffffff, 0x0, 0x0⟩,
    ⟨0x2c, 2, 0x108, [], 0xffff, 0x0, 0x0⟩,
    ⟨0x2c, 2, 0x10c, [], 0xffffffff, 0x0, 0x0⟩,
    ⟨0x2c, 2, 0x110, [], 0xff, 0x0, 0x0⟩,
    ⟨0x2c, 2, 0x114, [], 0xffffffff, 0x0, 0x0⟩,
    ⟨0x2c, 2, 0x118, [], 0xffff, 0x0, 0x0⟩,
    ⟨0x2c, 2, 0x11c, [], 0xffffffff, 0x0, 0x0⟩,
    ⟨0x2c, 2, 0x120, [], 0xffffffff, 0x0, 0x0⟩,
    ⟨0x2c, 2, 0x124, [], 0xffffffff, 0x0, 0x0⟩,
    ⟨0x2c, 2, 0x128, [], 0xffffffc0, 0x0, 0x0⟩,
    ⟨0x2c, 2, 0x12c, [], 0xffff, 0x0, 0x0⟩ ] ++
  [ ⟨0x2c, 2, 0x130, [], 0xffffffc0, 0x0, 0x0⟩,
    ⟨0x2c, 2, 0x134, [], 0xffff, 0x0, 0x0⟩,
    ⟨0x2c, 2, 0x138, [], 0xffffff, 0x0, 0x0⟩,
    ⟨0x2c, 2, 0x13c, [], 0xffffffff, 0x0, 0x0⟩,
    ⟨0x2c, 2, 0x140, [], 0xffffffff, 0x0, 0x0⟩,
    ⟨0x2c, 2, 0x144, [], 0x800000ff, 0x0, 0x0⟩,
    ⟨0x2c, 2, 0x180, [], 0x0, 0x0, 0x10001f4⟩,
    ⟨0x2c, 2, 0x184, [(4, 17)], 0x0, 0x0, 0x0⟩,
    ⟨0x2c, 2, 0x200, [(4, 4)], 0x0, 0x0, 0x0⟩,
    ⟨0x2e, 1, 0x0, [(4, 2)], 0x0, 0x0, 0x0⟩,
    ⟨0x2e, 1, 0x8, [], 0x0, 0xffff, 0x0⟩,
    ⟨0x2e, 1, 0xc, [], 0x0, 0xffff, 0x0⟩,
    ⟨0x2e, 1, 0x100, [(96, 2), (4, 24)], 0x0, 0x0, 0x0⟩ ]

/-- The registers of the lnx windows. -/
def regRowsLnx : List RegRow :=
  [ ⟨0x30, 13, 0x0, [], 0x0, 0x0, 0x81400000⟩,
    ⟨0x30, 13, 0x4, [], 0x0, 0x0, 0x0⟩,
    ⟨0x30, 13, 0x10, [(16, 4)], 0x0, 0x0, 0xfc0⟩,
    ⟨0x30, 13, 0x14, [(16, 4)], 0x0, 0xffff, 0x0⟩,
    ⟨0x30, 13, 0x18, [(16, 4)], 0x0, 0x0, 0x0⟩,
    ⟨0x30, 13, 0x1c, [(16, 4)], 0x0, 0x0, 0x0⟩,
    ⟨0x30, 13, 0x80, [(4, 4)], 0x0, 0xff000000, 0x0⟩,
    ⟨0x30, 13, 0x90, [(4, 4)], 0x0, 0xff000000, 0x0⟩,
    ⟨0x3d, 1, 0x0, [], 0x0, 0x0, 0xf8ff0000⟩,
    ⟨0x3d, 1, 0x4, [], 0x0, 0x0, 0x0⟩,
    ⟨0x3d, 1, 0x8, [], 0x0, 0x0, 0x0⟩,
    ⟨0x3d, 1, 0xc, [], 0x0, 0x0, 0x0⟩,
    ⟨0x3d, 1, 0x200, [(4, 4)], 0x0, 0x0, 0x0⟩,
    ⟨0x3d, 1, 0x100, [(16, 24)], 0x0, 0x0, 0x0⟩,
    ⟨0x3d, 1, 0x104, [(16, 24)], 0x0, 0xffffffff, 0x0⟩,
    ⟨0x3d, 1, 0x108, [(16, 24)], 0x0, 0xffffffff, 0x0⟩,
    ⟨0x3d, 1, 0x10c, [(16, 24)], 0x0, 0x0, 0x0⟩ ]

/-- The registers of the vcx windows. -/
def regRowsVcx : List RegRow :=
  [ ⟨0x40, 4, 0x0, [], 0x0, 0x0, 0x9416ff00⟩,
    ⟨0x40, 4, 0x4, [], 0x0, 0x0, 0x0⟩,
    ⟨0x40, 4, 0x8, [], 0x0, 0x0, 0x0⟩,
    ⟨0x40, 4, 0xc, [], 0x0, 0x0, 0x0⟩,
    ⟨0x40, 4, 0x10, [], 0x0, 0xffffffff, 0x0⟩,
    ⟨0x40, 4, 0x14, [], 0x0, 0xffffffff, 0x0⟩,
    ⟨0x40, 4, 0x18, [], 0x0, 0xffff0000, 0x0⟩,
    ⟨0x40, 4, 0x1c, [], 0x0, 0xffffffff, 0x0⟩,
    ⟨0x40, 4, 0x20, [], 0xffff, 0xffff0000, 0x0⟩,
    ⟨0x40, 4, 0x24, [], 0x0, 0x0, 0x0⟩,
    ⟨0x40, 4, 0x100, [(4, 4)], 0x0, 0x0, 0x0⟩ ]

/-- The registers of the store windows. -/
def regRowsStore : List RegRow :=
  [ ⟨0x44, 2, 0x0, [], 0x0, 0x0, 0xc1000680⟩,
    ⟨0x44, 2, 0x4, [], 0x0, 0x0, 0x0⟩,
    ⟨0x44, 2, 0x8, [], 0x0, 0xffffffff, 0x0⟩,
    ⟨0x44, 2, 0xc, [], 0x0, 0xffffffff, 0x0⟩,
    ⟨0x44, 2, 0x10, [], 0x0, 0x0, 0x0⟩,
    ⟨0x44, 2, 0x100, [(4, 4)], 0x0, 0x0, 0x0⟩,
    ⟨0x46, 1, 0x0, [], 0x0, 0x0, 0xd2004000⟩,
    ⟨0x46, 1, 0x4, [], 0x0, 0x0, 0x0⟩,
    ⟨0x46, 1, 0x8, [], 0x0, 0x0, 0x0⟩,
    ⟨0x46, 1, 0xc, [], 0x0, 0x0, 0x0⟩,
    ⟨0x46, 1, 0x10, [], 0x0, 0xffffffff, 0x0⟩,
    ⟨0x46, 1, 0x14, [], 0xffffffff, 0x0, 0x0⟩,
    ⟨0x46, 1, 0x100, [(64, 4)], 0x80000000, 0x0, 0x0⟩,
    ⟨0x46, 1, 0x104, [(64, 4)], 0xffffffc0, 0x0, 0x0⟩,
    ⟨0x46, 1, 0x108, [(64, 4)], 0xffff, 0x0, 0x0⟩,
    ⟨0x46, 1, 0x10c, [(64, 4)], 0x1fff, 0x0, 0x0⟩,
    ⟨0x46, 1, 0x110, [(64, 4)], 0xffffffc0, 0x0, 0x0⟩,
    ⟨0x46, 1, 0x114, [(64, 4)], 0xffff, 0x0, 0x0⟩,
    ⟨0x46, 1, 0x118, [(64, 4)], 0x1fff, 0x0, 0x0⟩,
    ⟨0x46, 1, 0x11c, [(64, 4)], 0xfff, 0x0, 0x0⟩ ] ++
  [ ⟨0x46, 1, 0x120, [(64, 4)], 0x0, 0x0, 0x0⟩,
    ⟨0x46, 1, 0x124, [(64, 4)], 0xfff, 0x0, 0x0⟩,
    ⟨0x46, 1, 0x128, [(64, 4)], 0x0, 0x0, 0x0⟩,
    ⟨0x46, 1, 0x12c, [(64, 4)], 0x0, 0x0, 0x0⟩,
    ⟨0x46, 1, 0x400, [(4, 4)], 0x0, 0x0, 0x0⟩,
    ⟨0x47, 1, 0x0, [(256, 2)], 0x0, 0x0, 0x0⟩,
    ⟨0x47, 1, 0x4, [(256, 2)], 0x0, 0x0, 0x0⟩,
    ⟨0x47, 1, 0x8, [(256, 2)], 0x0, 0x0, 0x0⟩,
    ⟨0x47, 1, 0xc, [(256, 2)], 0xffff, 0x0, 0x7d0⟩,
    ⟨0x47, 1, 0x10, [(256, 2)], 0x0, 0xffffffff, 0x0⟩,
    ⟨0x47, 1, 0x14, [(256, 2)], 0x0, 0x0, 0x0⟩,
    ⟨0x47, 1, 0x18, [(256, 2)], 0x0, 0x0, 0x0⟩ ]

/-- The registers of the mem windows. -/
def regRowsMem : List RegRow :=
  [ ⟨0x58, 2, 0x0, [], 0x0, 0x0, 0xc0183040⟩,
    ⟨0x58, 2, 0x4, [], 0x0, 0x0, 0x0⟩,
    ⟨0x58, 2, 0x8, [], 0x0, 0x0, 0x0⟩,
    ⟨0x58, 2, 0xc, [], 0x0, 0x0, 0x0⟩,
    ⟨0x58, 2, 0x10, [], 0x0, 0xffffffff, 0x0⟩,
    ⟨0x58, 2, 0x14, [], 0x0, 0xffffffff, 0x0⟩,
    ⟨0x58, 2, 0x18, [], 0x0, 0xffff, 0x0⟩,
    ⟨0x58, 2, 0x1c, [], 0x0, 0x0, 0x0⟩,
    ⟨0x58, 2, 0x20, [], 0x0, 0x80000000, 0x0⟩,
    ⟨0x58, 2, 0x24, [], 0x0, 0xffffffff, 0x0⟩,
    ⟨0x58, 2, 0x100, [(4, 4)], 0x0, 0x0, 0x0⟩,
    ⟨0x58, 1, 0x40, [], 0x7, 0x0, 0x2⟩,
    ⟨0x58, 1, 0x44, [], 0xffffffff, 0x0, 0xc81808⟩,
    ⟨0x58, 1, 0x48, [], 0x8000ffff, 0x0, 0x8000000c⟩,
    ⟨0x58, 1, 0x4c, [], 0x0, 0x0, 0x0⟩,
    ⟨0x58, 1, 0x50, [], 0xffffff00, 0x0, 0x640800⟩,
    ⟨0x5a, 1, 0x0, [], 0x0, 0x0, 0xa0010000⟩,
    ⟨0x5a, 1, 0x4, [], 0x8000ffff, 0x0, 0x8000003c⟩ ]

/-- The registers of the time windows. -/
def regRowsTime : List RegRow :=
  [ ⟨0xc, 1, 0x0, [], 0x0, 0x0, 0xc8420000⟩,
    ⟨0xc, 1, 0x4, [], 0x0, 0x60000000, 0x0⟩,
    ⟨0xc, 1, 0x8, [], 0x0, 0x0, 0x0⟩,
    ⟨0xc, 1, 0xc, [], 0x0, 0x0, 0x0⟩,
    ⟨0xc, 1, 0x10, [], 0x0, 0x0, 0x0⟩,
    ⟨0xc, 1, 0x14, [], 0xffffffff, 0x0, 0x80000000⟩,
    ⟨0xc, 1, 0x18, [], 0xffffffff, 0x0, 0x0⟩,
    ⟨0xc, 1, 0x1c, [], 0x0, 0x0, 0x0⟩,
    ⟨0xc, 1, 0x20, [], 0xffffffff, 0x0, 0x0⟩,
    ⟨0xc, 1, 0x24, [], 0xffffffff, 0x0, 0x0⟩,
    ⟨0xc, 1, 0x40, [], 0x0, 0xffff, 0x0⟩,
    ⟨0xc, 1, 0x100, [(16, 16)], 0xffffffff, 0x0, 0x1⟩,
    ⟨0xc, 1, 0x104, [(16, 16)], 0xffffffff, 0x0, 0x0⟩,
    ⟨0xc, 1, 0x108, [(16, 16)], 0x0, 0x0, 0x3c000000⟩,
    ⟨0xc, 1, 0x10c, [(16, 16)], 0x0, 0x0, 0x0⟩,
    ⟨0xc, 1, 0x200, [(4, 16)], 0x0, 0x0, 0x0⟩,
    ⟨0xc, 1, 0x300, [(4, 4)], 0x0, 0x0, 0x0⟩,
    ⟨0xd, 1, 0x0, [(64, 4)], 0x0, 0x0, 0x0⟩,
    ⟨0xd, 1, 0x4, [(64, 4)], 0x0, 0x0, 0x0⟩,
    ⟨0xd, 1, 0x8, [(64, 4)], 0xffffffff, 0x0, 0x0⟩ ] ++
  [ ⟨0xd, 1, 0xc, [(64, 4)], 0x0, 0xffffffff, 0x0⟩,
    ⟨0xd, 1, 0x10, [(64, 4)], 0x0, 0xffffffff, 0x0⟩,
    ⟨0xe, 1, 0x0, [(16, 16)], 0x0, 0x0, 0x0⟩,
    ⟨0xe, 1, 0x4, [(16, 16)], 0x0, 0x0, 0x0⟩,
    ⟨0xe, 1, 0x8, [(16, 16)], 0x0, 0x0, 0x0⟩,
    ⟨0x10, 1, 0x0, [], 0x0, 0x0, 0xa0000000⟩,
    ⟨0x10, 1, 0x4, [], 0x0, 0x0, 0x1000000⟩,
    ⟨0x10, 1, 0x8, [], 0x0, 0x0, 0x0⟩,
    ⟨0x10, 1, 0x10, [(8, 2)], 0x0, 0x0, 0x0⟩,
    ⟨0x10, 1, 0x14, [(8, 2)], 0x0, 0x0, 0x0⟩,
    ⟨0x10, 1, 0x20, [], 0x0, 0x0, 0x0⟩,
    ⟨0x10, 1, 0x24, [], 0x0, 0x0, 0x0⟩,
    ⟨0x10, 1, 0x28, [], 0x0, 0x0, 0x0⟩,
    ⟨0x10, 1, 0x2c, [], 0x0, 0x0, 0x0⟩,
    ⟨0x10, 1, 0x30, [], 0x0, 0x0, 0x0⟩,
    ⟨0x10, 1, 0x34, [(4, 6)], 0x0, 0x0, 0x0⟩,
    ⟨0x10, 1, 0x4c, [], 0x0, 0x0, 0xfa⟩,
    ⟨0x10, 1, 0x50, [], 0x0, 0xffffffff, 0x0⟩,
    ⟨0x10, 1, 0x54, [], 0x0, 0xffffffff, 0x0⟩,
    ⟨0x10, 1, 0x58, [], 0x0, 0x0, 0x0⟩ ] ++
  [ ⟨0x10, 1, 0x5c, [], 0x0, 0x0, 0x0⟩,
    ⟨0x10, 1, 0x100, [(4, 4)], 0x0, 0x0, 0x0⟩,
    ⟨0x11, 1, 0x0, [(8, 64)], 0x0, 0x0, 0x0⟩,
    ⟨0x11, 1, 0x200, [(8, 64)], 0x0, 0xffff, 0x0⟩ ]

/-- The registers of the kpr windows. -/
def regRowsKpr : List RegRow :=
  [ ⟨0x8, 1, 0x0, [], 0x0, 0x0, 0xc4c00000⟩,
    ⟨0x8, 1, 0x4, [], 0x0, 0x0, 0x0⟩,
    ⟨0x8, 1, 0x8, [], 0x0, 0x0, 0x0⟩,
    ⟨0x8, 1, 0xc, [], 0x0, 0x0, 0x0⟩,
    ⟨0x8, 1, 0x10, [], 0x0, 0x20000000, 0x0⟩,
    ⟨0x8, 1, 0x14, [], 0x0, 0xffffffff, 0x0⟩,
    ⟨0x8, 1, 0x18, [], 0x0, 0x0, 0x0⟩,
    ⟨0x8, 1, 0x40, [(8, 8), (4, 2)], 0x0, 0x0, 0x0⟩,
    ⟨0x8, 1, 0x100, [(4, 4)], 0x0, 0x0, 0x0⟩,
    ⟨0x8, 1, 0x1000, [(4, 64)], 0xffffffff, 0x0, 0x0⟩,
    ⟨0x8, 1, 0x1100, [(4, 64)], 0x0, 0x0, 0x0⟩ ]

/-- The registers of the common windows. -/
def regRowsCommon : List RegRow :=
  [ ⟨0x0, 256, 0xfc00, [], 0x0, 0x0, 0x0⟩,
    ⟨0x0, 256, 0xfc04, [], 0xffff, 0x0, 0x100⟩,
    ⟨0x0, 256, 0xfc08, [], 0x7ff, 0x0, 0x3e8⟩,
    ⟨0x0, 256, 0xfd00, [(4, 64)], 0x0, 0xffff, 0x0⟩,
    ⟨0x0, 256, 0xfe00, [(16, 16)], 0x7ff, 0x0, 0x40⟩,
    ⟨0x0, 256, 0xfe04, [(16, 16)], 0x0, 0x0, 0x0⟩,
    ⟨0x0, 256, 0xfe08, [(16, 16)], 0x0, 0x0, 0xffffff⟩,
    ⟨0x0, 256, 0xfe0c, [(16, 16)], 0x0, 0x0, 0x0⟩,
    ⟨0x0, 256, 0xff00, [(4, 64)], 0x0, 0xffffffff, 0x0⟩ ]

/-- Is offset `x` one of the offsets that the strides give from 0? -/
def dimsHit : List (Nat × Nat) → Nat → Bool
  | [], x => x == 0
  | [(s, c)], x => x % s == 0 && decide (x / s < c)
  | (s, c) :: t, x => decide (x / s < c) && dimsHit t (x % s)

/-- Does row `r` list the register of window `w` at offset `o`? -/
def RegRow.hit (r : RegRow) (w o : Nat) : Bool :=
  decide (r.win ≤ w) && decide (w < r.win + r.wins) && decide (r.off ≤ o) && dimsHit r.dims (o - r.off)

/-- The rows that can list a register of window `w`, the common block apart (R50). -/
def rowsOfWindow (w : Nat) : List RegRow :=
  if w < 0x04 then regRowsHci
  else if w < 0x08 then regRowsFgh
  else if w < 0x0C then regRowsKpr
  else if w < 0x12 then regRowsTime
  else if w < 0x20 then []
  else if w < 0x24 then regRowsSpx
  else if w < 0x26 then regRowsRfe
  else if w < 0x28 then regRowsClr
  else if w < 0x2C then regRowsCmp
  else if w < 0x2F then regRowsWlo
  else if w < 0x40 then regRowsLnx
  else if w < 0x44 then regRowsVcx
  else if w < 0x48 then regRowsStore
  else if w < 0x58 then regRowsHive
  else if w < 0x5B then regRowsMem
  else []

/-- The row of the register with key `k`, if one is listed. -/
def regRow (k : Nat) : Option RegRow :=
  let w := k / 65536
  let o := k % 65536
  if 0xFC00 ≤ o then regRowsCommon.find? (fun r => r.hit w o)
  else (rowsOfWindow w).find? (fun r => r.hit w o)

end Sys2Proof.Machine
end

