-- ==== Sys2Proof/Machine/Sparse.lean ====
section
/-!
DEFINITION. Sparse maps from numbers: a list of (key, value) pairs in one canonical form (keys strictly rising, no
value equal to what an unlisted key reads as). Memory, the register file and every numbered family of the device are
held in this form, so that equal contents are equal data.
-/
namespace Sys2Proof.Machine

/-- A map from numbers to `β`, a default value standing for every unlisted key. -/
abbrev Sparse (β : Type) := List (Nat × β)

/-- The value at key `k`, `d` where the map lists none. -/
def sget {β : Type} (d : β) : Sparse β → Nat → β
  | [], _ => d
  | (a, v) :: t, k => if a = k then v else sget d t k

/-- The map with every entry of key `k` removed. -/
def sdel {β : Type} : Sparse β → Nat → Sparse β
  | [], _ => []
  | (a, v) :: t, k => if a = k then sdel t k else (a, v) :: sdel t k

/-- Insert an entry before the first greater key. -/
def sins {β : Type} : Sparse β → Nat → β → Sparse β
  | [], k, x => [(k, x)]
  | (a, v) :: t, k, x => if k < a then (k, x) :: (a, v) :: t else (a, v) :: sins t k x

/-- The map with `x` at key `k`: the entry goes when `x` is the default value. -/
def sset {β : Type} [DecidableEq β] (d : β) (m : Sparse β) (k : Nat) (x : β) : Sparse β :=
  if x = d then sdel m k else sins (sdel m k) k x

/-- Are the keys strictly rising, each above `lo`? -/
def srising {β : Type} : Option Nat → Sparse β → Bool
  | _, [] => true
  | none, (a, _) :: t => srising (some a) t
  | some lo, (a, _) :: t => decide (lo < a) && srising (some a) t

/-- The canonical form. -/
def swf {β : Type} [DecidableEq β] (d : β) (m : Sparse β) : Bool :=
  srising none m && m.all (fun p => decide (p.2 ≠ d))

end Sys2Proof.Machine
end

