-- ==== Sys2Proof/Machine/Types.lean ====
section
/-!
DEFINITION. The pieces that the state is made of, fabric and Hive: descriptors and queues, completions, domains,
cells, the image loader, the governor, the fault manager (spec/01_fabric.md, spec/02_hive.md,
spec/14_safety_power_reset.md). All of it is plain data.
-/
namespace Sys2Proof.Machine

/-- The three variants (R2). -/
inductive Variant where
  | ew9760 | ew9750 | ew9730
  deriving DecidableEq, Repr

/-- A descriptor in a command queue: its words, the cell that posted it, whether its tag was outstanding when it
entered (R576), and what the common code will find at the head (R26). -/
structure Desc where
  words : List Quad
  cell : Nat
  dup : Bool
  flt : DescFault
  deriving DecidableEq, Repr

/-- An item of a completion queue: its word, and whether its descriptor holds the tag that ends when the item goes (R40): one of
an absent queue or with a tag already outstanding holds none (R5). -/
structure CqItem where
  word : Quad
  ends : Bool
  deriving DecidableEq, Repr

/-- A completion that overtakes and waits for room (R41): its completion queue, its item, the cell that posted the ABORT. -/
structure Owed where
  cq : Nat
  item : CqItem
  cell : Nat
  deriving DecidableEq, Repr

/-- An ABORT that waits for its target's completion (R42): its tag, its completion queue, the cell that posted it. -/
structure Waiter where
  tag : Nat
  cq : Nat
  cell : Nat
  deriving DecidableEq, Repr

/-- A descriptor that its consumer has taken and whose completion is not posted yet. `done` holds the status and the
result once it has finished; `aborts` are the ABORTs that wait for it (R42). `endsTag` is false for a descriptor whose tag was
already outstanding (R40). -/
structure Taken where
  words : List Quad
  cell : Nat
  tag : Nat
  cq : Nat
  epoch : BitVec 8
  endsTag : Bool
  done : Option (Nat × BitVec 64)
  aborts : List Waiter
  deriving DecidableEq, Repr

/-- A command queue: waiting descriptors, taken ones in the order they were taken, completions that overtake (those of
ABORT, R41) and wait for room, and the outstanding tags (R33 to R43). -/
structure CmdQueue where
  waiting : List Desc
  taken : List Taken
  urgent : List Owed
  tags : List Nat
  deriving DecidableEq, Repr

/-- An empty command queue. -/
def CmdQueue.empty : CmdQueue := ⟨[], [], [], []⟩

/-- The power domains: powered, fenced and powering-up bits, and the epochs (R44, R45, R503). -/
structure Doms where
  powered : BitVec 30
  fenced : BitVec 30
  rising : BitVec 30
  epochs : Sparse (BitVec 8)
  deriving DecidableEq, Repr

/-- An alarm or Beacon trigger: idle, armed or acted (R71). -/
inductive ArmState where
  | idle | armed | acted
  deriving DecidableEq, Repr

/-- What a waiting cell waits for (R66, R68, R77, R79, R80). -/
inductive CellWait where
  | none
  | post (q : Nat) (words : List Quad) (flt : DescFault)
  | event (rd : Nat) (timed : Bool)
  | fence
  | bar (b : Nat) (rd : Nat) (timed : Bool)
  | swarm (rd rt group frame : Nat)
  deriving DecidableEq, Repr

/-- A logical cell (R59, R85, R87, R92, R95). -/
structure CellSt where
  state : Nat
  cause : Nat
  exitCode : Nat
  pc : Word
  g : Sparse Word
  w : Sparse Quad
  startReason : Word
  dramBase : Word
  wdog : Word
  framePeriod : Word
  alarm : ArmState
  alarmTime : Word
  evmask : BitVec 256
  evpend : BitVec 256
  icount : Word
  paced : Nat
  inbox : List Quad
  image : Bool
  entry : Nat
  trigClaims : BitVec 16
  domClaims : BitVec 32
  build : Quad
  decls : List (Nat × Nat × Nat)
  wait : CellWait
  hostStopped : Bool
  loadStop : Bool
  deriving DecidableEq, Repr

/-- A cell with no image. -/
def CellSt.empty : CellSt :=
  { state := 0, cause := 0, exitCode := 0, pc := 0, g := [], w := [], startReason := 0, dramBase := 0, wdog := 0,
    framePeriod := 0, alarm := .idle, alarmTime := 0, evmask := 0, evpend := 0, icount := 0, paced := 0, inbox := [],
    image := false, entry := 0, trigClaims := 0, domClaims := 0, build := 0, decls := [], wait := .none,
    hostStopped := false, loadStop := false }

/-- A barrier in use: its mask and the cells that have arrived (R80). -/
structure Barrier where
  mask : BitVec 8
  arrived : List Nat
  deriving DecidableEq, Repr

/-- The step an image load or an unload has reached (R96, R98). -/
inductive LoadStep where
  | idle | reading | draining | copying | verifying
  deriving DecidableEq, Repr

/-- The image loader (R96): the image's own bytes once step 5 has read them. -/
structure Loader where
  step : LoadStep
  cell : Nat
  src : Nat
  image : List Byte
  boot : Bool
  deriving DecidableEq, Repr

/-- A pending set of a shadow group: the frame it lands on and the active registers it will write (R75). -/
structure PendSet where
  frame : Nat
  writes : List (Nat × Word)
  deriving DecidableEq, Repr

/-- The Hive (R52 to R98): cells, host mailbox, barriers, image loader, unloads that wait, shadow-group controllers. -/
structure Hive where
  cells : Sparse CellSt
  hostBox : List Quad
  barriers : Sparse Barrier
  loader : Loader
  unloads : List Nat
  pendSets : Sparse (List PendSet)
  superseded : Sparse Nat
  deriving DecidableEq, Repr

/-- A pace meter (R15, R17): has it reported a busy window that lies after its declaration and its domain's power-up, did the window
in progress begin before its declaration, the lowest pace reported in the governor's period, the items of the window in progress,
and the length of that window. -/
structure Meter where
  reported : Bool
  early : Bool
  low : Option Nat
  items : Nat
  window : Nat
  deriving DecidableEq, Repr

/-- A meter at the start of its first window. -/
def Meter.start : Meter := ⟨false, false, none, 0, 64⟩

/-- What the governor's two-wire transfer in flight is (R18). -/
inductive GovXfer where
  | none
  | vout (mv : Nat) (attempt : Nat)
  | mode (attempt : Nat)
  deriving DecidableEq, Repr

/-- The pace governor (R17 to R21). -/
structure Gov where
  count : Nat
  settling : Bool
  warnSeen : Bool
  xfer : GovXfer
  acked : Bool
  prevSetpoint : Nat
  heldSetpoint : Option Nat
  deriving DecidableEq, Repr

/-- A report in Foghorn's intake (R496, R498). -/
structure Entry where
  source : Nat
  sub : Nat
  code : Nat
  severity : Nat
  first : BitVec 64
  last : Word
  count : Nat
  epoch : BitVec 8
  detail : BitVec 48
  windowOpen : Bool
  written : Option Nat
  again : Bool
  deriving DecidableEq, Repr

/-- The cause a reset latches (FGH_STATUS.reset_cause). -/
inductive ResetKind where
  | powerOn | resetN | watchdog | soft | hot | flr
  deriving DecidableEq, Repr

/-- Is the kind a reset of the endpoint? -/
def ResetKind.pcie : ResetKind → Bool
  | .hot => true
  | .flr => true
  | _ => false

/-- Foghorn's hidden state: the intake, the LOST report owed, the causes that hold FAULT_N, the order of the fatal
slots, the snapshot's microsecond, the power state's step, the last off_mask, a held wake source, the reset in
progress, the watchdog, the supply warning, the sensors, the record requests that routes have made (R90, R489 to R518). -/
structure Fgh where
  intake : List Entry
  lostOwed : Bool
  faultStuck : Bool
  fatalNext : Nat
  snapUs : Option Nat
  offMask : BitVec 30
  stateTag : Option Nat
  pdTag : List (Nat × BitVec 30)
  dozeStep : Nat
  wakeHeld : Option WakeSrc
  resetting : Option ResetKind
  wdogRunning : Bool
  restarts : List (Nat × Nat)
  dwellTaken : Bool
  railMin : Sparse Nat
  railWarn : List Nat
  deviations : Sparse Nat
  clockBad : Sparse Nat
  clockReported : List Nat
  trims : Nat
  requests : List Nat
  deriving DecidableEq, Repr

/-- Work of the present step that its end still settles: domains to restart (R504), a protective Hold (R266), a swarm
snapshot to ask for (R90). Empty between steps. -/
structure Due where
  restart : List Nat
  hold : Bool
  swarmSnap : Bool
  deriving DecidableEq, Repr

end Sys2Proof.Machine
end

