-- ==== Sys2Proof/Machine/Units.lean ====
section
/-!
DEFINITION. What each unit holds beside its registers: setups, frames and transfers in progress, rings, hidden
counters. Each unit's chapter of spec/ is named at its types.
-/
namespace Sys2Proof.Machine

/-! Sensor ports (spec/03_sensor_intake.md). -/

/-- A port's PORT_SETUP (R127): `mode` 0 SLVS, 1 and 2 CSI-2 on one or two links; `width` the bits of a word; `sync` the
three preamble words and the codes SOF, SOL, EOL, EOF, BLK; `vc` the virtual channels of the exposures and of embedded
data; the partner's lane map and polarity once GANG_MAP has given them. -/
structure PortSetup where
  mode : Nat
  gang : Bool
  split : Bool
  lanes : Nat
  width : Nat
  exposures : Nat
  lineCrc : Bool
  w : Nat
  h : Nat
  rate : Nat
  lockLines : Nat
  weight : Nat
  highPriority : Bool
  sync : List Nat
  vc : List Nat
  laneMap : Nat
  polarity : Nat
  codeMask : Nat
  lbBase : Nat
  lbSize : Nat
  embedded : Nat
  partner : Option (Nat × Nat)
  deriving DecidableEq, Repr

/-- A lane's hunt (R105): locked, at which offset, sequences in a row at the offset hunted, sequences in a row
elsewhere. -/
structure LaneSt where
  locked : Bool
  offset : Nat
  run : Nat
  stray : Nat
  deriving DecidableEq, Repr

def LaneSt.empty : LaneSt := ⟨false, 0, 0, 0⟩

/-- What stands ready for the front end, oldest first: a frame-start mark with the frame's size, exposures, word width, number, time
and whether it runs on the split line; a line set in a port's line buffer, the Comb address of each exposure's slot and the samples of
a slot; a line set that the fetch of a memory source has read, samples with their poison marks; a frame-end mark (R123, R126, R153,
R154). -/
inductive BufItem where
  | start (w h exposures width frame sof : Nat) (split : Bool)
  | held (line : Nat) (slots : List Nat) (samples : Nat)
  | set (line : Nat) (exps : List (List (Nat × Bool)))
  | finish (dropped : Bool)
  deriving DecidableEq, Repr

/-- The counts of a frame report (R131). -/
structure FrameCounts where
  received : Nat
  short : Nat
  long : Nat
  padded : Nat
  discarded : Nat
  orphans : Nat
  crc : Nat
  hdrCorrected : Nat
  hdrLost : Nat
  cuts : Nat
  filled : Nat
  maxShort : Nat
  maxLong : Nat
  embedded : Nat
  deriving DecidableEq, Repr

def FrameCounts.zero : FrameCounts := ⟨0, 0, 0, 0, 0, 0, 0, 0, 0, 0, 0, 0, 0, 0⟩

/-- A FRAME descriptor's fields (R127). -/
structure FrameCmd where
  tag : Nat
  padLineBlack : Bool
  padFrameBlack : Bool
  padValue : Nat
  lineBound : Nat
  sofTimeout : Nat
  lineTimeout : Nat
  report : Nat
  embed : Nat
  deriving DecidableEq, Repr

/-- A claimed frame in progress (R116 to R121): lines stored for each exposure, lines delivered, the exposures whose start
and end have come, the last line stored for each exposure; the close_reason and time of one that has closed and waits for room for its
padding lines (R119, R123). -/
structure OpenFrame where
  cmd : FrameCmd
  number : Nat
  sof : Nat
  xtrig : Nat
  counts : FrameCounts
  stored : List Nat
  delivered : Nat
  started : List Nat
  ended : List Nat
  last : List (List Nat)
  bad : Bool
  closing : Option (Nat × Nat)
  deriving DecidableEq, Repr

/-- An XTRIG_SETUP (R114). -/
structure Xtrig where
  trigger : Nat
  enable : Bool
  low : Bool
  widthMode : Bool
  width : Nat
  deriving DecidableEq, Repr

/-- A sensor port (R100 to R132). `lostMade`: the loss of lock has been raised since the port last had every lane (R105);
`unclaimed`: the frame that comes in belongs to no descriptor, or to none any more (R116, R122, R126); `unclaimedData`: lines and
packets that no exposure takes (R102, R104; a count that no register shows, DESIGN CHOICE, log entry 30); `partial_`: lines stored and not
delivered, by exposure: number and slot; `slots`: the next slot of each exposure; `halves`: halves of lines by link, exposure and
number, whether they were cut, their pixels (R103); `stopTags`: PORT_STOPs that wait for the frame's close (R127). -/
structure Port where
  setup : Option PortSetup
  awaitMap : Bool
  lanes : Sparse LaneSt
  aligned : Bool
  lostMade : Bool
  armed : Option FrameCmd
  frame : Option OpenFrame
  unclaimed : Bool
  unclaimedData : Nat
  orphans : Nat
  partial_ : Sparse (List (Nat × Nat))
  slots : Sparse Nat
  halves : List (Nat × Nat × Nat × Bool × List Nat)
  halfCount : Sparse Nat
  lineNo : Sparse Nat
  bufs : Sparse (List BufItem)
  xtrig : Option Xtrig
  xtrigNext : Option Xtrig
  pulse : Bool
  xtrigTime : Nat
  mclk : Nat
  mclkLock : Bool
  mclkOn : Bool
  stopTags : List Nat
  lastSof : Nat
  deriving DecidableEq, Repr

def Port.empty : Port :=
  { setup := none, awaitMap := false, lanes := [], aligned := false, lostMade := false, armed := none, frame := none, unclaimed := false,
    unclaimedData := 0, orphans := 0, partial_ := [], slots := [], halves := [], halfCount := [], lineNo := [], bufs := [], xtrig := none,
    xtrigNext := none, pulse := false, xtrigTime := 0, mclk := 0, mclkLock := false, mclkOn := false, stopTags := [],
    lastSof := 0 }

/-- The line sets in a port's buffer: those of the fuller half. -/
def Port.fill (p : Port) : Nat :=
  let sets (h : Nat) : Nat := ((sget [] p.bufs h).filter (fun i => match i with | .held _ _ _ => true | _ => false)).length
  max (sets 0) (sets 1)

/-- A front end's arbitration between its two ports (R124): the port last served and the sets taken in a row. -/
structure Arb where
  last : Nat
  taken : Nat
  deriving DecidableEq, Repr

def Arb.empty : Arb := ⟨0, 0⟩

/-! Raw front ends and colour engines (spec/04_raw_front_end.md, spec/05_colour_engine.md). -/

/-- A mosaic sample: its value (S8.16, R136), its saturation mark (R142), its poison mark (R157), and the value that the
histogram bins when that is not the value itself (R147). -/
structure Smp where
  v : Int
  sat : Bool
  bad : Bool
  h : Int
  deriving DecidableEq, Repr

/-- An RFE_FRAME with its frame parameter block (R163, R164). -/
structure RfeCmd where
  tag : Nat
  memory : Bool
  cfa : Nat
  toClr : Bool
  rawEn : Bool
  rawTap : Bool
  rawShift : Nat
  statsEn : Bool
  histSrc : Nat
  histShift : Nat
  zonesX : Nat
  zonesY : Nat
  linEn : Bool
  shadeEn : Bool
  sdefEn : Bool
  ddefEn : Bool
  statsAddr : Nat
  rawAddr : Nat
  rawStride : Nat
  srcAddr : Nat
  srcStride : Nat
  w : Nat
  h : Nat
  exposures : Nat
  width : Nat
  black : List Nat
  ratios : List Nat
  satS : Nat
  los : List Nat
  his : List Nat
  dynAbs : Nat
  dynRel : Nat
  staticCount : Nat
  deriving DecidableEq, Repr

/-- The statistics of a frame (R147 to R149): histogram counts by 1,024 × phase + bin; sums, counts and saturated counts
by 4 × zone + phase. -/
structure RfeStats where
  hist : Sparse Nat
  zones : Sparse (Nat × Nat × Nat)
  replaced : Nat
  saturated : Nat
  hot : Nat
  cold : Nat
  skipped : Nat
  poisoned : Nat
  deriving DecidableEq, Repr

def RfeStats.zero : RfeStats := ⟨[], [], 0, 0, 0, 0, 0, 0⟩

/-- An open frame of a raw front end: its size, the columns processed and owned (R158), the banks it started with (R161),
the static defects that apply (R145), the line sets taken, the lines sent on, and the shaded lines that the defect stages
still need. -/
structure RfeOpen where
  cmd : RfeCmd
  w : Nat
  h : Nat
  exposures : Nat
  width : Nat
  first : Nat
  cols : Nat
  ownFirst : Nat
  ownCols : Nat
  right : Bool
  number : Nat
  sof : Nat
  banks : Nat
  statics : List (Nat × Nat × Nat)
  taken : Nat
  sent : Nat
  win : List (Nat × List Smp)
  stats : RfeStats
  bad : Bool
  deriving DecidableEq, Repr

/-- A slot of a raw front end (R152 to R154): the armed and the open frame, whether an unclaimed frame is being
discarded, and what the fetch of a memory source has made ready. -/
structure RfeSlot where
  armed : Option RfeCmd
  frame : Option RfeOpen
  unclaimed : Bool
  feed : List BufItem
  fetched : Nat
  deriving DecidableEq, Repr

def RfeSlot.empty : RfeSlot := ⟨none, none, false, [], 0⟩

/-- What a front end sends its colour engine (R150): a frame start with the frame's size, the first column sent, the
owned columns, whether the split line is in use and the frame's number; a line; a frame end, dropped or not. -/
inductive ClrItem where
  | start (w h first ownFirst ownCols : Nat) (split : Bool) (number : Nat)
  | line (y : Nat) (row : List Smp)
  | finish (dropped : Bool)
  deriving DecidableEq, Repr

/-- An output block of a CLR_FRAME's frame parameter block (R201). -/
structure ClrOut where
  enc : Nat
  format : Nat
  dest : Nat
  full : Bool
  bits : Nat
  primaries : Nat
  target : Nat
  lut : Bool
  ycc2020 : Bool
  clearEn : Bool
  scale : Nat
  black : Nat
  mat : List Nat
  addr : Nat
  stride : Nat
  addr2 : Nat
  lines : Nat
  clear : Nat
  deriving DecidableEq, Repr

/-- A CLR_FRAME with its frame parameter block (R200, R201); outputs by number. -/
structure ClrCmd where
  tag : Nat
  cfa : Nat
  red : Nat
  working : Nat
  highlight : Bool
  wb : List Nat
  mat : List Nat
  outs : List (Nat × ClrOut)
  deriving DecidableEq, Repr

/-- An open frame of a colour engine: the white-balanced lines its window still needs, the lines written, the lines
gathered for the block row of each packed output, the first line number of each ring's frame (R186), and whether its end
has come. -/
structure ClrOpen where
  cmd : ClrCmd
  w : Nat
  h : Nat
  first : Nat
  ownFirst : Nat
  ownCols : Nat
  split : Bool
  port : Nat
  number : Nat
  banks : Nat
  taken : Nat
  written : Nat
  win : List (Nat × List Smp)
  packs : Sparse (List (List (Nat × Bool)))
  ringFirst : Sparse Nat
  ended : Bool
  waiting : Bool
  bad : Bool
  deriving DecidableEq, Repr

/-- A slot of a colour engine (R193). -/
structure ClrSlot where
  armed : Option ClrCmd
  frame : Option ClrOpen
  unclaimed : Bool
  threshMade : Bool
  deriving DecidableEq, Repr

def ClrSlot.empty : ClrSlot := ⟨none, none, false, false⟩

/-- A frame of the split line as the two colour engines write it (R186, R195): the port's frame number; CLR_A's frame number once it has
opened the frame; the frame's rings, by output, control block and first line; the lines that CLR_A and CLR_B have written and whether
each is done with the frame; whether either ended it dropped. -/
structure SplitFrame where
  port : Nat
  number : Option Nat
  rings : List (Nat × Nat × Nat)
  wrote : Nat × Nat
  done : Bool × Bool
  dropped : Bool
  deriving DecidableEq, Repr

/-! The compositor (spec/06_compositor.md). -/

/-- A composed pixel: R, G, B, A as binary16 patterns. -/
structure Rgba where
  r : Nat
  g : Nat
  b : Nat
  a : Nat
  deriving DecidableEq, Repr

def Rgba.zero : Rgba := ⟨0, 0, 0, 0⟩

/-- A CMP_WRITEBACK or CMP_COMPOSE (R229, R232, R236). -/
structure WbCmd where
  tag : Nat
  format : Nat
  packed : Bool
  encEn : Bool
  encBank : Nat
  ycc2020 : Bool
  full : Bool
  clearEn : Bool
  addr : Nat
  stride : Nat
  addr2 : Nat
  x : Nat
  y : Nat
  w : Nat
  h : Nat
  clear : Nat
  deriving DecidableEq, Repr

/-- A write-back or compose in progress: the parts of lines composed so far, by 2 × line + output, the lines written, the
lines gathered for a block row, and the first line dropped. -/
structure WbOpen where
  cmd : WbCmd
  number : Nat
  parts : Sparse (List Rgba)
  written : Nat
  rows : List (List (Nat × Bool))
  deriving DecidableEq, Repr

/-- A frame that an output composes (R210, R221, R226): its number and latch time, the canvas part it covers, the layers in
force in stacking order, those switched off, the next line, and what its report counts; the encode bank it started with, as table id and
bank (R234). -/
structure CmpFrame where
  memory : Bool
  number : Nat
  latch : Nat
  w : Nat
  h : Nat
  x0 : Nat
  layers : List Nat
  off : List Nat
  line : Nat
  lateLine : Sparse Nat
  invalid : Nat
  held : Nat
  malformed : Nat
  poisoned : Nat
  misses : Nat
  undelivered : Nat
  rows : Sparse Nat
  malMade : List Nat
  enc : Option (Nat × Nat)
  deriving DecidableEq, Repr

/-- An output of the compositor: the frame in progress, armed and open write-backs and reports, the composed lines that
stand in the elastic queue to the generator, and the time of its last latch point. -/
structure CmpOutSt where
  frame : Option CmpFrame
  wbArmed : Option WbCmd
  wbOpen : Option WbOpen
  repArmed : Option (Nat × Nat)
  repOpen : Option (Nat × Nat)
  eq : List (Nat × List Rgba)
  latchAt : Nat
  deriving DecidableEq, Repr

/-- A frame that was claimed at its latch point and never composed. -/
def CmpFrame.blank (number latch : Nat) : CmpFrame :=
  { memory := false, number := number, latch := latch, w := 0, h := 0, x0 := 0, layers := [], off := [], line := 0, lateLine := [],
    invalid := 0, held := 0, malformed := 0, poisoned := 0, misses := 0, undelivered := 0, rows := [], malMade := [], enc := none }

def CmpOutSt.empty : CmpOutSt := ⟨none, none, none, none, none, [], 0⟩

/-- A ring layer (R223): the number of the ring frame used last, and the first line of the one in use. -/
structure RingUse where
  last : Option Nat
  first : Option Nat
  deriving DecidableEq, Repr

def RingUse.empty : RingUse := ⟨none, none⟩

/-! The wall output (spec/07_wall_output.md). -/

/-- What a generator holds of one frame until its Daymark checks are decided (R267, R272): receivers as lane × 256 +
position, each one's CRC as it runs, those that have reported. -/
structure WallRec where
  number : Nat
  instant : Nat
  err : Int
  underrun : Nat
  late : Nat
  segments : Nat
  watch : Nat
  mismatch : Nat
  missing : Nat
  clipped : Nat
  receivers : List Nat
  marks : Sparse Nat
  reported : List Nat
  report : Option (Nat × Nat)
  deriving DecidableEq, Repr

/-- What a START or HOLD that is being carried out waits for: the descriptor's queue and tag. -/
structure GenWait where
  queue : Nat
  tag : Nat
  deriving DecidableEq, Repr

/-- A timing generator (R242 to R268). `phase`: 0 lines are scanned, 1 waiting for the retiming, 2 waiting for the restart,
3 in vertical blanking, waiting for the frame instant; `grid` a frame instant of its grid and `nextInstant` the target of
the frame that its counter names, both in 2⁻¹⁶ ns; `holdAsked` a HOLD that waits for the latch point; `heldFrom` the
receivers that have reported held. -/
structure Gen where
  phase : Nat
  grid : Nat
  nextInstant : Nat
  line : Nat
  startCmd : Option GenWait
  startWait : Option GenWait
  holds : List GenWait
  holdAsked : Bool
  heldFrom : List Nat
  reland : Bool
  goodFrames : Nat
  adjust : Int
  lastPulse : Option Nat
  pulseRun : Nat
  recs : List WallRec
  repArmed : List (Nat × Nat)
  underrunMade : Bool
  watchCrc : Nat
  watchLast : Option Nat
  freezeMade : Bool
  releaseDue : Bool
  first : Bool
  deriving DecidableEq, Repr

def Gen.empty : Gen :=
  { phase := 0, grid := 0, nextInstant := 0, line := 0, startCmd := none, startWait := none, holds := [],
    holdAsked := false, heldFrom := [], reland := false, goodFrames := 0, adjust := 0, lastPulse := none, pulseRun := 0,
    recs := [], repArmed := [], underrunMade := false, watchCrc := 0xFFFFFFFF, watchLast := none, freezeMade := false,
    releaseDue := false, first := false }

/-! The lane complex (spec/08_lanes_tile_link.md). -/

/-- A management command in a lane's queue (R286, R306): a control block, or a KEYX group with the key and salt it
installs and the key's generation. -/
inductive Mgmt where
  | block (type : Nat) (f : Nat)
  | keyx (key salt : Nat) (generation : Nat)
  deriving DecidableEq, Repr

/-- A wall lane (R284 to R307): how LANE_SETUP set it, its sequence number and key, the commands that wait, the ENUMERATEs that gather
replies (tag, destination, positions), the TILE_READs that wait (tag, position, register), and the last 58 bits that its
scrambler sent, the latest lowest. -/
structure WallLane where
  mode : Nat
  guard : Bool
  trainBlocks : Nat
  txInvert : Bool
  rxInvert : Bool
  seq : Nat
  key : Option (Nat × Nat)
  mgmt : List Mgmt
  enums : List (Nat × Nat × List Nat)
  enumHigh : Option Nat
  reads : List (Nat × Nat × Nat)
  scram : Nat
  deriving DecidableEq, Repr

def WallLane.empty : WallLane :=
  { mode := 0, guard := false, trainBlocks := 0, txInvert := false, rxInvert := false, seq := 0, key := none, mgmt := [],
    enums := [], enumHigh := none, reads := [], scram := 0 }

/-- What any of the 52 serial lanes has of its own (R279, R280, R283): are the last headers received valid, latest first; has its CTLE
been adapted, has LNX_ADAPT_LIMIT been raised since it started; the free value that names its transmit settings where no command gives
them. -/
structure SerialLane where
  heads : List Bool
  adapted : Bool
  limitMade : Bool
  txFree : Option Nat
  deriving DecidableEq, Repr

def SerialLane.empty : SerialLane := { heads := [], adapted := false, limitMade := false, txFree := none }

/-! The video codec (spec/09_codec.md). -/

/-! What of H.265 a decoder keeps; Machine/H265.lean reads it. -/

/-- A NAL unit without its emulation prevention, its two header bytes first, and whether a byte of it is poisoned. -/
structure Nal where
  bytes : List Byte
  poisoned : Bool
  deriving DecidableEq, Repr

/-- A short-term reference picture set: POC deltas and whether the picture itself refers to them, those before it first, each nearest
first. -/
structure Rps where
  before : List (Int × Bool)
  after : List (Int × Bool)
  deriving DecidableEq, Repr

/-- What the decoder needs of a sequence parameter set. -/
structure Sps where
  vps : Nat
  profile : Nat
  compat : Nat
  constraints : Nat
  level : Nat
  chroma : Nat
  planes : Bool
  w : Nat
  h : Nat
  depthY : Nat
  depthC : Nat
  pocBits : Nat
  buffers : Nat
  reorder : Nat
  latency : Nat
  ctb : Nat
  rps : List Rps
  longTerm : Bool
  ltLsb : List (Nat × Bool)
  deriving DecidableEq, Repr

/-- What the decoder needs of a picture parameter set. -/
structure Pps where
  sps : Nat
  dependent : Bool
  outputFlag : Bool
  extraBits : Nat
  tiles : Bool
  wpp : Bool
  deriving DecidableEq, Repr

/-- What a byte range holds, in order: a parameter set, the end of a sequence, the slice segments of a picture with the hash message after
them. -/
inductive DecItem where
  | set (u : Nal)
  | eos
  | pic (slices : List Nal) (hash : Option (List Byte))
  deriving DecidableEq, Repr

/-- An encode context (R316, R319): its parameter block, pictures and slices and bytes so far, pictures since the last IDR, the ROI table,
the last frame taken of each ring by its control block, the mirror attached (core, context); the rows of its reference pictures, latest
first; the fullness of its CPB at the next picture's nominal removal time, in bits × time_scale, none before the first picture. -/
structure EncCtx where
  params : List Quad
  pictures : Nat
  slices : Nat
  written : Nat
  sinceIdr : Nat
  roi : List Quad
  lastRings : List (Nat × Nat)
  mirror : Option (Nat × Nat)
  recon : List (List Config.RowRecon)
  cpb : Option Nat
  deriving DecidableEq, Repr

/-- A context of a parameter block, as CTX_SETUP leaves it. -/
def EncCtx.make (p : List Quad) : EncCtx := ⟨p, 0, 0, 0, 0, List.replicate 16 0, [], none, [], none⟩

/-- A picture in the decoder's buffers: its number, its buffer, whether it is still a reference, and a long-term one, held by the
application, waiting for output, impaired, tainted; its picture order count; the pictures output after it that came before. -/
structure DpbPic where
  number : Nat
  buffer : Nat
  reference : Bool
  long : Bool
  held : Bool
  waiting : Bool
  impaired : Bool
  tainted : Bool
  poc : Int
  latency : Nat
  deriving DecidableEq, Repr

/-- A decode context (R316, R319, R337): its parameter block, pictures decoded, the DPB, why pictures are skipped until the
next IRAP, the pictures output that no report lists yet; for a mirror the next slice, whether an IRAP has been reached, pictures decoded,
whether it is attached. The parameter sets received, by identifier; does decoding start at the next IRAP, are its RASL pictures
dropped; the picture order count that the next one's is counted from. -/
structure DecCtx where
  params : List Quad
  pictures : Nat
  dpb : List DpbPic
  skip : Option Nat
  owed : List Nat
  mirrorNext : Nat
  mirrorIrap : Bool
  mirrorPics : Nat
  attached : Bool
  vpss : List Nat
  spss : List (Nat × Sps)
  ppss : List (Nat × Pps)
  start : Bool
  raslOff : Bool
  prevPoc : Int
  deriving DecidableEq, Repr

/-- A context of a parameter block, as CTX_SETUP leaves it. -/
def DecCtx.make (p : List Quad) (attached : Bool) : DecCtx :=
  ⟨p, 0, [], none, [], 0, false, 0, attached, [], [], [], true, false, 0⟩

/-- A stream context. -/
inductive VcxCtx where
  | enc (c : EncCtx)
  | dec (c : DecCtx)
  deriving DecidableEq, Repr

/-- A slice that waits for room in the NAL ring (R328): its bytes, first row, and the flags of its report. -/
structure SliceOut where
  bytes : List Byte
  row : Nat
  flags : Nat
  deriving DecidableEq, Repr

/-- A picture being encoded (R323 to R333, R351); `acc` is the slice that is not ended: its first row, the coder's use that it is, its
rows and bytes so far; `recon` the picture's rows so far. -/
structure EncPic where
  tag : Nat
  ctx : Nat
  ring : Bool
  ringLines : Nat
  src : Nat
  stride : Nat
  src2 : Nat
  report : Nat
  capture : Nat
  asked : Nat
  waiting : Bool
  kind : Nat
  number : Nat
  poc : Nat
  cap : Option Nat
  r0 : Nat
  spent : Nat
  row : Nat
  floorActive : Bool
  floorRows : Nat
  firstFloor : Nat
  slices : Nat
  start : Nat
  auBytes : Nat
  out : List SliceOut
  acc : List Byte
  accRow : Nat
  accUse : Nat
  accJobs : List Config.RowJob
  recon : List Config.RowRecon
  headers : List Byte
  aborted : Bool
  poisoned : Nat
  first : Nat
  frame : Nat
  qpFirst : Int
  qpSum : Int
  qpCount : Nat
  crcs : List Nat
  threshMade : Bool
  deriving DecidableEq, Repr

/-- What a report says of the last picture decoded (R351). -/
structure DecShown where
  poc : Int
  nal : Nat
  buffer : Nat
  w : Nat
  h : Nat
  chroma : Nat
  depthY : Nat
  depthC : Nat
  deriving DecidableEq, Repr

/-- A DEC_AU being carried out (R340 to R347, R351): what of its range is still to do, and what its report will say. -/
structure DecRun where
  tag : Nat
  ctx : Nat
  report : Nat
  flush : Bool
  length : Nat
  items : List DecItem
  flags : Nat
  count : Nat
  last : Option DecShown
  concealed : Nat
  generated : Nat
  damaged : Nat
  status : Nat
  waiting : Bool
  threshMade : Bool
  deriving DecidableEq, Repr

/-- What a core does. -/
inductive VcxRun where
  | idle
  | enc (p : EncPic)
  | dec (d : DecRun)
  deriving DecidableEq, Repr

/-- A codec core (R311 to R349): its contexts, the one loaded, what it does. -/
structure Vcx where
  ctxs : Sparse (Option VcxCtx)
  loaded : Option Nat
  run : VcxRun
  deriving DecidableEq, Repr

def Vcx.empty : Vcx := ⟨[], none, .idle⟩

/-! The packer and the clip store (spec/10_recording_replay.md). -/

/-- An LPK_PACK being carried out (R366, R367): the chain as (address, size); the next block; the next stream byte. -/
structure LpkRun where
  tag : Nat
  cfa : Nat
  exposures : Nat
  width : Nat
  frame : Nat
  capture : Nat
  src : Nat
  stride : Nat
  w : Nat
  h : Nat
  chain : List (Nat × Nat)
  block : Nat
  pos : Nat
  raw : Nat
  poisoned : Bool
  deriving DecidableEq, Repr

/-- A STORE_SETUP (R394, R398). -/
structure ClsSetup where
  ssds : List Nat
  vwc : Bool
  wbBase : Nat
  wbMib : Nat
  dirtyMib : Nat
  nvmeBase : Nat
  flushDelay : Nat
  deriving DecidableEq, Repr

/-- A clip that is not free (R377 to R379): 1 open, 2 closed, 3 failed. -/
structure Clip where
  state : Nat
  dataFirst : Nat
  dataBlocks : Nat
  indexFirst : Nat
  indexBlocks : Nat
  ack : Nat
  entries : Nat
  deriving DecidableEq, Repr

/-- A page of the write buffer (R382): clip and page number, those of an index from 2³⁶ on; its slot; the version of its
content, the version on the medium and how many of its bytes are there; whether it is being loaded, when it was last
changed or used, whether its bytes were lost. -/
structure Page where
  clip : Nat
  page : Nat
  slot : Nat
  version : Nat
  durable : Nat
  durBytes : Nat
  loading : Bool
  order : Nat
  lost : Bool
  deriving DecidableEq, Repr

/-- An NVMe command outstanding (R393, R395, R396): the pages it moves, with their versions. -/
structure NvmeCmd where
  port : Nat
  cid : Nat
  write : Bool
  keys : List (Nat × Nat × Nat)
  retried : Bool
  time : Nat
  deriving DecidableEq, Repr

/-- What a store command that has been taken still has to do. -/
inductive ClsJob where
  | write (clip : Nat) (fua index : Bool) (flags number src len ringBase ringBytes : Nat) (warned : Bool)
  | read (clip : Nat) (index wait : Bool) (first len dest : Nat)
  | durable (start : Nat) (pages : List (Nat × Nat × Nat)) (poisoned : Bool)
  | flush (writes : List (Nat × Nat)) (pages : List (Nat × Nat × Nat))
  | close (clip : Nat) (writes : List (Nat × Nat)) (closing : Bool)
  | drop (clip : Nat) (earlier : List (Nat × Nat))
  deriving DecidableEq, Repr

/-- A store command by its queue (18, or 60 + n for a host pair) and tag. -/
structure ClsCmd where
  q : Nat
  tag : Nat
  job : ClsJob
  deriving DecidableEq, Repr

/-- Since when a tag of the store is outstanding, and whether CLS_AGE has fired for it (R388). -/
structure ClsAge where
  q : Nat
  tag : Nat
  since : Nat
  fired : Bool
  deriving DecidableEq, Repr

/-- The clip store (R376 to R396). `setupTag` is the STORE_SETUP that waits for its SSDs. -/
structure Cls where
  setup : Option ClsSetup
  setupTag : Option (Nat × Nat)
  clips : Sparse (Option Clip)
  pages : List Page
  nvme : List NvmeCmd
  nextCid : Nat
  clock : Nat
  jobs : List ClsCmd
  ages : List ClsAge
  resetStep : Nat
  deriving DecidableEq, Repr

def Cls.empty : Cls := ⟨none, none, [], [], [], 0, 0, [], [], 0⟩

/-! Memory (spec/11_memory.md). -/

/-- What the memory subsystem holds beside its registers: is Comb being initialised (R423); the next burst of each stack's
patrol, by place, and Comb's next word (R420, R423); replays in a row after alerts on one command, by pseudo-channel
(R417); each stack's temperature at its last entry to self-refresh (R414). -/
structure MemSt where
  combInit : Bool
  patrol : Sparse Nat
  combPatrol : Nat
  alerts : Sparse Nat
  entryTemp : Sparse Nat
  rotation : Sparse Nat
  owed : Sparse Int
  deriving DecidableEq, Repr

def MemSt.reset : MemSt := ⟨true, [], 0, [], [], [], []⟩

/-! Host port and control buses (spec/13_host_control_buses.md). -/

/-- A two-wire transfer of a TW_XFER (R475, R485): its retry setting, the bytes to write, where read bytes go, the attempts
made, the byte and bit of the last arbitration loss. -/
structure TwRun where
  tag : Nat
  retry : Bool
  attempts : Nat
  address : Nat
  wr : List Byte
  combined : Bool
  rdLen : Nat
  rdDest : Nat
  made : Nat
  lossByte : Nat
  lossBit : Nat
  deriving DecidableEq, Repr

/-- A FLASH_PROGRAM or FLASH_ERASE in progress (R470, R471): the next flash offset, the bytes still to program or to erase,
what has been done (bytes or sectors), the source of the next page, the size of the page or erase in progress. -/
structure FlashRun where
  tag : Nat
  erase : Bool
  offset : Nat
  left : Nat
  done : Nat
  src : Nat
  size : Nat
  stopping : Bool
  deriving DecidableEq, Repr

/-- An entry of the boot directory (R468). -/
structure BootEntry where
  type : Nat
  offset : Nat
  length : Nat
  dest : Nat
  deriving DecidableEq, Repr

/-- The host port and the control buses. `flash` is the boot flash on the board, erased bytes 0xFF; `balls` the levels that
the board drives on the GPIO balls; `pulses` the running trigger pulses, oldest first, as trigger, pin, active level;
`waiting` the boot entry whose hive image is being loaded. -/
structure Hci where
  tw : Sparse (Option TwRun)
  staged : Sparse Byte
  pointer : Nat
  latched : List Byte
  ignoring : Bool
  balls : BitVec 16
  pulses : List (Nat × Nat × Bool)
  flash : Sparse Byte
  flashRun : Option FlashRun
  entries : List BootEntry
  bootNext : Nat
  bootWait : Bool
  deriving DecidableEq, Repr

def Hci.empty : Hci :=
  { tw := [], staged := [], pointer := 0, latched := [], ignoring := false, balls := 0, pulses := [], flash := [],
    flashRun := none, entries := [], bootNext := 0, bootWait := false }

/-! Keeper (spec/15_security.md). -/

/-- A control session (R530 to R533): opened, and proved or not; its slot, the client's key, the number of Keeper's ephemeral
key, the challenge, the scope, idle_s, the session key and salt, the last counter, AUTH_FAILs in a row. -/
structure Session where
  proved : Bool
  slot : Nat
  client : List Byte
  secret : Nat
  challenge : List Byte
  scope : Nat
  idle : Nat
  key : Nat
  salt : Nat
  counter : Nat
  fails : Nat
  deriving DecidableEq, Repr

/-- A key slot that is programmed (R526): public key, usage mask. -/
structure KeySlot where
  pub : List Byte
  usage : Nat
  deriving DecidableEq, Repr

/-- A fuse burn in progress (R525 to R529). -/
inductive FuseOp where
  | program (slot usage : Nat) (pub : List Byte)
  | revoke (slot : Nat)
  | floor (v : Nat)
  | lifecycle (v : Nat)
  deriving DecidableEq, Repr

/-- The request that Keeper serves (R546): the mailbox's, or that of a KPR_CMD with its tag and response address; its bytes
and its code. -/
structure KprServe where
  tag : Option Nat
  resp : Nat
  req : List Byte
  code : Nat
  deriving DecidableEq, Repr

/-- Keeper's own memories (R524 to R549). OTP: slots, revocations, the firmware floor, the disabled device key. MRAM's secure
partition: WK and SK with their install numbers, floors, lane generations, the key-use count. `highest` holds the highest
security version loaded by slot since the last reset; `lane` a LANE_KEY whose KEYX has not left. -/
structure Kpr where
  slots : Sparse (Option KeySlot)
  fwFloor : Nat
  dkOff : Bool
  wk : Option Nat
  wkNumber : Nat
  sk : Option (Nat × Nat)
  skNumber : Nat
  floors : Sparse Nat
  gens : Sparse Nat
  useCount : Nat
  highest : Sparse Nat
  sessions : Sparse (Option Session)
  serving : Option KprServe
  hostWait : Bool
  hostLast : Bool
  burning : Option FuseOp
  lane : Option Nat
  nonce : Option (List Byte)
  deriving DecidableEq, Repr

/-- Keeper as shipped, with no slot programmed and no key installed (DESIGN CHOICE, log entry 6). -/
def Kpr.empty : Kpr :=
  { slots := [], fwFloor := 0, dkOff := false, wk := none, wkNumber := 0, sk := none, skNumber := 0, floors := [],
    gens := [], useCount := 0, highest := [], sessions := [], serving := none, hostWait := false, hostLast := false,
    burning := none, lane := none, nonce := none }

/-! Beacon time and the cascade (spec/12_time_cascade.md). -/

/-- A Beacon trigger (R71, R433, R434). -/
structure Trig where
  st : ArmState
  time : Word
  late : Bool
  result : Nat
  pulse : Bool
  deriving DecidableEq, Repr

/-- A trigger never armed. -/
def Trig.empty : Trig := ⟨.idle, 0, false, 0, false⟩

/-- An Ethernet port's setup (R435). -/
structure EthPort where
  vlanEn : Bool
  vid : Nat
  pcp : Nat
  addr : Nat
  deriving DecidableEq, Repr

/-- A frame taken by a port and not departed yet (R440): the tag of its PKT_SEND, none for RTP. -/
structure TxItem where
  tag : Option Nat
  bytes : List Byte
  oneStep : Nat
  offset : Nat
  t2 : Nat
  deriving DecidableEq, Repr

/-- A receive filter (R439). -/
structure RxFilterSt where
  enable : Bool
  ports : BitVec 4
  kind : Nat
  value : Nat
  deriving DecidableEq, Repr

/-- A ring in memory with a control block (R439, R459): base, entries, control block. -/
structure MemRing where
  base : Nat
  entries : Nat
  ctrl : Nat
  deriving DecidableEq, Repr

/-- An RTP stream's parameters (R441, R459). -/
structure RtpStream where
  port : Nat
  ipv6 : Bool
  dscp : Nat
  ttl : Nat
  payloadType : Nat
  mtu : Nat
  dstMac : Nat
  ssrc : Nat
  srcPort : Nat
  dstPort : Nat
  srcIp : Nat
  dstIp : Nat
  deriving DecidableEq, Repr

/-- Beacon time, triggers, Ethernet ports, packet path and RTP (R428 to R442). -/
structure Beacon where
  ns : Word
  frac : BitVec 30
  wrap : Word
  latFrac : BitVec 30
  latWrap : Word
  ptpLo : Word
  ptpBase : BitVec 64
  trigs : Sparse Trig
  eth : Sparse EthPort
  txq : Sparse (List TxItem)
  filters : Sparse RxFilterSt
  ring : Option MemRing
  rtp : Sparse (Option RtpStream)
  deriving DecidableEq, Repr

/-- An exported stream (R452): where it goes, the ring it reads, the frame and line it has reached. -/
structure CasExp where
  upstream : Bool
  farthest : Nat
  format : Nat
  width : Nat
  stride : Nat
  ctrl : Nat
  base : Nat
  lines : Nat
  frameOpen : Option Nat
  next : Nat
  deriving DecidableEq, Repr

/-- An imported stream (R452, R453): the ring it writes, the frame open in it, the line being gathered. -/
structure CasImp where
  format : Nat
  width : Nat
  stride : Nat
  ctrl : Nat
  base : Nat
  lines : Nat
  frameOpen : Option Nat
  lastFrame : Option Nat
  line : Nat
  got : Nat
  deriving DecidableEq, Repr

/-- A prepared set of a swarm commit (R456): group, target frame, commit id, staged copies. -/
structure Prepared where
  group : Nat
  frame : Nat
  id : Nat
  writes : List (Nat × Word)
  deriving DecidableEq, Repr

/-- The role holder's PREPARE on its way round the ring (R456): its id, requester, group, target frame, own verdict. -/
structure PrepOut where
  id : Nat
  requester : Nat
  group : Nat
  frame : Nat
  tp : Nat
  deriving DecidableEq, Repr

/-- A swarm commit request held by the role holder: requester, group, frame, request time. -/
structure CommitReq where
  requester : Nat
  group : Nat
  frame : Nat
  time : Nat
  deriving DecidableEq, Repr

/-- The cascade (R443 to R459). `seen` holds the (origin, seq) delivered; `recent` what left in the last 200 µs, as link, time
and packet; `waggleTerm` the term and origin of the Waggle followed; `guard` the guard's B and next packet counter (R540), `blocks` each link's
next block, `scram` each lane's scrambler (R443), `waggleActing` whether the Waggle followed was an acting deputy's. -/
structure Cas where
  enable : Bool
  rate : Bool
  wagglePeriod : Nat
  ptp : Bool
  gridAnchor : Nat
  gridPeriod : Nat
  gridFrame : Nat
  ring : Option MemRing
  seqNo : Nat
  seen : List (Nat × Nat)
  recent : List (Nat × Nat × AdeoftPkt)
  usable : List Nat
  txOn : List Nat
  blocks : Sparse Nat
  scram : Sparse Nat
  delays : Sparse (List Nat)
  misses : Nat
  waggleTerm : Option (Nat × Nat)
  waggleActing : Bool
  held : Bool
  heldStamps : List Word
  enumTag : Option Nat
  exports : Sparse (Option CasExp)
  imports : Sparse (Option CasImp)
  requests : List CommitReq
  prepOut : Option PrepOut
  prepared : Sparse (Option Prepared)
  commitId : Nat
  snaps : List (Nat × Nat)
  snapId : Nat
  guard : Option (Nat × Nat)
  deriving DecidableEq, Repr

/-- The cascade before any CAS_SETUP. -/
def Cas.empty : Cas :=
  { enable := false, rate := false, wagglePeriod := 0, ptp := false, gridAnchor := 0, gridPeriod := 0,
    gridFrame := 0, ring := none, seqNo := 0, seen := [], recent := [], usable := [], txOn := [], blocks := [], scram := [],
    delays := [], misses := 0, waggleTerm := none, waggleActing := false, held := false, heldStamps := [], enumTag := none, exports := [],
    imports := [], requests := [], prepOut := none, prepared := [], commitId := 0, snaps := [], snapId := 0,
    guard := none }

end Sys2Proof.Machine
end

