-- ==== Sys2Proof/Machine/State.lean ====
section
/-!
DEFINITION. The state of the device, its faults and refusals, and the state after reset.
-/
namespace Sys2Proof.Machine

/-- An output pin of the device. -/
inductive Pin where
  | faultN
  | xtrig (n : Nat)
  | mclk (n : Nat)
  | gpio (n : Nat)
  deriving DecidableEq, Repr

/-- What has left the device, oldest first: MSI-X messages, read data for the host and other masters, packets, frames, blocks (a
control block is marked true), bus and disk commands, the sensor master clocks (with the Beacon rate that one follows, R113). A field of the
model, not of the spec (DESIGN CHOICE, log entry 15). -/
inductive Emission where
  | msix (vector : Nat)
  | hostData (bytes : List Byte)
  | regData (value : Word)
  | memData (m : Master) (bytes : List Byte) (poisoned : Bool)
  | frame (port : Nat) (bytes : List Byte)
  | adeoft (link : Nat) (blocks : List (Nat × BitVec 66))
  | tile (lane : Nat) (blocks : List (BitVec 66))
  | nvme (port cid : Nat) (write : Bool) (lba blocks : Nat) (bytes : List Byte)
  | nvmeOther (port cid op : Nat)
  | twoWire (port : Nat) (bytes : List Byte)
  | twoWireXfer (port address : Nat) (wr : List Byte) (combined : Bool) (rdLen : Nat)
  | busClear (port : Nat)
  | flashOp (op addr : Nat)
  | mclk (port khz : Nat) (rate : Option Word)
  | pin (p : Pin) (level : Bool)
  deriving DecidableEq, Repr

/-- The state: everything the spec gives the device, and four fields of the model's own (`fresh`, `out`, `due`,
`pending`). `regs` is keyed by `Reg.<name>`; `mem` by device address (R48); `poison` marks 128-bit words by address / 16, and the
words of tables by `tblWord` (R26); `flaws` says of a word, by the same keys, what a reader's decoder will find in it (R25);
`tables` holds unit tables, keyed as `tableKey` says; `nv` is MRAM by byte address. -/
structure State where
  variant : Variant
  straps : Straps
  inert : Bool
  regs : Sparse Word
  mem : List Host.Cell
  poison : Sparse Bool
  flaws : Sparse WordErr
  tables : Sparse Quad
  nv : Sparse Byte
  queues : Sparse CmdQueue
  cqs : Sparse (List CqItem)
  doms : Doms
  stalled : List (Nat × Nat)
  rateMade : List Nat
  meters : Sparse Meter
  gov : Gov
  hive : Hive
  fgh : Fgh
  ports : Sparse Port
  arbs : Sparse Arb
  rfes : Sparse RfeSlot
  clrs : Sparse ClrSlot
  clrIn : Sparse (List (Nat × ClrItem))
  splits : List SplitFrame
  cmpOuts : Sparse CmpOutSt
  cmpRings : Sparse RingUse
  gens : Sparse Gen
  lanes : Sparse WallLane
  serial : Sparse SerialLane
  eyeScans : List (Nat × Nat × Nat)
  bcn : Beacon
  cas : Cas
  vcxs : Sparse Vcx
  lpks : Sparse (Option LpkRun)
  cls : Cls
  memx : MemSt
  hci : Hci
  kpr : Kpr
  out : List Emission
  fresh : Nat
  due : Due
  pending : List Instr
  deriving DecidableEq, Repr

/-- A fault stops the machine. No command of the spec stops the device, so nobody raises this one; it is safe. -/
inductive Fault where
  | none
  deriving DecidableEq, Repr

/-- A refusal says that the model gives a command no meaning. -/
inductive Refusal where
  /-- Raised only by an arm of `exec` that has no meaning yet; safe, since no next state is claimed. -/
  | notModelled (mnemonic : String)
  deriving DecidableEq, Repr

/-- The domains that are powered after every reset (R504). -/
def resetPowered (v : Variant) : BitVec 30 :=
  match v with
  | .ew9760 => 0x11F80003#30
  | _ => 0x11B80003#30

/-- The domains after a power-on reset: powered ones fenced, every epoch 0 (R44, R45, R504). -/
def Doms.reset (v : Variant) : Doms := ⟨resetPowered v, resetPowered v, 0, []⟩

/-- No work to settle. -/
def Due.none : Due := ⟨[], false, false⟩

/-- Straps left open read 0; VDDIO_TW at 1.8 V (DESIGN CHOICE, log entry 3). -/
def Straps.none : Straps := ⟨0, 0, 0, false, false, false⟩

/-- The Hive with no image anywhere. -/
def Hive.empty : Hive := ⟨[], [], [], ⟨.idle, 0, 0, [], false⟩, [], [], []⟩

/-- The governor at reset, its read of VOUT_MODE on its way (R18, R481). -/
def Gov.reset : Gov := ⟨0, false, false, .mode 1, false, 800, none⟩

/-- Foghorn with an empty intake. -/
def Fgh.empty : Fgh :=
  { intake := [], lostOwed := false, faultStuck := false, fatalNext := 0, snapUs := none, offMask := 0,
    stateTag := none, pdTag := [], dozeStep := 0, wakeHeld := none, resetting := none, wdogRunning := false,
    restarts := [], dwellTaken := false, railMin := [], railWarn := [], deviations := [], clockBad := [],
    clockReported := [], trims := 0, requests := [] }

/-- A device of variant `v` with straps `st` and every register, memory and queue at its reset value: empty MRAM (DESIGN CHOICE, log entry
5) and fuses (DESIGN CHOICE, log entry 6). -/
def State.blank (v : Variant) (st : Straps) : State :=
  { variant := v, straps := st, inert := false, regs := [], mem := [], poison := [], flaws := [], tables := [],
    nv := [], queues := [], cqs := [], doms := Doms.reset v, stalled := [], rateMade := [], meters := [],
    gov := Gov.reset, hive := Hive.empty, fgh := Fgh.empty,
    ports := [],
    arbs := [],
    rfes := [],
    clrs := [],
    clrIn := [],
    splits := [],
    cmpOuts := [],
    cmpRings := [],
    gens := [],
    lanes := [],
    serial := [],
    eyeScans := [],
    bcn := ⟨0, 0, 0, 0, 0, 0, 0, [], [], [], [], none, []⟩,
    cas := Cas.empty,
    vcxs := [],
    lpks := [],
    cls := Cls.empty,
    memx := MemSt.reset,
    hci := Hci.empty,
    kpr := Kpr.empty,
    out := [], fresh := 0, due := Due.none, pending := [] }

/-- The RESET report of a power-on reset (R510). -/
def resetEntry : Entry :=
  { source := 0x04, sub := 0, code := 0x16, severity := 0, first := 0, last := 0, count := 1, epoch := 0, detail := 0,
    windowOpen := true, written := none, again := false }

/-- A read of VOUT_MODE from the regulator at `address` leaves on TW_5 (R481): the command, then one byte after a repeated START. -/
def modeRead (address : Nat) : Emission := .twoWireXfer 5 address [0x20] true 1

/-- The device right after a power-on reset is released: an EW9760 with every strap 0 (DESIGN CHOICE, log entry 3), the RESET
report entered (R510) and the read of VOUT_MODE on its way (R481). -/
def State.reset : State :=
  { State.blank .ew9760 Straps.none with fgh := { Fgh.empty with intake := [resetEntry] }, out := [modeRead 0x40] }

end Sys2Proof.Machine
end

