-- ==== Sys2Proof/Machine/Ops.lean ====
section
/-!
DEFINITION. The shared operations: registers, windows and domains, memory, Beacon time, events, snapshots, fault
reports, command and completion queues, power-down and power-up of a domain.
-/
namespace Sys2Proof.Machine

/-! Bit fields, bytes. -/

/-- Bits [hi:lo] of a number. -/
def nbits (v hi lo : Nat) : Nat := (v / 2 ^ lo) % 2 ^ (hi + 1 - lo)

/-- Bits [hi:lo] of a register value. -/
def bitsOf (v : Word) (hi lo : Nat) : Nat := nbits v.toNat hi lo

/-- Bits [hi:lo] of a 128-bit word. -/
def qbits (v : Quad) (hi lo : Nat) : Nat := nbits v.toNat hi lo

/-- A register value with bits [hi:lo] set to `x`. -/
def putBits (v : Word) (hi lo x : Nat) : Word :=
  let m : Word := BitVec.ofNat 32 ((2 ^ (hi + 1 - lo) - 1) * 2 ^ lo)
  (v &&& ~~~m) ||| (BitVec.ofNat 32 (x * 2 ^ lo) &&& m)

/-- The `n` bytes of `v`, least significant first. -/
def leBytes : Nat → Nat → List Byte
  | 0, _ => []
  | n + 1, v => BitVec.ofNat 8 v :: leBytes n (v / 256)

/-- The number whose bytes, least significant first, are given. -/
def ofLe : List Byte → Nat
  | [] => 0
  | b :: t => b.toNat + 256 * ofLe t

/-- The number whose bytes, most significant first, are given. -/
def ofBe (bs : List Byte) : Nat := ofLe bs.reverse

/-- The `n` bytes of `v`, most significant first. -/
def beBytes (n v : Nat) : List Byte := (leBytes n v).reverse

/-- The signed number that the low `w` bits of `v` stand for. -/
def signed (w v : Nat) : Int :=
  let r := v % 2 ^ w
  if r < 2 ^ (w - 1) then (r : Int) else (r : Int) - 2 ^ w

/-- A signed number in `w` bits, two's complement. -/
def wrapInt (w : Nat) (i : Int) : Nat := (i % (2 ^ w : Int)).toNat

/-! Windows, units and domains (R2, R36, R48, R574). -/

/-- Has the variant only one DRAM stack and no second instances? -/
def Variant.small (v : Variant) : Bool := v != .ew9760

/-- Is window `w` reserved, or does it belong to a unit absent on the variant (R2, R4)? -/
def windowAbsent (v : Variant) (w : Nat) : Bool :=
  decide (0x12 ≤ w ∧ w ≤ 0x1F) || w == 0x2F || decide (0x49 ≤ w ∧ w ≤ 0x4F) || decide (0x5B ≤ w) ||
  (v.small && [0x22, 0x23, 0x25, 0x27, 0x33, 0x38, 0x39, 0x42, 0x43, 0x45, 0x59].contains w) ||
  (v == .ew9730 && [0x2D, 0x32, 0x40, 0x41, 0x44, 0x46, 0x47].contains w)

/-- The windows that read zero throughout (R574). -/
def windowZero (w : Nat) : Bool := [0x09, 0x0A, 0x0B, 0x0F, 0x2B, 0x3E, 0x3F].contains w

/-- The power domain of window `w` (R574), none for a window with no domain. -/
def windowDomain (w : Nat) : Option Nat :=
  if w ≤ 0x03 then some 28
  else if w ≤ 0x07 then some 0
  else if w ≤ 0x0B then some 1
  else if w == 0x0C then some 0
  else if w ≤ 0x0F then some 27
  else if w ≤ 0x11 then some 26
  else if w < 0x20 then none
  else if w ≤ 0x27 then some (w - 0x20 + 2)
  else if w ≤ 0x2B then some 10
  else if w ≤ 0x2D then some (w - 0x2C + 11)
  else if w < 0x30 then none
  else if w ≤ 0x33 then some 24
  else if w ≤ 0x39 then some 25
  else if w ≤ 0x3C then some 26
  else if w ≤ 0x3F then some 25
  else if w ≤ 0x43 then some (w - 0x40 + 13)
  else if w ≤ 0x45 then some 17
  else if w ≤ 0x47 then some 18
  else if w < 0x50 then none
  else if w ≤ 0x53 then some 19
  else if w ≤ 0x57 then some 20
  else if w == 0x58 then some 21
  else if w == 0x59 then some 22
  else if w == 0x5A then some 23
  else none

/-- Does window `w` hold a completion-watchdog bound (R574)? -/
def windowStall (w : Nat) : Bool :=
  w == 0x0E || w == 0x10 || decide (0x20 ≤ w ∧ w ≤ 0x28) || w == 0x2C || w == 0x2D || w == 0x3D ||
  decide (0x40 ≤ w ∧ w ≤ 0x46) || w == 0x48 || decide (0x50 ≤ w ∧ w ≤ 0x5A)

/-- Is domain `d` one of an absent unit (R2, R6)? -/
def domainAbsent (v : Variant) (d : Nat) : Bool :=
  (v.small && [4, 5, 7, 9, 15, 16, 22].contains d) || (v == .ew9730 && [12, 13, 14, 17, 18].contains d)

/-- Is command queue `q` reserved or an absent unit's (R36)? -/
def queueAbsent (v : Variant) (q : Nat) : Bool :=
  decide (25 ≤ q) || (v.small && [2, 3, 5, 7, 14, 15, 17].contains q) ||
  (v == .ew9730 && [10, 12, 13, 16, 18].contains q)

/-- The epoch domain of command queue `q` (R36). -/
def queueDomain (q : Nat) : Nat :=
  if q ≤ 10 then q + 2
  else if q == 11 then 25
  else if q ≤ 15 then q + 1
  else if q ≤ 17 then 17
  else if q == 18 ∨ 60 ≤ q then 18
  else if q == 19 then 21
  else if q == 20 then 26
  else if q == 21 then 27
  else if q == 22 then 28
  else if q == 23 then 0
  else 1

/-- The register window of command queue `q`'s unit, whose common block counts its lost descriptors as entry 0, or as
the entry given (R51). -/
def queueWindow (q : Nat) : Nat :=
  if q ≤ 7 then 0x20 + q
  else if q == 8 then 0x28
  else if q ≤ 10 then 0x2C + (q - 9)
  else if q == 11 then 0x3D
  else if q ≤ 15 then 0x40 + (q - 12)
  else if q ≤ 17 then 0x44 + (q - 16)
  else if q == 18 then 0x46
  else if q == 19 then 0x58
  else if q == 20 then 0x10
  else if q == 21 then 0x0E
  else if q == 22 then 0x00
  else if q == 23 then 0x04
  else 0x08

/-- The power domain of cell `n` (R52). -/
def cellDomain (n : Nat) : Nat := if n < 4 then 19 else 20

/-- Is domain `d` claimable by an image (R92)? -/
def claimable (d : Nat) : Bool := decide (2 ≤ d ∧ d ≤ 18) || decide (21 ≤ d ∧ d ≤ 28)

/-- The lowest-numbered window of the unit that window `w` belongs to (R50). -/
def firstWindow (w : Nat) : Nat :=
  if w ≤ 0x03 then 0 else if w ≤ 0x07 then 0x04 else if w ≤ 0x0B then 0x08 else if w ≤ 0x0F then 0x0C else if w ≤ 0x11 then 0x10
  else if 0x28 ≤ w ∧ w ≤ 0x2B then 0x28 else if 0x3D ≤ w ∧ w ≤ 0x3F then 0x3D else if w = 0x47 then 0x46 else w

/-- The source window of a report of a master's access (R577). -/
def masterWindow : Master → Nat
  | .host => 0x00
  | .cell n => 0x50 + n.val
  | .keeper => 0x08
  | .loadPath => 0x48
  | .unit w => firstWindow w.val

def State.isPowered (s : State) (d : Nat) : Bool := s.doms.powered.getLsbD d
def State.isFenced (s : State) (d : Nat) : Bool := s.doms.fenced.getLsbD d
def State.epoch (s : State) (d : Nat) : BitVec 8 := sget 0 s.doms.epochs d
def State.epochOfWindow (s : State) (w : Nat) : BitVec 8 :=
  match windowDomain w with
  | some d => s.epoch d
  | none => 0

/-- Domain `d`'s bit in a 30-bit mask. -/
def dbit (d : Nat) : BitVec 30 := BitVec.ofNat 30 (2 ^ d)

/-! The register file (R50, R51). -/

/-- What the lower variants and the straps change in a register's reset value (R2, R566). -/
def regInitOverride (v : Variant) (st : Straps) (k : Nat) (x : Word) : Word :=
  let w := k / 65536
  if k = Reg.hciId then putBits x 31 16 (match v with | .ew9760 => 0x9760 | .ew9750 => 0x9750 | .ew9730 => 0x9730)
  else if k = Reg.hciBootStatus then putBits x 27 26 st.bootSrc.toNat
  else if k = Reg.tw4Cfg then putBits x 6 0 (0x58 + st.tw4Addr.toNat)
  else if k = Reg.hciPmbus then putBits x 6 0 (0x40 + st.pmbAddr.toNat)
  else if k = Reg.casCap then putBits x 30 30 st.casMaster.toNat
  else if k = Reg.kprStatus then putBits x 27 26 1
  else if (k = Reg.memStatus 0 ∨ k = Reg.memStatus 1) ∧ !windowAbsent v w then putBits x 31 28 1
  else if k = Reg.fghPdStatus then BitVec.ofNat 32 (resetPowered v).toNat
  else if k = Reg.spCap 0 then putBits (putBits x 30 30 1) 29 29 (!v.small).toNat
  else if k = Reg.spCap 2 then putBits x 30 30 1
  else if (0x24 ≤ w ∧ w ≤ 0x25 ∧ k = Reg.rfeCap (w - 0x24)) ∨ (0x26 ≤ w ∧ w ≤ 0x27 ∧ k = Reg.clrCap (w - 0x26)) then putBits x 30 30 (!v.small).toNat
  else if (w = 0x26 ∨ w = 0x27) ∧ 0x400 ≤ k % 65536 ∧ k % 65536 < 0x700 ∧ k % 64 < 36 then
    let i := (k % 65536 - 0x400) / 64
    BitVec.ofNat 32 (preset (i / 4) (i % 4) (k % 64 / 4))
  else if k = Reg.cmpCap then if v = .ew9730 then putBits (putBits x 30 27 4) 22 22 0 else x
  else if 0x2C ≤ w ∧ w ≤ 0x2D ∧ k = Reg.wloCap (w - 0x2C) then
    putBits (if v.small then putBits x 29 24 16 else x) 30 30 (w = 0x2C && v != .ew9730).toNat
  else if 0x30 ≤ w ∧ w ≤ 0x3C ∧ k = Reg.lnxCap (w - 0x30) then
    let q := w - 0x30
    putBits x 30 28 (if q ≤ 1 then 0 else if q ≤ 3 then 1 else if q ≤ 9 then 2 else if q ≤ 11 then 3 else 4)
  else if k = Reg.lnxShCap then if v.small then putBits x 28 24 16 else x
  else if 0x40 ≤ w ∧ w ≤ 0x43 ∧ k = Reg.vcxCap (w - 0x40) then
    putBits (if v.small then putBits x 28 27 1 else x) 30 30 ((w - 0x40) % 2 == 0).toNat
  else if k = Reg.clsCap then if v.small then putBits x 30 29 1 else x
  else if k = Reg.bcnCap then if v = .ew9730 then putBits x 30 28 2 else x
  else if w = 0x48 ∧ 0x1000 ≤ k % 65536 ∧ k < Reg.hivRoute 32 then x ||| 0x400
  else if w = 0x01 ∧ k % 65536 < 0x1000 ∧ k % 16 = 12 then 1
  else x

/-- How many memories or queues, and how many meters, the common block of window `w` has entries for (the common-block
sentences of R132, R166, R204, R239, R274, R308, R353, R373, R401, R426, R461, R487, R522, R550 and of the Hive's host
registers). -/
def blockEcc (w : Nat) : Nat :=
  if w = 0x00 ∨ w = 0x08 ∨ w = 0x10 ∨ w = 0x3D then 1
  else if w = 0x04 ∨ w = 0x2C ∨ w = 0x2D ∨ w = 0x44 ∨ w = 0x45 then 2
  else if w = 0x0E ∨ w = 0x46 ∨ w = 0x24 ∨ w = 0x25 then 5
  else if 0x20 ≤ w ∧ w ≤ 0x23 then 2
  else if w = 0x26 ∨ w = 0x27 then 18
  else if w = 0x28 then 4
  else if 0x30 ≤ w ∧ w ≤ 0x3C then 8
  else if 0x40 ≤ w ∧ w ≤ 0x43 then 3
  else if 0x50 ≤ w ∧ w ≤ 0x57 then 11
  else if w = 0x58 ∨ w = 0x59 then 32
  else if w = 0x5A then 64
  else 0

def blockMeters (w : Nat) : Nat :=
  if w = 0x10 ∨ (0x20 ≤ w ∧ w ≤ 0x28) ∨ w = 0x2C ∨ w = 0x2D ∨ w = 0x3D ∨ (0x40 ≤ w ∧ w ≤ 0x45) ∨
    (0x50 ≤ w ∧ w ≤ 0x5A) then 1 else 0

/-- Is entry 0 of the window's common block a command queue (R51)? -/
def blockLost (w : Nat) : Nat :=
  if (List.range 25).any (fun q => queueWindow q == w) then 1 else 0

/-- Is the common-block register at offset `o` of window `w` backed by anything (R51, R574)? -/
def blockBacked (w o : Nat) : Bool :=
  if windowZero w then false
  else if o = 0xFC08 then windowStall w
  else if o < 0xFD00 then true
  else if o < 0xFE00 then decide ((o - 0xFD00) / 4 < blockLost w)
  else if o < 0xFF00 then decide ((o - 0xFE00) / 16 < blockMeters w)
  else decide ((o - 0xFF00) / 4 < blockEcc w)

/-- The listed register with key `k`, where the window has it; lock exists in WLO_A only (R274). -/
def regRowOf (k : Nat) : Option RegRow :=
  if 0xFC00 ≤ k % 65536 ∧ blockBacked (k / 65536) (k % 65536) = false then none
  else if k = Reg.wloCtrl 1 then (regRow k).map (fun r => { r with rw := r.rw % 2 ^ 31 })
  else regRow k

/-- The reset value of the register with key `k`; zero where none is listed. -/
def regInit (v : Variant) (st : Straps) (k : Nat) : Word :=
  match regRowOf k with
  | some r => regInitOverride v st k (BitVec.ofNat 32 r.init)
  | none => 0

/-- The stored value of register `k`. -/
def State.reg (s : State) (k : Nat) : Word := sget (regInit s.variant s.straps k) s.regs k

/-- Store a register's value. -/
def State.setReg (s : State) (k : Nat) (v : Word) : State :=
  { s with regs := sset (regInit s.variant s.straps k) s.regs k v }

/-- Bits [hi:lo] of register `k`. -/
def State.fld (s : State) (k hi lo : Nat) : Nat := bitsOf (s.reg k) hi lo

/-- Set bits [hi:lo] of register `k`. -/
def State.setFld (s : State) (k hi lo x : Nat) : State := s.setReg k (putBits (s.reg k) hi lo x)

/-- Add to the count in bits [hi:lo] of register `k`, saturating. -/
def State.bump (s : State) (k hi lo n : Nat) : State :=
  s.setFld k hi lo (min (s.fld k hi lo + n) (2 ^ (hi + 1 - lo) - 1))

/-- Add to a 32-bit counter register modulo 2³². -/
def State.count (s : State) (k n : Nat) : State := s.setReg k (s.reg k + BitVec.ofNat 32 n)

/-- What a 32-bit write does to a register that has no act of its own: RW bits are set, W1C bits that are written 1
clear, every other bit stands (R9, R10, R50). -/
def State.maskedWrite (s : State) (k : Nat) (v : Word) : State :=
  match regRowOf k with
  | none => s
  | some r =>
    let rw := BitVec.ofNat 32 r.rw
    let w1c := BitVec.ofNat 32 r.w1c
    let old := s.reg k
    s.setReg k ((old &&& ~~~rw &&& ~~~(w1c &&& v)) ||| (v &&& rw))

/-- Return every register of window `w` to its reset value, but the common block (R511, engine setups). -/
def State.clearWindow (s : State) (w : Nat) : State :=
  { s with regs := s.regs.filter (fun p => !(p.1 / 65536 == w && decide (p.1 % 65536 < 0xFC00))) }

/-- Return the common block of window `w` to its reset values (R511). -/
def State.clearBlock (s : State) (w : Nat) : State :=
  { s with
    regs := s.regs.filter (fun p => !(p.1 / 65536 == w && decide (0xFC00 ≤ p.1 % 65536)))
    rateMade := s.rateMade.filter (fun k => k / 65536 != w)
    meters := s.meters.filter (fun p => p.1 / 16 != w) }

/-! Free values and emissions. -/

/-- Take the next free value. -/
def State.takeFree (s : State) : Quad × State := (Config.freeQuad s.fresh, { s with fresh := s.fresh + 1 })

/-- Something leaves the device. -/
def State.emit (s : State) (e : Emission) : State := { s with out := s.out ++ [e] }

/-! Cells. -/

def State.cell (s : State) (n : Nat) : CellSt := sget CellSt.empty s.hive.cells n

def State.setCell (s : State) (n : Nat) (c : CellSt) : State :=
  { s with hive := { s.hive with cells := sset CellSt.empty s.hive.cells n c } }

def State.mapCell (s : State) (n : Nat) (f : CellSt → CellSt) : State := s.setCell n (f (s.cell n))

/-- The owner of domain `d`: the cell whose image claims it (R92). -/
def State.owner (s : State) (d : Nat) : Option Nat :=
  if claimable d then (List.range 8).find? (fun n => (s.cell n).domClaims.getLsbD d) else none

/-- The owner of Beacon trigger `k` (R434). -/
def State.trigOwner (s : State) (k : Nat) : Option Nat :=
  (List.range 8).find? (fun n => (s.cell n).trigClaims.getLsbD k)

/-! Beacon time (R428, R429). -/

/-- Extended Beacon time E, in ns. -/
def State.now (s : State) : Nat := s.bcn.wrap.toNat * 2 ^ 32 + s.bcn.ns.toNat

/-- E and its fraction as a stamp in 2⁻¹⁶ ns. -/
def State.stamp (s : State) : Nat := s.now * 65536 + s.bcn.frac.toNat / 2 ^ 14

/-- Has 32-bit time `t` been reached (R70)? -/
def reached (now t : Word) : Bool := decide ((now - t).toNat < 2 ^ 31)

/-- The extended time that 32-bit time `t` stands for near `x` (R429). -/
def extendNear (x : Nat) (t : Word) : Nat :=
  ((x : Int) + signed 32 ((t - BitVec.ofNat 32 x).toNat)).toNat

end Sys2Proof.Machine
end

