-- ==== Sys2Proof/Machine/Memory.lean ====
section
/-!
DEFINITION. Memory: the device address map (R48), bytes and poison marks, reads and writes of byte ranges (R26, R27).
An unlisted byte reads zero (DESIGN CHOICE, log entry 4).
-/
namespace Sys2Proof.Machine

/-- What an address maps to (R48). -/
inductive Region where
  | dram | comb | regs | imem (n : Nat) | dmem (n : Nat) | none
  deriving DecidableEq, Repr

/-- The first address above DRAM (R2, R48). -/
def dramTop (v : Variant) : Nat := if v.small then 0x6_0000_0000 else 0xC_0000_0000

def combBase : Nat := 0x10_0000_0000
def combTop : Nat := 0x10_0400_0000
def regsBase : Nat := 0x20_0000_0000
def regsTop : Nat := 0x20_0100_0000
def imemBase (n : Nat) : Nat := 0x30_0000_0000 + n * 0x10_0000
def dmemBase (n : Nat) : Nat := 0x30_0008_0000 + n * 0x10_0000
def imemSize : Nat := 0x2_0000
def dmemSize : Nat := 0x4_0000

/-- The region of a device address (R48). -/
def regionOf (v : Variant) (a : Nat) : Region :=
  if a < dramTop v then .dram
  else if combBase ≤ a ∧ a < combTop then .comb
  else if regsBase ≤ a ∧ a < regsTop then .regs
  else if 0x30_0000_0000 ≤ a ∧ a < 0x30_0080_0000 then
    let n := (a - 0x30_0000_0000) / 0x10_0000
    let o := (a - 0x30_0000_0000) % 0x10_0000
    if o < imemSize then .imem n
    else if 0x8_0000 ≤ o ∧ o < 0x8_0000 + dmemSize then .dmem n
    else .none
  else .none

/-- Do `len` bytes at `a` lie wholly in DRAM or wholly in Comb? -/
def inDramComb (v : Variant) (a len : Nat) : Bool :=
  decide (a + len ≤ dramTop v) || (decide (combBase ≤ a) && decide (a + len ≤ combTop))

/-- Do `len` bytes at `a` lie wholly in one memory of R48: DRAM, Comb or a cell's memory? Registers, which take 32-bit accesses only,
are no memory that a unit's descriptor may name (DEDUCED, log entry 48). -/
def inMemory (v : Variant) (a len : Nat) : Bool :=
  inDramComb v a len ||
  (match regionOf v a with
    | .imem _ | .dmem _ => decide (regionOf v (a + max 1 len - 1) = regionOf v a)
    | _ => false)

/-- Memory in its canonical form: addresses strictly rising, no entry equal to what an unlisted byte reads as. -/
abbrev Memory.wf (m : List Host.Cell) : Bool := swf 0 m

/-- One byte of memory. -/
def State.byte (s : State) (a : Nat) : Byte := sget 0 s.mem a

/-- `n` bytes of memory from `a`. -/
def State.bytes (s : State) (a : Nat) : Nat → List Byte
  | 0 => []
  | n + 1 => s.byte a :: s.bytes (a + 1) n

/-- Memory with the bytes stored from `a` on. -/
def memPut (m : List Host.Cell) (a : Nat) : List Byte → List Host.Cell
  | [] => m
  | b :: t => memPut (sset 0 m a b) (a + 1) t

/-- The little-endian number in `n` bytes from `a`. -/
def State.num (s : State) (a n : Nat) : Nat := ofLe (s.bytes a n)

/-- The 128-bit word numbers that `len` bytes from `a` touch. -/
def wordsOf (a len : Nat) : List Nat :=
  if len = 0 then [] else (List.range ((a + len - 1) / 16 - a / 16 + 1)).map (· + a / 16)

/-! The pseudo-channels (R404, R421). -/

/-- log2 of the pseudo-channels present. -/
def pcBits (v : Variant) : Nat := if v.small then 5 else 6

/-- log2 of the interleaving unit (R404): grain values above 4 act as 4. -/
def State.gbits (s : State) : Nat := 8 + min 4 (s.fld Reg.memMap 2 0)

/-- The pseudo-channel of a DRAM address and the offset inside it (R404). -/
def placeOf (b g a : Nat) : Nat × Nat :=
  let unit := a / 2 ^ g
  let hi := unit / 2 ^ b
  ((unit % 2 ^ b) ^^^ (hi % 2 ^ b) ^^^ ((hi / 2 ^ b) % 2 ^ b), hi * 2 ^ g + a % 2 ^ g)

/-- The DRAM address of a place (R404). -/
def addrOf (b g pc o : Nat) : Nat :=
  let hi := o / 2 ^ g
  (hi * 2 ^ b + (pc ^^^ (hi % 2 ^ b) ^^^ ((hi / 2 ^ b) % 2 ^ b))) * 2 ^ g + o % 2 ^ g

/-- A burst of DRAM: the pseudo-channel, as 32 × stack + local_pc, and the place in a bank (R404). -/
structure Burst where
  pc : Nat
  sid : Nat
  row : Nat
  col : Nat
  bg : Nat
  ba : Nat
  deriving DecidableEq, Repr

/-- The burst of pseudo-channel `pc` that holds the offset `o` inside it (R404). -/
def burstAt (pc o : Nat) : Burst :=
  let row := o / 2 ^ 14 % 0x4000
  { pc := pc, sid := o / 2 ^ 28, row := row, col := o / 2 ^ 5 % 32, bg := (o / 2 ^ 10 % 4) ^^^ (row % 4),
    ba := (o / 2 ^ 12 % 4) ^^^ (row / 4 % 4) }

/-- The burst of a DRAM address (R404). -/
def burstOf (b g a : Nat) : Burst := burstAt (placeOf b g a).1 (placeOf b g a).2

/-- The pseudo-channel of a DRAM address, as 32 × stack + local_pc. -/
def State.pcOf (s : State) (a : Nat) : Nat := (placeOf (pcBits s.variant) s.gbits a).1

/-- Is pseudo-channel `p` marked failed? -/
def State.pcFailed (s : State) (p : Nat) : Bool := (s.reg (Reg.memPcFailed (p / 32))).getLsbD (p % 32)

/-- Does a DRAM address lie on a failed pseudo-channel (R421)? -/
def State.onFailed (s : State) (a : Nat) : Bool :=
  (s.reg (Reg.memPcFailed 0) != 0 || s.reg (Reg.memPcFailed 1) != 0) && decide (a < dramTop s.variant) &&
  s.pcFailed (s.pcOf a)

/-- Does an address lie in a memory that is off with its contents lost: Comb while PD_23 is off, a stack that is off after a reset
that lost DRAM? Reads of it give zero, writes are ignored, and the access is reported (R422, R423). -/
def State.memGone (s : State) (a : Nat) : Bool :=
  (decide (combBase ≤ a ∧ a < combTop) && !s.isPowered 23) ||
  (s.fld Reg.fghStatus 21 21 == 1 && decide (a < dramTop s.variant) && !s.isPowered (21 + s.pcOf a / 32))

/-- Are writes at an address discarded: on a failed pseudo-channel (R421), or in a memory that is gone (R422)? -/
def State.discards (s : State) (a : Nat) : Bool := s.onFailed a || s.memGone a

/-- What a reader's decoder will find in the word with key `w`: nothing, a bit that it corrects, or an uncorrectable word (R25). -/
def State.flaw (s : State) (w : Nat) : WordErr := sget .none s.flaws w

/-- Does a read of the word with key `w` deliver it poisoned (R26)? -/
def State.badWord (s : State) (w : Nat) : Bool := sget false s.poison w || s.flaw w == .uncorrectable

/-- Is any word that the range touches poisoned (R26, R421)? -/
def State.poisonedAt (s : State) (a len : Nat) : Bool :=
  (wordsOf a len).any (fun w => s.badWord w || s.onFailed (w * 16))

/-- The 128-bit words that share a poison mark with word `w`: the burst's two in DRAM, the word itself elsewhere (R30,
R407). -/
def markOf (w : Nat) : List Nat := if w * 16 < combBase then [w / 2 * 2, w / 2 * 2 + 1] else [w]

/-- Poison marks after a write of `len` bytes at `a`: a burst or word written whole takes the data's mark, one written in
part keeps a mark it had (R27, R407). -/
def poisonPut (p : Sparse Bool) (a len : Nat) (bad : Bool) : Sparse Bool :=
  (wordsOf a len).foldl
    (fun q w =>
      let l := markOf w
      if bad || l.any (fun x => sget false q x && !(decide (a ≤ x * 16) && decide (x * 16 + 16 ≤ a + len))) then
        l.foldl (fun q x => sset false q x true) q
      else if l.all (fun x => decide (a ≤ x * 16) && decide (x * 16 + 16 ≤ a + len)) then
        l.foldl (fun q x => sset false q x false) q
      else q) p

/-- Poison marks and flaws after a write of `len` bytes at `a`: a word written only in part whose read is uncorrectable is stored
poisoned, and every word written is a sound code word again (R27). -/
def State.writeFlaws (s : State) (a len : Nat) : State :=
  if s.flaws.isEmpty then s else
  (wordsOf a len).foldl (fun s w =>
    let whole := decide (a ≤ w * 16) && decide (w * 16 + 16 ≤ a + len)
    let s := if !whole && s.flaw w == .uncorrectable then
        { s with poison := (markOf w).foldl (fun q x => sset false q x true) s.poison } else s
    { s with flaws := sset .none s.flaws w .none }) s

/-- Store bytes; `bad` says that the data was poisoned. -/
def State.storeP (s : State) (a : Nat) (bs : List Byte) (bad : Bool) : State :=
  let s := s.writeFlaws a bs.length
  if (wordsOf a bs.length).any (fun w => s.discards (w * 16)) then
    { s with
      mem := bs.zipIdx.foldl (fun m p => if s.discards (a + p.2) then m else sset 0 m (a + p.2) p.1) s.mem
      poison := ((List.range ((a + bs.length - 1) / 32 - a / 32 + 1)).map (· + a / 32)).foldl (fun q b =>
        let lo := max a (b * 32)
        if s.discards lo then q else poisonPut q lo (min (a + bs.length) (b * 32 + 32) - lo) bad) s.poison }
  else { s with mem := memPut s.mem a bs, poison := poisonPut s.poison a bs.length bad }

/-- Store bytes. -/
def State.store (s : State) (a : Nat) (bs : List Byte) : State := s.storeP a bs false

/-- Store an `n`-byte little-endian number. -/
def State.storeNum (s : State) (a n v : Nat) : State := s.store a (leBytes n v)

/-- Clear a range of memory to zero, with its poison. -/
def State.zero (s : State) (a len : Nat) : State :=
  { s with
    mem := s.mem.filter (fun c => !(decide (a ≤ c.1) && decide (c.1 < a + len)))
    poison := s.poison.filter (fun p => !(decide (a ≤ p.1 * 16) && decide (p.1 * 16 < a + len)))
    flaws := s.flaws.filter (fun p => !(decide (a ≤ p.1 * 16) && decide (p.1 * 16 < a + len))) }

/-! Unit tables: 128-bit words by window, table, slot or output, bank and word. -/

/-- The key of word `w` of bank `b` of table `t` of the unit with window `win`. -/
def tableKey (win t b w : Nat) : Nat := ((win * 256 + t) * 2 + b) * 2 ^ 20 + w

def State.tbl (s : State) (win t b w : Nat) : Quad := sget 0 s.tables (tableKey win t b w)

/-- The key under which `poison` and `flaws` hold a table word. -/
def tblWord (win t b w : Nat) : Nat := 2 ^ 48 + tableKey win t b w

/-- The key under which `flaws` holds a word of memory or queue `n` of window `win` that has no address: the next that is read. -/
def unitWord (win n : Nat) : Nat := 2 ^ 56 + win * 64 + n

/-- Write a table word whole; it is a sound code word again. -/
def State.setTbl (s : State) (win t b w : Nat) (q : Quad) : State :=
  { s with
    tables := sset 0 s.tables (tableKey win t b w) q
    poison := sset false s.poison (tblWord win t b w) false
    flaws := sset .none s.flaws (tblWord win t b w) .none }

/-- Item `i` of a table packed `per` to a word, `wid` bits each, lowest first. -/
def State.tblItem (s : State) (win t b per wid i : Nat) : Nat :=
  ((s.tbl win t b (i / per)).toNat / 2 ^ (wid * (i % per))) % 2 ^ wid

/-- Is the table word that holds item `i` delivered poisoned? -/
def State.tblBad (s : State) (win t b per i : Nat) : Bool := s.badWord (tblWord win t b (i / per))

/-- Drop every table of window `win`. -/
def State.clearTables (s : State) (win : Nat) : State :=
  let other (k : Nat) : Bool := decide (k < 2 ^ 48) || decide (2 ^ 56 ≤ k) || (k - 2 ^ 48) / 2 ^ 29 != win
  { s with
    tables := s.tables.filter (fun p => p.1 / 2 ^ 29 != win)
    poison := s.poison.filter (fun p => other p.1)
    flaws := s.flaws.filter (fun p => other p.1) }

end Sys2Proof.Machine
end

