-- ==== Sys2Proof/Machine/Events.lean ====
section
/-!
DEFINITION. Register views, events and their routes (R89 to R91), snapshots (R501), fault reports and the Foghorn
intake (R489 to R497), access faults (R48, R577).
-/
namespace Sys2Proof.Machine

/-! Register reads whose value lies elsewhere in the state. -/

def State.port (s : State) (n : Nat) : Port := sget Port.empty s.ports n
def State.setPort (s : State) (n : Nat) (p : Port) : State := { s with ports := sset Port.empty s.ports n p }
def State.mapPort (s : State) (n : Nat) (f : Port → Port) : State := s.setPort n (f (s.port n))

/-- A trigger. -/
def State.trig (s : State) (n : Nat) : Trig := sget Trig.empty s.bcn.trigs n

def State.setTrig (s : State) (n : Nat) (t : Trig) : State :=
  { s with bcn := { s.bcn with trigs := sset Trig.empty s.bcn.trigs n t } }

def oneHot (b : Bool) (n : Nat) : Nat := if b then 2 ^ n else 0

/-- A number from named fields: (value, lowest bit). -/
def packBits (l : List (Nat × Nat)) : Word := BitVec.ofNat 32 (l.foldl (fun a p => a + p.1 * 2 ^ p.2) 0)

/-- Is a report immediate (R495)? -/
def immediate (sev code : Nat) : Bool := sev == 3 || code == 0x12

/-- Is an entry ready to be recorded (R496)? Immediate ones at once, and again when their window closes after merges. -/
def Entry.ready (e : Entry) : Bool :=
  if immediate e.severity e.code then (match e.written with | none => true | some _ => e.again && !e.windowOpen)
  else !e.windowOpen

/-- FGH_STATUS.in_guarantee (R490): enabled, self-testing, frame periods of running generators at most 41,666,667 ns,
every codec core covered or without contexts, supply and temperature inside their ranges. -/
def State.inGuarantee (s : State) : Bool :=
  s.fld Reg.fghCtrl 31 31 == 1 && s.fld Reg.fghCtrl 30 30 == 1 &&
  (List.range 2).all (fun g =>
    let st := s.fld (Reg.wloStatus g) 31 28
    let period := (s.reg (Reg.wloAct g 3)).toNat + 2 ^ 32 * (s.reg (Reg.wloAct g 4)).toNat
    !(decide (1 ≤ st ∧ st ≤ 4)) || decide (period ≤ 41666667 * 65536)) &&
  (List.range 4).all (fun x => s.fld (Reg.vcxCap x) 29 29 == 1 || s.reg (Reg.vcxCtxValid x) == 0) &&
  s.fld Reg.fghSupplyStatus 31 31 == 0 && s.fld Reg.fghSupplyStatus 30 30 == 0 &&
  decide (-220 ≤ signed 16 (s.fld Reg.fghTdie 15 0)) && decide (signed 16 (s.fld Reg.fghTdie 15 0) ≤ 500)

/-- HCI_BOOT_STATUS.mem_ready: every powered stack is ready or degraded, and one is powered (R413, R414, R466). -/
def State.memReady (s : State) : Bool :=
  let up := [0, 1].filter (fun x => s.isPowered (21 + x) && !windowAbsent s.variant (0x58 + x))
  !up.isEmpty && up.all (fun x => let st := s.fld (Reg.memStatus x) 31 28; st == 2 || st == 4)

/-- The state field of HIV_CELL_n_STATUS and its companions. -/
def cellStatusWord (c : CellSt) : Word :=
  packBits [(c.state, 28), (if c.state = 5 then c.cause else 0, 16), (if c.state = 4 then c.exitCode else 0, 0)]

/-- The value a read of register `k` returns (R50), for a register the window lists; everything else reads zero. -/
def State.regView (s : State) (k : Nat) : Word :=
  let w := k / 65536
  let o := k % 65536
  if windowAbsent s.variant w || windowZero w then 0
  else if o = 0xFC00 then
    match windowDomain w with
    | some d => packBits [((s.isPowered d && s.isFenced d).toNat, 9), ((s.isPowered d).toNat, 8), ((s.epoch d).toNat, 0)]
    | none => 0
  else if k = Reg.hciBootStatus then putBits (s.reg k) 24 24 s.memReady.toNat
  else if w = 0x0C then
    if k = Reg.bcnNowNs then s.bcn.ns
    else if k = Reg.bcnNowFrac then BitVec.setWidth 32 s.bcn.latFrac
    else if k = Reg.bcnWrap then s.bcn.latWrap
    else if k = Reg.bcnPtpBaseLo then BitVec.setWidth 32 s.bcn.ptpBase
    else if k = Reg.bcnPtpBaseHi then BitVec.setWidth 32 (s.bcn.ptpBase >>> 32)
    else if k = Reg.bcnStepHi then 0
    else if 0x0100 ≤ o ∧ o < 0x0200 ∧ o % 16 = 8 then
      let n := (o - 0x0100) / 16
      let t := s.trig n
      packBits [((t.st == .armed).toNat, 31), (t.late.toNat, 30), ((s.trigOwner n).getD 0xF, 26), (t.result, 24)]
    else s.reg k
  else if w = 0x04 then
    if k = Reg.fghPdStatus then BitVec.setWidth 32 s.doms.powered
    else if k = Reg.fghIntake then
      packBits [((s.fgh.intake.filter Entry.ready).length, 8), (s.fgh.intake.length, 0)]
    else if k = Reg.fghStatus then putBits (s.reg k) 23 23 s.inGuarantee.toNat
    else if 0x80 ≤ o ∧ o < 0xC0 ∧ o % 4 = 0 then putBits (s.reg k) 31 31 (s.fld Reg.fghThermStatus ((o - 0x80) / 4) ((o - 0x80) / 4))
    else s.reg k
  else if (w = 0x24 ∨ w = 0x25) ∧ 0x0030 ≤ o ∧ o < 0x0040 ∧ o % 4 = 0 then
    let a := s.reg (Reg.rfeTblAddr (w - 0x24))
    BitVec.ofNat 32 ((s.tbl w (4 * bitsOf a 29 29 + bitsOf a 31 30) (bitsOf a 28 28) (bitsOf a 13 0)).toNat / 2 ^ (32 * ((o - 0x30) / 4)))
  else if (w = 0x26 ∨ w = 0x27) ∧ 0x0030 ≤ o ∧ o < 0x0040 ∧ o % 4 = 0 then
    let a := s.reg (Reg.clrTblAddr (w - 0x26))
    BitVec.ofNat 32 ((s.tbl w (bitsOf a 31 28) (bitsOf a 27 27) (bitsOf a 17 0)).toNat / 2 ^ (32 * ((o - 0x30) / 4)))
  else if w = 0x2A ∧ 0x0030 ≤ o ∧ o < 0x0040 ∧ o % 4 = 0 then
    let a := s.reg Reg.cmpTblAddr
    if 18 ≤ bitsOf a 31 27 then 0
    else BitVec.ofNat 32 ((s.tbl 0x2A (bitsOf a 31 27) (bitsOf a 26 26) (bitsOf a 10 0)).toNat / 2 ^ (32 * ((o - 0x30) / 4)))
  else if w = 0x48 then
    if 0x0400 ≤ o ∧ o < 0x0478 ∧ o % 4 = 0 then BitVec.ofNat 32 ((s.owner ((o - 0x0400) / 4)).getD 0xF)
    else if 0x0200 ≤ o ∧ o < 0x0210 ∧ o % 4 = 0 then
      BitVec.ofNat 32 ((s.hive.hostBox.headD 0).toNat / 2 ^ (32 * ((o - 0x0200) / 4)))
    else if k = Reg.hivC2hStatus then BitVec.ofNat 32 s.hive.hostBox.length
    else if 0x0100 ≤ o ∧ o < 0x0200 ∧ (o - 0x0100) % 32 = 0x14 then
      putBits (s.reg k) 4 0 (s.cell ((o - 0x0100) / 32)).inbox.length
    else s.reg k
  else if 0x50 ≤ w ∧ w ≤ 0x57 then
    let n := w - 0x50
    if o = 0x0004 then cellStatusWord (s.cell n)
    else if o = 0x0008 then (s.cell n).pc
    else if 0x0010 ≤ o ∧ o < 0x0020 ∧ o % 4 = 0 then
      BitVec.ofNat 32 ((s.cell n).build.toNat / 2 ^ (32 * ((o - 0x0010) / 4)))
    else s.reg k
  else s.reg k

/-! Elastic queues (R22, R23). -/

/-- Is `k` the status word of an elastic queue? -/
def isEq (k : Nat) : Bool :=
  (List.range 4).any (fun n => k == Reg.spEq n) || k == Reg.wloEq 0 || k == Reg.wloEq 1 ||
  (decide (0x30 ≤ k / 65536 ∧ k / 65536 ≤ 0x3C) && decide (0x80 ≤ k % 65536 ∧ k % 65536 < 0xA0))

/-- The elastic queue of status word `k` is at work; `found` empty (0) or full (255) is an incident. The register keeps, below its count
of incidents, whether the queue has worked (bit 1) and been full (bit 0) since it started. -/
def State.eqSeen (s : State) (k : Nat) (found : Option Nat) : State :=
  let s := if found.isSome then s.bump k 31 24 1 else s
  s.setFld k 1 0 (if found = some 255 then 3 else 2 + s.fld k 0 0)

/-- The queue starts: its fills count from here. -/
def State.eqStart (s : State) (k : Nat) : State := s.setFld k 23 0 0

/-- The status word of an elastic queue as it reads. What its fill is depends on timing: a free value of each read. It starts empty, so its
lowest fill since then is 0; its highest is 255 once it has been found full (DESIGN CHOICE, log entry 30). -/
def State.eqWord (s : State) (k : Nat) : Word × State :=
  if s.fld k 1 1 = 0 then (putBits (s.reg k) 23 0 0, s)
  else
    let (q, s) := s.takeFree
    let fill := q.toNat % 256
    let top := if s.fld k 0 0 = 1 then 255 else max fill (q.toNat / 256 % 256)
    (putBits (s.reg k) 23 0 (top * 65536 + fill), s)

/-! Events (R90). -/

/-- Foghorn takes the record request of event `e`, unless it records nothing further (R90, R493). The spec does not say what it
records of one (DESIGN CHOICE, log entry 39). -/
def State.recordRequest (s : State) (e : Nat) : State :=
  if s.fld Reg.fghStatus 20 20 = 1 then s else { s with fgh := { s.fgh with requests := s.fgh.requests ++ [e] } }

/-- Deliver event `e` to the cells, the host and Foghorn as its route register enables (R90, R91); snapshots apart. -/
def State.fireCore (s : State) (e : Nat) : State :=
  let r := s.reg (Reg.hivRoute e)
  let s := if r.getLsbD 10 then s.recordRequest e else s
  let own : Option Nat := if 48 ≤ e ∧ e < 72 then some (e % 8) else none
  let s := (List.range 8).foldl
    (fun s n => if (r.getLsbD n || own == some n) && s.isPowered (cellDomain n)
      then s.mapCell n (fun c => { c with evpend := c.evpend ||| BitVec.ofNat 256 (2 ^ e) }) else s) s
  if r.getLsbD 9 && s.isPowered 28 then
    if s.fld (Reg.msixTable e 3) 0 0 = 1 then s.setFld (Reg.msixPba (e / 32)) (e % 32) (e % 32) 1
    else s.emit (.msix e)
  else s

/-- The four SNAP words of a window with snapshot registers, as they would latch now: the key of SNAP_0 and words 1 to
3 (the SNAP rows of each chapter's field map). -/
def State.snapWords (s : State) (w : Nat) : Option (Nat × List Word) :=
  if 0x20 ≤ w ∧ w ≤ 0x23 then
    let n := w - 0x20
    let st := s.reg (Reg.spStatus n)
    some (Reg.spSnap n 0, [s.reg (Reg.spFrames n),
      packBits [(bitsOf st 15 0, 16), (min 255 ((s.port n).fill), 8), (bitsOf st 31 24, 0)], BitVec.ofNat 32 (s.port n).lastSof])
  else if w = 0x24 ∨ w = 0x25 then
    let x := w - 0x24
    some (Reg.rfeSnap x 0, [s.reg (Reg.rfeFrames x), s.reg (Reg.rfeStatus x), s.reg (Reg.rfeBank x)])
  else if w = 0x26 ∨ w = 0x27 then
    let x := w - 0x26
    some (Reg.clrSnap x 0, [s.reg (Reg.clrFrames x), s.reg (Reg.clrStatus x), s.reg (Reg.clrBank x)])
  else if w = 0x28 then some (Reg.cmpSnap 0, [s.reg (Reg.cmpFrames 0), s.reg (Reg.cmpFrames 1), s.reg Reg.cmpStatus])
  else if w = 0x2C ∨ w = 0x2D then
    let g := w - 0x2C
    some (Reg.wloSnap g 0, [s.reg (Reg.wloFrames g), s.reg (Reg.wloStatus g), s.reg (Reg.wloPhase g)])
  else if w = 0x3D then some (Reg.lnxShSnap 0, [s.reg Reg.lnxShUp, s.reg Reg.lnxShRxlock, s.reg Reg.lnxShGuard])
  else if 0x40 ≤ w ∧ w ≤ 0x43 then
    let x := w - 0x40
    some (Reg.vcxSnap x 0, [s.reg (Reg.vcxPictures x), s.reg (Reg.vcxStatus x), s.reg (Reg.vcxCtxValid x)])
  else if w = 0x44 ∨ w = 0x45 then
    let n := w - 0x44
    some (Reg.lpkSnap n 0, [s.reg (Reg.lpkFrames n), s.reg (Reg.lpkStatus n), s.reg (Reg.lpkCount1 n)])
  else if w = 0x46 then some (Reg.clsSnap 0, [s.reg Reg.clsStatus, s.reg Reg.clsWb, s.reg Reg.clsLost])
  else if w = 0x58 ∨ w = 0x59 then
    let x := w - 0x58
    some (Reg.memSnap x 0, [s.reg (Reg.memStatus x), s.reg (Reg.memPcFailed x), s.reg (Reg.memReplay x)])
  else if w = 0x0C then some (Reg.bcnSnap 0, [s.bcn.ns, s.bcn.wrap, s.reg Reg.bcnInc])
  else if w = 0x10 then some (Reg.casSnap 0, [s.reg Reg.casStatus, s.reg Reg.casTerm, s.reg Reg.casCount0])
  else if w = 0x04 then
    some (Reg.fghSnap 0, [s.regView Reg.fghStatus, BitVec.ofNat 32 (s.fld Reg.govStatus 9 0), s.reg Reg.fghTdie])
  else if w = 0x08 then some (Reg.kprSnap 0, [s.regView Reg.kprStatus, s.reg Reg.kprFw, s.reg Reg.kprCount])
  else none

/-- The windows that have snapshot registers. -/
def snapWindows : List Nat :=
  [0x04, 0x08, 0x0C, 0x10, 0x20, 0x21, 0x22, 0x23, 0x24, 0x25, 0x26, 0x27, 0x28, 0x2C, 0x2D, 0x3D, 0x40, 0x41, 0x42,
   0x43, 0x44, 0x45, 0x46, 0x58, 0x59]

/-- Latch the snapshot registers of window `w` when its unit is present, powered and unfenced (R501). -/
def State.latchWindow (s : State) (w : Nat) : State :=
  let ok := !windowAbsent s.variant w &&
    (match windowDomain w with | some d => s.isPowered d && !s.isFenced d | none => true)
  match s.snapWords w with
  | some (k, ws) =>
    if ok then
      let w0 := packBits [((s.epochOfWindow w).toNat, 24), (s.fld Reg.fghSnapSeq 23 0, 0)]
      let s := s.setReg k w0
      (ws.zipIdx).foldl (fun s p => s.setReg (k + 4 + 4 * p.2) p.1) s
    else s
  | none => s

/-- Latch a snapshot (R501): once in a Beacon microsecond, which is why event 13's own route to a local snapshot latches no other.
Causes: 0 SNAP, 1 swarm, 2 route, 3 host, 4 fatal. -/
def State.latchSnap (s : State) (cause origin : Nat) : State :=
  if s.fgh.snapUs = some (s.now / 1000) then s else
  let s := { s with fgh := { s.fgh with snapUs := some (s.now / 1000) } }
  let s := s.setReg Reg.fghSnapSeq ((s.reg Reg.fghSnapSeq + 1) &&& 0x7FFFFFFF)
  let s := (s.setReg Reg.fghSnapTimeLo (BitVec.ofNat 32 s.now)).setReg Reg.fghSnapTimeHi (BitVec.ofNat 32 (s.now / 2 ^ 32))
  let s := s.setReg Reg.fghSnapCause (packBits [(cause, 28), (origin, 24)])
  let s := snapWindows.foldl State.latchWindow s
  let s := if (s.reg (Reg.hivRoute 13)).getLsbD 12 then { s with due := { s.due with swarmSnap := true } } else s
  s.fireCore 13

/-- Event `e` occurs (R90): deliveries, then a local snapshot, or the request for a swarm snapshot. -/
def State.fire (s : State) (e : Nat) : State :=
  let r := s.reg (Reg.hivRoute e)
  let s := s.fireCore e
  if r.getLsbD 12 then { s with due := { s.due with swarmSnap := true } }
  else if r.getLsbD 11 then s.latchSnap 2 0
  else s

/-! Fault reports (R489 to R497). -/

/-- The severity of a report code (R495); 0x18 SOFTWARE carries its own. -/
def codeSeverity (code : Nat) : Nat :=
  if code = 0x01 ∨ code = 0x17 then 1
  else if code = 0x13 ∨ code = 0x16 then 0
  else if (0x06 ≤ code ∧ code ≤ 0x09) ∨ code = 0x0C ∨ (0x0E ≤ code ∧ code ≤ 0x10) ∨ code = 0x15 then 3
  else 2

/-- The event of a report's code, where the code has one of its own (R523). -/
def codeEvent (code : Nat) : Option Nat :=
  if code = 0x01 then some 3
  else if code = 0x04 then some 9
  else if code = 0x06 then some 7
  else if code = 0x07 then some 6
  else if code = 0x08 then some 8
  else if code = 0x0F then some 5
  else if code = 0x10 then some 12
  else none

/-- The register and lowest bit of the lost count of a severity (R497). -/
def lostReg (sev : Nat) : Nat × Nat :=
  if sev = 0 then (Reg.fghLost0, 0) else if sev = 1 then (Reg.fghLost0, 16)
  else if sev = 2 then (Reg.fghLost1, 0) else (Reg.fghLost1, 16)

/-- Count `n` reports of a severity as lost; each increment fires FGH_LOST (R497). -/
def State.loseReports (s : State) (sev n : Nat) : State :=
  let r := lostReg sev
  let s := s.bump r.1 (r.2 + 15) r.2 n
  { s with fgh := { s.fgh with lostOwed := true } }.fire 4

/-- Is an entry one that the report merges into (R496)? -/
def Entry.takes (e : Entry) (source sub code : Nat) : Bool :=
  e.source == source && e.sub == sub && e.code == code && e.windowOpen

/-- Merge into the first entry that takes the report. -/
def mergeInto (source sub code : Nat) (now : Word) : List Entry → List Entry
  | [] => []
  | e :: t =>
    if e.takes source sub code then { e with count := min 65535 (e.count + 1), last := now, again := true } :: t
    else e :: mergeInto source sub code now t

/-- Enter a new report in the intake, or count it lost (R496, R497). -/
def State.openEntry (s : State) (e : Entry) : State :=
  if s.fgh.intake.length < Config.intakeDepth then { s with fgh := { s.fgh with intake := s.fgh.intake ++ [e] } }
  else if e.severity < 3 then s.loseReports e.severity 1
  else
    let cand := s.fgh.intake.filter (fun x => decide (x.severity < 3) && x.written.isNone)
    match (cand.map (·.severity)).min? with
    | none => s.loseReports 3 1
    | some low =>
      match (cand.filter (fun x => x.severity == low)).getLast? with
      | none => s.loseReports 3 1
      | some victim =>
        let s := { s with fgh := { s.fgh with intake := (s.fgh.intake.reverse.erase victim).reverse ++ [e] } }
        s.loseReports low victim.count

/-- Assert FAULT_N (R493). -/
def State.assertFault (s : State) : State :=
  (s.setFld Reg.fghStatus 22 22 1).emit (.pin .faultN false)

/-- A report with its severity (R489): merged, entered or counted lost; its events fire; a fatal one asserts FAULT_N,
takes the snapshot of snap_on_fatal and restarts the source's domain under FGH_PD_AUTO (R493, R501, R504). -/
def State.reportSev (s : State) (source sub code sev detail : Nat) : State :=
  if s.fld Reg.fghStatus 20 20 = 1 then s else
  let now := BitVec.ofNat 64 s.now
  let s :=
    if s.fgh.intake.any (fun e => e.takes source sub code) then
      { s with fgh := { s.fgh with intake := mergeInto source sub code s.bcn.ns s.fgh.intake } }
    else s.openEntry
      { source, sub, code, severity := sev, first := now, last := s.bcn.ns, count := 1, epoch := s.epochOfWindow source,
        detail := BitVec.ofNat 48 detail, windowOpen := true, written := none, again := false }
  let s := if sev = 3 then s.fire 1 else if sev = 2 then s.fire 2 else s
  let s := match codeEvent code with | some e => s.fire e | none => s
  if sev = 3 then
    let s := s.assertFault
    let s := if s.fld Reg.fghCtrl 29 29 = 1 then s.latchSnap 4 0 else s
    match windowDomain source with
    | some d =>
      if 2 ≤ d ∧ s.fld Reg.fghPdAuto d d = 1 then { s with due := { s.due with restart := s.due.restart ++ [d] } } else s
    | none => s
  else s

/-- A report of a code with the severity of R495. -/
def State.report (s : State) (source sub code detail : Nat) : State := s.reportSev source sub code (codeSeverity code) detail

/-- An access fault of master `m` at a device address (R48, R577). -/
def State.accessFault (s : State) (m : Master) (write : Bool) (addr : Nat) : State :=
  s.report (masterWindow m) (if write then 1 else 0) 0x04 addr

/-- A register access in the window of an absent unit or a reserved window (R4). -/
def State.absentAccess (s : State) : State := s.fire 255

/-! Code counts (R28, R29). -/

/-- Compare a corrected count with the window's threshold and report the rate once (R29). -/
def State.rateCheck (s : State) (w n : Nat) : State :=
  let t := s.fld (Reg.cbEccThresh w) 15 0
  let k := Reg.cbEcc w n
  if t ≠ 0 ∧ t ≤ s.fld k 15 0 ∧ s.rateMade.contains k = false then
    { s with rateMade := k :: s.rateMade }.report w n 0x01 (s.fld k 15 0)
  else s

/-- One corrected word of memory or queue `n` of window `w`. -/
def State.eccCorrected (s : State) (w n : Nat) : State :=
  if n < blockEcc w then (s.bump (Reg.cbEcc w n) 15 0 1).rateCheck w n else s

/-- Uncorrectable words of memory or queue `n` of window `w`. -/
def State.eccUncorrectable (s : State) (w n k : Nat) : State :=
  if n < blockEcc w then s.bump (Reg.cbEcc w n) 31 16 k else s

end Sys2Proof.Machine
end

