-- ==== Sys2Proof/Machine/Errors.lean ====
section
/-!
DEFINITION. What a read meets: errors that the common code finds in a word or a burst, their counts, reports and events
(spec/01_fabric.md R25 to R29, spec/11_memory.md R418, R419, R423). `State.flaws` holds the words whose stored code words have been
disturbed; no command of the table disturbs one, so statements hold for every value of it (DESIGN CHOICE, log entry 46).
-/
namespace Sys2Proof.Machine

/-- Mark the 128-bit words that a range touches as poisoned. -/
def State.poisonRange (s : State) (a len : Nat) : State := { s with poison := poisonPut s.poison a len true }

/-! Reads and their errors (R25, R32, R418, R419). -/

def wordFixed (e : WordErr) : Nat := if e = .corrected then 1 else 0
def wordBad (e : WordErr) : Nat := if e = .uncorrectable then 1 else 0

/-- The words of a burst read that cannot be used: both when the binding differs (R32). -/
def burstBad (e : BurstErr) : Nat := if e.mismatch then 2 else wordBad e.lower + wordBad e.upper
/-- The words of a burst read that were corrected. -/
def burstFixed (e : BurstErr) : Nat := if e.mismatch then 0 else wordFixed e.lower + wordFixed e.upper

/-- Count `k` corrected words of memory `n` of window `w`. -/
def State.fixWords (s : State) (w n : Nat) : Nat → State
  | 0 => s
  | k + 1 => (s.eccCorrected w n).fixWords w n k

/-- The worse of two findings. -/
def worse : WordErr → WordErr → WordErr
  | .uncorrectable, _ => .uncorrectable
  | .corrected, e => if e = .none then .corrected else e
  | .none, e => e

/-- The burst errors that the flaws of the two words at DRAM address `a` show. -/
def State.burstFlaw (s : State) (a : Nat) : BurstErr := ⟨s.flaw (a / 32 * 2), s.flaw (a / 32 * 2 + 1), false⟩

/-- What a burst read meets: the errors given, or the flaws of its words. -/
def joinErr (e f : BurstErr) : BurstErr := ⟨worse e.lower f.lower, worse e.upper f.upper, e.mismatch || f.mismatch⟩

/-- The two words of the burst at `a` are sound again: what was corrected or poisoned is written back (R419). -/
def State.mendBurst (s : State) (a : Nat) : State :=
  { s with flaws := sset .none (sset .none s.flaws (a / 32 * 2) .none) (a / 32 * 2 + 1) .none }

/-- Is the burst at `a` delivered poisoned without a new count: poison set, or its pseudo-channel failed (R32, R421)? -/
def State.burstDead (s : State) (a : Nat) : Bool :=
  sget false s.poison (a / 32 * 2) || sget false s.poison (a / 32 * 2 + 1) || s.onFailed (a / 32 * 32)

/-- A read of the burst at DRAM address `a` meets its errors: read again when it fails, poisoned when it fails again. The
counts of words corrected and uncorrectable come with the state. -/
def State.burstRead (s : State) (a : Nat) (e again : BurstErr) : State × Nat × Nat :=
  let a := a / 32 * 32
  let e := joinErr e (s.burstFlaw a)
  let again := joinErr again (s.burstFlaw a)
  let p := s.pcOf a
  let x := p / 32
  let n := p % 32
  if s.burstDead a then (s, 0, 0)
  else if (burstBad e) = 0 then ((s.fixWords (0x58 + x) n (burstFixed e)).mendBurst a, (burstFixed e), 0)
  else if (burstBad again) = 0 then
    (((s.bump (Reg.memReadRetry x) 31 16 (burstBad e)).fixWords (0x58 + x) n (burstFixed again)).mendBurst a, (burstFixed again), 0)
  else
    let s := s.mendBurst a
    let s := s.bump (Reg.memReadRetry x) 15 0 1
    let s := (s.fixWords (0x58 + x) n (burstFixed again)).eccUncorrectable (0x58 + x) n (burstBad again)
    let s := s.setFld (Reg.memLastErrLo x) 31 5 (a / 32)
    let s := (s.setFld (Reg.memLastErrHi x) 15 0 (a / 2 ^ 32)).setFld (Reg.memLastErrHi x) 31 31 1
    let s := if again.mismatch then (s.bump (Reg.memAddrFault x) 15 0 1).report (0x58 + x) n 0x03 a
      else s.report (0x58 + x) n 0x02 a
    let s := s.poisonRange a 32
    (s.fire (if again.mismatch then 232 else 231), (burstFixed again), (burstBad again))

/-- The word with key `w` is a sound code word again. -/
def State.mend (s : State) (w : Nat) : State := { s with flaws := sset .none s.flaws w .none }

/-- A read of the Comb word at address `a` meets `e`: what was corrected is written back, what is uncorrectable is stored poisoned
(R423). With the words corrected and uncorrectable. -/
def State.combMeet (s : State) (a : Nat) (e : WordErr) : State × Nat × Nat :=
  let a := a / 16 * 16
  let n := nbits (a - combBase) 11 6
  if sget false s.poison (a / 16) then (s, 0, 0)
  else match e with
    | .none => (s, 0, 0)
    | .corrected => ((s.eccCorrected 0x5A n).mend (a / 16), 1, 0)
    | .uncorrectable =>
      (((((s.eccUncorrectable 0x5A n 1).report 0x5A n 0x02 a).mend (a / 16)).poisonRange a 16).fire 235, 0, 1)

/-- A read of the Comb word at `a` finds `e`, or what its flaw shows. -/
def State.combRead (s : State) (a : Nat) (e : WordErr) : State × Nat × Nat := s.combMeet a (worse e (s.flaw (a / 16)))

/-- A reader of window `win` meets the flaw of a word of memory or queue `n` there: counted, and reported with its address when it
is uncorrectable (R25, R26, R28). -/
def State.meetAt (s : State) (win n key addr : Nat) : State :=
  if sget false s.poison key then s
  else match s.flaw key with
    | .none => s
    | .corrected => s.eccCorrected win n
    | .uncorrectable => (s.eccUncorrectable win n 1).report win n 0x02 addr

/-- The memory of a unit that holds table `t` (R166, R204, R239). -/
def tableMemory (win t : Nat) : Nat × Nat :=
  if win = 0x24 ∨ win = 0x25 then (win, t % 4)
  else if win = 0x26 ∨ win = 0x27 then (win, t)
  else (0x28, if 16 ≤ t then 2 else t % 2)

/-- The reads of a table word. -/
def State.meetTbl (s : State) (win t b w : Nat) : State :=
  if s.flaws.isEmpty then s
  else s.meetAt (tableMemory win t).1 (tableMemory win t).2 (tblWord win t b w) w

/-- A read of memory or queue `n` of window `win`, one with no addresses: its flaw is met once. -/
def State.meetUnit (s : State) (win n : Nat) : State :=
  if s.flaws.isEmpty then s else (s.meetAt win n (unitWord win n) 0).mend (unitWord win n)

/-- A read of the 128-bit word `w` of the device address space. -/
def State.meetWord (s : State) (w : Nat) : State :=
  let a := 16 * w
  match regionOf s.variant a with
  | .dram => if s.flaw w = .none then s else (s.burstRead a ⟨.none, .none, false⟩ ⟨.none, .none, false⟩).1
  | .comb => (s.combRead a .none).1
  | .imem n => s.meetAt (0x50 + n) 0 w a
  | .dmem n => s.meetAt (0x50 + n) 1 w a
  | _ => s

/-- An access to failed pseudo-channel `p` is counted (R421). -/
def State.countFailed (s : State) (p : Nat) : State := s.eccUncorrectable (0x58 + p / 32) (p % 32) 1

/-- The bursts of a range that lie on failed pseudo-channels are accesses that are counted (R421). -/
def State.touchFailed (s : State) (a len : Nat) : State :=
  if s.reg (Reg.memPcFailed 0) = 0 ∧ s.reg (Reg.memPcFailed 1) = 0 ∨ len = 0 then s
  else ((List.range ((a + len - 1) / 32 - a / 32 + 1)).map (fun i => 32 * (a / 32 + i))).foldl
    (fun s b => if s.onFailed b then s.countFailed (s.pcOf b) else s) s

/-- The reads of a range meet the flaws of its words. -/
def State.meet (s : State) (a len : Nat) : State :=
  let s := s.touchFailed a len
  if s.flaws.isEmpty then s else (wordsOf a len).foldl State.meetWord s

/-- The words of a range that a write covers only in part are read first (R27). -/
def State.meetEdges (s : State) (a len : Nat) : State :=
  if s.flaws.isEmpty then s
  else ((wordsOf a len).filter (fun w => !(decide (a ≤ w * 16) && decide (w * 16 + 16 ≤ a + len)))).foldl State.meetWord s

/-! Memory as units write it. -/

/-- The Comb ranges that only their own commands write: the tile status entries (R304) and the tile map and calibration
tables (R254). -/
def guardedRanges : List (Nat × Nat) := [(0x10_03C0_0000, 0x10_03C1_8000), (0x10_03D0_0000, 0x10_0400_0000)]

/-- The first address of a range that lies in a guarded range. -/
def guardHit (a len : Nat) : Option Nat :=
  guardedRanges.findSome? (fun r => if a < r.2 ∧ r.1 < a + len ∧ 0 < len then some (max a r.1) else none)

/-- Is `a` an address of an instruction memory? -/
def inImem (v : Variant) (a : Nat) : Bool := match regionOf v a with | .imem _ => true | _ => false

/-- An access of a master to a memory that is gone is reported (R422). -/
def State.goneAccess (s : State) (m : Master) (write : Bool) (a : Nat) : State :=
  if s.memGone a then s.accessFault m write a else s

/-- A master's store of bytes, without the guarded ones, which are ignored and reported (R254, R304); so is a whole store to an
instruction memory (R49), and one to a memory that is gone (R422). -/
def State.masterStore (s : State) (m : Master) (a : Nat) (bs : List Byte) : State :=
  if inImem s.variant a then s.accessFault m true a else
  let s := ((s.goneAccess m true a).touchFailed a bs.length).meetEdges a bs.length
  match guardHit a bs.length with
  | some x =>
    (bs.zipIdx.foldl (fun s p => if (guardHit (a + p.2) 1).isSome then s else s.store (a + p.2) [p.1]) s).accessFault m true x
  | none => s.store a bs

/-- A store of the unit with window `w`. -/
def State.unitStore (s : State) (w a : Nat) (bs : List Byte) : State :=
  s.masterStore (.unit (BitVec.ofNat 8 w).toFin) a bs

end Sys2Proof.Machine
end

