-- ==== Sys2Proof/Machine/Queues.lean ====
section
/-!
DEFINITION. Command queues, completion queues, tags, completion order (R33 to R43, R576).
-/
namespace Sys2Proof.Machine

/-! Descriptor word 0 (R37). -/

def w0Opcode (w : Quad) : Nat := qbits w 127 120
def w0Epoch (w : Quad) : BitVec 8 := BitVec.ofNat 8 (qbits w 119 112)
def w0Tag (w : Quad) : Nat := qbits w 111 96
def w0Len (w : Quad) : Nat := qbits w 95 94
def w0Cq (w : Quad) : Nat := qbits w 93 88

def Desc.w0 (d : Desc) : Quad := d.words.headD 0
/-- Word `i` of a descriptor. -/
def Taken.word (t : Taken) (i : Nat) : Quad := t.words.getD i 0
/-- Bits [hi:lo] of word `i` of a descriptor. -/
def Taken.fld (t : Taken) (i hi lo : Nat) : Nat := qbits (t.word i) hi lo
/-- Are all the named bit ranges (word, hi, lo) zero? -/
def Taken.zeros (t : Taken) (l : List (Nat × Nat × Nat)) : Bool := l.all (fun p => t.fld p.1 p.2.1 p.2.2 == 0)

/-! Completion statuses (R39). -/

def stSuccess : Nat := 0x01
def stAbsent : Nat := 0x02
def stStale : Nat := 0x03
def stAborted : Nat := 0x04
def stAlreadyDone : Nat := 0x05
def stBadOpcode : Nat := 0x06
def stBadLength : Nat := 0x07
def stBadAddress : Nat := 0x08
def stPoisoned : Nat := 0x09
def stNoTag : Nat := 0x0A
def stDupTag : Nat := 0x0B
def stAbortedByReset : Nat := 0x0C
def stLate : Nat := 0x0D
def stLost : Nat := 0x0E

/-- A completion item (R38). -/
def completionItem (epoch : BitVec 8) (tag status queue : Nat) (result : BitVec 64) : Quad :=
  BitVec.ofNat 128 (0xC1 * 2 ^ 120 + epoch.toNat * 2 ^ 112 + (tag % 65536) * 2 ^ 96 + (status % 256) * 2 ^ 88 +
    (queue % 64) * 2 ^ 82 + result.toNat)

def itemTag (i : Quad) : Nat := qbits i 111 96
def itemStatus (i : Quad) : Nat := qbits i 95 88
def itemQueue (i : Quad) : Nat := qbits i 87 82

def State.queue (s : State) (q : Nat) : CmdQueue := sget CmdQueue.empty s.queues q

def State.setQueue (s : State) (q : Nat) (c : CmdQueue) : State :=
  { s with queues := sset CmdQueue.empty s.queues q c }

def State.cq (s : State) (k : Nat) : List CqItem := sget [] s.cqs k

def State.setCq (s : State) (k : Nat) (l : List CqItem) : State := { s with cqs := sset [] s.cqs k l }

/-- The words a command queue holds. -/
def CmdQueue.words (c : CmdQueue) : Nat := (c.waiting.map (·.words.length)).sum

/-- Tag `t` of queue `q` ceases to be outstanding. -/
def State.endTag (s : State) (q t : Nat) : State :=
  let c := s.queue q
  s.setQueue q { c with tags := c.tags.erase t }

/-- The tag of a completion item ends, unless the item's descriptor never held it (R5, R40). -/
def State.endItemTag (s : State) (i : CqItem) : State :=
  if i.ends then s.endTag (itemQueue i.word) (itemTag i.word) else s

/-- Discard a completion addressed to a cell (R43): counted, event 77, its tag ends. -/
def State.discardItem (s : State) (n : Nat) (item : CqItem) : State :=
  ((s.bump (Reg.hivCellLost n) 15 0 1).endItemTag item).fire 77

/-- Post an item to completion queue `k`; none when the queue is full and its unit must wait (R43). -/
def State.postItem (s : State) (k : Nat) (item : CqItem) : Option State :=
  let n := k / 8
  if !s.isPowered (cellDomain n) then some (s.discardItem n item)
  else if (s.cq k).length < Config.cqDepth then some ((s.setCq k (s.cq k ++ [item])).fire (48 + n))
  else if (s.cell n).loadStop then some (s.discardItem n item)
  else none

/-- The epoch that a completion of queue `q` carries (R38). -/
def State.itemEpoch (s : State) (q status : Nat) : BitVec 8 := if status = stAbsent then 0 else s.epoch (queueDomain q)

/-- Write an item of host queue pair `n` to its completion ring (R386); none while the ring is full. -/
def State.hostRingPost (s : State) (n : Nat) (item : Quad) : Option State :=
  let size := s.fld (Reg.clsHqCqSize n) 12 0
  let tail := s.fld (Reg.clsHqCqTail n) 11 0
  let head := s.fld (Reg.clsHqCqHead n) 11 0
  let base := s.fld (Reg.clsHqCqLo n) 31 6 * 64 + s.fld (Reg.clsHqCqHi n) 15 0 * 2 ^ 32
  if size = 0 ∨ (tail + 1) % size = head then none
  else
    let s := s.unitStore 0x46 (base + tail * 16) (leBytes 16 item.toNat)
    some ((s.setFld (Reg.clsHqCqTail n) 11 0 ((tail + 1) % size)).fire 212)

/-- Where State.queues holds command queue `q`. Keys 60 to 63 are the host pairs' (R386), so the reserved queues 60 to 63 stand
at 124 to 127. -/
def queueKey (q : Nat) : Nat := if 60 ≤ q then q + 64 else q

/-- The keys of the command queues 0 to 63. -/
def queueKeys : List Nat := (List.range 64).map queueKey

/-- Post an item of command queue `q`, or of host pair `q` - 60 (R386). -/
def State.postFrom (s : State) (q k : Nat) (item : CqItem) : Option State :=
  if q < 60 ∨ 64 ≤ q then s.postItem k item else s.hostRingPost (q - 60) item.word

/-- The events of a posted completion: RFE_FRAME_DONE, RFE_BAD_PARAMS, CLR_FRAME_DONE, LPK_DONE (R167, R205, R374),
LNX_ENUM_DONE, LNX_EYE_DONE, LNX_NO_REPLY (R309). -/
def doneEvents (q op st : Nat) : List Nat :=
  if q = 4 ∨ q = 5 then (if op = 0x10 then [96 + (q - 4)] else []) ++ (if st = 0x11 then [109] else [])
  else if (q = 6 ∨ q = 7) ∧ op = 0x10 then [112 + (q - 6)]
  else if q = 11 then (if op = 0x11 then [166] else []) ++ (if op = 0x14 then [169] else []) ++ (if op = 0x13 ∧ st = 0x14 then [170] else [])
  else if q = 16 ∨ q = 17 then [200 + (q - 16)]
  else []

/-- Post every completion that may be posted (R41 to R43): those that overtake first, then finished descriptors in the
order they were taken, each followed by the ABORTs that waited for it. -/
def State.flush (q : Nat) : Nat → State → State
  | 0, s => s
  | f + 1, s =>
    let c := s.queue q
    match c.urgent with
    | o :: t =>
      match s.postFrom q o.cq o.item with
      | some s' => State.flush q f (s'.setQueue q { s'.queue q with urgent := t })
      | none => s
    | [] =>
      match c.taken with
      | [] => s
      | e :: t =>
        match e.done with
        | none => s
        | some (st, res) =>
          match s.postFrom q e.cq
              ⟨completionItem (if st = stAbsent then 0 else e.epoch) e.tag st q res, e.endsTag && st != stAbsent⟩ with
          | none => s
          | some s' =>
            let after := e.aborts.map (fun p =>
              ⟨p.cq, ⟨completionItem (s.itemEpoch q 0) p.tag stAlreadyDone q 0, true⟩, p.cell⟩)
            let s' := s'.setQueue q { s'.queue q with taken := t, urgent := after }
            State.flush q f ((doneEvents q (w0Opcode (e.words.headD 0)) st).foldl State.fire s')

/-- Post what can be posted on queue `q`. -/
def State.settleQueue (s : State) (q : Nat) : State :=
  let c := s.queue q
  State.flush q (c.urgent.length + c.taken.length + (c.taken.map (·.aborts.length)).sum + 1) s

/-- Is a stage group of window `w`'s unit stalled by an invalid code (R12)? The model lets one stalled stage hold all of its unit
(DESIGN CHOICE, log entry 38). -/
def State.unitStalled (s : State) (w : Nat) : Bool := s.stalled.any (fun p => p.1 == w)

/-- Is queue `q`'s unit stalled, or waiting to post to a full completion queue (R12, R43)? -/
def State.blocked (s : State) (q : Nat) : Bool :=
  let c := s.queue q
  !c.urgent.isEmpty || (match c.taken with | e :: _ => e.done.isSome | [] => false) ||
  (!queueAbsent s.variant q && s.unitStalled (queueWindow q))

/-- Mark the running descriptor with a tag as finished. -/
def finishIn (tag : Nat) (epoch : BitVec 8) (st : Nat) (res : BitVec 64) : List Taken → List Taken
  | [] => []
  | e :: t =>
    if e.tag == tag && e.done.isNone && e.endsTag then { e with done := some (st, res), epoch := epoch } :: t
    else e :: finishIn tag epoch st res t

/-- The descriptor of queue `q` with tag `tag` finishes with a status and a result (R41). -/
def State.complete (s : State) (q tag st : Nat) (res : BitVec 64) : State :=
  let c := s.queue q
  (s.setQueue q { c with taken := finishIn tag (s.epoch (queueDomain q)) st res c.taken }).settleQueue q

/-- The running descriptor of queue `q` with tag `tag`. -/
def State.running (s : State) (q tag : Nat) : Option Taken :=
  (s.queue q).taken.find? (fun e => e.tag == tag && e.done.isNone && e.endsTag)

/-- The status of a descriptor that is not carried out, by the common checks of R576 from LOST to STALE; RESUME has
epoch checks of its own (R45, R93). -/
def State.commonCheck (s : State) (q : Nat) (d : Desc) : Option Nat :=
  let dom := queueDomain q
  if d.flt = .atHead then some stLost
  else if queueAbsent s.variant q then some stAbsent
  else if d.dup then some stDupTag
  else if w0Opcode d.w0 = 0x01 then
    if !s.isPowered dom || w0Epoch d.w0 != s.epoch dom || (match s.owner dom with | some n => n != d.cell | none => false)
    then some stStale else none
  else if !s.isPowered dom || s.isFenced dom || w0Epoch d.w0 != s.epoch dom then some stStale
  else none

/-- A taken descriptor. -/
def Desc.taken (d : Desc) (epoch : BitVec 8) : Taken :=
  { words := d.words, cell := d.cell, tag := w0Tag d.w0, cq := w0Cq d.w0, epoch := epoch, endsTag := !d.dup,
    done := none, aborts := [] }

/-- A descriptor is lost in the queue (R26): counted, as an uncorrectable word of queue 0 of its window too (R28), and reported; a
queue with no unit has no count, and the Hive's shared window reports for it (DESIGN CHOICE, log entry 38). -/
def State.countLost (s : State) (q : Nat) : State :=
  if queueAbsent s.variant q then s.report 0x48 0 0x05 q else
  let w := queueWindow q
  ((s.bump (Reg.cbLost w 0) 15 0 1).eccUncorrectable w 0 1).report w 0 0x05 q

/-! A gang that awaits its map (R128), whose setup any other descriptor of its queue clears. -/

/-- Set a port's state field and its lock counts (SP_n_STATUS, SP_n_LANE_LOCK). -/
def State.spState (s : State) (n st : Nat) : State := s.setFld (Reg.spStatus n) 31 28 st

/-- Clear a port's setup and release the partner and the split ports (R112, R128). -/
def State.clearSetup (s : State) (n : Nat) : State :=
  let gang := match (s.port n).setup with | some u => u.gang | none => false
  let split := match (s.port n).setup with | some u => u.split | none => false
  let s := s.mapPort n (fun p =>
    { p with
      setup := none, awaitMap := false, lanes := [], aligned := false, lostMade := false, halves := [], halfCount := [], partial_ := [] })
  let s := (s.setFld (Reg.spStatus n) 31 26 0).setFld (Reg.spStatus n) 20 16 0
  let s := s.setReg (Reg.spLaneLock n) 0
  let s := if gang then (s.setReg (Reg.spStatus (n + 1)) 0).setReg (Reg.spLaneLock (n + 1)) 0 else s
  if split then ((s.spState 2 0).spState 3 0) else s

/-- A descriptor other than GANG_MAP is taken by port `n`: a setup that awaits its map is cleared (R128). -/
def State.gangLapse (s : State) (n : Nat) : State := if (s.port n).awaitMap then s.clearSetup n else s

/-- A descriptor of opcode `op` of queue `q` ends without reaching its command (R128). -/
def State.lapse (s : State) (q op : Nat) : State := if q ≤ 3 ∧ op ≠ 0x15 then s.gangLapse q else s

/-- The consumer of queue `q` takes the head `d`: it finishes at once with the status of a common check, or it is handed
to `run`. -/
def State.takeHead (s : State) (q : Nat) (d : Desc) (rest : List Desc) (lens : List Nat)
    (run : Taken → State → State) : State :=
  let c := s.queue q
  let s := if d.flt = .corrected ∧ queueAbsent s.variant q = false then s.eccCorrected (queueWindow q) 0 else s
  if d.flt = .atHeadAndRecord then
    let s := s.setQueue q { c with waiting := rest }
    (if d.dup then s else s.endTag q (w0Tag d.w0)).countLost q
  else
    let tk := d.taken (s.epoch (queueDomain q))
    let push (t : Taken) : State := s.setQueue q { c with waiting := rest, taken := c.taken ++ [t] }
    match s.commonCheck q d with
    | some st =>
      if st = stLost then ((push { tk with done := some (st, 0) }).settleQueue q).countLost q
      else ((push { tk with done := some (st, 0) }).lapse q (w0Opcode d.w0)).settleQueue q
    | none =>
      if lens.contains (w0Len d.w0) then run tk (push tk)
      else ((push { tk with done := some (stBadLength, 0) }).lapse q (w0Opcode d.w0)).settleQueue q

/-- The unit opcodes of each queue, the common ones apart (R63 and the opcode tables of the chapters). -/
def unitOpcode (q op : Nat) : Bool :=
  let top := if q ≤ 3 then 0x15 else if q ≤ 7 then 0x11 else if q = 8 then 0x13 else if q ≤ 10 then 0x14
    else if q = 11 then 0x14 else if q ≤ 15 then 0x14 else if q ≤ 17 then 0x11 else if q = 18 then 0x19
    else if q = 19 then 0x12 else if q = 20 then 0x14 else if q = 21 then 0x15 else if q = 22 then 0x14
    else if q = 23 then 0x14 else 0x10
  decide (0x10 ≤ op ∧ op ≤ top)

/-- Does queue `q` know the opcode (R37, R576)? -/
def knownOpcode (q op : Nat) : Bool := op == 1 || op == 2 || op == 3 || unitOpcode q op

/-- Finish every descriptor at the head of queue `q` that no command of the table takes: any of an absent queue, an uncorrectable
word 0, an opcode unknown to the queue (R5, R26, R576). -/
def State.settleHeads (q : Nat) : Nat → State → State
  | 0, s => s
  | f + 1, s =>
    if s.blocked q then s
    else match (s.queue q).waiting with
      | [] => s
      | d :: rest =>
        if queueAbsent s.variant q || d.flt.lost || !knownOpcode q (w0Opcode d.w0) then
          State.settleHeads q f
            (s.takeHead q d rest [0, 1, 2, 3] (fun t s => (s.lapse q (t.fld 0 127 120)).complete q t.tag stBadOpcode 0))
        else s

/-- Settle the heads of queue `q`. -/
def State.settleHead (s : State) (q : Nat) : State := State.settleHeads q (s.queue q).waiting.length s

/-- Queue `q`'s consumer takes the descriptor at the head when its opcode is `op`; otherwise nothing happens (DEDUCED, log entry
12). `lens` lists the length fields the opcode allows. -/
def State.takeAs (s : State) (q op : Nat) (lens : List Nat) (run : Taken → State → State) : State :=
  if s.blocked q then s
  else match (s.queue q).waiting with
    | [] => s
    | d :: rest => if w0Opcode d.w0 = op then (s.takeHead q d rest lens run).settleHead q else s

/-- As `takeAs`, but a descriptor that would be carried out waits at the head while `ok` does not hold of it. -/
def State.takeWhen (s : State) (q op : Nat) (lens : List Nat) (ok : Taken → Bool) (run : Taken → State → State) : State :=
  match (s.queue q).waiting with
  | [] => s
  | d :: _ =>
    if w0Opcode d.w0 = op && !d.flt.lost && (s.commonCheck q d).isNone && lens.contains (w0Len d.w0) && !ok (d.taken 0)
    then s else s.takeAs q op lens run

/-- Does the descriptor fit in the queue? A whole descriptor enters or none of it (R33, R35). -/
def State.hasRoom (s : State) (q n : Nat) : Bool := decide ((s.queue (queueKey q)).words + n ≤ Config.queueDepth)

/-- The clip store notes since when a tag is outstanding (R388). -/
def State.startAge (s : State) (q tag : Nat) (dup : Bool) : State :=
  if (q = 18 ∨ 60 ≤ q) ∧ dup = false then
    { s with cls := { s.cls with ages := s.cls.ages.filter (fun a => !(a.q == q && a.tag == tag)) ++ [⟨q, tag, s.now, false⟩] } }
  else s

/-- A descriptor that a cell posts enters queue `q`, for which there is room (R5, R26, R34, R40). -/
def State.enter (s : State) (q cell : Nat) (words : List Quad) (flt : DescFault) : State :=
  let w0 := words.headD 0
  if flt = .onEntry then s.countLost q
  else if w0Opcode w0 = 0 then s
  else
    let absent := queueAbsent s.variant q
    let k := queueKey q
    let c := s.queue k
    let dup := c.tags.contains (w0Tag w0)
    let c := { c with waiting := c.waiting ++ [⟨words, cell, dup, flt⟩],
                      tags := if dup || absent then c.tags else c.tags ++ [w0Tag w0] }
    ((s.setQueue k c).startAge k (w0Tag w0) (dup || absent)).settleHead k

/-- Has every descriptor that cell `n` posted had its completion posted (R79)? -/
def State.cellDrained (s : State) (n : Nat) : Bool :=
  s.queues.all (fun p => decide (60 ≤ p.1 ∧ p.1 < 64) ||
    (p.2.waiting.all (fun d => d.cell != n) && p.2.taken.all (fun t => t.cell != n && t.aborts.all (fun a => a.cell != n)) &&
      p.2.urgent.all (fun o => o.cell != n)))

end Sys2Proof.Machine
end

