-- ==== Sys2Proof/Machine/Access.lean ====
section
/-!
DEFINITION. Accesses: the writes a unit makes to memory (R254), host writes under content_lock (R535), the gate every
register row passes, and the unit tables with their banks (R160 to R162, R197 to R199, R233, R234).
-/
namespace Sys2Proof.Machine

/-! Memory as units reach it. -/

/-- The 128-bit word at an address. -/
def State.quadAt (s : State) (a : Nat) : Quad := BitVec.ofNat 128 (s.num a 16)

/-! Host writes under content_lock (R535). -/

/-- Is content_lock set? -/
def State.contentLock (s : State) : Bool := s.fld Reg.kprStatus 16 16 == 1

/-- Does a host write of register window `w` fall in a protected window? -/
def lockedWindow (w : Nat) : Bool :=
  decide (0x0C ≤ w ∧ w ≤ 0x11) || decide (0x20 ≤ w ∧ w ≤ 0x2E) || decide (0x30 ≤ w ∧ w ≤ 0x3F)

/-- Does a range touch one of the eight protected memory ranges? -/
def State.protectedRange (s : State) (a len : Nat) : Bool :=
  (List.range 8).any (fun n =>
    let base := (s.reg (Reg.kprProt n 0)).toNat * 4096
    let size := (s.reg (Reg.kprProt n 1)).toNat * 4096
    decide (0 < size ∧ a < base + size ∧ base < a + len))

/-- A host write that content_lock forbids: ignored, reported, counted, event 45. -/
def State.protectedWrite (s : State) (addr : Nat) : State :=
  ((s.accessFault .host true addr).bump Reg.kprCount 31 16 1).fire 45

/-- Is a hot reset or an FLR under way: host writes are discarded, and host reads complete with Unsupported Request (R467)? -/
def State.hostOut (s : State) : Bool := match s.fgh.resetting with | some k => k.pcie | none => false

/-- The gate of a register write by master `m` at offset `k` (window × 0x1_0000 + offset): absent windows (R4), the host during its own
reset (R467) and under content_lock (R535), else `f`. A host write to a window that reads zero throughout, or to an offset with no register, is
reported when its window is a protected one, as R535 has it (DESIGN CHOICE, log entry 45). -/
def State.gateWrite (s : State) (m : Master) (k : Nat) (f : State → State) : State :=
  let w := k / 65536
  if m == .host && s.hostOut then s
  else if windowAbsent s.variant w then s.absentAccess
  else if m == .host && s.contentLock && lockedWindow w then s.protectedWrite (regsBase + k)
  else f s

/-! Unit tables. -/

/-- A word of table `t`, bank `b`, of unit `win` is written through the registers at data key `data`, address key `addr`
whose word field is [wHi:0]: the four data registers form the word, and the word field steps on. A word beyond the table
is ignored; a bank in use is refused, counted in `denied` and event `ev` fires (R161, R162). -/
def State.tblDataWrite (s : State) (win t b word size wHi data addr denied ev : Nat) (inUse : Bool) (value : Word) : State :=
  let s := s.setReg (data + 12) value
  if size ≤ word then s
  else if inUse then (s.bump denied 15 0 1).fire ev
  else
    let q := (List.range 4).foldl (fun a i => a + (s.reg (data + 4 * i)).toNat * 2 ^ (32 * i)) 0
    (s.setTbl win t b word (BitVec.ofNat 128 q)).setFld addr wHi 0 (word + 1)

/-- A TABLE_LOAD of queue `q`: `count` words from `src` into table `t`, bank `b`, from word `first`; the statuses of the
units are BAD_PARAMS 0x11 and TABLE_IN_USE 0x13. -/
def State.tableLoad (s : State) (q tag win t b first count size src denied ev : Nat) (ok inUse : Bool) : State :=
  if !ok || decide (size < first + count) then s.complete q tag 0x11 0
  else if !inMemory s.variant src (16 * count) then s.complete q tag stBadAddress 0
  else if inUse then ((s.bump denied 15 0 1).fire ev).complete q tag 0x13 0
  else
  let s := s.meet src (16 * count)
  if s.poisonedAt src (16 * count) then s.complete q tag stPoisoned 0
  else
    let s' := (List.range count).foldl (fun s i => s.setTbl win t b (first + i) (s.quadAt (src + 16 * i))) s
    s'.complete q tag stSuccess (BitVec.ofNat 64 count)

/-- The sets of group `g` that wait for their latch point (R75). -/
def State.pendOf (s : State) (g : Nat) : List PendSet := sget [] s.hive.pendSets g

def State.setPend (s : State) (g : Nat) (l : List PendSet) : State :=
  { s with hive := { s.hive with pendSets := sset [] s.hive.pendSets g l } }

/-- The staged value of shadow register `k` in a pending set. -/
def PendSet.val (p : PendSet) (k : Nat) : Option Word := (p.writes.find? (fun x => x.1 == k)).map (·.2)

/-- Does a pending set of group `g` select bank `b` at bit `i` of bank-select register `k`? -/
def State.bankPending (s : State) (g k i b : Nat) : Bool :=
  (s.pendOf g).any (fun p => match p.val k with | some v => bitsOf v i i == b | none => false)

end Sys2Proof.Machine
end

