-- ==== Sys2Proof/Machine/Numeric.lean ====
section
/-!
DEFINITION. Exact arithmetic of the picture units: shifts and clamps of signed fixed-point numbers (R136), binary16 and
binary32 (R148, R170), and fixed-point logarithms and powers for the encoders of R181, R182.
-/
namespace Sys2Proof.Machine

/-- An arithmetic right shift: floor division by a power of two (R136). -/
def ashr (i : Int) (n : Nat) : Int := i / (2 ^ n : Int)

/-- A value clamped to a range. -/
def clampI (lo hi i : Int) : Int := if i < lo then lo else if hi < i then hi else i

/-- The S8.16 range (R136). -/
def clampS (i : Int) : Int := clampI (-16777216) 16777215 i

/-- `num / den` rounded to nearest, ties to even. -/
def roundEven (num den : Nat) : Nat :=
  let q := num / den
  let r := num % den
  if 2 * r < den then q else if den < 2 * r then q + 1 else q + q % 2

/-- The largest `e` at most `top` steps above `lo` with `2^e ≤ num / den`, `lo` where there is none; `e` is offset by 64. -/
def log2Floor (num den lo : Nat) : Nat → Nat
  | 0 => lo
  | n + 1 => if den * 2 ^ (lo + n + 1) ≤ num * 2 ^ 64 then lo + n + 1 else log2Floor num den lo n

/-- The binary16 pattern nearest to `num / den`, ties to even, magnitudes above 65,504 as 65,504 (R170). -/
def half (num den : Nat) : Nat :=
  if num = 0 then 0
  else if 65504 * den ≤ num then 0x7BFF
  else
    let e := log2Floor num den (64 - 14) 29
    let q := if e ≤ 74 then roundEven (num * 2 ^ (74 - e)) den else roundEven num (den * 2 ^ (e - 74))
    if q < 1024 then q else min ((e - 49) * 1024 + (q - 1024)) 0x7BFF

/-- RN16 of `i / 2^sc` (R170): the binary16 pattern. An exact zero is +0. -/
def rn16 (i : Int) (sc : Nat) : Nat :=
  half i.natAbs (2 ^ sc) + (if i < 0 then 0x8000 else 0)

/-- The value of a binary16 pattern as the device reads it, times 2²⁴ (R170): infinities as ±65,504, NaNs as 0. -/
def ofHalf (p : Nat) : Int :=
  let e := p / 1024 % 32
  let m := p % 1024
  let v : Nat := if e = 31 then (if m = 0 then 65504 * 2 ^ 24 else 0)
    else if e = 0 then m else (1024 + m) * 2 ^ (e - 1)
  if p / 32768 % 2 = 1 then -(v : Int) else v

/-- A binary16 pattern as the device takes it from a table, a surface or a memory frame (R170). -/
def takeHalf (p : Nat) : Nat :=
  if p / 1024 % 32 = 31 then (if p % 1024 = 0 then p / 32768 * 32768 + 0x7BFF else 0) else p

/-- Is a binary32 pattern finite? -/
def finite32 (p : Nat) : Bool := p / 2 ^ 23 % 256 != 255

/-- The value of a finite binary32 pattern times 2¹⁴⁹. -/
def ofSingle (p : Nat) : Int :=
  let e := p / 2 ^ 23 % 256
  let m := p % 2 ^ 23
  let v : Nat := if e = 0 then m else (2 ^ 23 + m) * 2 ^ (e - 1)
  if p / 2 ^ 31 % 2 = 1 then -(v : Int) else v

/-! Fixed-point logarithms and powers, with `fixBits` fractional bits. Their error lies far below the band of R182. -/

def fixBits : Nat := 192
def fixOne : Nat := 2 ^ fixBits

/-- The integer square root, bit by bit. -/
def isqrtFrom (v : Nat) : Nat → Nat → Nat
  | 0, r => r
  | b + 1, r => isqrtFrom v b (if (r + 2 ^ b) * (r + 2 ^ b) ≤ v then r + 2 ^ b else r)

/-- The square root of a fixed-point number below 2²⁰⁰. -/
def fixSqrt (x : Nat) : Nat := isqrtFrom (x * fixOne) 200 0

/-- The fractional bits of the base-2 logarithm of `x`, a fixed-point number in [1, 2). -/
def log2Bits (x : Nat) : Nat → Nat
  | 0 => 0
  | n + 1 =>
    let y := x * x / fixOne
    if 2 * fixOne ≤ y then 2 ^ n + log2Bits (y / 2) n else log2Bits y n

/-- The bits of precision of a logarithm. -/
def logBits : Nat := 96

/-- log₂(num / den), times 2^logBits, for num, den > 0. -/
def fixLog2 (num den : Nat) : Int :=
  let up := Nat.log2 num
  let dn := Nat.log2 den
  -- num / den = (num / 2^up) / (den / 2^dn) × 2^(up - dn); the first factor lies in (1/2, 2)
  let x := num * 2 ^ dn * fixOne / (den * 2 ^ up)
  let (x, e) := if x < fixOne then (2 * x, (up : Int) - dn - 1) else (x, (up : Int) - dn)
  e * 2 ^ logBits + log2Bits x logBits

/-- 2^(f / 2^logBits) for f in [0, 2^logBits), as a fixed-point number; `r` is 2^(2^-k) at bit logBits - k. -/
def exp2Bits (f : Nat) : Nat → Nat → Nat → Nat
  | 0, _, acc => acc
  | n + 1, r, acc =>
    let r := fixSqrt r
    exp2Bits f n r (if f / 2 ^ n % 2 = 1 then acc * r / fixOne else acc)

/-- 2^(l / 2^logBits), as a fixed-point number. -/
def fixExp2 (l : Int) : Nat :=
  let e := l / (2 ^ logBits : Int)
  let f := (l % (2 ^ logBits : Int)).toNat
  let m := exp2Bits f logBits (2 * fixOne) fixOne
  if e < 0 then m / 2 ^ (-e).toNat else m * 2 ^ e.toNat

/-- (num / den)^(p / q), as a fixed-point number; 0 at 0. -/
def fixPow (num den p q : Nat) : Nat :=
  if num = 0 then 0 else fixExp2 (fixLog2 num den * p / q)

/-- The natural logarithm of 2, times 2^fixBits. -/
def fixLn2 : Nat := 0xb17217f7d1cf79abc9e3b39803f2f6af40f343267298b62d

/-- ln(num / den), times 2^fixBits. -/
def fixLn (num den : Nat) : Int := fixLog2 num den * fixLn2 / 2 ^ logBits

end Sys2Proof.Machine
end

