-- ==== Sys2Proof/Machine/Pace.lean ====
section
/-!
DEFINITION. Pace meters, the pace governor, stalls and the counts of the common code (spec/01_fabric.md R12 to R21, R29).
-/
namespace Sys2Proof.Machine

/-! Self-timed stages (R12, R13). -/

/-- Does window `w` belong to a unit that is present and powered? -/
def State.unitRuns (s : State) (w : Nat) : Bool :=
  !windowAbsent s.variant w && (match windowDomain w with | some d => s.isPowered d | none => true)

/-- Does the unit of window `w` take work: powered, and no stage group of it stalled (R12)? -/
def State.unitWorks (s : State) (w : Nat) : Bool := s.unitRuns w && !s.unitStalled w

/-- INVALID_CODE (R12): the stage stalls until its domain restarts. -/
def doInvalidCode (w stage : Nat) (s : State) : State :=
  if !s.unitRuns w || s.stalled.contains (w, stage) then s
  else { s with stalled := s.stalled ++ [(w, stage)] }.report w stage 0x06 stage

/-- STALL_WATCHDOG_EXPIRY (R13). -/
def doStallWatchdogExpiry (w stage : Nat) (s : State) : State :=
  if !s.unitRuns w || !windowStall w then s else s.report w stage 0x07 stage

/-! Pace meters (R15, R51). -/

def State.meter (s : State) (w n : Nat) : Meter := sget Meter.start s.meters (w * 16 + n)
def State.setMeter (s : State) (w n : Nat) (m : Meter) : State :=
  { s with meters := sset Meter.start s.meters (w * 16 + n) m }

/-- Has window `w` a meter `n`? -/
def hasMeter (w n : Nat) : Bool := decide (n < blockMeters w)

/-- The window length that a pace control register gives, in Beacon µs. -/
def paceWindow (v : Word) : Nat := min 1024 (max 1 (bitsOf v 10 0))

/-- `n` items pass meter 0 of window `w`. -/
def State.tally (s : State) (w n : Nat) : State :=
  if hasMeter w 0 then s.setMeter w 0 { s.meter w 0 with items := (s.meter w 0).items + n } else s

/-- The items that meter `n` of window `w` counted in the window that ends: a cell's retired instructions, a memory's bursts or
words as the command gives them (DESIGN CHOICE, log entry 45), a unit's items as its commands counted them. -/
def State.metered (s : State) (w n given : Nat) : Nat :=
  if 0x58 ≤ w then given else if 0x50 ≤ w then (s.cell (w - 0x50)).paced else (s.meter w n).items

/-- PACE_WINDOW_END (R15): the pace of the window, the lowest pace, and a new window of the length now set. A window that began
before the meter was declared does not let it take part (R17). -/
def doPaceWindowEnd (w n given busy : Nat) (s : State) : State :=
  if !hasMeter w n || !s.unitRuns w then s else
  let m := s.meter w n
  let items := s.metered w n given
  let busy := min busy m.window
  let pace := if busy = 0 then s.fld (Reg.cbPaceNow w n) 23 0 else min (2 ^ 24 - 1) (items * 16 / busy)
  let s := s.setFld (Reg.cbPaceNow w n) 23 0 pace
  let s := if busy = 0 then s else s.setFld (Reg.cbPaceMin w n) 23 0 (min pace (s.fld (Reg.cbPaceMin w n) 23 0))
  let s := if 0x50 ≤ w ∧ w < 0x58 then s.mapCell (w - 0x50) (fun c => { c with paced := 0 }) else s
  s.setMeter w n
    { reported := m.reported || (busy != 0 && !m.early)
      early := false
      items := 0
      low := some (match m.low with | some l => min l pace | none => pace)
      window := paceWindow (s.reg (Reg.cbPaceCtrl w n)) }

/-- A write of a pace control register (R51). -/
def State.paceCtrlWrite (s : State) (m : Master) (w n : Nat) (v : Word) : State :=
  s.gateWrite m (Reg.cbPaceCtrl w n) (fun s =>
    if !hasMeter w n then s else
    let s := s.maskedWrite (Reg.cbPaceCtrl w n) v
    if bitsOf v 31 31 = 1 then s.setFld (Reg.cbPaceMin w n) 23 0 0xFFFFFF else s)

/-- PACE_CLEAR_MIN (R51). -/
def doPaceClearMin (m : Master) (w n : Nat) (v : Word) (s : State) : State := s.paceCtrlWrite m w n v

/-! The governor (R17 to R21, R481, R482). -/

def State.mapGov (s : State) (f : Gov → Gov) : State := { s with gov := f s.gov }
def State.setpoint (s : State) : Nat := s.fld Reg.govStatus 9 0
def State.pmbusKind (s : State) : Nat := s.fld Reg.hciPmbus 31 30
def State.supplyWarn (s : State) : Bool := s.fld Reg.fghSupplyStatus 31 31 == 1

/-- A GOVERNOR report; `what` is 0 for at_vmax, 1 for pmbus_error, 2 for limit_error, and event 24 fires with it. -/
def State.govReport (s : State) (what : Nat) : State := (s.fire 24).report 0x04 what 0x11 s.setpoint

/-- The VOUT_COMMAND code of a setpoint (R482). -/
def voutCode (kind exponent mv : Nat) : Nat :=
  if kind = 0 then
    let n := signed 5 exponent
    if n ≤ 0 then (mv * 2 ^ (-n).toNat * 2 + 1000) / 2000 else (mv * 2 + 1000 * 2 ^ n.toNat) / (2000 * 2 ^ n.toNat)
  else half mv 1000

/-- CRC-8 with polynomial 0x07 and initial value 0 (R481). -/
def crc8 (bs : List Byte) : Byte :=
  BitVec.ofNat 8 (bs.foldl (fun c b => (List.range 8).foldl (fun c _ => if 128 ≤ c then (2 * c) % 256 ^^^ 7 else 2 * c) (c ^^^ b.toNat)) 0)

/-- The bytes of a VOUT_COMMAND for a setpoint, after the address byte (R481, R482): a Write Word, with its PEC when pec is 1. -/
def State.voutBytes (s : State) (mv : Nat) : List Byte :=
  let code := voutCode s.pmbusKind (s.fld Reg.hciPmbus 29 25) mv
  let word := 0x21#8 :: leBytes 2 code
  if s.fld Reg.hciPmbus 24 24 = 1 then word ++ [crc8 (BitVec.ofNat 8 (2 * s.fld Reg.hciPmbus 6 0) :: word)] else word

/-- A VOUT_COMMAND leaves, attempt `n`; nothing is written while the kind is unknown or unsupported (R482). -/
def State.sendVout (s : State) (mv n : Nat) : State :=
  if 2 ≤ s.pmbusKind then s else
  let s := s.setFld Reg.hciPmbus 23 8 (voutCode s.pmbusKind (s.fld Reg.hciPmbus 29 25) mv)
  (s.mapGov (fun g => { g with xfer := .vout mv n })).emit (.twoWireXfer 5 (s.fld Reg.hciPmbus 6 0) (s.voutBytes mv) false 0)

/-- A read of VOUT_MODE leaves, attempt `n`. -/
def State.sendMode (s : State) (n : Nat) : State :=
  (s.mapGov (fun g => { g with xfer := .mode n })).emit (modeRead (s.fld Reg.hciPmbus 6 0))

/-- A governor transfer on TW_5 ends unacknowledged (R18). -/
def State.govFailed (s : State) : State :=
  match s.gov.xfer with
  | .none => s
  | .vout mv n =>
    if n < 3 then s.sendVout mv (n + 1)
    else ((s.mapGov (fun g => { g with xfer := .none })).setFld Reg.govStatus 29 29 1).govReport 1
  | .mode n =>
    if n < 3 then s.sendMode (n + 1)
    else ((s.mapGov (fun g => { g with xfer := .none })).setFld Reg.govStatus 29 29 1).govReport 1

/-- VOUT_COMMAND_TRANSFER_DONE (R18). -/
def doVoutCommandTransferDone (ack : Bool) (s : State) : State :=
  match s.gov.xfer with
  | .vout mv _ =>
    if ack then
      let old := s.setpoint
      (s.setFld Reg.govStatus 9 0 mv).mapGov
        (fun g => { g with xfer := .none, acked := true, settling := true, prevSetpoint := old, count := 0 })
    else s.govFailed
  | _ => s

/-- The setpoint that is written first after a reset, or again after pmbus_error is cleared (R18, R481). -/
def State.firstSetpoint (s : State) : Nat := if s.gov.acked then s.setpoint else 800

/-- VOUT_MODE_READ_DONE (R18, R481, R482). -/
def doVoutModeReadDone (ack : Bool) (mode : Byte) (s : State) : State :=
  match s.gov.xfer with
  | .mode _ =>
    if !ack then s.govFailed else
    let m := mode.toNat
    let kind := if m / 32 = 0 then 0 else if m / 32 = 3 then 1 else 2
    let s := ((s.setFld Reg.hciPmbus 31 30 kind).setFld Reg.hciPmbus 29 25 m).mapGov (fun g => { g with xfer := .none })
    if kind = 2 then (s.setFld Reg.govStatus 29 29 1).fire 24 else s.sendVout s.firstSetpoint 1
  | _ => s

/-- PMBUS_ERROR_CLEAR (R18): a write of FGH_GOV_STATUS. The governor reads VOUT_MODE and writes VOUT_COMMAND whether enable is 1 or
0 (DESIGN CHOICE, log entry 45). -/
def doPmbusErrorClear (m : Master) (v : Word) (s : State) : State :=
  s.gateWrite m Reg.govStatus (fun s =>
    let was := s.fld Reg.govStatus 29 29
    let s := s.maskedWrite Reg.govStatus v
    if was = 1 ∧ s.fld Reg.govStatus 29 29 = 0 then
      if s.pmbusKind = 3 then s.sendMode 1 else s.sendVout s.firstSetpoint 1
    else s)

/-- The limits are judged (R21). -/
def State.judgeLimits (s : State) : State :=
  let lo := s.fld Reg.govLimits 9 0
  let hi := s.fld Reg.govLimits 25 16
  let bad := decide (hi < lo) || decide (lo < 650) || decide (900 < lo) || decide (hi < 650) || decide (900 < hi)
  let was := s.fld Reg.govStatus 28 28
  let s := s.setFld Reg.govStatus 28 28 bad.toNat
  if bad && was == 0 then s.govReport 2 else s

/-- GOV_LIMITS_WRITE (R21). -/
def doGovLimitsWrite (m : Master) (v : Word) (s : State) : State :=
  s.gateWrite m Reg.govLimits (fun s => (s.maskedWrite Reg.govLimits v).judgeLimits)

/-- The meters that take part in an evaluation: declared pace and lowest pace (R17). -/
def State.partMeters (s : State) : List (Nat × Nat) :=
  ((List.range 0x5B).filter (fun w => hasMeter w 0 && s.unitRuns w)).filterMap (fun w =>
    let d := s.fld (Reg.cbPaceDecl w 0) 23 0
    let m := s.meter w 0
    if d ≠ 0 ∧ m.reported then some (d, m.low.getD (s.fld (Reg.cbPaceNow w 0) 23 0)) else none)

/-- A new evaluation period starts. -/
def State.newPeriod (s : State) : State :=
  { s with meters := s.meters.map (fun p => (p.1, { p.2 with low := none })),
           gov := { s.gov with warnSeen := s.supplyWarn } }

/-- The setpoint changes to `mv`, or stays; a change starts the count of periods again. -/
def State.stepTo (s : State) (mv : Nat) : State :=
  if mv = s.setpoint then s else (s.mapGov (fun g => { g with count := 0 })).sendVout mv 1

/-- A setpoint that the limits were narrowed past is brought back between them, step or no step (R17; DESIGN CHOICE, log entry 45). -/
def State.keepRange (s : State) : State :=
  s.stepTo (max (s.fld Reg.govLimits 9 0) (min (s.fld Reg.govLimits 25 16) s.setpoint))

/-- A raise by `step` mV, held at vmax_mv (R17, R20). -/
def State.raise (s : State) (step : Nat) : State :=
  let hi := s.fld Reg.govLimits 25 16
  if hi < s.setpoint + step then
    let was := s.fld Reg.govStatus 31 31
    let s := s.setFld Reg.govStatus 31 31 1
    let s := if was = 0 then s.govReport 0 else s.report 0x04 0 0x11 s.setpoint
    s.stepTo hi
  else (s.setFld Reg.govStatus 31 31 0).stepTo (max (s.fld Reg.govLimits 9 0) (s.setpoint + step))

/-- A step down by 5 mV, held at vmin_mv. -/
def State.lower (s : State) : State :=
  let s := s.setFld Reg.govStatus 31 31 0
  let lo := s.fld Reg.govLimits 9 0
  if s.setpoint < lo + 5 then (s.setFld Reg.govStatus 30 30 1).stepTo lo
  else s.stepTo (min (s.fld Reg.govLimits 25 16) (s.setpoint - 5))

/-- GOVERNOR_EVALUATION (R17 to R21): nothing while the governor is off, settling, transferring or stopped by
pmbus_error. An enable that goes from 0 to 1 leaves the count, the lowest paces and the warnings of the period as they stand
(DESIGN CHOICE, log entry 45). -/
def doGovernorEvaluation (s : State) : State :=
  if s.fld Reg.govCtrl 31 31 = 0 ∨ s.gov.settling ∨ s.gov.xfer ≠ .none ∨ s.fld Reg.govStatus 29 29 = 1 ∨
    s.gov.heldSetpoint.isSome then s else
  let s := (s.judgeLimits).setFld Reg.govStatus 30 30 0
  let ms := s.partMeters
  let ok := s.fld Reg.govStatus 28 28 == 0
  let calm := !s.gov.warnSeen && !s.supplyWarn
  let high := !ms.isEmpty && ms.all (fun p => decide (1155 * p.1 < 1000 * p.2)) && calm && ok
  let count := if high then s.gov.count + 1 else 0
  let s := (s.mapGov (fun g => { g with count := count })).newPeriod
  if !ok then s.setFld Reg.govStatus 31 31 0
  else if ms.isEmpty then (s.setFld Reg.govStatus 31 31 0).keepRange
  else if ms.any (fun p => decide (p.2 < p.1)) then s.raise 20
  else if ms.any (fun p => decide (10 * p.2 < 11 * p.1)) then s.raise 5
  else if max 1 (s.fld Reg.govCtrl 23 16) ≤ count ∧ calm then s.lower
  else (s.setFld Reg.govStatus 31 31 0).keepRange

/-- GOVERNOR_SETTLE_END (R17). -/
def doGovernorSettleEnd (s : State) : State :=
  if s.gov.settling then (s.mapGov (fun g => { g with settling := false, count := 0 })).newPeriod else s

/-! Counts of the common code (R29). -/

/-- ECC_THRESH_WRITE (R29). -/
def doEccThreshWrite (m : Master) (w : Nat) (v : Word) (s : State) : State :=
  s.gateWrite m (Reg.cbEccThresh w) (fun s =>
    (List.range (blockEcc w)).foldl (fun s n => s.rateCheck w n) (s.maskedWrite (Reg.cbEccThresh w) v))

/-- ECC_COUNT_CLEAR (R28, R29). -/
def doEccCountClear (m : Master) (w n : Nat) (v : Word) (s : State) : State :=
  s.gateWrite m (Reg.cbEcc w n) (fun s =>
    let s := s.maskedWrite (Reg.cbEcc w n) v
    if s.fld (Reg.cbEcc w n) 15 0 = 0 then { s with rateMade := s.rateMade.filter (· != Reg.cbEcc w n) } else s)

end Sys2Proof.Machine
end

