-- ==== Sys2Proof/Machine/Spx.lean ====
section
/-!
DEFINITION. Sensor ports: setup, lane lock, deskew, frames and lines, triggers (spec/03_sensor_intake.md R100 to R133).
-/
namespace Sys2Proof.Machine

def spGanged : Nat := 0x14
def spBadSetup : Nat := 0x17
def spInUse : Nat := 0x16
def spPartnerOff : Nat := 0x18
def spNotSetUp : Nat := 0x13
def spSplitActive : Nat := 0x15
def spFrameAdjusted : Nat := 0x10
def spFrameDropped : Nat := 0x11
def spNoFrame : Nat := 0x12

/-- The other port of a pair (R108). -/
def partnerOf (n : Nat) : Nat := if n % 2 = 0 then n + 1 else n - 1

/-- Is port `n` the partner of a gang (R109)? -/
def State.gangPartner (s : State) (n : Nat) : Bool :=
  n % 2 == 1 && (match (s.port (n - 1)).setup with | some u => u.gang | none => false)

/-- Is the split line in use (R110)? -/
def State.splitOn (s : State) : Bool := match (s.port 0).setup with | some u => u.split | none => false

/-- The bytes of a line-buffer slot (R123). -/
def slotBytes (samples : Nat) : Nat := (samples * 2 + 63) / 64 * 64

/-- The halves of a setup's line buffer, and the samples of a slot (R111, R123). -/
def PortSetup.halves (u : PortSetup) : Nat := if u.split then 2 else 1
def PortSetup.slotSamples (u : PortSetup) : Nat := if u.split then u.w / 2 + 16 else u.w

/-- The columns of a line that go to half `b` (R111). -/
def PortSetup.halfLine (u : PortSetup) (b : Nat) (l : List Nat) : List Nat :=
  if u.split then (if b = 1 then l.drop (u.w / 2 - 16) else l.take (u.w / 2 + 16)) else l

/-- The bytes that a setup's line buffer needs (R123). -/
def bufferNeed (u : PortSetup) : Nat := u.halves * (32 * u.exposures * slotBytes u.slotSamples)

/-- Where slot `k` of exposure `e` stands in half `b` of a line buffer: the exposures of a half one after the other, each with its 32
slots (R123; the order in the buffer is a DESIGN CHOICE, log entry 30). -/
def PortSetup.slotAddr (u : PortSetup) (b e k : Nat) : Nat :=
  combBase + u.lbBase * 4096 + ((b * u.exposures + e) * 32 + k) * slotBytes u.slotSamples

/-- The data lanes of a port: with two CSI-2 links the field counts the lanes of one (R108, R127). -/
def PortSetup.portLanes (u : PortSetup) : Nat := if u.mode = 2 then 2 * u.lanes else u.lanes

/-- The nibbles of a lane map name distinct physical lanes of the active clock-lane groups (R101): lanes 0-7 are clock
lane 0's, and lanes 8-15 clock lane 1's, which only 16 lanes use; in CSI-2 mode link 0 has lanes 0-3 and link 1 lanes
8-11. -/
def laneMapOk (mode lanes map : Nat) : Bool :=
  let phys := (List.range lanes).map (fun k => nbits map (4 * k + 3) (4 * k))
  let inGroup (p : Nat) : Bool := if mode = 0 then (lanes == 16 || decide (p < 8)) else decide (p < 4)
  let link2 := (List.range lanes).map (fun k => nbits map (4 * (k + 8) + 3) (4 * (k + 8)))
  decide phys.Nodup && phys.all inGroup &&
    (mode != 2 || (decide link2.Nodup && link2.all (fun p => decide (8 ≤ p ∧ p < 12))))

/-- The fields of a PORT_SETUP (R127). -/
def decodeSetup (t : Taken) : PortSetup :=
  let mode := t.fld 0 87 86
  { mode := mode, gang := t.fld 0 85 85 == 1, split := t.fld 0 84 84 == 1, lanes := t.fld 0 83 79,
    width := 10 + 2 * t.fld 0 78 77, exposures := t.fld 0 76 75 + 1, lineCrc := t.fld 0 74 74 == 1,
    w := t.fld 0 63 48, h := t.fld 0 47 32, rate := t.fld 0 31 20,
    lockLines := if t.fld 0 19 16 = 0 then 4 else t.fld 0 19 16, weight := max 1 (t.fld 0 15 12),
    highPriority := t.fld 0 11 11 == 1,
    sync := (List.range 8).map (fun i => t.fld 1 (127 - 16 * i) (112 - 16 * i) % 2 ^ (10 + 2 * t.fld 0 78 77)),
    vc := (List.range 4).map (fun i => t.fld 1 (127 - 4 * i) (124 - 4 * i)),
    laneMap := t.fld 2 127 64, polarity := t.fld 2 63 48, codeMask := t.fld 2 47 32,
    lbBase := t.fld 3 63 48, lbSize := t.fld 3 47 32, embedded := t.fld 3 31 24, partner := none }

/-- The link capacity of a gang exceeds 6.0 Gpx/s (R109, R110): 2 × lanes × rate ÷ width, the rate in 10 Mb/s. -/
def overSix (u : PortSetup) : Bool := decide (6000 * u.width < 2 * u.portLanes * u.rate * 10)

/-- Are a PORT_SETUP's fields in range and consistent (R100, R101, R110, R123, R127)? -/
def setupOk (n : Nat) (v : Variant) (t : Taken) (u : PortSetup) : Bool :=
  let split := u.gang && n == 0 && !v.small && (u.split || overSix u)
  decide (u.mode ≤ 2) && (if u.mode = 0 then [1, 2, 4, 8, 16].contains u.lanes else [1, 2, 4].contains u.lanes) &&
  decide (u.exposures ≤ 3) && decide (16 ≤ u.w ∧ u.w ≤ 16384) && u.w % 8 == 0 && decide (1 ≤ u.h ∧ u.h ≤ 16384) &&
  (if u.mode = 0 then decide (50 ≤ u.rate ∧ u.rate ≤ 600) else decide (8 ≤ u.rate ∧ u.rate ≤ 450)) &&
  decide (u.embedded ≤ 8) && laneMapOk u.mode u.lanes u.laneMap &&
  (!u.split || (n == 0 && u.gang && !v.small)) && (!split || u.w % 32 == 0) && (!u.gang || n % 2 == 0) &&
  decide (bufferNeed { u with split := split } ≤ u.lbSize * 4096) &&
  decide ((u.lbBase + u.lbSize) * 4096 ≤ combTop - combBase) &&
  t.zeros ([(0, 73, 64), (0, 10, 0), (2, 31, 0), (3, 127, 64), (3, 23, 0)] ++ if u.mode = 0 then [] else [(1, 95, 0)])

/-- Does a setup's line buffer overlap that of another port with a setup (R123)? R130's table and R123 give it two statuses; IN_USE is
the model's (DESIGN CHOICE, log entry 30). -/
def State.bufferOverlaps (s : State) (n : Nat) (u : PortSetup) : Bool :=
  (List.range 4).any (fun m => m != n && (match (s.port m).setup with
    | some o => decide (u.lbBase < o.lbBase + o.lbSize ∧ o.lbBase < u.lbBase + u.lbSize)
    | none => false))

/-- Show the lanes of port `n` that are locked, those from `base` on of the leader's set. -/
def State.spLanes (s : State) (n leader base : Nat) : State :=
  let ls := (List.range 16).filter (fun k => (sget LaneSt.empty (s.port leader).lanes (base + k)).locked)
  (s.setFld (Reg.spStatus n) 20 16 ls.length).setFld (Reg.spLaneLock n) 15 0 ((ls.map (2 ^ ·)).sum)

/-- A setup takes effect and the port hunts on every lane (R127, R128). -/
def State.applySetup (s : State) (n : Nat) (u : PortSetup) : State :=
  let s := s.mapPort n (fun p =>
    { p with
      setup := some u, awaitMap := u.gang, lanes := [], aligned := false, lostMade := false, halves := [], halfCount := [],
      partial_ := [] })
  let s := s.setReg (Reg.spStatus n) (packBits [(1, 28), (u.gang.toNat, 27), (u.split.toNat, 26)])
  let s := (s.setReg (Reg.spLaneLock n) 0).eqStart (Reg.spEq n)
  let s := if u.gang then (s.setReg (Reg.spStatus (n + 1)) (packBits [(4, 28), (1, 27)])).eqStart (Reg.spEq (n + 1)) else s
  if u.split then (s.spState 2 5).spState 3 5 else s

/-- PORT_SETUP (R100, R101, R108 to R110, R123, R127). A port takes it while no FRAME of its own is armed or open. -/
def doPortSetup (n : Nat) (s : State) : State :=
  s.takeWhen n 0x10 [3] (fun _ => !((s.port n).armed.isSome || (s.port n).frame.isSome)) fun t s =>
    let s := s.gangLapse n
    let u := decodeSetup t
    let u := { u with split := u.gang && n == 0 && !s.variant.small && (u.split || overSix u) }
    let fin (st : Nat) : State := s.complete n t.tag st 0
    if s.gangPartner n then fin spGanged
    else if 2 ≤ n ∧ s.splitOn then fin spSplitActive
    else if !setupOk n s.variant t (decodeSetup t) then fin spBadSetup
    else if u.gang && (s.port (n + 1)).setup.isSome then fin spInUse
    else if u.gang && !s.isPowered (n + 3) then fin spPartnerOff
    else if u.split && ((s.port 2).setup.isSome || (s.port 3).setup.isSome) then fin spInUse
    else if u.split && (!s.isPowered 7 || !s.isPowered 9) then fin spPartnerOff
    else if s.bufferOverlaps n u then fin spInUse
    else ((if (s.port n).setup.isSome then s.clearSetup n else s).applySetup n u).complete n t.tag stSuccess 0

/-- GANG_MAP (R128). -/
def doGangMap (n : Nat) (s : State) : State :=
  s.takeAs n 0x15 [1] fun t s =>
    if s.gangPartner n then s.complete n t.tag spGanged 0
    else match (s.port n).setup, (s.port n).awaitMap with
      | some u, true =>
        if laneMapOk u.mode u.lanes (t.fld 1 127 64) && t.zeros [(0, 87, 0), (1, 47, 0)] then
          (s.mapPort n (fun p => { p with
            awaitMap := false,
            setup := some { u with partner := some (t.fld 1 127 64, t.fld 1 63 48) } })).complete n t.tag stSuccess 0
        else (s.clearSetup n).complete n t.tag spBadSetup 0
      | _, _ => s.complete n t.tag spBadSetup 0

/-- FRAME (R116, R129): armed while the port has no frame armed or in progress. One that is refused dropped nothing: its drop_line is
0xFFFF. -/
def doFrame (n : Nat) (s : State) : State :=
  s.takeWhen n 0x11 [1] (fun _ => !((s.port n).armed.isSome || (s.port n).frame.isSome)) fun t s =>
    let s := s.gangLapse n
    let fin (st : Nat) : State := s.complete n t.tag st 0xFFFF
    let report := t.fld 1 127 80
    let embed := t.fld 1 79 32
    if s.gangPartner n then fin spGanged
    else if 2 ≤ n ∧ s.splitOn then fin spSplitActive
    else if !t.zeros [(0, 23, 0), (1, 31, 0)] || report % 64 != 0 then fin spBadSetup
    else match (s.port n).setup with
      | none => fin spNotSetUp
      | some u =>
        let needEmbed := u.embedded != 0
        if needEmbed && embed % 64 != 0 then fin spBadSetup
        else if !inMemory s.variant report 64 || (needEmbed && !inMemory s.variant embed (u.embedded * u.w * 2)) then
          fin stBadAddress
        else
          let cmd : FrameCmd :=
            { tag := t.tag, padLineBlack := t.fld 0 87 87 == 1, padFrameBlack := t.fld 0 86 86 == 1,
              padValue := t.fld 0 85 70, lineBound := if t.fld 0 69 58 = 0 then 64 else t.fld 0 69 58,
              sofTimeout := t.fld 0 57 40, lineTimeout := if t.fld 0 39 24 = 0 then 1000 else t.fld 0 39 24,
              report := report, embed := embed }
          (s.mapPort n (fun p => { p with armed := some cmd })).setFld (Reg.spStatus n) 24 24 1

/-- The level of XTRIG outside a pulse (R114, R560). -/
def Port.xtrigRest (p : Port) : Bool := match p.xtrig with | some x => x.low | none => false

/-- XTRIG_SETUP (R114, R115): one that arrives during a pulse takes effect when it ends. -/
def doXtrigSetup (n : Nat) (s : State) : State :=
  s.takeAs n 0x12 [0] fun t s =>
    let s := s.gangLapse n
    if t.fld 0 80 57 = 0 ∨ t.fld 0 56 0 ≠ 0 then s.complete n t.tag spBadSetup 0
    else
      let x : Xtrig := ⟨t.fld 0 87 84, t.fld 0 83 83 == 1, t.fld 0 82 82 == 1, t.fld 0 81 81 == 1, t.fld 0 80 57⟩
      let p := s.port n
      let s :=
        if p.pulse then s.setPort n { p with xtrigNext := some x }
        else
          let s := s.setPort n { p with xtrig := some x }
          if p.xtrigRest = x.low then s else s.emit (.pin (.xtrig n) x.low)
      s.complete n t.tag stSuccess 0

/-- Drive SPn_MCLK as the port is set: the clock, with the Beacon's increment when it follows that, or low (R113). -/
def State.driveMclk (s : State) (n : Nat) : State :=
  let p := s.port n
  if p.mclkOn then s.emit (.mclk n p.mclk (if p.mclkLock then some (s.reg Reg.bcnInc) else none)) else s.emit (.pin (.mclk n) false)

/-- The clock and trigger pins of port `n` that return to their levels after a reset: MCLK low, XTRIG at its inactive level for
polarity 0 (R560). -/
def State.pinsRest (s : State) (n : Nat) : List Emission :=
  let p := s.port n
  (if p.mclkOn then [.pin (.mclk n) false] else []) ++ (if p.pulse != p.xtrigRest then [.pin (.xtrig n) false] else [])

/-- The master clocks that follow the Beacon rate take its new increment (R113). -/
def State.followRate (s : State) : State :=
  (List.range 4).foldl (fun s n => if (s.port n).mclkOn && (s.port n).mclkLock then s.driveMclk n else s) s

/-- MCLK_SETUP (R113). -/
def doMclkSetup (n : Nat) (s : State) : State :=
  s.takeAs n 0x13 [0] fun t s =>
    let s := s.gangLapse n
    let f := t.fld 0 85 69
    if f < 6000 ∨ 74250 < f ∨ t.fld 0 68 0 ≠ 0 then s.complete n t.tag spBadSetup 0
    else
      let s := s.mapPort n (fun p => { p with mclk := f, mclkOn := t.fld 0 87 87 == 1, mclkLock := t.fld 0 86 86 == 1 })
      (s.driveMclk n).complete n t.tag stSuccess 0

/-- The PORT_STOPs that waited for the close of a port's frame end its setup (R127). -/
def State.stopEnds (s : State) (n : Nat) : State :=
  match (s.port n).stopTags with
  | [] => s
  | l => l.foldl (fun s t => s.complete n t stSuccess 0) ((s.mapPort n (fun p => { p with stopTags := [] })).clearSetup n)

/-- PORT_STOP (R127): at once, or when the frame armed or in progress has closed. A port without a setup of its own, the partner of a
gang among them, has nothing to end. -/
def doPortStop (n : Nat) (s : State) : State :=
  s.takeAs n 0x14 [0] fun t s =>
    let s := s.gangLapse n
    if t.fld 0 87 0 ≠ 0 then s.complete n t.tag spBadSetup 0
    else if (s.port n).armed.isSome || (s.port n).frame.isSome then
      s.mapPort n (fun p => { p with stopTags := p.stopTags ++ [t.tag] })
    else (if (s.port n).setup.isSome then s.clearSetup n else s).complete n t.tag stSuccess 0

/-! Frames. -/

/-- The four words of a frame report (R131). -/
def frameReport (number sof close epoch status reason delivered dropLine xtrig : Nat) (c : FrameCounts) : List Byte :=
  let m (v : Nat) : Nat := min v 65535
  let w (l : List (Nat × Nat)) : List Byte := leBytes 16 (l.foldl (fun a p => a + p.1 * 2 ^ p.2) 0)
  w [(number, 96), (sof, 64), (close, 32), (epoch, 24), (status, 16), (reason, 8)] ++
  w [(m c.received, 112), (m delivered, 96), (m c.short, 80), (m c.long, 64), (m c.padded, 48), (m c.discarded, 32),
    (dropLine, 16), (m c.orphans, 0)] ++
  w [(m c.crc, 112), (m c.hdrCorrected, 96), (m c.hdrLost, 80), (m c.cuts, 64), (m c.filled, 48), (m c.maxShort, 32),
    (m c.maxLong, 16), (m c.embedded, 0)] ++
  w [(xtrig, 96)]

/-- Put an item before each front end that takes from a port: both on a split line (R111, R123). -/
def State.bufPut (s : State) (n : Nat) (it : Nat → BufItem) : State :=
  match (s.port n).setup with
  | none => s
  | some u => s.mapPort n (fun p =>
      { p with bufs := (List.range u.halves).foldl (fun m b => sset [] m b (sget [] m b ++ [it b])) p.bufs })

/-- Do the slots of any exposure stand all occupied (R126)? -/
def Port.slotsFull (p : Port) (exposures : Nat) : Bool :=
  (List.range exposures).any (fun e => decide (32 ≤ p.fill + (sget [] p.partial_ e).length))

/-- The frame in progress that has not closed. -/
def Port.live (p : Port) : Option OpenFrame := p.frame.filter (fun fr => fr.closing.isNone)

/-- Deliver every line set that is complete: line `y` of every exposure (R124). -/
def State.deliver (n : Nat) (u : PortSetup) : Nat → State → State
  | 0, s => s
  | f + 1, s =>
    let p := s.port n
    let heads := (List.range u.exposures).map (fun e => (sget [] p.partial_ e).head?)
    if heads.all Option.isSome then
      let slots := heads.map (fun h => (h.getD (0, 0)).2)
      let y := ((heads.headD none).getD (0, 0)).1
      let s := s.mapPort n (fun p => { p with
        partial_ := (List.range u.exposures).foldl (fun m e => sset [] m e ((sget [] m e).drop 1)) p.partial_,
        frame := p.frame.map (fun fr => { fr with delivered := fr.delivered + 1 }) })
      let item (b : Nat) : BufItem := .held y (slots.zipIdx.map (fun k => u.slotAddr b k.2 k.1)) u.slotSamples
      State.deliver n u f (s.bufPut n item)
    else s

/-- Write the next line of exposure `e` of the frame, of width W, into its slot in Comb, and deliver what is complete (R123). -/
def State.storeLine (s : State) (n e : Nat) (u : PortSetup) (l : List Nat) : State :=
  let k := sget 0 (s.port n).slots e
  let s := (List.range u.halves).foldl
    (fun s b => s.unitStore (0x20 + n) (u.slotAddr b e k) ((u.halfLine b l).flatMap (leBytes 2))) s
  let s := s.mapPort n (fun p =>
    match p.frame with
    | none => p
    | some fr =>
      let y := fr.stored.getD e 0
      { p with
        partial_ := sset [] p.partial_ e (sget [] p.partial_ e ++ [(y, k)]), slots := sset 0 p.slots e ((k + 1) % 32),
        frame := some { fr with stored := fr.stored.set e (y + 1), last := fr.last.set e l } })
  State.deliver n u 2 s

/-- The line that stands in for a missing line of exposure `e` (R119). -/
def OpenFrame.filler (fr : OpenFrame) (e w : Nat) : List Nat :=
  let last := fr.last.getD e []
  if fr.cmd.padFrameBlack || fr.stored.all (· == 0) || last.isEmpty then List.replicate w fr.cmd.padValue else last

/-- Pad a closed frame towards H, the exposure with the fewest lines first, as long as there are slots (R119, R123). -/
def State.padOn (n : Nat) (u : PortSetup) : Nat → State → State
  | 0, s => s
  | f + 1, s =>
    match (s.port n).frame with
    | none => s
    | some fr =>
      let e := (List.range u.exposures).foldl (fun b e => if fr.stored.getD e 0 < fr.stored.getD b 0 then e else b) 0
      if u.h ≤ fr.stored.getD e 0 ∨ (s.port n).slotsFull u.exposures = true then s
      else
        let s := s.mapPort n (fun p => { p with
          frame := p.frame.map (fun fr => { fr with counts := { fr.counts with padded := fr.counts.padded + 1 } }) })
        State.padOn n u f (s.storeLine n e u (fr.filler e u.w))

/-- A closed frame ends, all its lines delivered: the end mark for the front end, the report, the completion, and the PORT_STOPs that
waited (R121, R122, R126, R131). `arrived` is the number of the line that found no slot. -/
def State.finishFrame (s : State) (n : Nat) (u : PortSetup) (fr : OpenFrame) (reason time arrived : Nat) : State :=
  let quiet := reason == 4 || reason == 5 || reason == 6
  let s := s.bufPut n (fun _ => .finish quiet)
  let c := fr.counts
  let adjusted := fr.bad || decide (1 ≤ reason ∧ reason ≤ 3) || decide (0 < c.padded + c.discarded)
  let status := if reason = 5 then stAborted else if quiet then spFrameDropped
    else if adjusted then spFrameAdjusted else stSuccess
  let first := if quiet && decide (fr.delivered < u.h) then fr.delivered else 0xFFFF
  let rep := frameReport fr.number fr.sof time (s.epoch (n + 2)).toNat status reason fr.delivered first fr.xtrig c
  let s := s.unitStore (0x20 + n) fr.cmd.report rep
  let s := s.mapPort n (fun p => { p with frame := none, partial_ := [] })
  let s := (s.setFld (Reg.spStatus n) 25 25 0).setFld (Reg.spStatus n) 15 0 0
  let s := if status = spFrameDropped then (s.bump (Reg.spUnclaimed n) 31 16 1).fire (84 + n) else s
  let dropLine := if reason = 6 then min arrived 0xFFFF else first
  let s := s.complete n fr.cmd.tag status (BitVec.ofNat 64 (fr.number * 2 ^ 32 + fr.delivered * 2 ^ 16 + dropLine))
  (if status = spFrameAdjusted then s.fire 88 else s).stopEnds n

/-- Room in a port's slots: a frame that waits for it is padded on, and ends when it has H lines (R119). -/
def State.portRoom (s : State) (n : Nat) : State :=
  match (s.port n).frame, (s.port n).setup with
  | some fr, some u =>
    match fr.closing with
    | none => s
    | some (reason, time) =>
      let s := State.padOn n u (32 * u.exposures) s
      match (s.port n).frame with
      | none => s
      | some fr =>
        if (List.range u.exposures).all (fun e => decide (u.h ≤ fr.stored.getD e 0)) then s.finishFrame n u fr reason time 0 else s
  | _, _ => s

/-- A claimed frame closes (R119 to R122); `arrived` is the number of the line that found no slot, for reason 6. A frame that pads ends
when all its padding lines have had slots (DEDUCED, log entry 30); a power-down (4) ends one that waits for them. -/
def State.closeFrame (s : State) (n reason : Nat) (arrived : Nat := 0) : State :=
  match (s.port n).frame, (s.port n).setup with
  | some fr, some u =>
    if fr.closing.isSome && reason != 4 then s else
    -- what still comes of a frame that closed early belongs to no descriptor any more
    let s := s.mapPort n (fun p => { p with
      halves := [], halfCount := [], lineNo := [], unclaimed := reason == 2 || reason == 3 || reason == 5 || reason == 6 })
    let now := s.bcn.ns.toNat
    if reason = 4 ∨ reason = 5 ∨ reason = 6 then s.finishFrame n u fr reason now arrived
    else (s.mapPort n (fun p => { p with frame := some { fr with closing := some (reason, now) } })).portRoom n
  | _, _ => s

/-- A frame start is recognised (R116): counted, the open frame closed, the armed descriptor claims it or it is
unclaimed. -/
def State.frameStart (s : State) (n : Nat) : State :=
  let s := s.closeFrame n 1
  let s := (s.count (Reg.spFrames n) 1).fire 94
  let s := s.mapPort n (fun p => { p with lastSof := s.bcn.ns.toNat, unclaimed := false })
  match (s.port n).armed, (s.port n).setup with
  | some cmd, some u =>
    let p := s.port n
    let fr : OpenFrame :=
      { cmd := cmd, number := (s.reg (Reg.spFrames n)).toNat, sof := s.bcn.ns.toNat, xtrig := p.xtrigTime,
        counts := { FrameCounts.zero with orphans := p.orphans }, stored := List.replicate u.exposures 0, delivered := 0,
        started := [], ended := [], last := List.replicate u.exposures [], bad := false, closing := none }
    let s := s.setPort n { p with armed := none, frame := some fr, orphans := 0, partial_ := [] }
    let s := (s.setFld (Reg.spStatus n) 24 24 0).setFld (Reg.spStatus n) 25 25 1
    s.bufPut n (fun _ => .start u.w u.h u.exposures u.width fr.number fr.sof u.split)
  | _, _ => (((s.mapPort n (fun p => { p with unclaimed := true })).bump (Reg.spUnclaimed n) 15 0 1)).fire 89

/-- Change the frame in progress, while it is open. -/
def State.mapFrame (s : State) (n : Nat) (f : OpenFrame → OpenFrame) : State :=
  s.mapPort n (fun p => { p with frame := p.frame.map (fun fr => if fr.closing.isSome then fr else f fr) })

/-- Change the open frame's counts; anything counted makes the frame adjusted (R121). -/
def State.countFrame (s : State) (n : Nat) (f : FrameCounts → FrameCounts) : State :=
  s.mapFrame n (fun fr => { fr with counts := f fr.counts, bad := true })

/-- Fit a line to width `w`: pad a short one, cut a long one (R118). -/
def fitLine (w : Nat) (black : Bool) (pad : Nat) (l : List Nat) : List Nat :=
  l.take w ++ List.replicate (w - l.length) (if black then pad else l.getLast?.getD pad)

/-- Count what R118 finds in a line of the open frame: cut by the elastic queue, shorter than W, longer. -/
def State.judgeLine (s : State) (n w : Nat) (l : List Nat) (cut : Bool) : State :=
  let s := if cut then s.countFrame n (fun c => { c with cuts := c.cuts + 1 }) else s
  if l.length < w then
    let s := s.countFrame n (fun c => { c with maxShort := max c.maxShort (w - l.length) })
    if cut then s else s.countFrame n (fun c => { c with short := c.short + 1 })
  else if w < l.length then
    s.countFrame n (fun c => { c with long := c.long + 1, maxLong := max c.maxLong (l.length - w) })
  else s

/-- Fill `k` missing lines of exposure `e` in their own places (R119), as long as there are slots. -/
def State.fillLines (n e : Nat) (u : PortSetup) : Nat → State → State
  | 0, s => s
  | k + 1, s =>
    match (s.port n).live with
    | none => s
    | some fr =>
      if (s.port n).slotsFull u.exposures then s
      else State.fillLines n e u k
        ((s.countFrame n (fun c => { c with filled := c.filled + 1 })).storeLine n e u (fr.filler e u.w))

/-- A pixel line of exposure `e` of a claimed frame arrives (R118, R119, R126). `number` is its line number where the
sensor sends one; `cut` says that the elastic queue cut it, `last` that it carries the frame's end marker (R120). -/
def State.takeLine (s : State) (n e : Nat) (l : List Nat) (cut : Bool) (number : Option Nat) (last : Bool) : State :=
  match (s.port n).live, (s.port n).setup with
  | some fr, some u =>
    let stored (s : State) : Nat := (((s.port n).live.map (·.stored)).getD []).getD e 0
    let arrived := number.getD (stored s)
    if (s.port n).slotsFull u.exposures then s.closeFrame n 6 arrived
    else
      let s := State.fillLines n e u (match number with | some k => min (k - stored s) (u.h - stored s) | none => 0)
        (s.judgeLine n u.w l cut)
      let y := stored s
      if decide (y < u.h) && (s.port n).slotsFull u.exposures then s.closeFrame n 6 arrived else
      let s := if y < u.h then
          let s := if e = 0 then s.mapFrame n (fun fr => { fr with counts := { fr.counts with received := fr.counts.received + 1 } })
            else s
          s.storeLine n e u (fitLine u.w fr.cmd.padLineBlack fr.cmd.padValue l)
        else
          let s := s.countFrame n (fun c => { c with discarded := c.discarded + 1 })
          s.mapFrame n (fun fr => { fr with stored := fr.stored.set e (y + 1) })
      let s := s.setFld (Reg.spStatus n) 15 0 (min ((((s.port n).live.map (·.stored)).getD []).getD 0 0) 65535)
      if u.h + fr.cmd.lineBound ≤ y + 1 ∧ last = false then s.closeFrame n 2 else s
  | _, _ => s

/-- An embedded line of the open frame is written, fitted to W words as a line of pixels is (R107, R118; DEDUCED, log entry 30). -/
def State.takeEmbedded (s : State) (n : Nat) (l : List Nat) (cut : Bool) : State :=
  match (s.port n).live, (s.port n).setup with
  | some fr, some u =>
    let s := if cut then s.countFrame n (fun c => { c with cuts := c.cuts + 1 }) else s
    let px := fitLine u.w fr.cmd.padLineBlack fr.cmd.padValue l
    let s := s.unitStore (0x20 + n) (fr.cmd.embed + fr.counts.embedded * u.w * 2) (px.flatMap (leBytes 2))
    s.mapFrame n (fun fr => { fr with counts := { fr.counts with embedded := fr.counts.embedded + 1 } })
  | _, _ => s

/-- A line that no claimed frame takes: an orphan before any frame start, or part of an unclaimed frame (R116). -/
def State.strayLine (s : State) (n : Nat) : State :=
  if (s.port n).unclaimed then s else s.mapPort n (fun p => { p with orphans := p.orphans + 1 })

/-- Something arrives that no exposure takes (R102, R104). -/
def State.strayData (s : State) (n : Nat) : State := s.mapPort n (fun p => { p with unclaimedData := p.unclaimedData + 1 })

/-- The words of a line or packet pass the elastic queue of port `n`, which finds itself full when it cuts them (R22); 255 stands for
the full depth, which the field cannot hold (DESIGN CHOICE, log entry 30). -/
def State.intake (s : State) (n : Nat) (cut : Bool) : State :=
  let s := s.eqSeen (Reg.spEq n) (if cut then some 255 else none)
  if cut then s.fire 93 else s

/-- An exposure ends: `e` has had its end marker. -/
def OpenFrame.endOf (fr : OpenFrame) (e : Nat) : List Nat := if fr.ended.contains e then fr.ended else fr.ended ++ [e]

/-- The end marker of exposure `e` closes the frame when every exposure has ended; an unclaimed frame ends with its last exposure
(R120; DEDUCED, log entry 30). -/
def State.endMarker (s : State) (n e exposures : Nat) : State :=
  let s := s.mapFrame n (fun fr => { fr with ended := fr.endOf e })
  match (s.port n).live with
  | none => if e + 1 = exposures then s.mapPort n (fun p => { p with unclaimed := false }) else s
  | some fr => if exposures ≤ fr.ended.length then s.closeFrame n 0 else s

/-- Does the start of exposure `e` start a frame? Exposure 0's does, and another's when no frame is open or this one has started. -/
def Port.starts (p : Port) (e : Nat) : Bool :=
  e == 0 || (p.live.isNone && !p.unclaimed) || ((p.live.map (·.started)).getD []).contains e

/-! SLVS (R101, R104 to R107). -/

/-- Lane `k` of a line, through the lane map and the polarity mask; lanes from `L` on are the partner's. The mask inverts the lane's bits,
those of its CRC word among them, a word of 16 bits (DEDUCED, log entry 30). -/
def logicalLane (u : PortSetup) (ls : List LaneLine) (k : Nat) : LaneLine × Nat :=
  let (map, pol, base, j) := if k < u.lanes then (u.laneMap, u.polarity, 0, k)
    else ((u.partner.getD (0, 0)).1, (u.partner.getD (0, 0)).2, 16, k - u.lanes)
  let phys := base + nbits map (4 * j + 3) (4 * j)
  let raw := ls.getD phys ⟨false, 0, 0, [], 0, [], [], 0, 0⟩
  let inv (x : Nat) : Nat := if nbits pol j j = 1 then 2 ^ u.width - 1 - x % 2 ^ u.width else x % 2 ^ u.width
  ({ raw with pre := raw.pre.map inv, code := inv raw.code, words := raw.words.map inv, endPre := raw.endPre.map inv,
              endCode := inv raw.endCode, crc := if nbits pol j j = 1 then 65535 - raw.crc % 65536 else raw.crc }, phys)

/-- Does a code word match code `i` of the setup (3 SOF, 4 SOL, 5 EOL, 6 EOF, 7 BLK), and with which exposure (R104)? -/
def codeMatch (u : PortSetup) (x i : Nat) : Option Nat :=
  let m := u.codeMask % 2 ^ u.width
  let m := if 1 < u.exposures ∧ i < 7 then m - m % 4 else m
  if (x &&& m) = ((u.sync.getD i 0) &&& m) then some (if 1 < u.exposures ∧ i < 7 then x % 4 else 0) else none

/-- The code a word is, and its exposure. -/
def codeOf (u : PortSetup) (x : Nat) : Option (Nat × Nat) :=
  [3, 4, 5, 6, 7].findSome? (fun i => (codeMatch u x i).map (fun e => (i, e)))

/-- Does a lane carry a whole sync sequence at the line's start? -/
def hasSequence (u : PortSetup) (pre : List Nat) (code : Nat) : Bool :=
  pre == u.sync.take 3 && (codeOf u code).isSome

/-- One sync sequence found on a lane at a bit offset (R105): the new hunt, and whether the lane lost lock. -/
def laneStep (lockLines offset : Nat) (l : LaneSt) : LaneSt × Bool :=
  if l.locked then
    if offset = l.offset then ({ l with stray := 0 }, false)
    else if 4 ≤ l.stray + 1 then (⟨false, offset, 1, 0⟩, true)
    else ({ l with stray := l.stray + 1 }, false)
  else
    let run := if offset = l.offset then l.run + 1 else 1
    (⟨decide (lockLines ≤ run), offset, run, 0⟩, false)

/-- CRC-16 with generator 0x1021 over one 16-bit word, most significant bit first (R107). -/
def crc16Word (c x : Nat) : Nat :=
  (List.range 16).foldl (fun c i =>
    let fb := (c / 2 ^ 15 + nbits x (15 - i) (15 - i)) % 2
    let c := (c * 2) % 65536
    if fb = 1 then c ^^^ 0x1021 else c) c

def crc16Words (l : List Nat) : Nat := l.foldl crc16Word 0xFFFF

/-- Interleave the lanes of a line: pixel p travels on lane p mod N (R101, R108). -/
def interleave (lanes : List (List Nat)) : List Nat :=
  let n := lanes.length
  let longest := (lanes.map List.length).foldl max 0
  (List.range (longest * n)).filterMap (fun p => (lanes.getD (p % n) [])[p / n]?)

/-- A lane of port `n` has lost lock: the port hunts again, and the event is raised for the first such lane (R105). -/
def State.lockLost (s : State) (n : Nat) : State :=
  let made := (s.port n).lostMade
  let s := (s.mapPort n (fun p => { p with aligned := false, lostMade := true })).spState n 1
  if made then s else s.fire (80 + n)

/-- The lanes of a line find a sequence, its start's or its end's as `seq` shows, and lock or lose lock (R105). -/
def State.lockLanes (s : State) (n : Nat) (u : PortSetup) (ls : List (LaneLine × Nat)) (seq : LaneLine → Bool) : State :=
  let step := fun (a : State × Bool) (x : LaneLine × Nat) =>
    let (s, lost) := a
    if x.1.found && seq x.1 then
      let r := laneStep u.lockLines x.1.offset (sget LaneSt.empty (s.port n).lanes x.2)
      (s.mapPort n (fun p => { p with lanes := sset LaneSt.empty p.lanes x.2 r.1 }), lost || r.2)
    else (s, lost)
  let (s, lost) := ls.foldl step (s, false)
  let s := s.spLanes n n 0
  let s := if u.gang then s.spLanes (n + 1) n 16 else s
  if lost then s.lockLost n else s

/-- The code that begins a line and the code that ends it, with their exposures, as lane 0 carries them (R104). -/
def startCode (u : PortSetup) (ls : List (LaneLine × Nat)) : Option (Nat × Nat) :=
  match ls with | l :: _ => if l.1.pre == u.sync.take 3 then codeOf u l.1.code else none | [] => none
def endCode (u : PortSetup) (ls : List (LaneLine × Nat)) : Option (Nat × Nat) :=
  match ls with | l :: _ => if l.1.endPre == u.sync.take 3 then codeOf u l.1.endCode else none | [] => none

/-- The start codes of a line align the lanes, when all are locked (R106); none when the port is in deskew_error or still hunts. -/
def State.deskew (s : State) (n : Nat) (u : PortSetup) (ls : List (LaneLine × Nat)) : State × Bool :=
  if !ls.all (fun p => (sget LaneSt.empty (s.port n).lanes p.2).locked) then (s, false) else
  let skews := ls.map (fun p => p.1.skew)
  let skew := skews.foldl max 0 - skews.foldl min (skews.headD 0)
  let s := s.setFld (Reg.spLaneLock n) 31 16 (min skew 65535)
  if 32 < skew then
    let s := (s.mapPort n (fun p => { p with aligned := false, lanes := [] })).spLanes n n 0
    (((if u.gang then s.spLanes (n + 1) n 16 else s).spState n 3).fire (80 + n), false)
  else if (s.port n).aligned then (s, true)
  else (((s.mapPort n (fun p => { p with aligned := true, lostMade := false })).spState n 2).fire 92, true)

/-- The pixel words of a line count on the pace meter of the port whose lanes bring them (R134's meter 0). -/
def State.tallyLanes (s : State) (n : Nat) (u : PortSetup) (ls : List (LaneLine × Nat)) : State :=
  let words (l : List (LaneLine × Nat)) : Nat := (l.map (fun p => p.1.words.length)).sum
  let s := s.tally (0x20 + n) (words (ls.take u.lanes))
  if u.gang then s.tally (0x21 + n) (words (ls.drop u.lanes)) else s

/-- A line of exposure `e`, aligned, is taken or belongs to no claimed frame (R107, R116 to R120). -/
def State.takeSlvs (s : State) (n : Nat) (u : PortSetup) (ls : List (LaneLine × Nat)) (cut : Bool) (code e : Nat) : State :=
  let s := s.tallyLanes n u ls
  let start := code == 3 && (s.port n).starts e
  let s := if start then s.frameStart n else s
  let s := if code = 3 then s.mapFrame n (fun fr => { fr with started := fr.started ++ [e] }) else s
  let fin := endCode u ls
  if (match fin with | some (_, e2) => decide (u.exposures ≤ e2) | none => false) then s.strayData n else
  let eof := match fin with | some (6, e2) => some e2 | _ => none
  let s := match (s.port n).live with
    | none => s.strayLine n
    | some fr =>
      let bad := if u.lineCrc then (ls.filter (fun p => crc16Words p.1.words != p.1.crc)).length else 0
      let s := if bad = 0 then s else (s.countFrame n (fun c => { c with crc := c.crc + bad })).fire 91
      let pixels := interleave (ls.map (·.1.words))
      if e = 0 ∧ fr.counts.embedded < u.embedded then s.takeEmbedded n pixels cut
      else
        let last := match eof with | some e2 => decide (u.exposures ≤ (fr.endOf e2).length) | none => false
        s.takeLine n e pixels cut none last
  match eof with
  | some e2 => s.endMarker n e2 u.exposures
  | none => s

/-- SLVS_LINE (R101, R104 to R107, R116 to R120). A stalled intake empties nothing from its elastic queue (R12, R22). -/
def doSlvsLine (n : Nat) (line : SlvsLine) (s : State) : State :=
  match (s.port n).setup with
  | none => s
  | some u =>
    if u.mode ≠ 0 ∨ (s.port n).awaitMap ∨ s.isPowered (n + 2) = false ∨ s.isFenced (n + 2) = true then s else
    if s.unitStalled (0x20 + n) then s.intake n true else
    let s := s.intake n line.cut
    let count := if u.gang then 2 * u.lanes else u.lanes
    let ls := (List.range count).map (logicalLane u line.lanes)
    let s := s.lockLanes n u ls (fun l => hasSequence u l.pre l.code)
    let (s, taken) := s.deskew n u ls
    let s := match taken, startCode u ls with
      | true, some (code, e) =>
        if code = 7 ∨ code = 5 ∨ code = 6 then s
        else if u.exposures ≤ e then s.strayData n
        else s.takeSlvs n u ls line.cut code e
      | _, _ => s
    if (s.port n).setup = some u then s.lockLanes n u ls (fun l => hasSequence u l.endPre l.endCode) else s

/-! CSI-2 (R102, R103). -/

/-- The exposure a virtual channel carries, 3 for embedded data. -/
def vcExposure (u : PortSetup) (vc : Nat) : Option Nat :=
  (List.range u.exposures).find? (fun e => u.vc.getD e 16 == vc)

/-- A header is corrected or lost (R103): counted; true when the packet is discarded. -/
def State.csiHeader (s : State) (n : Nat) : CsiHeader → State × Bool
  | .ok => (s, false)
  | .corrected =>
    (s.mapFrame n (fun fr => { fr with counts := { fr.counts with hdrCorrected := fr.counts.hdrCorrected + 1 } }), false)
  | .lost => ((s.countFrame n (fun c => { c with hdrLost := c.hdrLost + 1 })).fire 91, true)

/-- Is port `n` set up for CSI-2, with a domain that runs? -/
def State.csiSetup (s : State) (n : Nat) : Option PortSetup :=
  match (s.port n).setup with
  | some u => if u.mode ≠ 0 ∧ s.isPowered (n + 2) ∧ s.isFenced (n + 2) = false ∧ (s.port n).awaitMap = false then some u else none
  | none => none

/-- CSI2_SHORT_PACKET (R102, R116, R120): Frame Start 0x00, Frame End 0x01, Line Start 0x02. -/
def doCsi2ShortPacket (n : Nat) (pkt : Csi2Short) (s : State) : State :=
  match s.csiSetup n with
  | none => s
  | some u =>
    if (u.mode = 1 ∧ pkt.link.val = 1) ∨ s.unitStalled (0x20 + n) = true then s else
    let (s, lost) := s.csiHeader n pkt.header
    if lost then s else
    match vcExposure u pkt.vc with
    | none => s
    | some e =>
      if pkt.dt = 0x02 then
        s.mapPort n (fun p => { p with lineNo := sset 0 p.lineNo (pkt.link.val * 4 + e) pkt.num })
      else if pkt.link.val = 1 then s
      else if pkt.dt = 0x00 then
        let s := if (s.port n).starts e then s.frameStart n else s
        s.mapFrame n (fun fr => { fr with started := fr.started ++ [e] })
      else if pkt.dt = 0x01 then s.endMarker n e u.exposures
      else s

/-- The samples of a long packet's payload, by data type: RAW10, RAW12, RAW14 and RAW16 as MIPI CSI-2 packs them
(PRESUMED, log entry 20). -/
def csiPixels (dt : Nat) (bs : List Byte) : List Nat :=
  let b (i : Nat) : Nat := (bs.getD i 0).toNat
  if dt = 0x2B then (List.range (bs.length / 5 * 4)).map (fun p =>
    let g := p / 4 * 5
    b (g + p % 4) * 4 + nbits (b (g + 4)) (2 * (p % 4) + 1) (2 * (p % 4)))
  else if dt = 0x2C then (List.range (bs.length / 3 * 2)).map (fun p =>
    let g := p / 2 * 3
    b (g + p % 2) * 16 + nbits (b (g + 2)) (4 * (p % 2) + 3) (4 * (p % 2)))
  else if dt = 0x2D then (List.range (bs.length / 7 * 4)).map (fun p =>
    let g := p / 4 * 7
    let low := b (g + 4) + 256 * b (g + 5) + 65536 * b (g + 6)
    b (g + p % 4) * 64 + nbits low (6 * (p % 4) + 5) (6 * (p % 4)))
  else (List.range (bs.length / 2)).map (fun p => b (2 * p) + 256 * b (2 * p + 1))

/-- The bits of a sample of a RAW data type. -/
def rawWidth (dt : Nat) : Option Nat :=
  if dt = 0x2B then some 10 else if dt = 0x2C then some 12 else if dt = 0x2D then some 14 else if dt = 0x2E then some 16
  else none

/-- CSI-2's CRC-16 over bytes: generator x^16 + x^12 + x^5 + 1, initial value 0xFFFF, least significant bit first
(PRESUMED, log entry 20). -/
def csiCrc (bs : List Byte) : Nat :=
  bs.foldl (fun c b => (List.range 8).foldl (fun c i =>
    let fb := (c + nbits b.toNat i i) % 2
    if fb = 1 then c / 2 ^^^ 0x8408 else c / 2) c) 0xFFFF

/-- The first half of a line on two links, of `a` pixels, is fitted to W / 2 before the line is joined (R103, R118): counted
here, where the second half, of `b` pixels, does not make the line count as short or long of itself. -/
def State.firstHalf (s : State) (n : Nat) (u : PortSetup) (cut : Bool) (a b : Nat) : State :=
  let half := u.w / 2
  if a < half then
    s.countFrame n (fun c =>
      { c with short := if cut || decide (b < half) then c.short else c.short + 1
               maxShort := max c.maxShort (half - a + (half - b)) })
  else if half < a then
    s.countFrame n (fun c =>
      { c with long := if half < b then c.long else c.long + 1, maxLong := max c.maxLong (a - half + (b - half)) })
  else s

/-- The payload's CRC is checked (R102): a mismatch of a packet of the open frame is counted. -/
def State.csiCheck (s : State) (n : Nat) (pkt : Csi2Long) : State :=
  if csiCrc pkt.payload = pkt.crc then s else (s.countFrame n (fun c => { c with crc := c.crc + 1 })).fire 91

/-- A packet of pixels of exposure `e` of the open frame: a line, or on two links a half that waits for the other (R103). -/
def State.takePacket (s : State) (n : Nat) (u : PortSetup) (fr : OpenFrame) (e : Nat) (pkt : Csi2Long) : State :=
  let px := csiPixels pkt.dt pkt.payload
  let key := pkt.link.val * 4 + e
  let num := sget 0 (s.port n).lineNo key
  let s := s.mapPort n (fun p => { p with lineNo := sset 0 p.lineNo key 0 })
  let number := if num = 0 then none else some (num - 1)
  if u.mode = 1 then s.takeLine n e px pkt.cut number false
  else
    let idx := number.getD (sget 0 (s.port n).halfCount key)
    let s := s.mapPort n (fun p => { p with halfCount := sset 0 p.halfCount key (idx + 1) })
    match (s.port n).halves.find? (fun h => h.1 == 1 - pkt.link.val && h.2.1 == e && h.2.2.1 == idx) with
    | none => s.mapPort n (fun p => { p with halves := p.halves ++ [(pkt.link.val, e, idx, pkt.cut, px)] })
    | some h =>
      let other := h.2.2.2.2
      let first := if pkt.link.val = 0 then px else other
      let second := if pkt.link.val = 0 then other else px
      let cut := pkt.cut || h.2.2.2.1
      let s := s.mapPort n (fun p => { p with halves := p.halves.erase h })
      let s := s.firstHalf n u cut first.length second.length
      s.takeLine n e (fitLine (u.w / 2) fr.cmd.padLineBlack fr.cmd.padValue first ++ second) cut number false

/-- CSI2_LONG_PACKET (R102, R103, R118). A packet of a data type other than the setup's is no data of the port's (DEDUCED from R127, log
entry 30). -/
def doCsi2LongPacket (n : Nat) (pkt : Csi2Long) (s : State) : State :=
  match s.csiSetup n with
  | none => s
  | some u =>
    if u.mode = 1 ∧ pkt.link.val = 1 then s else
    if s.unitStalled (0x20 + n) then s.intake n true else
    let s := s.intake n pkt.cut
    let (s, lost) := s.csiHeader n pkt.header
    if lost then s else
    let embedded := pkt.dt == 0x12 && u.vc.getD 3 16 == pkt.vc
    match embedded, vcExposure u pkt.vc, decide (rawWidth pkt.dt = some u.width) with
    | true, _, _ =>
      match (s.port n).live with
      | some fr =>
        let s := s.csiCheck n pkt
        if fr.counts.embedded < u.embedded then s.takeEmbedded n (pkt.payload.map (fun (b : Byte) => b.toNat)) pkt.cut else s
      | none => s.strayLine n
    | false, some e, true =>
      let s := s.tally (0x20 + n) (csiPixels pkt.dt pkt.payload).length
      match (s.port n).live with
      | none => if pkt.link.val = 1 then s else s.strayLine n
      | some fr => (s.csiCheck n pkt).takePacket n u fr e pkt
    | _, _, _ => (s.strayData n).fire 91

/-! Timeouts and triggers. -/

/-- LANE_LOCK_TIMEOUT (R105). -/
def doLaneLockTimeout (n lane : Nat) (s : State) : State :=
  let lead := if s.gangPartner n then n - 1 else n
  let key := if lead = n then lane else 16 + lane
  if !(sget LaneSt.empty (s.port lead).lanes key).locked then s
  else
    let s := s.mapPort lead (fun p => { p with lanes := sset LaneSt.empty p.lanes key LaneSt.empty })
    (s.spLanes n lead (if lead = n then 0 else 16)).lockLost lead

/-- A FRAME that claimed no frame completes with NO_FRAME (R117, R120). -/
def doSofTimeout (n : Nat) (s : State) : State :=
  match (s.port n).armed with
  | none => s
  | some cmd =>
    if cmd.sofTimeout = 0 then s else
    let orphans := (s.port n).orphans
    let s := (s.mapPort n (fun p => { p with armed := none, orphans := 0 })).setFld (Reg.spStatus n) 24 24 0
    let rep := frameReport (s.reg (Reg.spFrames n)).toNat 0 s.bcn.ns.toNat (s.epoch (n + 2)).toNat spNoFrame 7 0 0xFFFF
      (s.port n).xtrigTime { FrameCounts.zero with orphans := orphans }
    let s := (s.unitStore (0x20 + n) cmd.report rep).complete n cmd.tag spNoFrame
      (BitVec.ofNat 64 ((s.reg (Reg.spFrames n)).toNat * 2 ^ 32 + 0xFFFF))
    (s.fire 90).stopEnds n

/-- LINE_TIMEOUT (R120). -/
def doLineTimeout (n : Nat) (s : State) : State := s.closeFrame n 3

/-- A Beacon trigger acts on port `n`: XTRIG is asserted 20 ns later (R114, R115). -/
def State.xtrigAct (s : State) (n : Nat) : State :=
  let p := s.port n
  match p.xtrig with
  | none => s
  | some x =>
    if p.pulse || !x.enable then (s.bump (Reg.spXtrigMiss n) 15 0 1).fire 95
    else (s.setPort n { p with pulse := true, xtrigTime := (s.bcn.ns + 20).toNat }).emit (.pin (.xtrig n) (!x.low))

/-- XTRIG_PULSE_END (R115). -/
def doXtrigPulseEnd (n : Nat) (s : State) : State :=
  let p := s.port n
  if !p.pulse then s
  else
    let p := { p with pulse := false }
    let p := match p.xtrigNext with | some x => { p with xtrig := some x, xtrigNext := none } | none => p
    (s.setPort n p).emit (.pin (.xtrig n) p.xtrigRest)

/-- ABORT reaches a FRAME (R122); none when the tag is not an armed or open FRAME's, and when its frame has closed and only its padding
is still to come. -/
def State.abortFrame (s : State) (n tag : Nat) : Option State :=
  match (s.port n).armed, (s.port n).live with
  | some cmd, _ =>
    if cmd.tag = tag then
      some ((((s.mapPort n (fun p => { p with armed := none })).setFld (Reg.spStatus n) 24 24 0).complete n tag stAborted 0xFFFF).stopEnds n)
    else none
  | none, some fr => if fr.cmd.tag = tag then some (s.closeFrame n 5) else none
  | none, none => none

/-- The sensor ports' part of a power-down of domain `d` (R112): a gang or split setup that loses its partner, RFE_B or
CLR_B ends its frame as dropped and is cleared; a leading port that goes down releases its partner. What RFE_B had not taken of its half
goes with RFE_B. -/
def State.spxLosePartner (s : State) (d : Nat) : State :=
  let lose (s : State) (n : Nat) : State := (s.closeFrame n 4).clearSetup n
  let gangOf (n : Nat) : Bool := match (s.port n).setup with | some u => u.gang | none => false
  let s := if (d = 2 ∨ d = 4) ∧ gangOf (d - 2) then s.clearSetup (d - 2)
    else if d = 3 ∧ gangOf 0 then lose s 0
    else if d = 5 ∧ gangOf 2 then lose s 2
    else if (d = 7 ∨ d = 9) ∧ s.splitOn then lose s 0
    else s
  if d = 7 then s.mapPort 0 (fun p => { p with bufs := sset [] p.bufs 1 [] }) else s

end Sys2Proof.Machine
end

