-- ==== Sys2Proof/Machine/Wall.lean ====
section
/-!
DEFINITION. What the wall units share: timing sets, the tile map and calibration tables, CRC-32C, the framing of tile-link
groups (spec/07_wall_output.md R243, R255 to R261, R267; spec/08_lanes_tile_link.md R282 to R292).
-/
namespace Sys2Proof.Machine

def State.gen (s : State) (g : Nat) : Gen := sget Gen.empty s.gens g
def State.setGen (s : State) (g : Nat) (x : Gen) : State := { s with gens := sset Gen.empty s.gens g x }
def State.mapGen (s : State) (g : Nat) (f : Gen → Gen) : State := s.setGen g (f (s.gen g))
def State.lane (s : State) (l : Nat) : WallLane := sget WallLane.empty s.lanes l
def State.setLane (s : State) (l : Nat) (x : WallLane) : State := { s with lanes := sset WallLane.empty s.lanes l x }
def State.mapLane (s : State) (l : Nat) (f : WallLane → WallLane) : State := s.setLane l (f (s.lane l))

/-- A generator's state field: 0 stopped, 1 starting, 2 running, 3 retiming, 4 holding, 5 held (WLO_x_STATUS). -/
def State.genState (s : State) (g : Nat) : Nat := s.fld (Reg.wloStatus g) 31 28

/-- Does a generator run: starting, running, retiming or holding? -/
def State.genRuns (s : State) (g : Nat) : Bool := decide (1 ≤ s.genState g ∧ s.genState g ≤ 4)

/-- Are A and B locked (R252)? -/
def State.locked (s : State) : Bool := s.fld (Reg.wloStatus 0) 27 27 == 1

/-! Timing sets: the 18 registers of a generator block, staged or active. -/

/-- A timing set, as the values of a generator block by register index (WLO_x_CTRL to WLO_x_FREEZE). -/
abbrev TimingSet := List Word

def TimingSet.fld (t : TimingSet) (i hi lo : Nat) : Nat := bitsOf (t.getD i 0) hi lo
def TimingSet.hActive (t : TimingSet) : Nat := t.fld 1 15 0
def TimingSet.hTotal (t : TimingSet) : Nat := t.fld 1 31 16
def TimingSet.vActive (t : TimingSet) : Nat := t.fld 2 15 0
/-- T_L in 2⁻¹⁶ ns. -/
def TimingSet.line (t : TimingSet) : Nat := t.fld 3 31 0 + 2 ^ 32 * t.fld 4 7 0
/-- P in 2⁻¹⁶ ns. -/
def TimingSet.period (t : TimingSet) : Nat := t.fld 5 31 0 + 2 ^ 32 * t.fld 6 15 0
/-- The anchor, ns. -/
def TimingSet.anchor (t : TimingSet) : Nat := t.fld 7 31 0 + 2 ^ 32 * t.fld 8 31 0
def TimingSet.lock (t : TimingSet) : Bool := t.fld 0 31 31 == 1
def TimingSet.memory (t : TimingSet) : Bool := t.fld 0 30 30 == 1
def TimingSet.packed (t : TimingSet) : Bool := t.fld 0 29 29 == 1
def TimingSet.frameRef (t : TimingSet) : Nat := t.fld 0 28 27
def TimingSet.mapBank (t : TimingSet) : Nat := t.fld 0 26 26
def TimingSet.calBank (t : TimingSet) : Nat := t.fld 0 25 25
def TimingSet.correct (t : TimingSet) : Bool := t.fld 0 24 24 == 1
def TimingSet.frefDiv (t : TimingSet) : Nat := t.fld 0 23 21 + 1
def TimingSet.slew (t : TimingSet) : Nat := max 1 (t.fld 0 15 0)
def TimingSet.addr (t : TimingSet) : Nat := t.fld 10 31 6 * 64 + 2 ^ 32 * t.fld 11 15 0
def TimingSet.hdr (t : TimingSet) : Nat := t.fld 12 31 6 * 64 + 2 ^ 32 * t.fld 13 15 0
def TimingSet.stride (t : TimingSet) : Nat := t.fld 14 23 0

/-- The active set of a generator. -/
def State.activeSet (s : State) (g : Nat) : TimingSet :=
  s.reg (Reg.wloActCtrl g) :: (List.range 17).map (fun i => s.reg (Reg.wloAct g i))

/-- The keys of a generator's staged block, in order. -/
def stagedSetKeys (g : Nat) : List Nat := (List.range 18).map (fun i => Reg.wloCtrl g + 4 * i)

/-! The tile map (R254, R255). -/

def mapBase (b : Nat) : Nat := 0x10_03E0_0000 + b * 0x10_0000
def calBase (b : Nat) : Nat := 0x10_03D0_0000 + b * 0x8_0000
def laneStatusBase : Nat := 0x10_03C0_0000

/-- A tile map entry (R255). -/
structure TileEntry where
  x0 : Nat
  y0 : Nat
  w : Nat
  h : Nat
  gen : Nat
  codeWidth : Nat
  enable : Bool
  lane : Nat
  pos : Nat
  module : Nat
  cal : Nat
  low : Nat
  deriving DecidableEq, Repr

def decodeTile (q : Quad) : TileEntry :=
  { x0 := qbits q 127 112, y0 := qbits q 111 96, w := qbits q 95 80, h := qbits q 79 64, gen := qbits q 63 63,
    codeWidth := qbits q 62 61, enable := qbits q 60 60 == 1, lane := qbits q 59 55, pos := qbits q 54 47,
    module := qbits q 46 40, cal := qbits q 39 26, low := qbits q 25 0 }

/-- The code width n of a region. -/
def TileEntry.n (r : TileEntry) : Nat := if r.codeWidth = 0 then 16 else if r.codeWidth = 1 then 12 else 10

/-- The entries that a bank holds, with their indices. -/
def State.mapEntries (s : State) (b : Nat) : List (Nat × TileEntry) :=
  (List.range (s.fld (Reg.wloShMap b) 16 0)).map (fun i => (i, decodeTile (s.quadAt (mapBase b + 16 * i))))

/-- The enabled regions of generator `g` in its active map bank. -/
def State.regionsOf (s : State) (g : Nat) : List (Nat × TileEntry) :=
  if s.fld (Reg.wloShMap ((s.activeSet g).mapBank)) 31 31 = 1 then
    (s.mapEntries ((s.activeSet g).mapBank)).filter (fun p => p.2.enable && p.2.gen == g)
  else []

/-- The receivers of a generator's map, as lane × 256 + position. -/
def State.receiversOf (s : State) (g : Nat) : List Nat :=
  ((s.regionsOf g).map (fun p => p.2.lane * 256 + p.2.pos)).eraseDups

/-- The lanes that carry a region of a generator. -/
def State.lanesOf (s : State) (g : Nat) : List Nat := ((s.regionsOf g).map (fun p => p.2.lane)).eraseDups

/-- Does an enabled region of any generator that is starting, running or holding, in its active or pending map, name the
lane (R305)? -/
def State.laneInUse (s : State) (l : Nat) : Bool :=
  [0, 1].any (fun g =>
    s.genRuns g &&
    (let banks := (s.activeSet g).mapBank ::
        ([2, 3, 4].flatMap s.pendOf).filterMap (fun p => (p.val (Reg.wloCtrl g)).map (fun v => bitsOf v 26 26))
     banks.any (fun b => s.fld (Reg.wloShMap b) 31 31 == 1 &&
       (s.mapEntries b).any (fun e => e.2.enable && e.2.gen == g && e.2.lane == l))))

/-! Quads and lanes (R277 to R280). -/

/-- Is quad `q` absent on the variant (R277)? -/
def quadAbsent (v : Variant) (q : Nat) : Bool :=
  (v.small && (q == 8 || q == 9)) || (v == .ew9750 && q == 3) || (v == .ew9730 && (q == 2 || q == 3))

/-- Is lane `n` absent on the variant (R277)? -/
def laneAbsent (v : Variant) (n : Nat) : Bool := quadAbsent v (n / 4) || (v == .ew9730 && (n == 50 || n == 51))

/-- The power domain of quad `q` (R277). -/
def quadDomain (q : Nat) : Nat := if q ≤ 3 then 24 else if q ≤ 9 then 25 else 26

def State.serialLane (s : State) (n : Nat) : SerialLane := sget SerialLane.empty s.serial n
def State.mapSerial (s : State) (n : Nat) (f : SerialLane → SerialLane) : State :=
  { s with serial := sset SerialLane.empty s.serial n (f (s.serialLane n)) }

/-- Does the unit that owns lane `n` drive it: the endpoint or a root port with its link up, a wall lane set up, the cascade or the
Ethernet port enabled (DESIGN CHOICE, log entry 35)? -/
def State.drives (s : State) (n : Nat) : Bool :=
  if n < 8 then s.fld Reg.hciPcieStatus 31 31 == 1 && decide (n < s.fld Reg.hciPcieStatus 30 27)
  else if n < 16 then
    let r := (n - 8) / 4
    (s.fld (Reg.clsRpStatus r) 31 28 == 2 || s.fld (Reg.clsRpStatus r) 31 28 == 3) && decide ((n - 8) % 4 < s.fld (Reg.clsRpStatus r) 23 19)
  else if n < 40 then s.fld (Reg.lnxWlStatus (n - 16)) 31 28 != 0
  else if n < 48 then s.cas.enable && s.cas.txOn.contains ((n - 40) / 4)
  else s.fld (Reg.ethStatus (n - 48)) 29 29 == 1

/-- Show which lanes of quad `q` transmit: those driven, while its PLL is locked (R278, R308). -/
def State.showTx (s : State) (q : Nat) : State :=
  (List.range 4).foldl (fun s k =>
    s.setFld (Reg.lnxStatus q) k k (s.drives (4 * q + k) && s.fld (Reg.lnxStatus q) 31 31 == 1).toNat) s

/-- The owning unit sets a lane up: which transmit settings it gives, the spec does not say; a free value (R279, DESIGN CHOICE, log entry 35). -/
def State.setTx (s : State) (n : Nat) : State :=
  ({ s with fresh := s.fresh + 1 }.mapSerial n (fun x => { x with txFree := some s.fresh })).showTx (n / 4)

/-- LNX_Qq_Lk_TX of lane `n` as it reads (R279). -/
def State.txWord (s : State) (n : Nat) : Word :=
  match (s.serialLane n).txFree with
  | none => s.reg (Reg.lnxTx (n / 4) (n % 4))
  | some i =>
    let q := (Config.freeQuad i).toNat
    let pre := q % 16
    let post := q / 16 % 24
    packBits [(pre, 20), (post, 15), (q / 512 % 8, 12), ((63 + 64 - pre - post) % 64, 6)]

/-! CRC-32C (R267): generator 0x1EDC6F41, reflected. The initial value and the final inversion are the caller's. -/

def crc32cByte (c : Nat) (b : Byte) : Nat :=
  (List.range 8).foldl (fun c _ => if c % 2 = 1 then c / 2 ^^^ 0x82F63B78 else c / 2) (c ^^^ b.toNat)

def crc32cOver (c : Nat) (bs : List Byte) : Nat := bs.foldl crc32cByte c

/-- The CRC-32C of bytes. -/
def crc32c (bs : List Byte) : Nat := crc32cOver 0xFFFFFFFF bs ^^^ 0xFFFFFFFF

/-! Tile-link groups (R282 to R292). A block is (control?, payload). -/

abbrev Block := Bool × BitVec 64

/-- A control block of type `t` with field F. -/
def ctrlBlock (t f : Nat) : Block := (true, BitVec.ofNat 64 (t + 256 * f))

/-- The data blocks of a byte string, the last one filled with zeros. -/
def dataBlocks (bs : List Byte) : List Block :=
  (List.range ((bs.length + 7) / 8)).map (fun k => (false, BitVec.ofNat 64 (ofLe ((bs.drop (8 * k)).take 8))))

/-- The GCM nonce of a group: salt, 0x00, seq, as a number (R291). -/
def gcmNonce (salt seq : Nat) : Nat := salt * 2 ^ 64 + seq

/-- The block that trains a legacy lane (R284). -/
def trainBlock : Block := (true, BitVec.ofNat 64 0x55555555555555E1)

/-- Scramble a payload with 1 + x³⁹ + x⁵⁸ (R282): the register holds the bits sent last, the latest lowest. The register after it, and what
is sent. -/
def scramble (reg v : Nat) : Nat × Nat :=
  (List.range 64).foldl (fun a i =>
    let b := (v / 2 ^ i + a.1 / 2 ^ 38 + a.1 / 2 ^ 57) % 2
    ((2 * a.1 + b) % 2 ^ 58, a.2 + b * 2 ^ i)) (reg, 0)

/-- The 66 bits of a block in the order they are sent, the first lowest (R282): the header, 0 then 1 for data and 1 then 0 for control, and
the payload. -/
def wireBlock (control : Bool) (payload : Nat) : BitVec 66 := BitVec.ofNat 66 ((if control then 1 else 2) + 4 * payload)

/-- One more block leaves through the scrambler; a TRAIN leaves as it is, the scrambler held (R282, R284). -/
def wireStep (a : Nat × List (BitVec 66)) (b : Block) : Nat × List (BitVec 66) :=
  if b = trainBlock then (a.1, a.2 ++ [wireBlock true b.2.toNat])
  else (((scramble a.1 b.2.toNat).1), a.2 ++ [wireBlock b.1 (scramble a.1 b.2.toNat).2])

/-- Blocks leave on a lane, inverted where LANE_SETUP says so (R306). -/
def State.sendBlocks (s : State) (l : Nat) (bs : List Block) : State :=
  let w := s.lane l
  let r := bs.foldl wireStep (w.scram, [])
  (s.setLane l { w with scram := r.1 }).emit (.tile l (if w.txInvert then r.2.map (~~~ ·) else r.2))

/-- The lane's queue has stood empty since its last group: the IDLE blocks that have left since, as many as time allowed, a free value
(R22, R285; DESIGN CHOICE, log entry 35). They are one incident of the transmit queue. -/
def State.sendIdle (s : State) (l : Nat) : State :=
  let (q, s) := s.takeFree
  (s.sendBlocks l (List.replicate q.toNat (ctrlBlock 0x1E 0))).eqSeen (Reg.lnxEqTx (4 + l / 4) (l % 4)) (some 0)

/-- A group leaves on a lane (R285, R291): LINE_START, its body, LINE_END, and with a key two tag blocks; seq steps. `line`
is 0xFFFF for a control group, whose body begins with SEQ. Nothing leaves while the framers are stalled (R12). -/
def State.sendGroup (s : State) (l : Nat) (plain genB : Bool) (frame line segments : Nat) (body : List Block) : State :=
  if s.unitStalled 0x3D then s else
  let s := s.sendIdle l
  let w := s.lane l
  let key := if plain then none else w.key
  let body := if line = 0xFFFF then ctrlBlock 0xD2 w.seq :: body else body
  let start := ctrlBlock 0x2D (key.isSome.toNat * 2 ^ 48 + genB.toNat * 2 ^ 49 + (frame % 65536) * 2 ^ 32 +
    (w.seq % 65536) * 2 ^ 16 + line)
  let fin := ctrlBlock 0x33 ((body.length + 2) * 2 ^ 11 + segments)
  let group := [start] ++ body ++ [fin]
  let out := match key with
    | none => group
    | some (k, salt) =>
      let nonce := gcmNonce salt w.seq
      let aad := (group.filter (·.1)).map (·.2)
      let enc := (group.foldl (fun (a : List Block × Nat) b =>
        if b.1 then (a.1 ++ [b], a.2) else (a.1 ++ [(false, b.2 ^^^ Config.gcmStream k nonce a.2)], a.2 + 1)) ([], 0)).1
      let tag := Config.gcmTag k nonce aad ((enc.filter (fun b => !b.1)).map (·.2))
      enc ++ [(false, BitVec.setWidth 64 tag), (false, BitVec.setWidth 64 (tag >>> 64))]
  let s := s.setLane l { w with seq := (w.seq + 1) % 2 ^ 56 }
  ((s.setReg (Reg.lnxWlSeq l) (BitVec.ofNat 32 ((w.seq + 1) % 2 ^ 32))).sendBlocks l out).tally 0x3D out.length

/-- Is a lane up? -/
def State.laneUp (s : State) (l : Nat) : Bool := s.fld (Reg.lnxWlStatus l) 31 28 == 2

/-- May a lane carry line groups: up, and with its key where it is guarded (R292, R305)? After an unlock at level 2 a guarded lane
sends IDLE until the next reset (R543). -/
def State.laneCarries (s : State) (l : Nat) : Bool :=
  s.laneUp l && (!(s.lane l).guard || ((s.lane l).key.isSome && s.fld Reg.kprStatus 23 22 != 2))

/-- Is the lane among those of a generator that scans out an active line (R286)? -/
def State.laneScanned (s : State) (l : Nat) : Bool :=
  [0, 1].any (fun g =>
    (s.genState g == 2 || (s.genState g == 4 && (s.gen g).holdAsked)) && (s.gen g).phase == 0 &&
    decide ((s.gen g).line < (s.activeSet g).vActive) && (s.lanesOf g).contains l)

/-- The generator whose frames a lane's management groups name: B for a lane that carries regions of B alone, else A. -/
def State.laneGen (s : State) (l : Nat) : Nat := if (s.lanesOf 1).contains l && !(s.lanesOf 0).contains l then 1 else 0

/-- A management group leaves on a lane (R286). -/
def State.sendManagement (s : State) (l : Nat) (plain : Bool) (body : List Block) : State :=
  let g := s.laneGen l
  s.sendGroup l plain (g == 1) (s.reg (Reg.wloFrames g)).toNat 0xFFFF 0 body

/-- A control group with one block on every lane of a list that is up; unguarded while a guarded lane has no key. -/
def State.sendControl (s : State) (lanes : List Nat) (genB : Bool) (frame t f : Nat) : State :=
  lanes.foldl (fun s l => if s.laneUp l then s.sendGroup l false genB frame 0xFFFF 0 [ctrlBlock t f] else s) s

end Sys2Proof.Machine
end

