-- ==== Sys2Proof/Machine/Bcn.lean ====
section
/-!
DEFINITION. GPIO pins, the Beacon counter and its triggers, the Ethernet ports, the packet path and RTP egress
(spec/12_time_cascade.md R428 to R442, spec/13_host_control_buses.md R484).
-/
namespace Sys2Proof.Machine

def State.mapHci (s : State) (f : Hci → Hci) : State := { s with hci := f s.hci }
def State.mapBcn (s : State) (f : Beacon → Beacon) : State := { s with bcn := f s.bcn }

/-! GPIO (R484). -/

/-- The level at a ball: an output's own level, an input's or a released open-drain output's the board's. -/
def State.pinLevel (s : State) (p : Nat) : Bool :=
  let board := s.hci.balls.getLsbD p
  if s.fld Reg.gpioDir p p = 0 then board
  else
    let v : Bool := match (s.hci.pulses.filter (fun x => x.2.1 == p)).getLast? with
      | some x => x.2.2
      | none => s.fld Reg.gpioOut p p == 1
    if s.fld Reg.gpioDir (16 + p) (16 + p) == 1 && v then board else v

/-- HCI_GPIO_IN follows the balls; enabled edges set their flags and fire event 254. -/
def State.gpioShow (s : State) : State :=
  (List.range 16).foldl (fun s p =>
    let was := s.fld Reg.gpioIn p p == 1
    let v := s.pinLevel p
    if was == v then s else
    let s := s.setFld Reg.gpioIn p p v.toNat
    let s := if s.fld Reg.gpioDir p p = 1 then s.emit (.pin (.gpio p) v) else s
    let e := if v then 16 + p else p
    if s.fld Reg.gpioEdge e e = 1 then (s.setFld Reg.gpioFlags p p 1).fire 254 else s) s

/-! The counter (R428 to R431). -/

/-- Time passes by `d` in units of 2⁻³⁰ ns. -/
def State.advance (s : State) (d : Nat) : State :=
  let t := s.now * 2 ^ 30 + s.bcn.frac.toNat + d
  let e := t / 2 ^ 30
  let wrap := BitVec.ofNat 32 (e / 2 ^ 32)
  let crossed := wrap != s.bcn.wrap
  let s := s.mapBcn (fun b => { b with ns := BitVec.ofNat 32 e, wrap := wrap, frac := BitVec.ofNat 30 t })
  if crossed then s.fire 241 else s

/-- One tick of the counter. -/
def State.tick (s : State) : State := s.advance (s.reg Reg.bcnInc).toNat

/-- BEACON_WRAP (R428, R429): the counter ticks on to the tick that carries into wrap. -/
def doBeaconWrap (s : State) : State :=
  let inc := max 1 (s.reg Reg.bcnInc).toNat
  let left := 2 ^ 62 - (s.bcn.ns.toNat * 2 ^ 30 + s.bcn.frac.toNat)
  s.advance ((left + inc - 1) / inc * inc)

/-- BCN_NOW_NS_READ (R429). -/
def doBcnNowNsRead (_m : Master) (s : State) : State :=
  (s.mapBcn (fun b => { b with latFrac := b.frac, latWrap := b.wrap })).emit (.regData s.bcn.ns)

/-- BCN_INC_WRITE (R430, R508). -/
def doBcnIncWrite (m : Master) (v : Word) (s : State) : State :=
  s.gateWrite m Reg.bcnInc (fun s =>
    let s := s.setFld Reg.bcnStatus 31 31 0
    if 0x7FDF3B64 ≤ v.toNat ∧ v.toNat ≤ 0x8020C49C then (s.setReg Reg.bcnInc v).followRate
    else s.setFld Reg.bcnStatus 29 29 1)

/-! Triggers and alarms (R71, R72, R433, R434). -/

/-- Beacon trigger `n` acts; `late` is set when a step carried time past it. -/
def State.trigAct (s : State) (n : Nat) (late : Bool) : State :=
  let t := s.trig n
  let c := s.reg (Reg.bcnTrigCtrl n)
  let s := s.setReg (Reg.bcnTrigLast n) s.bcn.ns
  let s := (List.range 4).foldl (fun s p =>
    match (s.port p).xtrig with | some x => if x.trigger = n then s.xtrigAct p else s | none => s) s
  let gpio := bitsOf c 30 30 = 1
  let pin := bitsOf c 29 26
  let s := s.setTrig n { t with st := .acted, late := t.late || late, pulse := t.pulse || gpio }
  let s := if gpio then
      (s.mapHci (fun h => { h with pulses := h.pulses.filter (fun x => x.1 != n) ++ [(n, pin, bitsOf c 25 25 == 0)] })).gpioShow
    else s
  if bitsOf c 31 31 = 1 then (s.setFld Reg.bcnTrigActed n n 1).fire 236 else s

/-- The alarm of cell `n` fires (R72, R91). -/
def State.alarmAct (s : State) (n : Nat) : State := (s.mapCell n (fun c => { c with alarm := .acted })).fire (56 + n)

/-- BEACON_TRIGGER_ACT (R433): an armed trigger whose time is reached. -/
def doBeaconTriggerAct (n : Nat) (s : State) : State :=
  let t := s.trig n
  if t.st == .armed && reached s.bcn.ns t.time then s.trigAct n false else s

/-- TRIGGER_PULSE_END (R433, R484). -/
def doTriggerPulseEnd (n : Nat) (s : State) : State :=
  if !(s.trig n).pulse then s else
  ((s.setTrig n { s.trig n with pulse := false }).mapHci
    (fun h => { h with pulses := h.pulses.filter (fun x => x.1 != n) })).gpioShow

/-- Arm Beacon trigger `n` for a time; the result is 0 or 1 (R71). -/
def State.armTrig (s : State) (n : Nat) (time : Word) : State × Nat :=
  let t := s.trig n
  if reached s.bcn.ns time then (s.setTrig n { t with st := .idle, time := time, late := false, result := 1 }, 1)
  else (s.setTrig n { t with st := .armed, time := time, late := false, result := 0 }, 0)

/-- The result of a disarm (R71). -/
def disarmResult : ArmState → Nat
  | .armed => 2
  | .acted => 0
  | .idle => 3

/-- Disarm Beacon trigger `n`. -/
def State.disarmTrig (s : State) (n : Nat) : State × Nat :=
  let t := s.trig n
  (s.setTrig n { t with st := .idle, result := disarmResult t.st }, disarmResult t.st)

/-- A write of BCN_TRIG_n_ARM (R434). -/
def State.trigArmWrite (s : State) (m : Master) (n : Nat) (v : Word) : State :=
  s.gateWrite m (Reg.bcnTrigArm n) (fun s =>
    if (s.trigOwner n).isSome then s.accessFault m true (regsBase + Reg.bcnTrigArm n)
    else if bitsOf v 31 30 = 2 then (s.armTrig n (s.reg (Reg.bcnTrigTime n))).1
    else if bitsOf v 31 30 = 1 then (s.disarmTrig n).1
    else s)

/-- HOST_TRIGGER_ARM (R434). -/
def doHostTriggerArm (m : Master) (n : Nat) (v : Word) (s : State) : State := s.trigArmWrite m n v
/-- HOST_TRIGGER_DISARM (R434). -/
def doHostTriggerDisarm (m : Master) (n : Nat) (v : Word) (s : State) : State := s.trigArmWrite m n v

/-- BCN_STEP (R431): the step, then every armed target whose time it carried time past. -/
def doBcnStep (m : Master) (v : Word) (s : State) : State :=
  s.gateWrite m Reg.bcnStepHi (fun s =>
    let e := s.now
    let d := v.toNat * 2 ^ 32 + (s.reg Reg.bcnStepLo).toNat
    let e' := (e + d) % 2 ^ 64
    let forward := decide (d < 2 ^ 63)
    let crossed := e / 2 ^ 32 != e' / 2 ^ 32
    let s := s.mapBcn (fun b => { b with ns := BitVec.ofNat 32 e', wrap := BitVec.ofNat 32 (e' / 2 ^ 32) })
    let s := (s.setFld Reg.bcnStatus 31 31 0).setFld Reg.bcnStatus 30 30 1
    let s := if crossed then s.fire 241 else s
    let s := s.fire 239
    let passed (t : Word) : Bool := forward && decide (e < extendNear e t ∧ extendNear e t ≤ e + d)
    let s := (List.range 16).foldl (fun s n =>
      if (s.trig n).st == .armed && passed (s.trig n).time then s.trigAct n true else s) s
    (List.range 8).foldl (fun s n =>
      if (s.cell n).alarm == .armed && passed (s.cell n).alarmTime then s.alarmAct n else s) s)

/-- PTP_BASE_WRITE (R432): the high half, applied with the staged low half. -/
def doPtpBaseWrite (m : Master) (v : Word) (s : State) : State :=
  s.gateWrite m Reg.bcnPtpBaseHi (fun s =>
    s.mapBcn (fun b => { b with ptpBase := BitVec.ofNat 64 (v.toNat * 2 ^ 32 + b.ptpLo.toNat) }))

/-! Ethernet ports (R435). -/

def bcnBadParams : Nat := 0x10
def bcnPortDown : Nat := 0x11
def bcnNoStartCode : Nat := 0x12

def ethAbsent (v : Variant) (p : Nat) : Bool := v == .ew9730 && decide (2 ≤ p)
def State.eth (s : State) (p : Nat) : EthPort := sget ⟨false, 0, 0, 0⟩ s.bcn.eth p
def State.txq (s : State) (p : Nat) : List TxItem := sget [] s.bcn.txq p
def State.setTxq (s : State) (p : Nat) (l : List TxItem) : State := s.mapBcn (fun b => { b with txq := sset [] b.txq p l })
def State.ethUp (s : State) (p : Nat) : Bool := s.fld (Reg.ethStatus p) 31 31 == 1

/-- A port's link state; the frames that wait on a port whose link goes down do not leave (DESIGN CHOICE, log entry 25). -/
def State.setLink (s : State) (p : Nat) (up : Bool) : State :=
  if s.ethUp p == up then s else
  let s := (s.setFld (Reg.ethStatus p) 31 31 up.toNat).fire 240
  if up then s
  else
    let l := s.txq p
    l.foldl (fun s i => match i.tag with | some t => s.complete 21 t bcnPortDown 0 | none => s) (s.setTxq p [])

/-- ETH_LINK_CHANGE. -/
def doEthLinkChange (p : Nat) (up : Bool) (s : State) : State :=
  if ethAbsent s.variant p || s.fld (Reg.ethStatus p) 29 29 == 0 then s else s.setLink p up

/-- ETH_SETUP. -/
def doEthSetup (s : State) : State :=
  s.takeAs 21 0x10 [1] (fun t s =>
    let p := t.fld 0 87 86
    if ethAbsent s.variant p || !t.zeros [(0, 67, 0), (1, 79, 0)] then s.complete 21 t.tag bcnBadParams 0
    else
      let e : EthPort := ⟨t.fld 0 83 83 == 1, t.fld 0 82 71, t.fld 0 70 68, t.fld 1 127 80⟩
      let s := s.mapBcn (fun b => { b with eth := sset ⟨false, 0, 0, 0⟩ b.eth p e })
      let s := (s.setFld (Reg.ethStatus p) 30 30 (t.fld 0 85 85)).setFld (Reg.ethStatus p) 29 29 (t.fld 0 84 84)
      let s := if t.fld 0 84 84 = 0 then s.setLink p false else s
      let s := s.setTx (48 + p)
      s.complete 21 t.tag stSuccess 0)

/-! Frames (R436, R439): where the network layer lies. -/

def be16 (f : List Byte) (i : Nat) : Nat := (f.getD i 0).toNat * 256 + (f.getD (i + 1) 0).toNat

/-- The EtherType of a frame, after one 802.1Q tag if it has one, and where its payload begins. -/
def etherType (f : List Byte) : Nat × Nat := if be16 f 12 = 0x8100 then (be16 f 16, 18) else (be16 f 12, 14)

/-- The UDP header of a frame: is it over IPv6, and at which byte it begins. -/
def udpAt (f : List Byte) : Option (Bool × Nat) :=
  let (e, o) := etherType f
  let b (i : Nat) : Nat := (f.getD i 0).toNat
  if e = 0x0800 ∧ b o / 16 = 4 ∧ b (o + 9) = 17 ∧ be16 f (o + 6) % 0x2000 = 0 then some (false, o + 4 * (b o % 16))
  else if e = 0x86DD ∧ b o / 16 = 6 ∧ b (o + 6) = 17 then some (true, o + 40)
  else none

/-- Does a filter match a frame of port `p`? -/
def RxFilterSt.matches (x : RxFilterSt) (p : Nat) (f : List Byte) : Bool :=
  let port := (udpAt f).map (fun u => be16 f (u.2 + 2))
  x.enable && x.ports.getLsbD p &&
  (if x.kind = 0 then (etherType f).1 == x.value
   else if x.kind = 1 then port == some x.value
   else (etherType f).1 == 0x88F7 || port == some 319 || port == some 320)

/-- RX_FILTER. -/
def doRxFilter (s : State) : State :=
  s.takeAs 21 0x11 [0] (fun t s =>
    let mask := t.fld 0 82 79
    if t.fld 0 60 0 ≠ 0 ∨ t.fld 0 78 77 = 3 ∨ (List.range 4).any (fun p => mask.testBit p && ethAbsent s.variant p) then
      s.complete 21 t.tag bcnBadParams 0
    else
      let x : RxFilterSt := ⟨t.fld 0 83 83 == 1, BitVec.ofNat 4 mask, t.fld 0 78 77, t.fld 0 76 61⟩
      (s.mapBcn (fun b => { b with filters := sset ⟨false, 0, 0, 0⟩ b.filters (t.fld 0 87 84) x })).complete 21 t.tag stSuccess 0)

/-- Is a number of ring entries one that the spec allows? -/
def ringEntriesOk (n : Nat) : Bool := [16, 32, 64, 128, 256, 512, 1024, 2048, 4096].contains n

/-- RX_RING. -/
def doRxRing (s : State) : State :=
  s.takeAs 21 0x12 [1] (fun t s =>
    let base := t.fld 1 127 80
    let n := t.fld 1 79 64
    let ctrl := t.fld 1 63 16
    if t.fld 1 15 0 ≠ 0 ∨ base % 2048 ≠ 0 ∨ !ringEntriesOk n ∨ ctrl % 64 ≠ 0 ∨ !inMemory s.variant base (2048 * n) ∨
      !inMemory s.variant ctrl 64 then s.complete 21 t.tag bcnBadParams 0
    else (s.mapBcn (fun b => { b with ring := some ⟨base, n, ctrl⟩ })).complete 21 t.tag stSuccess 0)

/-- An entry for a ring with a control block: its number and address, where the ring has room (R439). -/
def State.ringSlot (s : State) (r : MemRing) (size : Nat) : Option (Nat × Nat) :=
  let w := s.num (r.ctrl + 4) 4
  if (w + 2 ^ 32 - s.num (r.ctrl + 20) 4) % 2 ^ 32 < r.entries then some (w, r.base + w % r.entries * size) else none

/-- The ring's written_total advances. -/
def State.ringPut (s : State) (win : Nat) (r : MemRing) (w : Nat) : State :=
  s.unitStore win r.ctrl (leBytes 16 ((w + 1) % 2 ^ 32 * 2 ^ 32))

/-- A raw stamp less the port's asymmetry (R438), in 2⁻¹⁶ ns. -/
def State.lessAsym (s : State) (p raw : Nat) : Nat :=
  ((raw : Int) - signed 32 (s.reg (Reg.ethAsym p)).toNat).toNat

/-- A frame enters entry `w` of the receive ring, at address `a`: its length, port, filter and stamp, then its bytes (R439). -/
def State.frameIn (s : State) (p k : Nat) (bytes : List Byte) (stamp : Nat) (r : MemRing) (w a : Nat) : State :=
  let st := s.lessAsym p stamp
  let head := leBytes 2 bytes.length ++ leBytes 1 p ++ leBytes 5 k ++ leBytes 8 (st / 65536) ++ leBytes 16 (st % 65536)
  let body := head ++ bytes
  let s := s.unitStore 0x0C a (body ++ leBytes (2048 - body.length) 0)
  (s.ringPut 0x0C r w).fire 237

/-- ETH_FRAME_RECEIVED (R435, R438, R439): `stamp` is the raw stamp in 2⁻¹⁶ ns; `bytes` the frame up to its FCS. -/
def doEthFrameReceived (p : Nat) (bytes : List Byte) (fcsOk : Bool) (stamp : Nat) (s : State) : State :=
  if ethAbsent s.variant p || !s.ethUp p then s
  else if !fcsOk then s.bump (Reg.ethCount0 p) 31 16 1
  else if 2016 < bytes.length then s.bump (Reg.ethCount1 p) 31 16 1
  else if (etherType bytes).1 = 0x8808 ∧ be16 bytes (etherType bytes).2 = 1 then s
  else
    if s.unitStalled 0x0E then s else
    match (List.range 16).find? (fun k => (sget ⟨false, 0, 0, 0⟩ s.bcn.filters k).matches p bytes) with
    | none => s.bump (Reg.ethCount0 p) 15 0 1
    | some k =>
      match s.bcn.ring with
      | none => (s.bump (Reg.ethCount1 p) 31 16 1).fire 238
      | some r =>
        let s := s.meet (r.ctrl + 16) 16
        match s.ringSlot r 2048 with
        | none => (s.bump (Reg.ethCount1 p) 31 16 1).fire 238
        | some (w, a) =>
          s.frameIn p k bytes stamp r w a

/-! Sending (R437, R440). -/

/-- Replace bytes of a frame from `i` on. -/
def putBytes (f : List Byte) (i : Nat) (bs : List Byte) : List Byte := f.take i ++ bs ++ f.drop (i + bs.length)

/-- The sum modulo 65,535 of the big-endian 16-bit words of bytes. -/
def sum16 (bs : List Byte) : Nat := ((List.range ((bs.length + 1) / 2)).map (fun i => be16 bs (2 * i))).sum % 65535

/-- A frame with its UDP payload's last two bytes such that the checksum it carries stays valid (R437). -/
def keepSum (old new : List Byte) (udp : Nat) : List Byte :=
  let len := be16 old (udp + 4)
  let at_ := udp + len - 2
  let part (f : List Byte) : Nat := sum16 ((f.drop udp).take len)
  let w := be16 new at_
  let swap (x : Nat) : Nat := x % 256 * 256 + x / 256
  let even := len % 2 == 0
  let c := ((if even then w else swap w) + part old + 65535 - part new) % 65535
  putBytes new at_ (beBytes 2 (if even then c else swap c))

/-- A frame with the one-step insertion of its kind, leaving at raw stamp `dep` (R437). -/
def State.insertStep (s : State) (i : TxItem) (dep : Nat) : List Byte :=
  let f := i.bytes
  let o := i.offset
  let corr (d : Int) (f : List Byte) : List Byte :=
    putBytes f (o + 8) (beBytes 8 (wrapInt 64 (signed 64 (ofBe ((f.drop (o + 8)).take 8)) + d)))
  let g :=
    if i.oneStep = 1 then
      let t := dep / 65536 + s.bcn.ptpBase.toNat
      corr (dep % 65536) (putBytes f (o + 34) (beBytes 6 (t / 10 ^ 9) ++ beBytes 4 (t % 10 ^ 9)))
    else corr ((dep : Int) - i.t2) f
  match udpAt f with
  | some (false, u) => putBytes g (u + 6) [0, 0]
  | some (true, u) => keepSum f g u
  | none => g

/-- PKT_DEPARTURE (R437, R440): the oldest frame of a port leaves now, from the port's transmit queue (R461); the emission leaves out
the FCS. -/
def doPktDeparture (p : Nat) (s : State) : State :=
  match s.txq p with
  | [] => s
  | i :: rest =>
    if s.unitStalled 0x0E then s else
    let s := s.meetUnit 0x0E (1 + p)
    let dep := s.stamp
    let f := if i.oneStep = 0 then i.bytes else s.insertStep i dep
    let s := ((s.setTxq p rest).emit (.frame p (f ++ leBytes (60 - f.length) 0))).bump (Reg.ethCount1 p) 15 0 1
    match i.tag with
    | some t => s.complete 21 t stSuccess (BitVec.ofNat 64 (s.lessAsym p dep / 256))
    | none => s

/-- May the one-step insertion of a frame be made (R437)? -/
def stepFits (f : List Byte) (o kind : Nat) : Bool :=
  decide (o + (if kind = 1 then 44 else 16) ≤ f.length) &&
  (match udpAt f with
   | some (true, u) =>
     let len := be16 f (u + 4)
     decide (be16 f (o + 2) + 2 + 8 ≤ len) && decide (u + len ≤ f.length)
   | _ => true)

/-- The status that refuses a PKT_SEND before its frame is read, none when it passes (R435, R440). -/
def State.pktRefused (s : State) (t : Taken) : Option Nat :=
  let p := t.fld 0 87 86
  let one := t.fld 0 85 85 == 1
  let kind := t.fld 0 84 83
  let src := t.fld 1 127 80
  let len := t.fld 1 79 68
  if ethAbsent s.variant p || !t.zeros [(0, 71, 0), (1, 67, 0), (2, 47, 0)] || (one && (kind == 0 || kind == 3)) ||
    decide (len < 60) || decide (2016 < len) || !inMemory s.variant src len then some bcnBadParams
  else if !s.ethUp p then some bcnPortDown
  else none

/-- The status that the frame of a PKT_SEND gives it, none when it may leave (R26, R437). -/
def State.pktBad (s : State) (t : Taken) : Option Nat :=
  let src := t.fld 1 127 80
  let len := t.fld 1 79 68
  if s.poisonedAt src len then some stPoisoned
  else if t.fld 0 85 85 == 1 && !stepFits (s.bytes src len) (t.fld 0 82 72) (t.fld 0 84 83) then some bcnBadParams
  else none

/-- The frame of a PKT_SEND, as it waits on its port. -/
def State.pktItem (s : State) (t : Taken) : TxItem :=
  ⟨some t.tag, s.bytes (t.fld 1 127 80) (t.fld 1 79 68), if t.fld 0 85 85 = 1 then t.fld 0 84 83 else 0, t.fld 0 82 72, t.fld 2 127 48⟩

/-- PKT_SEND (R437, R440). -/
def doPktSend (s : State) : State :=
  s.takeAs 21 0x13 [2] (fun t s =>
    match s.pktRefused t with
    | some st => s.complete 21 t.tag st 0
    | none =>
    let s := s.meet (t.fld 1 127 80) (t.fld 1 79 68)
    match s.pktBad t with
    | some st => s.complete 21 t.tag st 0
    | none => s.setTxq (t.fld 0 87 86) (s.txq (t.fld 0 87 86) ++ [s.pktItem t]))

/-- ABORT reaches a PKT_SEND that has not left (R42). -/
def State.pktAbort (s : State) (tag : Nat) : Option State :=
  match (List.range 4).find? (fun p => (s.txq p).any (fun i => i.tag == some tag)) with
  | some p => some ((s.setTxq p ((s.txq p).filter (fun i => i.tag != some tag))).complete 21 tag stAborted 0)
  | none => none

/-! RTP egress (R441, R442). -/

/-- RTP_SETUP. -/
def doRtpSetup (s : State) : State :=
  s.takeAs 21 0x14 [3] (fun t s =>
    let p := t.fld 0 83 82
    let mtu := t.fld 0 59 49
    if ethAbsent s.variant p || t.fld 0 48 0 ≠ 0 || decide (mtu < 576) || decide (1500 < mtu) then
      s.complete 21 t.tag bcnBadParams 0
    else
      let k := t.fld 0 87 84
      let r : RtpStream :=
        { port := p, ipv6 := t.fld 0 81 81 == 1, dscp := t.fld 0 80 75, ttl := t.fld 0 74 67, payloadType := t.fld 0 66 60,
          mtu := mtu, dstMac := t.fld 1 127 80, ssrc := t.fld 1 63 32, srcPort := t.fld 1 31 16, dstPort := t.fld 1 15 0,
          srcIp := (t.word 2).toNat, dstIp := (t.word 3).toNat }
      let s := s.mapBcn (fun b => { b with rtp := sset none b.rtp k (some r) })
      (s.setReg (Reg.rtpState k) (packBits [(1, 31), (t.fld 1 79 64, 0)])).complete 21 t.tag stSuccess 0)

/-- Split a byte stream at its start codes, without them and the zero bytes before them. -/
def nalUnits : Nat → List Byte → List Byte → List (List Byte)
  | 0, acc, _ => [acc]
  | f + 1, acc, bs =>
    match bs with
    | [] => [acc]
    | b :: rest =>
      let zeros := (bs.takeWhile (· == 0)).length
      if 2 ≤ zeros ∧ bs[zeros]? = some 1 then acc :: nalUnits f [] (bs.drop (zeros + 1))
      else nalUnits f (acc ++ [b]) rest

/-- The RTP payloads of a NAL unit (RFC 7798, R442). -/
def rtpPayloads (max : Nat) (nal : List Byte) : List (List Byte) :=
  if nal.length ≤ max then [nal]
  else
    let h0 := (nal.getD 0 0).toNat
    let h1 := nal.getD 1 0
    let body := nal.drop 2
    let size := max - 3
    let n := (body.length + size - 1) / size
    (List.range n).map (fun i =>
      let fu := (if i = 0 then 128 else 0) + (if i + 1 = n then 64 else 0) + h0 / 2 % 64
      BitVec.ofNat 8 (h0 / 128 * 128 + 49 * 2 + h0 % 2) :: h1 :: BitVec.ofNat 8 fu :: (body.drop (i * size)).take size)

/-- The one's complement checksum field of bytes. -/
def inetSum (bs : List Byte) : Nat :=
  let t := ((List.range ((bs.length + 1) / 2)).map (fun i => be16 bs (2 * i))).sum
  let fold (x : Nat) : Nat := x % 65536 + x / 65536
  65535 - fold (fold (fold t))

/-- The frame of one RTP packet (R441). -/
def State.rtpFrame (s : State) (r : RtpStream) (seq ts : Nat) (marker : Bool) (payload : List Byte) : List Byte :=
  let e := s.eth r.port
  let rtp := [0x80#8, BitVec.ofNat 8 (marker.toNat * 128 + r.payloadType)] ++ beBytes 2 seq ++ beBytes 4 ts ++ beBytes 4 r.ssrc ++ payload
  let len := rtp.length + 8
  let ips := if r.ipv6 then beBytes 16 r.srcIp ++ beBytes 16 r.dstIp else beBytes 4 r.srcIp ++ beBytes 4 r.dstIp
  let pseudo := ips ++ (if r.ipv6 then beBytes 4 len ++ beBytes 4 17 else beBytes 2 17 ++ beBytes 2 len)
  let udp (c : Nat) : List Byte := beBytes 2 r.srcPort ++ beBytes 2 r.dstPort ++ beBytes 2 len ++ beBytes 2 c ++ rtp
  let c := inetSum (pseudo ++ udp 0)
  let v4 (c : Nat) : List Byte := [0x45#8, BitVec.ofNat 8 (r.dscp * 4)] ++ beBytes 2 (20 + len) ++ beBytes 2 0 ++
    beBytes 2 0x4000 ++ [BitVec.ofNat 8 r.ttl, 17#8] ++ beBytes 2 c ++ ips
  let ip := if r.ipv6 then
      beBytes 4 (6 * 2 ^ 28 + r.dscp * 2 ^ 22) ++ beBytes 2 len ++ [17#8, BitVec.ofNat 8 r.ttl] ++ ips
    else v4 (inetSum (v4 0))
  beBytes 6 r.dstMac ++ beBytes 6 e.addr ++ (if e.vlanEn then beBytes 2 0x8100 ++ beBytes 2 (e.pcp * 8192 + e.vid) else []) ++
    beBytes 2 (if r.ipv6 then 0x86DD else 0x0800) ++ ip ++ udp (if c = 0 then 65535 else c)

/-- The bytes of a range, with the ring wrap of R398. -/
def State.wrapBytes (s : State) (src ringBase ringBytes len : Nat) : List Byte :=
  (List.range len).map (fun i => s.byte (if ringBytes = 0 then src + i else ringBase + (src - ringBase + i) % ringBytes))

/-- The status that refuses an RTP_SEND on stream `r` before its range is read, none when it passes (R441). -/
def State.rtpRefused (s : State) (r : RtpStream) (t : Taken) : Option Nat :=
  let src := t.fld 1 127 80
  let len := t.fld 1 79 56
  let base := t.fld 2 127 80
  let size := t.fld 2 79 56 * 4096
  let ok := t.zeros [(0, 82, 64), (0, 31, 0), (1, 55, 0), (2, 55, 0)] &&
    (if size = 0 then inMemory s.variant src len
     else base % 4096 == 0 && inMemory s.variant base size && decide (base ≤ src ∧ src < base + size) && decide (len ≤ size))
  if !ok then some bcnBadParams
  else if !s.ethUp r.port then some bcnPortDown
  else none

/-- The reads of a range with the ring wrap of R398: its part up to the end of the ring and the rest from the ring's base. -/
def State.meetWrap (s : State) (src ringBase ringBytes len : Nat) : State :=
  let k := if ringBytes = 0 then len else min len (ringBase + ringBytes - src)
  (s.meet src k).meet ringBase (len - k)

/-- The status that the bytes of an RTP_SEND give it, none when they may leave (R26, R442). -/
def State.rtpBad (s : State) (t : Taken) : Option Nat :=
  let src := t.fld 1 127 80
  let len := t.fld 1 79 56
  let base := t.fld 2 127 80
  let size := t.fld 2 79 56 * 4096
  if (if size = 0 then s.poisonedAt src len else
      (List.range len).any (fun i => s.poisonedAt (base + (src - base + i) % size) 1)) then some stPoisoned
  else
    let bs := s.wrapBytes src base size len
    let zeros := (bs.takeWhile (· == 0)).length
    if zeros < 2 ∨ bs[zeros]? ≠ some 1 then some bcnNoStartCode else none

/-- The packets of an access unit wait on the port of stream `k`; their numbers and octets are counted (R442). -/
def State.rtpQueue (s : State) (k : Nat) (r : RtpStream) (t : Taken) : State :=
  let len := t.fld 1 79 56
  let bs := s.wrapBytes (t.fld 1 127 80) (t.fld 2 127 80) (t.fld 2 79 56 * 4096) len
  let max := r.mtu - (if r.ipv6 then 40 else 20) - 8 - 12
  let packets := ((nalUnits len [] bs).filter (fun n => !n.isEmpty)).flatMap (rtpPayloads max)
  let seq := s.fld (Reg.rtpState k) 15 0
  let n := packets.length
  let items := packets.zipIdx.map (fun q => TxItem.mk none
    (s.rtpFrame r ((seq + q.2) % 65536) (t.fld 0 63 32) (t.fld 0 83 83 == 1 && q.2 + 1 == n) q.1) 0 0 0)
  let s := s.setTxq r.port (s.txq r.port ++ items)
  let s := s.setFld (Reg.rtpState k) 15 0 (seq + n)
  let s := (s.count (Reg.rtpPackets k) n).count (Reg.rtpOctets k) ((packets.map List.length).sum)
  s.complete 21 t.tag stSuccess (BitVec.ofNat 64 (n * 2 ^ 32 + seq * 2 ^ 16))

/-- RTP_SEND (R441, R442). -/
def doRtpSend (s : State) : State :=
  s.takeAs 21 0x15 [2] (fun t s =>
    match sget none s.bcn.rtp (t.fld 0 87 84) with
    | none => s.complete 21 t.tag bcnBadParams 0
    | some r =>
      match s.rtpRefused r t with
      | some st => s.complete 21 t.tag st 0
      | none =>
      let s := s.meetWrap (t.fld 1 127 80) (t.fld 2 127 80) (t.fld 2 79 56 * 4096) (t.fld 1 79 56)
      match s.rtpBad t with
      | some st => s.complete 21 t.tag st 0
      | none => s.rtpQueue (t.fld 0 87 84) r t)

end Sys2Proof.Machine
end

