-- ==== Sys2Proof/Machine/Packed.lean ====
section
/-!
DEFINITION. The packed-surface format (spec/05_colour_engine.md R188 to R192): block modes and bitstreams, as the colour
engine and the compositor write them and readers take them.
-/
namespace Sys2Proof.Machine

/-- The channel widths of RGBA16F (0) and RGB10A2 (1), in stream order (R190). -/
def packWidths (format : Nat) : List Nat := if format = 0 then [16, 16, 16, 16] else [10, 10, 10, 2]

/-- Bytes of a pixel (R184). -/
def bppOf (format : Nat) : Nat := if format = 1 ∨ format = 3 then 4 else 8

/-- Channel `c` of a pixel in the unpacked layout. -/
def pixChannel (format p c : Nat) : Nat :=
  if format = 0 then nbits p (16 * c + 15) (16 * c) else if c = 3 then nbits p 31 30 else nbits p (10 * c + 9) (10 * c)

/-- A pixel from its channels. -/
def pixJoin (format : Nat) (cs : List Nat) : Nat :=
  if format = 0 then (cs.zipIdx.map (fun p => p.1 * 2 ^ (16 * p.2))).sum
  else (cs.zipIdx.map (fun p => p.1 * 2 ^ (10 * p.2))).sum

/-- The prediction residual of a channel value (R190): z of the difference modulo 2^b. -/
def packZ (b value pred : Nat) : Nat :=
  let r := (value + 2 ^ b - pred) % 2 ^ b
  if r < 2 ^ (b - 1) then 2 * r else 2 * (2 ^ b - r) - 1

/-- The value that a residual stands for (R190). -/
def unpackZ (b z pred : Nat) : Nat := if z % 2 = 0 then (pred + z / 2) % 2 ^ b else (pred + 2 ^ b - (z + 1) / 2) % 2 ^ b

/-- The residuals of the 63 pixels after the first, in raster order over a 16 × 4 block. -/
def packZs (b : Nat) (vals : List Nat) : List Nat :=
  (List.range 63).map (fun i =>
    let p := i + 1
    let pred := if p % 16 = 0 then vals.getD (p - 16) 0 else vals.getD (p - 1) 0
    packZ b (vals.getD p 0) pred)

/-- The bit length of a number. -/
def bitLen (n : Nat) : Nat := if n = 0 then 0 else Nat.log2 n + 1

/-- A number and a number of bits, appended to a bitstream held as (number, length), lowest bit first. -/
def bitPut (a : Nat × Nat) (v n : Nat) : Nat × Nat := (a.1 + (v % 2 ^ n) * 2 ^ a.2, a.2 + n)

/-- The bitstream of a packed block and its length in bits (R190). -/
def packStream (format : Nat) (px : List Nat) : Nat × Nat :=
  (packWidths format).zipIdx.foldl (fun a p =>
    let vals := px.map (fun v => pixChannel format v p.2)
    let zs := packZs p.1 vals
    let k := bitLen (zs.foldl max 0)
    zs.foldl (fun a z => bitPut a z k) (bitPut (bitPut a k 5) (vals.headD 0) p.1)) (0, 0)

/-- The header byte and the data of a block of 64 pixels (R189, R191). -/
def packBlock (format : Nat) (clearEn : Bool) (clear : Nat) (px : List Nat) : Nat × List Byte :=
  let bpp := bppOf format
  let slot := 64 * bpp
  let p0 := px.headD 0
  let same := px.all (· == p0)
  let st := packStream format px
  let u := (st.2 + 255) / 256
  if clearEn && px.all (· == clear % 2 ^ (8 * bpp)) then (0xC0, [])
  else if same then (0x80, leBytes 32 p0)
  else if u < slot / 32 then (0x40 + (u - 1), leBytes (u * 32) st.1)
  else (0, px.flatMap (leBytes bpp))

/-- One channel of a packed block read back: its 64 values and the bits left. -/
def unpackChannel (b : Nat) (bits : Nat) : List Nat × Nat :=
  let k := bits % 32
  let bits := bits / 32
  let v0 := bits % 2 ^ b
  let bits := bits / 2 ^ b
  let r := (List.range 63).foldl (fun (a : List Nat × Nat) i =>
    let p := i + 1
    let pred := if p % 16 = 0 then a.1.getD (p - 16) 0 else a.1.getD (p - 1) 0
    (a.1 ++ [unpackZ b (a.2 % 2 ^ k) pred], a.2 / 2 ^ k)) ([v0], bits)
  r

/-- The 64 pixels of a block, by its header byte and the bytes of its slot; none for a malformed block (R192). -/
def unpackBlock (format clear hdr : Nat) (data : List Byte) : Option (List Nat) :=
  let bpp := bppOf format
  let mode := nbits hdr 7 6
  let units := nbits hdr 4 0
  if nbits hdr 5 5 = 1 ∨ (mode = 1 ∧ 64 * bpp / 32 < units + 1) then none
  else if mode = 3 then some (List.replicate 64 (clear % 2 ^ (8 * bpp)))
  else if mode = 2 then some (List.replicate 64 (ofLe (data.take bpp)))
  else if mode = 0 then some ((List.range 64).map (fun i => ofLe ((data.drop (i * bpp)).take bpp)))
  else
    let r := (packWidths format).foldl (fun (a : List (List Nat) × Nat) b =>
      let c := unpackChannel b a.2
      (a.1 ++ [c.1], c.2)) ([], ofLe (data.take ((units + 1) * 32)))
    some ((List.range 64).map (fun i => pixJoin format (r.1.map (fun l => l.getD i 0))))

/-- Blocks across a surface (R188). -/
def blocksAcross (w : Nat) : Nat := (w + 15) / 16

/-- The stride of the header bytes of a block row (R188). -/
def hdrStride (w : Nat) : Nat := (blocksAcross w + 63) / 64 * 64

/-- Write a block row of a packed surface: four lines of (pixel, poison) that start at frame column `x0` of a surface `w`
wide (R188, R191). -/
def State.packRow (s : State) (win format : Nat) (clearEn : Bool) (clear dataAddr hdrAddr w by_ x0 : Nat)
    (rows : List (List (Nat × Bool))) : State :=
  let cols := (rows.map List.length).foldl max 0
  let slot := 64 * bppOf format
  (List.range (blocksAcross cols)).foldl (fun s j =>
    let bx := x0 / 16 + j
    let px := (List.range 64).map (fun i =>
      let r := rows.getD (min (i / 16) (rows.length - 1)) []
      r.getD (min (16 * j + i % 16) (r.length - 1)) (0, false))
    let (hdr, data) := packBlock format clearEn clear (px.map (·.1))
    let a := dataAddr + (by_ * blocksAcross w + bx) * slot
    let s := s.unitStore win a data
    let s := if px.any (·.2) then s.poisonRange a data.length else s
    s.unitStore win (hdrAddr + by_ * hdrStride w + bx) [BitVec.ofNat 8 hdr]) s

end Sys2Proof.Machine
end

