-- ==== Sys2Proof/Machine/Mem.lean ====
section
/-!
DEFINITION. The memory subsystem: requests, scrubbing, training, replay, failed pseudo-channels, queue 19
(spec/11_memory.md).
-/
namespace Sys2Proof.Machine

def State.mapMem (s : State) (f : MemSt → MemSt) : State := { s with memx := f s.memx }

/-- A stack's state: 0 off, 1 training, 2 ready, 3 self-refresh, 4 failed. -/
def State.stackState (s : State) (x : Nat) : Nat := s.fld (Reg.memStatus x) 31 28
def State.setStackState (s : State) (x v : Nat) : State := s.setFld (Reg.memStatus x) 31 28 v

/-- The stacks that the variant has (R2). -/
def stackList (v : Variant) : List Nat := if v.small then [0] else [0, 1]

/-- The bursts of one pseudo-channel: 768 MiB of 32 bytes. -/
def pcBursts : Nat := 0x180_0000

/-- The address of burst `i` of pseudo-channel `p`. -/
def State.burstAddr (s : State) (p i : Nat) : Nat := addrOf (pcBits s.variant) s.gbits p (32 * i)

/-- Does the memory at `a` answer now: its stack ready, Comb initialised (R413, R414, R423)? A memory that is gone answers zero
(R422). -/
def State.memThere (s : State) (a : Nat) : Bool :=
  s.memGone a ||
  (match regionOf s.variant a with
    | .dram => let st := s.stackState (s.pcOf a / 32); st == 2 || st == 4
    | .comb => !s.memx.combInit
    | _ => true)

/-- Does every unit of a range answer now? -/
def State.rangeThere (s : State) (a len : Nat) : Bool := (wordsOf a len).all (fun w => s.memThere (w * 16))

/-! Failed pseudo-channels (R421). -/

/-- Mark pseudo-channel `p` failed: event 229 and one report, code UNCORRECTABLE with the address of its first burst
(DESIGN CHOICE, log entry 24). -/
def State.failPc (s : State) (p : Nat) : State :=
  if s.pcFailed p then s else
  let s := s.setFld (Reg.memPcFailed (p / 32)) (p % 32) (p % 32) 1
  let s := s.fire 229
  let s := s.report (0x58 + p / 32) (p % 32) 0x02 (s.burstAddr p 0)
  if s.reg (Reg.memPcFailed (p / 32)) == 0xFFFFFFFF then s.setStackState (p / 32) 4 else s

/-! Refresh (R412). -/

/-- The banks of a pseudo-channel: three stack levels of four groups of four (R404). -/
def banks : Nat := 48

/-- The bank of a burst in its pseudo-channel. -/
def Burst.bank (b : Burst) : Nat := (b.sid * 4 + b.bg) * 4 + b.ba

/-- A bank that owes eight refreshes is refreshed before any other command to it; once its requests are carried out nothing is
queued for it, and what it owes is issued (R412). -/
def State.refreshFirst (s : State) (a : Nat) : State :=
  let b := burstOf (pcBits s.variant) s.gbits a
  let k := b.pc * banks + b.bank
  if 0 < sget 0 s.memx.owed k then s.mapMem (fun m => { m with owed := sset 0 m.owed k 0 }) else s

/-- A request that reaches a pseudo-channel's controller (R406, R407, R413, R421, R422): carried out whole; one to a stack in
training or in self-refresh, or off, waits; one that is gone reads zero, ignores the write and reports the access. -/
def State.dramRequest (s : State) (r : MemReq) (bs : List Byte) : State :=
  let a := r.addr
  let p := s.pcOf a
  if s.memGone a then
    let s := s.accessFault r.master r.write a
    if r.write then s else s.emit (.memData r.master (bs.map (fun _ => 0)) false)
  else if s.stackState (p / 32) ≠ 2 ∧ s.stackState (p / 32) ≠ 4 then s
  else
  let s := s.refreshFirst a
  if s.pcFailed p then
    let s := s.countFailed p
    if r.write then s else s.emit (.memData r.master (s.bytes a bs.length) true)
  else if r.write then
    if bs.length = 32 then s.store a bs
    else (s.burstRead a r.err r.retryErr).1.store a bs
  else
    let s := (s.burstRead a r.err r.retryErr).1
    s.emit (.memData r.master (s.bytes a bs.length) (s.poisonedAt a bs.length))

/-- AGE_CAP_EXPIRY (R408, R409). -/
def doAgeCapExpiry (x pc : Nat) (s : State) : State :=
  if (stackList s.variant).contains x && !s.pcFailed (32 * x + pc) then s.bump (Reg.memAged x) 31 0 1 else s

/-- REFRESH_DUE (R412): the refresh of the pseudo-channel's next bank in rotation falls due. With requests waiting for the bank it
is postponed, but a bank that owes eight is refreshed first; with none waiting, what the bank owes is issued, and `ahead` more are
pulled in while no more than eight lie ahead of time. -/
def doRefreshDue (x pc : Nat) (waiting : Bool) (ahead : Nat) (s : State) : State :=
  if s.stackState x ≠ 2 ∨ s.pcFailed (32 * x + pc) then s else
  let p := 32 * x + pc
  let b := sget 0 s.memx.rotation p
  let k := p * banks + b
  let owed := min 8 (sget 0 s.memx.owed k) + 1
  let owed := if waiting then min 8 owed else max (-8) (min 0 owed - ahead)
  s.mapMem (fun m => { m with rotation := sset 0 m.rotation p ((b + 1) % banks), owed := sset 0 m.owed k owed })

/-- STACK_TEMPERATURE_READ (R411). -/
def doStackTemperatureRead (x t : Nat) (s : State) : State :=
  if !(stackList s.variant).contains x then s else
  let s := s.setFld (Reg.memStatus x) 23 16 t
  let hot := s.fld (Reg.memStatus x) 27 27
  if hot = 0 ∧ 85 ≤ signed 8 t then (s.setFld (Reg.memStatus x) 27 27 1).fire 233
  else if hot = 1 ∧ signed 8 t < 82 then (s.setFld (Reg.memStatus x) 27 27 0).fire 233
  else s

/-! Training, retraining and replay (R413 to R417). -/

/-- Steps 3 to 7 of R413 on one pseudo-channel end. -/
def State.retrainPc (s : State) (p : Nat) (passed repaired : Bool) : State :=
  if !passed then s.failPc p
  else if repaired then s.setFld (Reg.memRepaired (p / 32)) (p % 32) (p % 32) 1
  else s

/-- MEM_TRAINING_DONE (R413, R405): the stacks in training become ready, DRAM reads zero, grain locks. A pseudo-channel that was
marked failed before a RESET_N stays so (R421; DEDUCED, log entry 24). -/
def doMemTrainingDone (failed0 failed1 repaired0 repaired1 : Nat) (s : State) : State :=
  let due := (stackList s.variant).filter (fun x => s.stackState x == 1)
  if due.isEmpty then s else
  let s := s.setFld Reg.memMap 31 31 1
  due.foldl (fun s x =>
    let failed := if x = 0 then failed0 else failed1
    let s := (s.setReg (Reg.memRepaired x) (BitVec.ofNat 32 (if x = 0 then repaired0 else repaired1))).setStackState x 2
    let s := (List.range 32).foldl (fun s p => if failed.testBit p then s.failPc (32 * x + p) else s) s
    s.fire 228) s

/-- Does the temperature of stack `x` lie within 10 °C of that at its entry to self-refresh (R414)? -/
def State.nearEntry (s : State) (x : Nat) : Bool :=
  decide (((signed 8 (s.fld (Reg.memStatus x) 23 16) - signed 8 (sget 0 s.memx.entryTemp x)).natAbs) ≤ 10)

/-- SELF_REFRESH_EXIT_DONE (R414): the stored results are used while the temperature has stayed near; otherwise the stack has been
trained again, and `failed` and `repaired` are what steps 1 to 7 found. -/
def doSelfRefreshExitDone (x failed repaired : Nat) (s : State) : State :=
  if s.stackState x = 3 ∧ s.isPowered (21 + x) then
    let s := s.setStackState x 2
    let s := if s.nearEntry x then s else
      (List.range 32).foldl (fun s l => s.retrainPc (32 * x + l) (!failed.testBit l) (repaired.testBit l)) s
    s.fire 228
  else s

/-- A stack enters self-refresh (R414); every bank that is owed a refresh has received it. -/
def State.enterSelfRefresh (s : State) (x : Nat) : State :=
  if s.stackState x = 2 ∨ s.stackState x = 4 then
    (s.setStackState x 3).mapMem (fun m =>
      { m with
        entryTemp := sset 0 m.entryTemp x (s.fld (Reg.memStatus x) 23 16)
        owed := m.owed.filter (fun p => p.1 / banks / 32 != x) })
  else s

/-- PERIODIC_RETRAIN (R415): a re-centre, and steps 3 to 7 when it fails. -/
def doPeriodicRetrain (x pc : Nat) (ok retrained repaired : Bool) (s : State) : State :=
  if s.stackState x ≠ 2 ∨ s.pcFailed (32 * x + pc) ∨ ok then s else s.retrainPc (32 * x + pc) retrained repaired

/-- One replay (R417, step 5). -/
def State.replay (s : State) (x : Nat) : State := (s.bump (Reg.memReplay x) 31 16 1).fire 230

/-- PARITY_ALERT (R417): `again` says that the alert is on the command of the replay before it. The third replay in a row is
followed by the retraining of R415, whose steps 3 to 7 end as `trained` and `repaired` say, and by one more replay; a retraining that
fails, or an alert on that last replay, marks the pseudo-channel failed. -/
def doParityAlert (x pc : Nat) (again trained repaired : Bool) (s : State) : State :=
  let p := 32 * x + pc
  if s.stackState x ≠ 2 ∨ s.pcFailed p then s else
  let run := if again then sget 0 s.memx.alerts p else 0
  let put (s : State) (k : Nat) : State := s.mapMem (fun m => { m with alerts := sset 0 m.alerts p k })
  if run = 3 then (put s 0).failPc p
  else
    let s := put (s.replay x) (run + 1)
    if run + 1 = 3 then
      let s := (s.bump (Reg.memReplay x) 15 0 1).retrainPc p trained repaired
      if trained then s.replay x else put s 0
    else s

/-! Patrol scrub (R420, R423). -/

/-- PATROL_SCRUB (R420): the next burst of the stack's patrol, by place; the pass ends when every stack has been read. -/
def doPatrolScrub (x : Nat) (err retryErr : BurstErr) (s : State) : State :=
  let at_ := sget 0 s.memx.patrol x
  let size := 32 * pcBursts
  if s.fld Reg.memScrub 31 31 = 0 ∨ s.stackState x ≠ 2 ∨ s.fld (Reg.memStatus x) 27 27 = 1 ∨ size ≤ at_ then s else
  let p := 32 * x + at_ % 32
  let s := if s.pcFailed p then s else (s.burstRead (s.burstAddr p (at_ / 32)) err retryErr).1
  let s := s.mapMem (fun m => { m with patrol := sset 0 m.patrol x (at_ + 1) })
  if (stackList s.variant).all (fun y => decide (size ≤ sget 0 s.memx.patrol y)) then
    ((s.mapMem (fun m => { m with patrol := [] })).count Reg.memScrubPasses 1).fire 234
  else s

/-- COMB_SCRUB (R423): Comb's next word. -/
def doCombScrub (err : WordErr) (s : State) : State :=
  if s.fld Reg.combScrub 31 31 = 0 ∨ !s.isPowered 23 ∨ s.memx.combInit then s else
  let s := (s.combRead (combBase + 16 * s.memx.combPatrol) err).1
  s.mapMem (fun m => { m with combPatrol := (m.combPatrol + 1) % 0x40_0000 })

/-- COMB_INIT_DONE (R423). -/
def doCombInitDone (s : State) : State := if s.isPowered 23 then s.mapMem (fun m => { m with combInit := false }) else s

/-- MEM_MAP_WRITE (R405). -/
def doMemMapWrite (m : Master) (v : Word) (s : State) : State :=
  s.gateWrite m Reg.memMap (fun s =>
    if s.fld Reg.memMap 31 31 = 1 then s.accessFault m true (regsBase + Reg.memMap) else s.maskedWrite Reg.memMap v)

/-! Queue 19 (R424, R425). -/

def stPcFailed : Nat := 0x11
def stStackOff : Nat := 0x12

/-- The burst addresses of a range. -/
def burstsOf (a len : Nat) : List Nat := (List.range (len / 32)).map (fun i => a + 32 * i)

/-- The fields of MEM_FILL and MEM_SCRUB: is the range one that the descriptor may name? -/
def memRangeOk (v : Variant) (t : Taken) : Bool :=
  t.zeros [(0, 87, 0), (1, 39, 0)] && t.fld 1 127 80 % 32 == 0 && decide (0 < t.fld 1 79 40) && t.fld 1 79 40 % 32 == 0 &&
  inDramComb v (t.fld 1 127 80) (t.fld 1 79 40)

/-- Is the memory of a range ready: its stacks, or Comb? -/
def State.rangeReady (s : State) (a len : Nat) : Bool :=
  if a < combBase then (burstsOf a len).all (fun b => [2, 4].contains (s.stackState (s.pcOf b / 32)))
  else s.isPowered 23 && !s.memx.combInit

/-- Write a pattern over the bursts of a range that lie on no failed pseudo-channel; with how many were written (R421, R425). -/
def State.fillBursts (s : State) (a len : Nat) (p : List Byte) : State × Nat :=
  (burstsOf a len).foldl (fun (r : State × Nat) b =>
    if r.1.onFailed b then (r.1.countFailed (r.1.pcOf b), r.2) else (r.1.unitStore 0x58 b (p ++ p), r.2 + 1)) (s, 0)

/-- MEM_FILL (R425). -/
def doMemFill (s : State) : State :=
  s.takeAs 19 0x10 [2] (fun t s =>
    let a := t.fld 1 127 80
    let len := t.fld 1 79 40
    if !memRangeOk s.variant t then s.complete 19 t.tag 0x10 0
    else if !s.rangeReady a len then s.complete 19 t.tag stStackOff 0
    else
      let r := s.fillBursts a len (leBytes 16 (t.word 2).toNat)
      r.1.complete 19 t.tag (if r.2 = len / 32 then stSuccess else stPcFailed) (BitVec.ofNat 64 r.2))

/-- Read the bursts of a range; with the words corrected, those uncorrectable, and whether a pseudo-channel had failed
(R420, R421, R425). -/
def State.scrubBursts (s : State) (errs : List (Nat × BurstErr × BurstErr)) (a len : Nat) : State × Nat × Nat × Bool :=
  (burstsOf a len).foldl (fun (r : State × Nat × Nat × Bool) b =>
    let clean : BurstErr := ⟨.none, .none, false⟩
    let e := match errs.find? (fun e => e.1 == b) with | some e => e.2 | none => (clean, clean)
    if r.1.onFailed b then (r.1.countFailed (r.1.pcOf b), r.2.1, r.2.2.1, true)
    else if b < combBase then
      let x := r.1.burstRead b e.1 e.2
      (x.1, r.2.1 + x.2.1, r.2.2.1 + x.2.2, r.2.2.2)
    else
      let x := r.1.combRead b e.1.lower
      let y := x.1.combRead (b + 16) e.1.upper
      (y.1, r.2.1 + x.2.1 + y.2.1, r.2.2.1 + x.2.2 + y.2.2, r.2.2.2)) (s, 0, 0, false)

/-- MEM_SCRUB (R425): `errs` lists what the reads find, by burst address. -/
def doMemScrub (errs : List (Nat × BurstErr × BurstErr)) (s : State) : State :=
  s.takeAs 19 0x11 [1] (fun t s =>
    let a := t.fld 1 127 80
    let len := t.fld 1 79 40
    if !memRangeOk s.variant t then s.complete 19 t.tag 0x10 0
    else if !s.rangeReady a len then s.complete 19 t.tag stStackOff 0
    else
      let r := s.scrubBursts errs a len
      r.1.complete 19 t.tag (if r.2.2.2 then stPcFailed else stSuccess) (BitVec.ofNat 64 (r.2.1 * 2 ^ 32 + r.2.2.1)))

/-- The bytes of pseudo-channel `p` read zero and are not poisoned (R413, step 8). -/
def State.zeroPc (s : State) (p : Nat) : State :=
  let mine := fun (a : Nat) => decide (a < dramTop s.variant) && s.pcOf a == p
  { s with
    mem := s.mem.filter (fun c => !mine c.1)
    poison := s.poison.filter (fun c => !mine (c.1 * 16))
    flaws := s.flaws.filter (fun c => !mine (c.1 * 16)) }

/-- The pseudo-channels of stack `x` in `mask` are trained again (R413, R424): one that had failed and passes comes back zeroed,
with the report of that. -/
def State.retrainStack (s : State) (x mask passed repaired : Nat) : State :=
  (List.range 32).foldl (fun s l =>
    let p := 32 * x + l
    if !mask.testBit l then s
    else if !passed.testBit l then s.failPc p
    else
      let was := s.pcFailed p
      let s := s.retrainPc p true (repaired.testBit l)
      if was then
        let s := (s.zeroPc p).setFld (Reg.memPcFailed x) l l 0
        (s.setStackState x 2).report (0x58 + x) l 0x02 (s.burstAddr p 0)
      else s) s

/-- MEM_RETRAIN (R413, R424, R425): `passed` and `repaired` are the outcomes by local_pc. -/
def doMemRetrain (passed repaired : Nat) (s : State) : State :=
  s.takeAs 19 0x12 [0] (fun t s =>
    let x := t.fld 0 87 87
    let mask := t.fld 0 86 55
    if t.fld 0 54 0 ≠ 0 ∨ !(stackList s.variant).contains x then s.complete 19 t.tag 0x10 0
    else if s.stackState x ≠ 2 ∧ s.stackState x ≠ 4 then s.complete 19 t.tag stStackOff 0
    else
      let s := s.retrainStack x mask passed repaired
      let good := mask &&& passed
      s.complete 19 t.tag (if good = mask then stSuccess else stPcFailed) (BitVec.ofNat 64 good))

end Sys2Proof.Machine
end

