-- ==== Sys2Proof/Machine/Rfe.lean ====
section
/-!
DEFINITION. Raw front ends: the eight stages, statistics, raw output, frames and slots, tables
(spec/04_raw_front_end.md R135 to R168).
-/
namespace Sys2Proof.Machine

def rfeBadParams : Nat := 0x11
def rfeNotReady : Nat := 0x12
def rfeInputDropped : Nat := 0x10

def State.rfeSlot (s : State) (x sl : Nat) : RfeSlot := sget RfeSlot.empty s.rfes (2 * x + sl)

def State.setRfeSlot (s : State) (x sl : Nat) (r : RfeSlot) : State :=
  { s with rfes := sset RfeSlot.empty s.rfes (2 * x + sl) r }

def State.mapRfeSlot (s : State) (x sl : Nat) (f : RfeSlot → RfeSlot) : State := s.setRfeSlot x sl (f (s.rfeSlot x sl))

def State.clrSlot (s : State) (x sl : Nat) : ClrSlot := sget ClrSlot.empty s.clrs (2 * x + sl)

def State.setClrSlot (s : State) (x sl : Nat) (c : ClrSlot) : State :=
  { s with clrs := sset ClrSlot.empty s.clrs (2 * x + sl) c }

/-- What front end `x` has sent its colour engine and the engine has not taken, by slot, oldest first. -/
def State.clrQueue (s : State) (x : Nat) : List (Nat × ClrItem) := sget [] s.clrIn x

def State.setClrQueue (s : State) (x : Nat) (l : List (Nat × ClrItem)) : State := { s with clrIn := sset [] s.clrIn x l }

/-! Stages (R135 to R146). -/

/-- The CFA phase of column `x`, line `y` (R138). -/
def cfaPhase (cfa x y : Nat) : Nat :=
  if cfa = 0 then 2 * (y % 2) + x % 2 else if cfa = 1 then 2 * (y / 2 % 2) + x / 2 % 2 else 0

/-- Linearisation over a table block `l` of 4,096 entries (R139). -/
def linearise (l : Nat → Nat) (x16 : Nat) : Int :=
  let i := x16 / 16
  let f := x16 % 16
  if i < 4095 then clampS ((l i : Int) + ashr (((l (i + 1) : Int) - l i) * f + 8) 4) else clampS (l 4095)

/-- The blend of R141. -/
def blend (a b v lo hi : Int) : Int :=
  if v ≤ lo then a
  else if hi ≤ v then b
  else
    let w := ((hi - v) * 256) / (hi - lo)
    ashr (a * w + b * (256 - w) + 128) 8

/-- The exposure merge and its saturation mark (R141, R142) of black-subtracted values; only the stage's result is clamped (R136). -/
def mergeExposures (c : RfeCmd) (exposures : Nat) (vs : List Int) : Int × Bool :=
  let v (k : Nat) : Int := vs.getD k 0
  let sc (k : Nat) (u : Int) : Int := ashr (u * (c.ratios.getD k 65536 : Nat) + 32768) 16
  let lo (k : Nat) : Int := (c.los.getD k 0 : Nat)
  let hi (k : Nat) : Int := (c.his.getD k 0 : Nat)
  let m := if exposures = 1 then sc 0 (v 0)
    else if exposures = 2 then blend (sc 0 (v 0)) (sc 1 (v 1)) (v 0) (lo 0) (hi 0)
    else blend (blend (sc 0 (v 0)) (sc 1 (v 1)) (v 0) (lo 0) (hi 0)) (sc 2 (v 2)) (v 1) (lo 1) (hi 1)
  if (c.satS : Int) ≤ v (exposures - 1) then (clampS (sc (exposures - 1) c.satS), true) else (clampS m, false)

/-- The grid point left of and above a sample, and how far the sample lies beyond it, each way in 256ths (R143). -/
def shadeCell (w h x y : Nat) : (Nat × Nat) × (Nat × Nat) :=
  let u := x * 32768 / w
  let t := y * 16384 / h
  ((u / 256, t / 256), (u % 256, t % 256))

/-- The shading gain at column `x`, line `y` of a `w` × `h` frame over a grid `g` (R143). -/
def shadeGain (g : Nat → Nat → Nat) (w h x y : Nat) : Nat :=
  let ((i, j), (fu, fv)) := shadeCell w h x y
  let gt := g i j * (256 - fu) + g (i + 1) j * fu
  let gb := g i (j + 1) * (256 - fu) + g (i + 1) (j + 1) * fu
  (gt * (256 - fv) + gb * fv + 32768) / 65536

/-- The bank of table `t` that an open frame of slot `sl` uses. -/
def RfeOpen.bank (f : RfeOpen) (sl t : Nat) : Nat := nbits f.banks (4 * sl + t) (4 * sl + t)

/-- A received sample at full scale (R137). -/
def RfeOpen.full (f : RfeOpen) (v : Nat) : Nat := (v % 2 ^ f.width) * 2 ^ (16 - f.width)

/-- The table words that are read for the sample at a column and line: table and word (R139, R143, R160). -/
def RfeOpen.reads (f : RfeOpen) (sl col y : Nat) (xs : List (Nat × Bool)) : List (Nat × Nat) :=
  let p := cfaPhase f.cmd.cfa col y
  let lin := if f.cmd.linEn then
      xs.zipIdx.flatMap (fun e =>
        let i := f.full e.1.1 / 16
        [i, min 4095 (i + 1)].map (fun i => (4 * sl, (4096 * (4 * e.2 + p) + i) / 4)))
    else []
  let shade := if f.cmd.shadeEn then
      let (i, j) := (shadeCell f.w f.h col y).1
      [(i, j), (i + 1, j), (i, j + 1), (i + 1, j + 1)].map (fun g => (4 * sl + 1, 1056 * p + (129 * g.2 + g.1) / 8))
    else []
  (lin ++ shade).eraseDups

/-- Stages 1 to 5 of a sample with its received values, one for each exposure, and their poison marks (R137 to R143, R157). -/
def State.rfeSample (s : State) (x sl : Nat) (f : RfeOpen) (col y : Nat) (xs : List (Nat × Bool)) : Smp :=
  let win := 0x24 + x
  let c := f.cmd
  let p := cfaPhase c.cfa col y
  let vs := xs.zipIdx.map (fun e =>
    let x16 := f.full e.1.1
    let l (n : Nat) : Nat := s.tblItem win (4 * sl) (f.bank sl 0) 4 32 (4096 * (4 * e.2 + p) + n) % 2 ^ 24
    let y := if c.linEn then linearise l x16 else (x16 : Int)
    clampS (y - (c.black.getD (4 * e.2 + p) 0 : Nat)))
  let (m, sat) := mergeExposures c f.exposures vs
  let g (i j : Nat) : Nat :=
    let q := 129 * j + i
    nbits (s.tbl win (4 * sl + 1) (f.bank sl 1) (1056 * p + q / 8)).toNat (16 * (q % 8) + 15) (16 * (q % 8))
  let m := if c.shadeEn then clampS (ashr (m * (shadeGain g f.w f.h col y : Nat) + 2048) 12) else m
  let bad := xs.any (·.2) || (f.reads sl col y xs).any (fun r => s.badWord (tblWord win r.1 (f.bank sl (r.1 % 4)) r.2))
  if bad then ⟨0, false, true, 0⟩ else ⟨m, sat, false, if c.histSrc = 0 then 0 else vs.getD (c.histSrc - 1) 0⟩

/-- The sample at column `x`, line `y` of an open frame's window. -/
def RfeOpen.at (f : RfeOpen) (x y : Nat) : Option Smp :=
  match f.win.find? (fun r => r.1 == y) with
  | some r => if x < f.first then none else r.2[x - f.first]?
  | none => none

/-- Is a sample listed in the static table, and with which method (R145)? 3 stands for an entry whose word was uncorrectable. -/
def RfeOpen.listed (f : RfeOpen) (x y : Nat) : Option Nat :=
  (f.statics.find? (fun e => e.1 == x && e.2.1 == y)).map (·.2.2)

/-- The available neighbours of a sample: left, right, above, below (R144). -/
def RfeOpen.neighbours (f : RfeOpen) (x y : Nat) : List (Option Int) :=
  let p := cfaPhase f.cmd.cfa
  let use (a b : Nat) : Option Int := if (f.listed a b).isSome then none else (f.at a b).map (·.v)
  let step := [1, 2, 3, 4]
  [ (step.find? (fun d => d ≤ x && p (x - d) y == p x y)).bind (fun d => use (x - d) y),
    (step.find? (fun d => p (x + d) y == p x y)).bind (fun d => use (x + d) y),
    (step.find? (fun d => d ≤ y && p x (y - d) == p x y)).bind (fun d => use x (y - d)),
    (step.find? (fun d => p x (y + d) == p x y)).bind (fun d => if y + d < f.h then use x (y + d) else none) ]

/-- What the defect stages make of a sample (R145, R146): the sample, and what to count: 0 nothing, 1 replaced, 2 hot,
3 cold. A listed sample is neither a neighbour nor tested, whether the static stage is on or not; one that an uncorrectable table word
lists is poisoned (R157). -/
def RfeOpen.defects (f : RfeOpen) (x y : Nat) (a : Smp) : Smp × Nat :=
  let ns := f.neighbours x y
  let pick (l : List Nat) : List Int := l.filterMap (fun i => (ns.getD i none))
  match f.listed x y with
  | some 3 => (if f.cmd.sdefEn then ⟨0, false, true, 0⟩ else a, 0)
  | some m =>
    if !f.cmd.sdefEn then (a, 0) else
    let vals := pick (if m = 0 then [0, 1, 2, 3] else if m = 1 then [0, 1] else [2, 3])
    let n : Int := vals.length
    if vals.isEmpty then (a, 0)
    else ({ a with v := clampS ((2 * vals.sum + n) / (2 * n)), sat := false }, 1)
  | none =>
    let vals := pick [0, 1, 2, 3]
    if !f.cmd.ddefEn || decide (vals.length < 3) then (a, 0)
    else
      let mn := vals.foldl min (vals.headD 0)
      let mx := vals.foldl max (vals.headD 0)
      let me := vals.sum / (vals.length : Int)
      let t := (f.cmd.dynAbs : Int) + ashr (me * f.cmd.dynRel) 8
      if mx + t < a.v then ({ a with v := mx, sat := false }, 2)
      else if a.v < mn - t then ({ a with v := mn, sat := false }, 3)
      else (a, 0)

/-- How many lines below a line the defect stages look at (R144). -/
def rfeReach (cfa : Nat) : Nat := if cfa = 0 then 2 else if cfa = 1 then 3 else 1

/-! Statistics (R147 to R149). -/

/-- Add a sample to the statistics. -/
def RfeStats.add (t : RfeStats) (f : RfeOpen) (x y : Nat) (a : Smp) : RfeStats :=
  let c := f.cmd
  let p := cfaPhase c.cfa x y
  let value := if c.histSrc = 0 then a.v else a.h
  let bin := min (value.toNat / 2 ^ c.histShift) 1023
  let k := 1024 * p + bin
  let z := 4 * ((y * c.zonesY / f.h) * c.zonesX + x * c.zonesX / f.w) + p
  let (sum, n, sat) := sget (0, 0, 0) t.zones z
  { t with
    hist := sset 0 t.hist k (min (sget 0 t.hist k + 1) (2 ^ 32 - 1))
    zones := sset (0, 0, 0) t.zones z
      (min (sum + a.v.toNat) (2 ^ 56 - 1), min (n + 1) (2 ^ 28 - 1), min (sat + a.sat.toNat) (2 ^ 28 - 1))
    saturated := t.saturated + a.sat.toNat }

/-- The statistics block (R149). -/
def rfeStatsBlock (f : RfeOpen) (slot epoch status : Nat) : List Byte :=
  let c := f.cmd
  let t := f.stats
  let w (l : List (Nat × Nat)) : List Byte := leBytes 16 (l.foldl (fun a p => a + p.1 * 2 ^ p.2) 0)
  let m (n v : Nat) : Nat := min v (2 ^ n - 1)
  w [(f.number, 96), (f.sof, 64), (epoch, 56), (status, 48), (slot, 47), (f.right.toNat, 46), (f.exposures - 1, 44),
    (c.zonesX - 1, 38), (c.zonesY - 1, 33)] ++
  w [(f.w, 112), (f.h, 96), (f.ownFirst, 80), (f.ownCols, 64), (f.taken, 48), (m 32 t.replaced, 0)] ++
  w [(m 32 t.saturated, 96), (m 32 t.hot, 64), (m 32 t.cold, 32), (m 16 t.skipped, 16), (m 16 t.poisoned, 0)] ++
  leBytes 16 0 ++
  (List.range 4096).flatMap (fun k => leBytes 4 (sget 0 t.hist k)) ++
  (List.range (4 * c.zonesX * c.zonesY)).flatMap (fun k =>
    let (sum, n, sat) := sget (0, 0, 0) t.zones k
    w [(sum, 72), (n, 44), (sat, 16), (if n = 0 then 0 else half sum (n * 65536), 0)])

/-! Status registers. -/

/-- Show the state of slot `sl` (RFE_x_STATUS). -/
def State.rfeShow (s : State) (x sl : Nat) : State :=
  let r := s.rfeSlot x sl
  let st := match r.frame with
    | some f => if f.cmd.memory then 3 else 2
    | none => if r.armed.isSome then 1 else 0
  let line := match r.frame with | some f => f.taken % 16384 | none => 0
  (s.setFld (Reg.rfeStatus x) (29 + 2 * sl) (28 + 2 * sl) st).setFld (Reg.rfeStatus x) (13 + 14 * sl) (14 * sl) line

/-- RFE_x_BANK: the active banks, and whether a set is pending. -/
def State.rfePendShow (s : State) (x : Nat) : State :=
  s.setFld (Reg.rfeBank x) 31 31 (!(s.pendOf (7 + x)).isEmpty).toNat

/-- Is a bank of slot `sl`, table `t` in use (R161)? -/
def State.rfeInUse (s : State) (x sl t b : Nat) : Bool :=
  let i := 4 * sl + t
  s.fld (Reg.rfeBank x) i i == b || s.bankPending (7 + x) (Reg.rfeBankShadow x) i b ||
  (match (s.rfeSlot x sl).frame with | some f => nbits f.banks i i == b | none => false)

/-- The words of a table (R160). -/
def rfeTblSize (t : Nat) : Nat := if t = 0 then 12288 else if t = 1 then 4224 else if t = 2 then 8192 else 0

/-! Frames and slots (R152 to R158). -/

/-- The setup of the port that a slot takes from; none for a gang partner and a slot that the split line excludes (R153, R158). -/
def State.rfeSetup (s : State) (x sl : Nat) : Option PortSetup :=
  if s.splitOn then (if sl = 0 then (s.port 0).setup else none)
  else if s.gangPartner (2 * x + sl) then none
  else (s.port (2 * x + sl)).setup

/-- The port and the half of its line buffer that a slot takes from: what an earlier setup left there is taken first (R122). -/
def State.rfeSource (s : State) (x sl : Nat) : Option (Nat × Nat) :=
  let n := 2 * x + sl
  let left (n b : Nat) : Bool := !(sget [] (s.port n).bufs b).isEmpty
  if n = 2 ∧ (if s.splitOn then !left 2 0 else left 0 1) then some (0, 1)
  else if left n 0 then some (n, 0)
  else if (s.splitOn && n != 0) || s.gangPartner n then none
  else some (n, 0)

/-- The oldest item in the buffer of a slot's port. -/
def State.rfeHead (s : State) (x sl : Nat) : Option BufItem :=
  match s.rfeSource x sl with
  | some (n, h) => (sget [] (s.port n).bufs h).head?
  | none => none

/-- Take the oldest item of the slot's port, which makes room there. -/
def State.rfePop (s : State) (x sl : Nat) : State :=
  match s.rfeSource x sl with
  | some (n, h) => (s.mapPort n (fun p => { p with bufs := sset [] p.bufs h ((sget [] p.bufs h).drop 1) })).portRoom n
  | none => s

/-- Does front end `x` run: powered, not fenced, not stalled (R12)? -/
def State.rfeRuns (s : State) (x : Nat) : Bool := s.isPowered (6 + x) && !s.isFenced (6 + x) && !s.unitStalled (0x24 + x)

/-- `n` samples of 16 bits from address `a`, with the poison of their words. -/
def State.samplesAt (s : State) (a n : Nat) : List (Nat × Bool) :=
  (List.range n).map (fun i => (s.num (a + 2 * i) 2, s.poisonedAt (a + 2 * i) 2))

/-- Does the colour engine take what slot `sl` sends? While its slot waits on a ring or its domain is off, at most what it
has been sent already stands before it. -/
def State.clrAccepts (s : State) (x sl : Nat) : Bool :=
  s.isPowered (8 + x) && !s.isFenced (8 + x) &&
  !((match (s.clrSlot x sl).frame with | some f => f.waiting | none => false) &&
    (s.clrQueue x).any (fun p => p.1 == sl))

/-- Send an item to the colour engine. -/
def State.clrSend (s : State) (x sl : Nat) (it : ClrItem) : State := s.setClrQueue x (s.clrQueue x ++ [(sl, it)])

/-- The static entries that apply to a frame, and the number skipped (R145): `last` is the last key taken; an entry whose word is
uncorrectable keeps its place with method 3. -/
def staticScan (entry : Nat → Nat) (bad : Nat → Bool) (w h first cols : Nat) :
    Nat → Nat → Option Nat → List (Nat × Nat × Nat) × Nat
  | 0, _, _ => ([], 0)
  | n + 1, i, last =>
    let e := entry i
    let y := nbits e 27 14
    let x := nbits e 13 0
    let key := y * 16384 + x
    let skip := nbits e 29 28 != 0 || (match last with | some l => decide (key ≤ l) | none => false)
    if skip then
      let r := staticScan entry bad w h first cols n (i + 1) last
      (r.1, r.2 + 1)
    else
      let r := staticScan entry bad w h first cols n (i + 1) (some key)
      if w ≤ x ∨ h ≤ y ∨ x < first ∨ first + cols ≤ x then r
      else if bad i then ((x, y, 3) :: r.1, r.2)
      else if nbits e 31 30 = 3 then r
      else ((x, y, nbits e 31 30) :: r.1, r.2)

/-- A frame opens on a slot (R153, R154): the frame counter steps, a pending bank set becomes active (R161), the frame
takes its banks and static defects, and its start goes to the colour engine. -/
def State.rfeOpen (s : State) (x sl : Nat) (c : RfeCmd) (w h exposures width number sof : Nat) (split : Bool) : State :=
  let s := s.count (Reg.rfeFrames x) 1
  let s := match (s.pendOf (7 + x)).find? (fun p => decide (p.frame ≤ (s.reg (Reg.rfeFrames x)).toNat)) with
    | some p =>
      let v := (p.val (Reg.rfeBankShadow x)).getD 0
      let s := s.setPend (7 + x) ((s.pendOf (7 + x)).erase p)
      (((s.setFld (Reg.rfeBank x) 6 0 (v.toNat % 128)).setFld (Reg.rfeBank x) 3 3 0).rfePendShow x).fire 107
    | none => s
  let first := if split && x == 1 then w / 2 - 16 else 0
  let cols := if split then w / 2 + 16 else w
  let banks := s.fld (Reg.rfeBank x) 6 0
  let b2 := nbits banks (4 * sl + 2) (4 * sl + 2)
  let entry (i : Nat) : Nat := s.tblItem (0x24 + x) (4 * sl + 2) b2 4 32 i
  let sc := staticScan entry (s.tblBad (0x24 + x) (4 * sl + 2) b2 4) w h first cols c.staticCount 0 none
  let s := (List.range ((c.staticCount + 3) / 4)).foldl (fun s i => s.meetTbl (0x24 + x) (4 * sl + 2) b2 i) s
  let f : RfeOpen :=
    { cmd := c, w := w, h := h, exposures := exposures, width := width, first := first, cols := cols,
      ownFirst := if split && x == 1 then w / 2 else 0, ownCols := if split then w / 2 else w, right := split && x == 1,
      number := if c.memory then (s.reg (Reg.rfeFrames x)).toNat else number, sof := sof, banks := banks,
      statics := sc.1, taken := 0, sent := 0, win := [], stats := { RfeStats.zero with skipped := sc.2 }, bad := false }
  let s := s.mapRfeSlot x sl (fun r => { r with armed := none, frame := some f, feed := [], fetched := 0 })
  let s := if c.toClr then s.clrSend x sl (.start w h first f.ownFirst f.ownCols split f.number) else s
  s.rfeShow x sl

/-- The command that an RFE_FRAME asks for, or the status of the first check it fails (R152, R163). -/
def State.rfeParse (s : State) (x : Nat) (t : Taken) : Except Nat RfeCmd :=
  let sl := t.fld 0 87 87
  let memory := t.fld 0 86 86 == 1
  if w0Len (t.word 0) ≠ (if memory then 3 else 2) then .error stBadLength else
  let setup := s.rfeSetup x sl
  if !memory && setup.isNone then .error rfeNotReady else
  let e := if memory then t.fld 3 23 22 + 1 else (setup.map (·.exposures)).getD 1
  let w := if memory then t.fld 3 55 40 else (setup.map (·.w)).getD 1
  let h := if memory then t.fld 3 39 24 else (setup.map (·.h)).getD 1
  let width := if memory then 10 + 2 * t.fld 3 21 20 else (setup.map (·.width)).getD 16
  let fpb := t.fld 1 127 80
  let stats := t.fld 1 79 32
  let raw := t.fld 2 127 80
  let rawStride := t.fld 2 79 56
  let srcA := t.fld 3 127 80
  let srcStride := t.fld 3 79 56
  let rawEn := t.fld 0 80 80 == 1
  let statsEn := t.fld 0 74 74 == 1
  let zx := t.fld 0 67 62 + 1
  let zy := t.fld 0 61 57 + 1
  let rawTap := t.fld 0 79 79 == 1
  let badFields := t.fld 0 85 84 == 3 || decide (e < t.fld 0 73 72) || decide (14 < t.fld 0 71 68) ||
    fpb % 64 != 0 || (statsEn && stats % 64 != 0) ||
    (rawEn && (raw % 64 != 0 || decide (rawStride * 64 < 2 * w) || decide (8 < t.fld 0 78 75))) ||
    !t.zeros [(0, 52, 0), (1, 31, 0), (2, 55, 0)] ||
    (memory && (srcA % 64 != 0 || decide (srcStride * 64 < 2 * w) || decide (w < 16) || decide (16384 < w) ||
      w % 8 != 0 || h == 0 || decide (16384 < h) || t.fld 3 23 22 == 3 || t.fld 3 19 0 != 0))
  if badFields then .error rfeBadParams else
  let rawLines := if rawTap then h else h * e
  if !inMemory s.variant fpb 96 || (statsEn && !inMemory s.variant stats (0x4040 + 64 * zx * zy)) ||
      (rawEn && !inMemory s.variant raw ((rawLines - 1) * rawStride * 64 + 2 * w)) ||
      (memory && !inMemory s.variant srcA ((h * e - 1) * srcStride * 64 + 2 * w)) then .error stBadAddress else
  if s.poisonedAt fpb 96 then .error stPoisoned else
  let p (i hi lo : Nat) : Nat := qbits (s.quadAt (fpb + 16 * i)) hi lo
  let r1 := p 3 119 96
  let r2 := p 3 87 64
  let los := [p 4 119 96, p 4 55 32]
  let his := [p 4 87 64, p 4 23 0]
  let count := p 5 87 72
  if (decide (2 ≤ e) && decide (r1 < 65536)) || (e == 3 && decide (r2 < r1)) ||
      (List.range (e - 1)).any (fun k => decide (his.getD k 0 ≤ los.getD k 0)) || decide (32768 < count) ||
      p 3 31 0 != 0 || p 5 71 0 != 0 then .error rfeBadParams else
  let c : RfeCmd :=
    { tag := t.tag, memory := memory, cfa := t.fld 0 85 84, toClr := t.fld 0 81 81 == 1, rawEn := rawEn,
      rawTap := rawTap, rawShift := t.fld 0 78 75, statsEn := statsEn, histSrc := t.fld 0 73 72,
      histShift := t.fld 0 71 68, zonesX := zx, zonesY := zy, linEn := t.fld 0 56 56 == 1,
      shadeEn := t.fld 0 55 55 == 1, sdefEn := t.fld 0 54 54 == 1, ddefEn := t.fld 0 53 53 == 1, statsAddr := stats,
      rawAddr := raw, rawStride := rawStride, srcAddr := srcA, srcStride := srcStride, w := w, h := h, exposures := e,
      width := width, black := (List.range 12).map (fun i => p (i / 4) (32 * (i % 4) + 23) (32 * (i % 4))),
      ratios := [65536, r1, r2], satS := p 3 55 32, los := los, his := his, dynAbs := p 5 119 96, dynRel := p 5 95 88,
      staticCount := count }
  .ok c

/-- RFE_FRAME (R152, R154, R163, R164): a memory frame opens at once, one from a port waits for its start. -/
def doRfeFrame (x : Nat) (s : State) : State :=
  let q := 4 + x
  s.takeWhen q 0x10 [2, 3] (fun t =>
      let r := s.rfeSlot x (t.fld 0 87 87)
      r.armed.isNone && !(t.fld 0 86 86 == 1 && r.frame.isSome)) fun t s =>
    let sl := t.fld 0 87 87
    match s.rfeParse x t with
    | .error st => (if st = stPoisoned then s.meet (t.fld 1 127 80) 96 else s).complete q t.tag st 0
    | .ok c =>
      let s := s.meet (t.fld 1 127 80) 96
      if c.memory then s.rfeOpen x sl c c.w c.h c.exposures c.width 0 s.bcn.ns.toNat false
      else (s.mapRfeSlot x sl (fun r => { r with armed := some c })).rfeShow x sl

/-- RFE_TABLE_LOAD (R160, R161, R163). -/
def doRfeTableLoad (x : Nat) (s : State) : State :=
  let q := 4 + x
  s.takeAs q 0x11 [0] fun t s =>
    let tab := t.fld 0 87 86
    let sl := t.fld 0 85 85
    let b := t.fld 0 84 84
    s.tableLoad q t.tag (0x24 + x) (4 * sl + tab) b (t.fld 0 83 70) (t.fld 0 69 56 + 1) (rfeTblSize tab) (t.fld 0 55 8)
      (Reg.rfeDenied x) 104 (tab != 3 && t.fld 0 7 0 == 0 && t.fld 0 11 8 == 0) (s.rfeInUse x sl tab b)

/-- RFE_TBL_DATA3_WRITE (R162). -/
def doRfeTblData3Write (m : Master) (x : Nat) (value : Word) (s : State) : State :=
  s.gateWrite m (Reg.rfeTblData x 3) fun s =>
    let a := s.reg (Reg.rfeTblAddr x)
    let tab := bitsOf a 31 30
    let sl := bitsOf a 29 29
    let b := bitsOf a 28 28
    s.tblDataWrite (0x24 + x) (4 * sl + tab) b (bitsOf a 13 0) (rfeTblSize tab) 13 (Reg.rfeTblData x 0)
      (Reg.rfeTblAddr x) (Reg.rfeDenied x) 104 (s.rfeInUse x sl tab b) value

/-- Write line `y` of received samples, tap 0 (R151). -/
def State.rfeRaw0 (s : State) (x : Nat) (f : RfeOpen) (y : Nat) (exps : List (List (Nat × Bool))) : State :=
  exps.zipIdx.foldl (fun s e =>
    let l := (e.1.drop (f.ownFirst - f.first)).take f.ownCols
    let a := f.cmd.rawAddr + (y * f.exposures + e.2) * f.cmd.rawStride * 64 + 2 * f.ownFirst
    let s := s.unitStore (0x24 + x) a (l.flatMap (fun p => leBytes 2 (if p.2 then 0 else p.1)))
    l.zipIdx.foldl (fun s p => if p.1.2 then s.poisonRange (a + 2 * p.2) 2 else s) s) s

/-- Write line `y` of corrected samples, tap 1 (R151). -/
def State.rfeRaw1 (s : State) (x : Nat) (f : RfeOpen) (y : Nat) (row : List Smp) : State :=
  let l := (row.drop (f.ownFirst - f.first)).take f.ownCols
  let a := f.cmd.rawAddr + y * f.cmd.rawStride * 64 + 2 * f.ownFirst
  let r : Int := if f.cmd.rawShift = 0 then 0 else 2 ^ (f.cmd.rawShift - 1)
  let code (m : Smp) : Nat := if m.bad then 0 else (clampI 0 65535 (ashr (m.v + r) f.cmd.rawShift)).toNat
  let s := s.unitStore (0x24 + x) a (l.flatMap (fun m => leBytes 2 (code m)))
  l.zipIdx.foldl (fun s p => if p.1.bad then s.poisonRange (a + 2 * p.2) 2 else s) s

/-- Stages 6 to 8 of line `y`: defects, statistics, raw tap 1, the colour engine (R144 to R151). -/
def State.rfeEmit (s : State) (x sl : Nat) (f : RfeOpen) (y : Nat) : State × RfeOpen :=
  let row := ((f.win.find? (fun r => r.1 == y)).map (·.2)).getD []
  let done := row.zipIdx.map (fun p => if p.1.bad then (p.1, 0) else f.defects (f.first + p.2) y p.1)
  let out := done.map (·.1)
  let owned := ((done.zipIdx.map (fun p => (f.first + p.2, p.1))).drop (f.ownFirst - f.first)).take f.ownCols
  let poisoned := out.any (·.bad)
  let t := f.stats
  let n (k : Nat) : Nat := (owned.filter (fun p => p.2.2 == k)).length
  let t' := if poisoned then { t with poisoned := t.poisoned + 1 }
    else owned.foldl (fun t p => t.add f p.1 y p.2.1)
      { t with replaced := t.replaced + n 1, hot := t.hot + n 2, cold := t.cold + n 3 }
  let satTh := s.fld (Reg.rfeThresh x) 31 16 * 256
  let defTh := s.fld (Reg.rfeThresh x) 15 0 * 16
  let s := if satTh ≠ 0 ∧ t.saturated < satTh ∧ satTh ≤ t'.saturated then s.fire 105 else s
  let s := if defTh ≠ 0 ∧ t.hot + t.cold < defTh ∧ defTh ≤ t'.hot + t'.cold then s.fire 106 else s
  let s := if f.cmd.rawEn && f.cmd.rawTap then s.rfeRaw1 x f y out else s
  let s := if f.cmd.toClr then s.clrSend x sl (.line y out) else s
  (s, { f with stats := t', sent := y + 1, bad := f.bad || poisoned,
               win := f.win.filter (fun r => decide (y + 1 ≤ r.1 + rfeReach f.cmd.cfa)) })

/-- Send on every line whose neighbours below have come; `all` at the frame's end. -/
def State.rfeDrain (x sl : Nat) (all : Bool) : Nat → State × RfeOpen → State × RfeOpen
  | 0, p => p
  | n + 1, (s, f) =>
    if f.sent < f.taken ∧ (all = true ∨ f.sent + rfeReach f.cmd.cfa < f.taken ∨ f.taken = f.h) then
      State.rfeDrain x sl all n (s.rfeEmit x sl f f.sent)
    else (s, f)

/-- An open frame takes a line set (R135): a sample for each column counts on the pace meter (R168). The table words that the line set
reads meet their errors once each. -/
def State.rfeTake (s : State) (x sl : Nat) (f : RfeOpen) (exps : List (List (Nat × Bool))) : State :=
  let y := f.taken
  let column (i : Nat) : List (Nat × Bool) := exps.map (fun l => l.getD i (0, false))
  let row := (List.range f.cols).map (fun i => s.rfeSample x sl f (f.first + i) y (column i))
  let s := if s.flaws.isEmpty then s else
    (((List.range f.cols).flatMap (fun i => f.reads sl (f.first + i) y (column i))).eraseDups).foldl
      (fun s r => s.meetTbl (0x24 + x) r.1 (f.bank sl (r.1 % 4)) r.2) s
  let s := s.tally (0x24 + x) f.cols
  let s := if f.cmd.rawEn && !f.cmd.rawTap then s.rfeRaw0 x f y exps else s
  let (s, f) := State.rfeDrain x sl false 5 (s, { f with taken := y + 1, win := f.win ++ [(y, row)] })
  (s.mapRfeSlot x sl (fun r => { r with frame := some f })).rfeShow x sl

/-- A frame of a slot closes with a status (R155, R165). -/
def State.rfeClose (s : State) (x sl status : Nat) : State :=
  match (s.rfeSlot x sl).frame with
  | none => s
  | some f =>
    let (s, f) := State.rfeDrain x sl true f.taken (s, f)
    let dropped := status == rfeInputDropped || status == stAborted
    let status := if status = stSuccess ∧ f.bad then stPoisoned else status
    let s := if f.cmd.toClr then s.clrSend x sl (.finish dropped) else s
    let s := if f.cmd.statsEn then
        (s.unitStore (0x24 + x) f.cmd.statsAddr (rfeStatsBlock f sl (s.epoch (6 + x)).toNat status)).fire (98 + x)
      else s
    let s := s.mapRfeSlot x sl (fun r => { r with frame := none, feed := [], fetched := 0 })
    let s := if status = rfeInputDropped then (s.bump (Reg.rfeUnclaimed x) 31 16 1).fire (102 + x) else s
    let first := if dropped then f.taken else 0xFFFF
    (s.rfeShow x sl).complete (4 + x) f.cmd.tag status (BitVec.ofNat 64 (f.number * 2 ^ 32 + f.taken * 65536 + first))

/-- RFE_MEMORY_LINE_FETCH (R154): a line set of the memory source becomes ready; the last one is followed by the end. -/
def doRfeMemoryLineFetch (x sl : Nat) (s : State) : State :=
  let r := s.rfeSlot x sl
  match r.frame with
  | none => s
  | some f =>
    let y := r.fetched
    let at_ (k : Nat) : Nat := f.cmd.srcAddr + (y * f.exposures + k) * f.cmd.srcStride * 64
    if !s.rfeRuns x || !f.cmd.memory || decide (f.h ≤ y) ||
        !(List.range f.exposures).all (fun k => s.rangeThere (at_ k) (2 * f.w)) then s
    else
      let items := [BufItem.set y ((List.range f.exposures).map (fun k => s.samplesAt (at_ k) f.w))] ++
        (if y + 1 = f.h then [BufItem.finish false] else [])
      ((List.range f.exposures).foldl (fun s k => s.meet (at_ k) (2 * f.w)) s).setRfeSlot x sl { r with feed := r.feed ++ items, fetched := y + 1 }

/-- The line set that slot `sl` would take next: from its memory fetch, or from its port for an open or a discarded frame. -/
def State.rfeReady (s : State) (x sl : Nat) : Bool :=
  let r := s.rfeSlot x sl
  let port := match s.rfeHead x sl with | some (.held _ _ _) => true | _ => false
  match r.frame with
  | some f =>
    if f.cmd.memory then
      (match r.feed with | .set _ _ :: _ => !f.cmd.toClr || s.clrAccepts x sl | _ => false) || port
    else port && (!f.cmd.toClr || s.clrAccepts x sl)
  | none => port

/-- Weight and priority of a slot in arbitration (R124, R154). -/
def State.rfeWeight (s : State) (x sl : Nat) : Nat × Bool :=
  match (s.rfeSlot x sl).frame, s.rfeSource x sl with
  | some f, some (n, _) =>
    if f.cmd.memory then (1, false)
    else (match (s.port n).setup with | some u => (u.weight, u.highPriority) | none => (1, false))
  | none, some (n, _) => (match (s.port n).setup with | some u => (u.weight, u.highPriority) | none => (1, false))
  | _, none => (1, false)

/-- The line sets standing in the buffer of a slot's port. -/
def State.rfeFill (s : State) (x sl : Nat) : Nat :=
  match s.rfeSource x sl with
  | some (n, h) => ((sget [] (s.port n).bufs h).filter (fun i => match i with | .held _ _ _ => true | _ => false)).length
  | none => 0

/-- The slot that the front end serves next (R124), and the arbitration after it. -/
def State.rfeArbitrate (s : State) (x : Nat) : Option (Nat × Arb) :=
  let a := sget Arb.empty s.arbs x
  match s.rfeReady x 0, s.rfeReady x 1 with
  | false, false => none
  | true, false => some (0, if a.last = 0 then ⟨0, a.taken + 1⟩ else ⟨0, 1⟩)
  | false, true => some (1, if a.last = 1 then ⟨1, a.taken + 1⟩ else ⟨1, 1⟩)
  | true, true =>
    let w0 := s.rfeWeight x 0
    let w1 := s.rfeWeight x 1
    let serve (k : Nat) : Nat × Arb := (k, if a.last = k then ⟨k, a.taken + 1⟩ else ⟨k, 1⟩)
    if w0.2 && !w1.2 && decide (16 ≤ s.rfeFill x 0) then some (serve 0)
    else if w1.2 && !w0.2 && decide (16 ≤ s.rfeFill x 1) then some (serve 1)
    else
      let wt := if a.last = 0 then w0.1 else w1.1
      some (serve (if a.taken < wt then a.last else 1 - a.last))

/-- RFE_LINE_SET (R124, R135, R153, R157). -/
def doRfeLineSet (x : Nat) (residue : Bool) (s : State) : State :=
  if !s.rfeRuns x then s else
  match s.rfeArbitrate x with
  | none => s
  | some (sl, a) =>
    let s := { s with arbs := sset Arb.empty s.arbs x a }
    let r := s.rfeSlot x sl
    let s := match r.frame with
      | none => s.rfePop x sl
      | some f =>
        match f.cmd.memory, r.feed with
        | true, .set _ exps :: rest =>
          if !f.cmd.toClr || s.clrAccepts x sl then
            (s.setRfeSlot x sl { r with feed := rest }).rfeTake x sl f exps
          else s.rfePop x sl
        | true, _ => s.rfePop x sl
        | false, _ =>
          match s.rfeHead x sl with
          | some (.held _ slots n) =>
            let exps := slots.map (fun a => s.samplesAt a n)
            ((slots.foldl (fun s a => s.meet a (2 * n)) s).rfePop x sl).rfeTake x sl f exps
          | _ => s
    if residue then (s.report (0x24 + x) 0 0x08 0).fire 108 else s

/-- RFE_FRAME_START_MARK (R153). -/
def doRfeFrameStartMark (x sl : Nat) (s : State) : State :=
  if !s.rfeRuns x then s else
  match s.rfeHead x sl with
  | some (.start w h e width number sof split) =>
    let s := s.rfePop x sl
    let r := s.rfeSlot x sl
    match r.armed, r.frame with
    | some c, none => s.rfeOpen x sl c w h e width number sof split
    | _, _ =>
      ((s.mapRfeSlot x sl (fun r => { r with unclaimed := true })).bump (Reg.rfeUnclaimed x) 15 0 1).fire (100 + x)
  | _ => s

/-- RFE_FRAME_END_MARK (R155). -/
def doRfeFrameEndMark (x sl : Nat) (s : State) : State :=
  if !s.rfeRuns x then s else
  let r := s.rfeSlot x sl
  let memory := match r.frame with | some f => f.cmd.memory | none => false
  match memory, r.feed, s.rfeHead x sl with
  | true, .finish _ :: _, _ => s.rfeClose x sl stSuccess
  | _, _, some (.finish dropped) =>
    let s := s.rfePop x sl
    if r.unclaimed || memory then s.mapRfeSlot x sl (fun r => { r with unclaimed := false })
    else s.rfeClose x sl (if dropped then rfeInputDropped else stSuccess)
  | _, _, _ => s

/-- ABORT reaches an RFE_FRAME (R155); none when the tag is not one that is armed or open. -/
def State.rfeAbort (s : State) (x tag : Nat) : Option State :=
  [0, 1].findSome? (fun sl =>
    let r := s.rfeSlot x sl
    match r.frame, r.armed with
    | some f, _ =>
      if f.cmd.tag = tag then some ((s.mapRfeSlot x sl (fun r => { r with unclaimed := !f.cmd.memory })).rfeClose x sl stAborted)
      else match r.armed with
        | some c => if c.tag = tag then
            some (((s.mapRfeSlot x sl (fun r => { r with armed := none })).rfeShow x sl).complete (4 + x) tag stAborted 0)
          else none
        | none => none
    | none, some c =>
      if c.tag = tag then
        some (((s.mapRfeSlot x sl (fun r => { r with armed := none })).rfeShow x sl).complete (4 + x) tag stAborted 0)
      else none
    | none, none => none)

end Sys2Proof.Machine
end

