-- ==== Sys2Proof/Machine/Clr.lean ====
section
/-!
DEFINITION. Colour engines: white balance, demosaic, matrices, look chain, encoders, surfaces, frames and rings
(spec/05_colour_engine.md R169 to R206).
-/
namespace Sys2Proof.Machine

def clrBadParams : Nat := 0x11
def clrInputDropped : Nat := 0x10

def State.mapClrSlot (s : State) (x sl : Nat) (f : ClrSlot → ClrSlot) : State := s.setClrSlot x sl (f (s.clrSlot x sl))

/-! White balance and demosaic (R171 to R175). -/

/-- A coordinate mirrored into 0 … n - 1 (R174). -/
def mirror (n : Nat) (i : Int) : Nat :=
  let a := i.natAbs
  if n ≤ a then 2 * (n - 1) - a else a

/-- The exchange of R173. -/
def quadSwap (k : Nat) : Nat := k - k % 4 + [0, 2, 1, 3].getD (k % 4) 0

/-- A red, green and blue triple, S8.16. -/
abbrev Rgb := Int × Int × Int

/-- The demosaic of a Bayer mosaic `p` at (x, y) with the phase of red (R172). -/
def demosaicBayer (p : Int → Int → Int) (red : Nat) (x y : Nat) : Rgb :=
  let q (dx dy : Int) : Int := p ((x : Int) + dx) ((y : Int) + dy)
  let c := q 0 0
  let ab (i : Int) : Int := (i.natAbs : Int)
  let ph := 2 * (y % 2) + x % 2
  let blue := red ^^^ 3
  let cl (i : Int) : Int := clampS i
  if ph = red ∨ ph = blue then
    let hc := 2 * c - q (-2) 0 - q 2 0
    let vc := 2 * c - q 0 (-2) - q 0 2
    let dh := ab (q (-1) 0 - q 1 0) + ab hc
    let dv := ab (q 0 (-1) - q 0 1) + ab vc
    let gh := cl (ashr (2 * (q (-1) 0 + q 1 0) + hc + 2) 2)
    let gv := cl (ashr (2 * (q 0 (-1) + q 0 1) + vc + 2) 2)
    let g := if dh < dv then gh else if dv < dh then gv else cl (ashr (gh + gv + 1) 1)
    let da := ab (q 1 (-1) - q (-1) 1) + ab (2 * c - q 2 (-2) - q (-2) 2)
    let db := ab (q (-1) (-1) - q 1 1) + ab (2 * c - q (-2) (-2) - q 2 2)
    let ea := cl (ashr (2 * (q 1 (-1) + q (-1) 1) + 2 * c - q 2 (-2) - q (-2) 2 + 2) 2)
    let eb := cl (ashr (2 * (q (-1) (-1) + q 1 1) + 2 * c - q (-2) (-2) - q 2 2 + 2) 2)
    let e := if da < db then ea else if db < da then eb else cl (ashr (ea + eb + 1) 1)
    if ph = red then (c, g, e) else (e, g, c)
  else
    let h := cl (ashr (2 * (q (-1) 0 + q 1 0) + 2 * c - q (-2) 0 - q 2 0 + 2) 2)
    let v := cl (ashr (2 * (q 0 (-1) + q 0 1) + 2 * c - q 0 (-2) - q 0 2 + 2) 2)
    if (ph ^^^ 1) = red then (h, c, v) else (v, c, h)

/-- The sample at column `x`, line `y` of the open frame's window. -/
def ClrOpen.at (f : ClrOpen) (x y : Nat) : Smp :=
  match f.win.find? (fun r => r.1 == y) with
  | some r => if x < f.first then ⟨0, false, false, 0⟩ else r.2.getD (x - f.first) ⟨0, false, false, 0⟩
  | none => ⟨0, false, false, 0⟩

/-- Stages 2 and 3 of a pixel: its colours, and whether its window holds a poisoned sample (R172 to R175, R196). -/
def ClrOpen.demosaic (f : ClrOpen) (x y : Nat) : Rgb × Bool :=
  let sample (a b : Int) : Smp :=
    let a := mirror f.w a
    let b := mirror f.h b
    if f.cmd.cfa = 1 then f.at (min (quadSwap a) (f.w - 1)) (min (quadSwap b) (f.h - 1)) else f.at a b
  let centre := f.at x y
  if f.cmd.cfa = 2 then ((centre.v, centre.v, centre.v), centre.bad)
  else
    let (x', y') := if f.cmd.cfa = 1 then (quadSwap x, quadSwap y) else (x, y)
    let (r, g, b) := demosaicBayer (fun i j => (sample i j).v) f.cmd.red x' y'
    let d : List Int := [-2, -1, 0, 1, 2]
    let bad := d.any (fun i => d.any (fun j => (sample ((x' : Int) + i) ((y' : Int) + j)).bad))
    let mx := max r (max g b)
    (if f.cmd.highlight && centre.sat then (mx, mx, mx) else (r, g, b), bad)

/-! Matrices and the look chain (R176 to R180). -/

/-- Stage 5: the working triple, binary16 patterns (R176). -/
def cameraMatrix (mat : List Nat) (p : Rgb) : List Nat :=
  (List.range 3).map (fun i =>
    let m (j : Nat) : Int := ofSingle (mat.getD (4 * i + j) 0)
    rn16 (m 0 * p.1 + m 1 * p.2.1 + m 2 * p.2.2 + m 3 * 65536) 165)

/-- Stage 6: output primaries (R177). -/
def outPrimaries (o : ClrOut) (working : Nat) (w : List Nat) : List Nat :=
  if o.primaries = 0 then w
  else
    let a (k : Nat) : Int := ofSingle (if o.primaries = 1 then preset working o.target k else o.mat.getD k 0)
    (List.range 3).map (fun i =>
      rn16 (a (3 * i) * ofHalf (w.getD 0 0) + a (3 * i + 1) * ofHalf (w.getD 1 0) + a (3 * i + 2) * ofHalf (w.getD 2 0)) 173)

/-- The shaper over table `t` (R178). -/
def shaper (t : Nat → Nat) (y : Nat) : Nat :=
  let h := if y / 32768 = 0 then y else 0
  let i := h / 8
  let f := h % 8
  ((t i : Int) + ashr (((t (i + 1) : Int) - t i) * f + 4) 3).toNat

/-- The order of the axes by descending fraction, ties in the order r, g, b (R179). -/
def axisOrder (f : List Nat) : List Nat :=
  let g (k : Nat) : Nat := f.getD k 0
  if g 1 ≤ g 0 then
    if g 2 ≤ g 1 then [0, 1, 2] else if g 2 ≤ g 0 then [0, 2, 1] else [2, 0, 1]
  else
    if g 2 ≤ g 0 then [1, 0, 2] else if g 2 ≤ g 1 then [1, 2, 0] else [2, 1, 0]

/-- The tetrahedral interpolation of the cube (R179); `node r g b c` is channel `c` of a node. -/
def cube (node : Nat → Nat → Nat → Nat → Nat) (u : List Nat) : List Nat :=
  let q := u.map (fun v => v * 64 + v / 1024)
  let i := q.map (fun v => min (v / 65536) 63)
  let f := (q.zip i).map (fun p => p.1 - p.2 * 65536)
  let ax := axisOrder f
  let g (k : Nat) : Nat := f.getD (ax.getD k 0) 0
  let at_ (n c : Nat) : Int :=
    let step (k : Nat) : Nat := if (ax.take n).contains k then 1 else 0
    (node (i.getD 0 0 + step 0) (i.getD 1 0 + step 1) (i.getD 2 0 + step 2) c : Nat)
  (List.range 3).map (fun c =>
    let sum := at_ 0 c * 65536 + g 0 * (at_ 1 c - at_ 0 c) + g 1 * (at_ 2 c - at_ 1 c) + g 2 * (at_ 3 c - at_ 2 c)
    (clampI 0 65535 (ashr (sum + 32768) 16)).toNat)

/-- The output LUT over table `t` of binary16 patterns (R180). -/
def outLut (t : Nat → Nat) (v : Nat) : Nat :=
  let i := v / 16
  let f := v % 16
  rn16 (ofHalf (t i) * 16 + (ofHalf (t (i + 1)) - ofHalf (t i)) * f) 28

/-- Entry `e` of channel `c` of a table packed eight to a word. -/
def State.clrEntry (s : State) (x t b per c e : Nat) : Nat :=
  nbits (s.tbl (0x26 + x) t b (per * c + e / 8)).toNat (16 * (e % 8) + 15) (16 * (e % 8))

/-- The nodes of the cube that an interpolation reads (R179). -/
def cubeNodes (u : List Nat) : List Nat :=
  let q := u.map (fun v => v * 64 + v / 1024)
  let i := q.map (fun v => min (v / 65536) 63)
  let ax := axisOrder ((q.zip i).map (fun p => p.1 - p.2 * 65536))
  [0, 1, 2, 3].map (fun n =>
    let step (k : Nat) : Nat := if (ax.take n).contains k then 1 else 0
    (i.getD 0 0 + step 0) + 65 * (i.getD 1 0 + step 1) + 4225 * (i.getD 2 0 + step 2))

/-- What stage 7 makes of a pixel on output `o` at each of its steps: the shapers' results, the cube's. -/
def State.lookSteps (s : State) (x o banks : Nat) (y : List Nat) : List Nat × List Nat :=
  let bank (k : Nat) : Nat := nbits banks (3 * o + k) (3 * o + k)
  let u := y.zipIdx.map (fun p => shaper (s.clrEntry x (4 * o) (bank 0) 512 p.2) p.1)
  let node (r g b c : Nat) : Nat :=
    let n := r + 65 * g + 4225 * b
    nbits (s.tbl (0x26 + x) (4 * o + 1) (bank 1) (n / 2)).toNat (64 * (n % 2) + 16 * c + 15) (64 * (n % 2) + 16 * c)
  (u, cube node u)

/-- Stage 7 of output `o` (R178 to R180). -/
def State.lookChain (s : State) (x o banks : Nat) (y : List Nat) : List Nat :=
  (s.lookSteps x o banks y).2.zipIdx.map (fun p =>
    outLut (s.clrEntry x (4 * o + 2) (nbits banks (3 * o + 2) (3 * o + 2)) 513 p.2) p.1)

/-- The table words that stage 7 of output `o` reads for a pixel: table, bank, word (R178 to R180, R197). -/
def State.lookWords (s : State) (x o banks : Nat) (y : List Nat) : List (Nat × Nat × Nat) :=
  let bank (k : Nat) : Nat := nbits banks (3 * o + k) (3 * o + k)
  let (u, v) := s.lookSteps x o banks y
  let pair (k per c i : Nat) : List (Nat × Nat × Nat) :=
    [(4 * o + k, bank k, per * c + i / 8), (4 * o + k, bank k, per * c + (i + 1) / 8)]
  y.zipIdx.flatMap (fun p => pair 0 512 p.2 ((if p.1 / 32768 = 0 then p.1 else 0) / 8)) ++
  (cubeNodes u).map (fun n => (4 * o + 1, bank 1, n / 2)) ++ v.zipIdx.flatMap (fun p => pair 2 513 p.2 (p.1 / 16))

/-! Encoders (R181 to R183). Values E′ are fixed-point numbers with `fixBits` fractional bits. -/

/-- `num / 2^173` clamped to [0, 1], as a fraction over `den`. -/
def clampUnit (num : Int) (den : Nat) : Nat := min num.toNat den

/-- E′ of t = `num` / 2¹⁷³ under a non-linear encoder (R181). -/
def encode181 (enc black : Nat) (num : Int) : Nat :=
  let one := 2 ^ 173
  if enc = 1 then
    let l := clampUnit num (one * 10000)
    let p := fixPow l (one * 10000) 2610 16384
    fixPow (3424 * fixOne + 77216 * p) (4096 * fixOne + 76544 * p) 2523 32
  else
    let l := clampUnit num one
    if enc = 2 then
      if 12 * l ≤ one then fixSqrt (3 * l * fixOne / one)
      else
        let d := 100000000
        let t := fixLn (12 * l * d - 28466892 * one) (one * d) - fixLn 71533108 d
        ((fixOne / 2 : Nat) + t * 17883277 / (d : Nat)).toNat
    else if enc = 3 then
      if l * 1000 < 18 * one then 9 * l * fixOne / (2 * one)
      else (1099 * fixPow l one 9 20 - 99 * fixOne) / 1000
    else
      let beta := fixPow (ofSingle black).toNat (2 ^ 149) 5 12
      (fixPow l one 5 12 - beta) * fixOne / (fixOne - beta)

/-- Round a fixed-point code value to the nearest integer, halves up; within 1/16 of a half-integer `up` chooses the
neighbour (R182). -/
def roundCode (up : Bool) (v : Int) : Nat :=
  let one : Int := (fixOne : Nat)
  let f := v / one
  let r := v % one
  (if 7 * one ≤ 16 * r ∧ 16 * r ≤ 9 * one then (if up then f + 1 else f)
   else if one ≤ 2 * r then f + 1 else f).toNat

/-- The code of E′ at `n` bits (R182). -/
def quantise (full up : Bool) (n : Nat) (e : Nat) : Nat :=
  if full then roundCode up ((2 ^ n - 1 : Nat) * (e : Int))
  else roundCode up ((219 * (e : Int) + 16 * (fixOne : Nat)) * (2 ^ (n - 8) : Nat))

/-- Y′, C′b and C′r of an encoded triple, fixed-point; the weights of R183 are in units of 1/10,000. -/
def yccOf (bt2020 : Bool) (r g b : Nat) : Int × Int × Int :=
  let kr : Int := if bt2020 then 2627 else 2126
  let kb : Int := if bt2020 then 593 else 722
  let y := (kr * r + (10000 - kr - kb) * g + kb * b) / 10000
  (y, ((b : Int) - y) * 10000 / (2 * (10000 - kb)), ((r : Int) - y) * 10000 / (2 * (10000 - kr)))

/-- The code of a chroma value at 10 bits (R183); a full-range value above 1,023 is 1,023. -/
def quantiseC (full up : Bool) (c : Int) : Nat :=
  let one : Int := (fixOne : Nat)
  if full then min (roundCode up (1023 * c + 512 * one)) 1023 else roundCode up ((224 * c + 128 * one) * 4)

/-! Lines. -/

/-- The bits of a code (R201). -/
def codeBits (b : Nat) : Nat := if b = 0 then 10 else if b = 1 then 12 else 16

/-- Stages 5 and 6 of a pixel on an output. -/
def ClrOpen.primaries (f : ClrOpen) (out : ClrOut) (p : Rgb) : List Nat := outPrimaries out f.cmd.working (cameraMatrix f.cmd.mat p)

/-- Stages 5 to 8 of a pixel on output `o`, before quantisation: binary16 patterns for the linear encoder, E′ otherwise. -/
def State.clrPixel (s : State) (x o : Nat) (out : ClrOut) (f : ClrOpen) (p : Rgb) : List Nat :=
  let y := f.primaries out p
  let z := if out.lut then s.lookChain x o f.banks y else y
  z.map (fun v =>
    let t := ofHalf v * ofSingle out.scale
    if out.enc = 0 then rn16 t 173 else encode181 out.enc out.black t)

/-- The table words that a pixel reads on output `o`. -/
def State.clrReads (s : State) (x o : Nat) (out : ClrOut) (f : ClrOpen) (p : Rgb) : List (Nat × Nat × Nat) :=
  if out.lut then s.lookWords x o f.banks (f.primaries out p) else []

/-- The pixels of line `y` on output `o` in memory form, with their poison marks (R182 to R184, R196): a pixel is poisoned too by an
uncorrectable table word (DESIGN CHOICE, log entry 32). `n` numbers the free choices of the line. -/
def State.clrLine (s : State) (x o n : Nat) (out : ClrOut) (f : ClrOpen) (y : Nat) : List (Nat × Bool) :=
  let px (c : Nat) : List Nat × Bool :=
    let d := f.demosaic c y
    (s.clrPixel x o out f d.1, d.2 || (s.clrReads x o out f d.1).any (fun r => s.badWord (tblWord (0x26 + x) r.1 r.2.1 r.2.2)))
  let up (c k : Nat) : Bool := Config.freeCode n ((o * 4 + k) * 2 ^ 15 + c)
  let bits := codeBits out.bits
  if out.format = 3 then
    (List.range f.ownCols).map (fun i =>
      let c := f.ownFirst + i
      let me := px c
      let r := me.1
      let (yy, _, _) := yccOf out.ycc2020 (r.getD 0 0) (r.getD 1 0) (r.getD 2 0)
      let even := c - c % 2
      let at_ (k : Int) : List Nat × Bool := px (mirror f.w k)
      let l := at_ ((even : Int) - 1)
      let m := at_ even
      let h := at_ ((even : Int) + 1)
      let ch (p : List Nat × Bool) : Int :=
        let t := yccOf out.ycc2020 (p.1.getD 0 0) (p.1.getD 1 0) (p.1.getD 2 0)
        if c % 2 = 0 then t.2.1 else t.2.2
      let cc := (ch l + 2 * ch m + ch h) / 4
      let yc := if out.full then roundCode (up c 0) (1023 * yy)
        else roundCode (up c 0) ((219 * yy + 16 * (fixOne : Nat)) * 4)
      (yc + 65536 * quantiseC out.full (up c 1) cc, me.2 || l.2 || m.2 || h.2))
  else
    (List.range f.ownCols).map (fun i =>
      let c := f.ownFirst + i
      let p := px c
      let v (k : Nat) : Nat := p.1.getD k 0
      let code (k : Nat) : Nat := quantise out.full (up c k) bits (v k)
      let w := if out.format = 0 then v 0 + 2 ^ 16 * v 1 + 2 ^ 32 * v 2 + 2 ^ 48 * 0x3C00
        else if out.format = 1 then code 0 + 2 ^ 10 * code 1 + 2 ^ 20 * code 2 + 2 ^ 30 * 3
        else 2 ^ (16 - bits) * (code 0 + 2 ^ 16 * code 1 + 2 ^ 32 * code 2) + 2 ^ 48 * 0xFFFF
      (w, p.2))

/-- Store a line of pixels at an address, poisoned pixels as poisoned words (R185, R196). -/
def State.storePixels (s : State) (win a bpp : Nat) (l : List (Nat × Bool)) : State :=
  let s := s.unitStore win a (l.flatMap (fun p => leBytes bpp p.1))
  l.zipIdx.foldl (fun s p => if p.1.2 then s.poisonRange (a + bpp * p.2) bpp else s) s

/-! Rings (R186, R187). -/

def State.ringWritten (s : State) (ctrl : Nat) : Nat := s.num (ctrl + 4) 4
def State.ringReleased (s : State) (ctrl : Nat) : Nat := s.num (ctrl + 20) 4

/-- Has the ring of an output room for the next line of the frame? -/
def State.ringRoom (s : State) (f : ClrOpen) (o : Nat) (out : ClrOut) : Bool :=
  let total := (sget 0 f.ringFirst o + f.written) % 2 ^ 32
  decide ((total + 2 ^ 32 - s.ringReleased out.addr2) % 2 ^ 32 < out.lines)

/-- Word 0 of a ring's control block. -/
def State.ringWord0 (s : State) (win ctrl number first written : Nat) (dropped closed : Bool) : State :=
  s.unitStore win ctrl (leBytes 16 (number * 2 ^ 96 + (first % 2 ^ 32) * 2 ^ 64 + (written % 2 ^ 32) * 2 ^ 32 +
    dropped.toNat * 2 + closed.toNat))

/-! The rings of the split line, whose word 0 CLR_A writes for both engines (R186, R195). -/

/-- Engine `x`'s part of a pair that CLR_A and CLR_B share. -/
def ofEngine {α : Type} (x : Nat) (p : α × α) : α := if x = 0 then p.1 else p.2
def setEngine {α : Type} (x : Nat) (p : α × α) (v : α) : α × α := if x = 0 then (v, p.2) else (p.1, v)

/-- CLR_A writes word 0 of a frame's rings: the lines that stand whole, and closed when both engines are done. -/
def State.splitShow (s : State) (r : SplitFrame) : State :=
  match r.number with
  | none => s
  | some n => r.rings.foldl (fun s k =>
      s.ringWord0 0x26 k.2.1 n k.2.2 (k.2.2 + min r.wrote.1 r.wrote.2) r.dropped (r.done.1 && r.done.2)) s

/-- Show the oldest frame; one that both engines are done with gives way to the next. -/
def State.splitGo : Nat → State → State
  | 0, s => s
  | n + 1, s =>
    match s.splits with
    | [] => s
    | r :: rest =>
      let s := s.splitShow r
      if r.done.1 && r.done.2 then State.splitGo n { s with splits := rest } else s

/-- The frame of the split line with port number `k` changes. -/
def State.mapSplit (s : State) (k : Nat) (f : SplitFrame → SplitFrame) : State :=
  State.splitGo s.splits.length { s with splits := s.splits.map (fun r => if r.port = k then f r else r) }

/-- A frame of the split line reaches an engine: the first of the two begins its record. -/
def State.splitMeet (s : State) (k : Nat) : State :=
  if s.splits.any (fun r => r.port == k) then s
  else { s with splits := s.splits ++ [⟨k, none, [], (0, 0), (false, false), false⟩] }

/-- The first lines of a frame's rings as engine `x` opens it: those that the other engine took, else where its own last frame in
progress ends, else as word 0 says (R186). -/
def State.splitFirst (s : State) (x k : Nat) (rings : List (Nat × Nat)) : List (Nat × Nat × Nat) :=
  match s.splits.find? (fun r => r.port == k && !r.rings.isEmpty) with
  | some r => r.rings
  | none =>
    let before := (s.splits.filter (fun r => r.port != k)).getLast?
    rings.map (fun o =>
      let went := before.bind (fun r => (r.rings.find? (fun b => b.2.1 == o.2)).map (fun b => (b.2.2 + ofEngine x r.wrote) % 2 ^ 32))
      (o.1, o.2, went.getD (s.ringWritten o.2)))

/-- Word 0 of a frame's rings is brought up to date: by the engine itself, or in the split line by CLR_A when a line stands whole. -/
def State.ringShow (s : State) (x : Nat) (f : ClrOpen) (dropped closed : Bool) : State :=
  if f.split then
    s.mapSplit f.port (fun r =>
      { r with wrote := setEngine x r.wrote f.written, done := setEngine x r.done closed, dropped := r.dropped || dropped })
  else
    f.cmd.outs.foldl (fun s p =>
      if p.2.dest = 2 then
        let first := sget 0 f.ringFirst p.1
        s.ringWord0 (0x26 + x) p.2.addr2 f.number first (first + f.written) dropped closed
      else s) s

/-! Frames. -/

/-- Show the state of slot `sl` (CLR_x_STATUS). -/
def State.clrShow (s : State) (x sl : Nat) : State :=
  let c := s.clrSlot x sl
  let st := match c.frame with
    | some f => if f.waiting then 3 else 2
    | none => if c.armed.isSome then 1 else 0
  let line := match c.frame with | some f => f.written % 16384 | none => 0
  (s.setFld (Reg.clrStatus x) (29 + 2 * sl) (28 + 2 * sl) st).setFld (Reg.clrStatus x) (13 + 14 * sl) (14 * sl) line

def State.clrPendShow (s : State) (x : Nat) : State :=
  s.setFld (Reg.clrBank x) 31 31 (!(s.pendOf (5 + x)).isEmpty).toNat

/-- Is a bank of table `k` of output `o` in use (R198)? -/
def State.clrInUse (s : State) (x o k b : Nat) : Bool :=
  let i := 3 * o + k
  s.fld (Reg.clrBank x) i i == b || s.bankPending (5 + x) (Reg.clrBankShadow x) i b ||
  [0, 1].any (fun sl => match (s.clrSlot x sl).frame with | some f => nbits f.banks i i == b | none => false)

/-- The words of table `k` of an output (R197). -/
def clrTblSize (k : Nat) : Nat := if k = 0 then 1536 else if k = 1 then 137313 else if k = 2 then 1539 else 0

/-- The lines below a line that demosaic reads (R172, R173). -/
def clrReach (cfa : Nat) : Nat := if cfa = 0 then 2 else if cfa = 1 then 3 else 0

/-- Write line `y` on every enabled output (R169, R185 to R191). -/
def State.clrWrite (s : State) (x : Nat) (f : ClrOpen) (y : Nat) : State × ClrOpen :=
  let win := 0x26 + x
  let n := s.fresh
  let lines := f.cmd.outs.map (fun p => (p.1, p.2, s.clrLine x p.1 n p.2 f y))
  let s := { s with fresh := n + 1 }
  let s := if s.flaws.isEmpty then s else
    ((f.cmd.outs.flatMap (fun p => (List.range f.ownCols).flatMap (fun i =>
      s.clrReads x p.1 p.2 f (f.demosaic (f.ownFirst + i) y).1))).eraseDups).foldl (fun s r => s.meetTbl win r.1 r.2.1 r.2.2) s
  let bad := lines.any (fun l => l.2.2.any (·.2))
  let step := fun (a : State × ClrOpen) (l : Nat × ClrOut × List (Nat × Bool)) =>
    let (s, f) := a
    let (o, out, px) := l
    let bpp := bppOf out.format
    if out.dest = 0 then (s.storePixels win (out.addr + y * out.stride * 64 + f.ownFirst * bpp) bpp px, f)
    else if out.dest = 2 then
      let slot := ((sget 0 f.ringFirst o + y) % 2 ^ 32) % out.lines
      (s.storePixels win (out.addr + slot * out.stride * 64 + f.ownFirst * bpp) bpp px, f)
    else
      let rows := sget [] f.packs o ++ [px]
      if rows.length = 4 then
        (s.packRow win out.format out.clearEn out.clear out.addr out.addr2 f.w (y / 4) f.ownFirst rows,
          { f with packs := sset [] f.packs o [] })
      else (s, { f with packs := sset [] f.packs o rows })
  let (s, f) := lines.foldl step (s, f)
  let f := { f with written := y + 1, bad := f.bad || bad, win := f.win.filter (fun r => decide (y ≤ r.1 + 8)) }
  (s, f)

/-- Complete the block row that a packed output has begun, repeating its last line (R191, R194). -/
def State.clrFlushPacks (s : State) (x : Nat) (f : ClrOpen) : State :=
  f.cmd.outs.foldl (fun s p =>
    let rows := sget [] f.packs p.1
    if p.2.dest = 1 ∧ rows ≠ [] then
      s.packRow (0x26 + x) p.2.format p.2.clearEn p.2.clear p.2.addr p.2.addr2 f.w ((f.written - 1) / 4) f.ownFirst
        (rows ++ List.replicate (4 - rows.length) (rows.getLastD []))
    else s) s

/-- A frame of a slot closes (R194, R203). -/
def State.clrClose (s : State) (x sl : Nat) (f : ClrOpen) (status : Nat) : State :=
  let dropped := status == clrInputDropped || status == stAborted
  let status := if status = stSuccess ∧ f.bad then stPoisoned else status
  let s := (s.clrFlushPacks x f).ringShow x f dropped true
  let s := s.mapClrSlot x sl (fun c => { c with frame := none, threshMade := false })
  let s := if status = clrInputDropped then (s.bump (Reg.clrUnclaimed x) 31 16 1).fire 115 else s
  let first := if dropped then f.written else 0xFFFF
  (s.clrShow x sl).complete (6 + x) f.cmd.tag status (BitVec.ofNat 64 (f.number * 2 ^ 32 + f.written * 65536 + first))

/-- Write every line whose window is complete, until a ring has no room (R187). -/
def State.clrDrain (x sl : Nat) : Nat → State × ClrOpen → State × ClrOpen
  | 0, p => p
  | n + 1, (s, f) =>
    if f.written < f.taken ∧ (f.written + clrReach f.cmd.cfa < f.taken ∨ f.taken = f.h) then
      if f.cmd.outs.all (fun p => p.2.dest != 2 || s.ringRoom f p.1 p.2) then
        let (s, f) := s.clrWrite x { f with waiting := false } f.written
        State.clrDrain x sl n (s.ringShow x f false false, f)
      else (s, { f with waiting := true })
    else (s, { f with waiting := false })

/-- Go on with a slot: write what can be written, and close a frame whose end has come and whose lines are written. A wait that a
line ends is over, though another may begin at once (R187). -/
def State.clrGo (s : State) (x sl : Nat) (f : ClrOpen) : State :=
  let s := f.cmd.outs.foldl (fun s p => if p.2.dest = 2 then s.meet p.2.addr2 32 else s) s
  let was := f.written
  let (s, f) := State.clrDrain x sl 6 (s, f)
  let s := s.mapClrSlot x sl (fun c => { c with frame := some f, threshMade := c.threshMade && f.waiting && f.written == was })
  let s := s.clrShow x sl
  if f.ended && !f.waiting then s.clrClose x sl f stSuccess else s

/-- The output block `o` of a frame parameter block (R201). -/
def State.readClrOut (s : State) (fpb o : Nat) : ClrOut :=
  let q (i : Nat) : Quad := s.quadAt (fpb + 16 * (4 + 6 * o + i))
  let b (i hi lo : Nat) : Nat := qbits (q i) hi lo
  { enc := b 0 127 125, format := b 0 124 122, dest := b 0 121 120, full := b 0 119 119 == 1, bits := b 0 118 117,
    primaries := b 0 116 115, target := b 0 114 113, lut := b 0 112 112 == 1, ycc2020 := b 0 111 111 == 1,
    clearEn := b 0 110 110 == 1, scale := b 0 95 64, black := b 0 63 32,
    mat := (List.range 9).map (fun k => b (1 + k / 3) (127 - 32 * (k % 3)) (96 - 32 * (k % 3))),
    addr := b 4 127 80, stride := b 4 79 56, addr2 := b 4 55 8, lines := b 5 127 112, clear := b 5 63 0 }

/-- Are an output block's fields valid (R181, R184, R201)? -/
def State.clrOutOk (s : State) (fpb o : Nat) (c : ClrOut) : Bool :=
  let b (i hi lo : Nat) : Nat := qbits (s.quadAt (fpb + 16 * (4 + 6 * o + i))) hi lo
  let combo :=
    if c.format = 0 then c.enc == 0 && decide (c.dest ≤ 2)
    else if c.format = 1 then decide (1 ≤ c.enc ∧ c.enc ≤ 4) && c.bits == 0 && decide (c.dest ≤ 2)
    else if c.format = 2 then decide (1 ≤ c.enc ∧ c.enc ≤ 4) && (c.bits == 1 || c.bits == 2) && (c.dest == 0 || c.dest == 2)
    else if c.format = 3 then decide (1 ≤ c.enc ∧ c.enc ≤ 4) && c.bits == 0 && (c.dest == 0 || c.dest == 2)
    else false
  combo && c.bits != 3 && c.primaries != 3 && finite32 c.scale && c.scale / 2 ^ 31 == 0 &&
  (c.primaries != 2 || c.mat.all finite32) &&
  (if c.enc = 4 then finite32 c.black && c.black / 2 ^ 31 == 0 && decide (10 * ofSingle c.black < 2 ^ 149) else c.black == 0) &&
  (c.dest != 1 || (c.addr % 64 == 0 && c.addr2 % 64 == 0)) && (c.dest != 0 || c.addr2 == 0) &&
  (c.dest != 2 || decide (2 ≤ c.lines ∧ c.lines ≤ 16384)) &&
  b 0 109 96 == 0 && b 0 31 0 == 0 && b 1 31 0 == 0 && b 2 31 0 == 0 && b 3 31 0 == 0 && b 4 7 0 == 0 && b 5 111 64 == 0

/-- The command that a CLR_FRAME asks for, or the status of the first check it fails (R193, R200, R201). -/
def State.clrParse (s : State) (t : Taken) : Except Nat ClrCmd :=
  let mask := t.fld 0 80 77
  let fpb := t.fld 1 127 80
  let on := (List.range 4).filter (fun o => nbits mask o o == 1)
  if t.fld 0 86 85 = 3 ∨ t.fld 0 82 81 = 3 ∨ mask = 0 ∨ fpb % 64 ≠ 0 ∨ !t.zeros [(0, 75, 0), (1, 79, 0)] then
    .error clrBadParams
  else if !inMemory s.variant fpb 448 then .error stBadAddress
  else if s.poisonedAt fpb 64 || on.any (fun o => s.poisonedAt (fpb + 16 * (4 + 6 * o)) 96) then .error stPoisoned
  else
    let w (i hi lo : Nat) : Nat := qbits (s.quadAt (fpb + 16 * i)) hi lo
    let mat := (List.range 12).map (fun k => w (1 + k / 4) (127 - 32 * (k % 4)) (96 - 32 * (k % 4)))
    let outs := on.map (fun o => (o, s.readClrOut fpb o))
    if w 0 127 64 ≠ 0 ∨ !mat.all finite32 ∨ !outs.all (fun p => s.clrOutOk fpb p.1 p.2) then .error clrBadParams
    else .ok
      { tag := t.tag, cfa := t.fld 0 86 85, red := t.fld 0 84 83, working := t.fld 0 82 81,
        highlight := t.fld 0 76 76 == 1, wb := (List.range 4).map (fun i => w 0 (16 * i + 15) (16 * i)), mat := mat,
        outs := outs }

/-- CLR_FRAME (R193, R200, R201). -/
def doClrFrame (x : Nat) (s : State) : State :=
  let q := 6 + x
  s.takeWhen q 0x10 [1] (fun t => (s.clrSlot x (t.fld 0 87 87)).armed.isNone) fun t s =>
    let sl := t.fld 0 87 87
    match s.clrParse t with
    | .error st => (if st = stPoisoned then s.meet (t.fld 1 127 80) 448 else s).complete q t.tag st 0
    | .ok c => ((s.meet (t.fld 1 127 80) 448).mapClrSlot x sl (fun r => { r with armed := some c })).clrShow x sl

/-- CLR_TABLE_LOAD (R197, R198, R202). -/
def doClrTableLoad (x : Nat) (s : State) : State :=
  s.takeAs (6 + x) 0x11 [0] fun t s =>
    let id := t.fld 0 87 84
    let b := t.fld 0 83 83
    s.tableLoad (6 + x) t.tag (0x26 + x) id b (t.fld 0 82 65) (t.fld 0 64 47 + 1) (clrTblSize (id % 4))
      (t.fld 0 46 3 * 16) (Reg.clrDenied x) 116 (id % 4 != 3 && t.fld 0 2 0 == 0) (s.clrInUse x (id / 4) (id % 4) b)

/-- CLR_TBL_DATA3_WRITE (R199). -/
def doClrTblData3Write (m : Master) (x : Nat) (value : Word) (s : State) : State :=
  s.gateWrite m (Reg.clrTblData x 3) fun s =>
    let a := s.reg (Reg.clrTblAddr x)
    let id := bitsOf a 31 28
    let b := bitsOf a 27 27
    s.tblDataWrite (0x26 + x) id b (bitsOf a 17 0) (clrTblSize (id % 4)) 17 (Reg.clrTblData x 0) (Reg.clrTblAddr x)
      (Reg.clrDenied x) 116 (s.clrInUse x (id / 4) (id % 4) b) value

/-- Does engine `x` run: powered, not fenced, not stalled (R12)? -/
def State.clrRuns (s : State) (x : Nat) : Bool := s.isPowered (8 + x) && !s.isFenced (8 + x) && !s.unitStalled (0x26 + x)

/-- The first item for a slot in what the front end has sent. -/
def State.clrHead (s : State) (x sl : Nat) : Option ClrItem := ((s.clrQueue x).find? (fun p => p.1 == sl)).map (·.2)

/-- Take the first item for a slot. -/
def State.clrPop (s : State) (x sl : Nat) : State :=
  match (s.clrQueue x).find? (fun p => p.1 == sl) with
  | some e => s.setClrQueue x ((s.clrQueue x).erase e)
  | none => s

/-- Is a slot waiting on a ring? -/
def State.clrWaits (s : State) (x sl : Nat) : Bool :=
  match (s.clrSlot x sl).frame with | some f => f.waiting | none => false

/-- The status of the first check that an armed CLR_FRAME fails on a frame of `w` × `h` (R185, R195); 0 where all pass. -/
def State.clrFits (s : State) (c : ClrCmd) (w h : Nat) (split : Bool) : Nat :=
  let bad := c.outs.any (fun p =>
    (p.2.dest != 1 && decide (p.2.stride * 64 < w * bppOf p.2.format)) || (p.2.dest == 1 && split && w % 512 != 0))
  let reachBad := c.outs.any (fun p =>
    let bpp := bppOf p.2.format
    if p.2.dest = 0 then !inMemory s.variant p.2.addr ((h - 1) * p.2.stride * 64 + w * bpp)
    else if p.2.dest = 1 then
      !inMemory s.variant p.2.addr (blocksAcross w * ((h + 3) / 4) * 64 * bpp) ||
      !inMemory s.variant p.2.addr2 (hdrStride w * ((h + 3) / 4))
    else !(decide (combBase ≤ p.2.addr ∧ p.2.addr + p.2.lines * p.2.stride * 64 ≤ combTop)) ||
      !(decide (combBase ≤ p.2.addr2 ∧ p.2.addr2 + 64 ≤ combTop)))
  if bad then clrBadParams else if reachBad then stBadAddress else 0

/-- A frame opens on a slot (R193, R198): the frame counter steps, a bank set that is due becomes active. -/
def State.clrOpen (s : State) (x sl : Nat) (c : ClrCmd) (w h first ownFirst ownCols : Nat) (split : Bool) (port : Nat) : State :=
  let s := s.count (Reg.clrFrames x) 1
  let s := match (s.pendOf (5 + x)).find? (fun p => decide (p.frame ≤ (s.reg (Reg.clrFrames x)).toNat)) with
    | some p =>
      let v := (p.val (Reg.clrBankShadow x)).getD 0
      let s := s.setPend (5 + x) ((s.pendOf (5 + x)).erase p)
      ((s.setFld (Reg.clrBank x) 11 0 (v.toNat % 4096)).clrPendShow x).fire 117
    | none => s
  let ctrls := (c.outs.filter (fun p => p.2.dest == 2)).map (fun p => (p.1, p.2.addr2))
  let s := ctrls.foldl (fun s k => s.meet k.2 16) s
  let s := if split then s.splitMeet port else s
  let firsts := if split then s.splitFirst x port ctrls else ctrls.map (fun k => (k.1, k.2, s.ringWritten k.2))
  let s := if split then
      { s with splits := s.splits.map (fun r =>
          if r.port = port then
            { r with rings := firsts, number := if x = 0 then some (s.reg (Reg.clrFrames x)).toNat else r.number }
          else r) }
    else s
  let f : ClrOpen :=
    { cmd := c, w := w, h := h, first := first, ownFirst := ownFirst, ownCols := ownCols, split := split, port := port,
      number := (s.reg (Reg.clrFrames x)).toNat, banks := s.fld (Reg.clrBank x) 11 0, taken := 0, written := 0,
      win := [], packs := [], ringFirst := firsts.foldl (fun m k => sset 0 m k.1 k.2.2) [], ended := false, waiting := false, bad := false }
  let s := s.mapClrSlot x sl (fun r => { r with armed := none, frame := some f, unclaimed := false })
  (s.ringShow x f false false).clrShow x sl

/-- A frame that no CLR_FRAME claims is discarded (R193): on the split line the engine is done with it. -/
def State.clrUnclaimed (s : State) (x sl : Nat) (split : Bool) (port : Nat) : State :=
  let s := if split then (s.splitMeet port).mapSplit port (fun r => { r with done := setEngine x r.done true }) else s
  ((s.mapClrSlot x sl (fun c => { c with unclaimed := true })).bump (Reg.clrUnclaimed x) 15 0 1).fire 114

/-- CLR_FRAME_START_MARK (R193, R198): the checks that need the frame's size complete the descriptor here (R185, R195). -/
def doClrFrameStartMark (x sl : Nat) (s : State) : State :=
  if !s.clrRuns x || s.clrWaits x sl then s else
  match s.clrHead x sl with
  | some (.start w h first ownFirst ownCols split port) =>
    let s := s.clrPop x sl
    match (s.clrSlot x sl).armed, (s.clrSlot x sl).frame with
    | some c, none =>
      let st := s.clrFits c w h split
      if st ≠ 0 then
        let s := (s.mapClrSlot x sl (fun r => { r with armed := none })).clrShow x sl
        (s.complete (6 + x) c.tag st 0).clrUnclaimed x sl split port
      else s.clrOpen x sl c w h first ownFirst ownCols split port
    | _, _ => s.clrUnclaimed x sl split port
  | _ => s

/-- CLR_LINE (R169, R171, R193): the oldest line whose slot does not wait on a ring. -/
def doClrLine (x : Nat) (residue : Bool) (s : State) : State :=
  if !s.clrRuns x then s else
  let isLine (sl : Nat) : Bool :=
    !s.clrWaits x sl && (match s.clrHead x sl with | some (.line _ _) => true | _ => false)
  match (s.clrQueue x).find? (fun p => isLine p.1) with
  | some (sl, _) =>
    match s.clrHead x sl with
    | some (.line y row) =>
      let s := s.clrPop x sl
      let s := match (s.clrSlot x sl).frame with
        | some f =>
          let bal := row.zipIdx.map (fun p =>
            let g : Int := (f.cmd.wb.getD (cfaPhase f.cmd.cfa (f.first + p.2) y) 0 : Nat)
            { p.1 with v := clampS (ashr (p.1.v * g + 2048) 12) })
          (s.tally (0x26 + x) row.length).clrGo x sl { f with taken := y + 1, win := f.win ++ [(y, bal)] }
        | none => s
      if residue then (s.report (0x26 + x) 0 0x08 0).fire 118 else s
    | _ => s
  | none => s

/-- CLR_FRAME_END_MARK (R193, R194). -/
def doClrFrameEndMark (x sl : Nat) (s : State) : State :=
  if !s.clrRuns x || s.clrWaits x sl then s else
  match s.clrHead x sl with
  | some (.finish dropped) =>
    let s := s.clrPop x sl
    match (s.clrSlot x sl).frame with
    | some f => if dropped then s.clrClose x sl f clrInputDropped else s.clrGo x sl { f with ended := true }
    | none => s.mapClrSlot x sl (fun c => { c with unclaimed := false })
  | _ => s

/-- CLR_RING_ROOM (R187). -/
def doClrRingRoom (x sl : Nat) (s : State) : State :=
  match (s.clrSlot x sl).frame with
  | some f => if f.waiting && s.clrRuns x then s.clrGo x sl f else s
  | none => s

/-- CLR_RING_WAIT_THRESHOLD (R187): once for each wait. -/
def doClrRingWaitThreshold (x sl : Nat) (s : State) : State :=
  let c := s.clrSlot x sl
  if s.clrWaits x sl && !c.threshMade && s.fld (Reg.clrRingThresh x) 15 0 != 0 then
    ((s.setClrSlot x sl { c with threshMade := true }).bump (Reg.clrRingThresh x) 31 16 1).fire 119
  else s

/-- ABORT reaches a CLR_FRAME (R194); none when the tag is not one that is armed or open. -/
def State.clrAbort (s : State) (x tag : Nat) : Option State :=
  [0, 1].findSome? (fun sl =>
    let c := s.clrSlot x sl
    let openHit := match c.frame with | some f => f.cmd.tag == tag | none => false
    let armHit := match c.armed with | some a => a.tag == tag | none => false
    match openHit, armHit, c.frame with
    | true, _, some f => some ((s.mapClrSlot x sl (fun c => { c with unclaimed := true })).clrClose x sl f stAborted)
    | false, true, _ =>
      some (((s.mapClrSlot x sl (fun c => { c with armed := none })).clrShow x sl).complete (6 + x) tag stAborted 0)
    | _, _, _ => none)

end Sys2Proof.Machine
end

