-- ==== Sys2Proof/Machine/Cells.lean ====
section
/-!
DEFINITION. The cells: their registers, what an instruction that completes does, waits, stops, faults, starts
(spec/02_hive.md R59, R66, R68, R80, R86 to R88).
-/
namespace Sys2Proof.Machine

/-! Registers (R59). -/

/-- g[r]; g0 reads zero. -/
def CellSt.getG (c : CellSt) (r : Nat) : Word := if r = 0 then 0 else sget 0 c.g r
/-- Write g[r]; a write to g0 is discarded. -/
def CellSt.putG (c : CellSt) (r : Nat) (v : Word) : CellSt := if r = 0 then c else { c with g := sset 0 c.g r v }
/-- w[r]. -/
def CellSt.getW (c : CellSt) (r : Nat) : Quad := sget 0 c.w r
def CellSt.putW (c : CellSt) (r : Nat) (v : Quad) : CellSt := { c with w := sset 0 c.w r v }

/-- An instruction completes: pc moves on to `pc`, and it counts. -/
def CellSt.goto (c : CellSt) (pc : Word) : CellSt := { c with pc := pc, icount := c.icount + 1, paced := c.paced + 1 }
/-- An instruction completes. -/
def CellSt.retire (c : CellSt) : CellSt := c.goto (c.pc + 4)

/-- Is the cell running or waiting? -/
def CellSt.live (c : CellSt) : Bool := c.state == 2 || c.state == 3

/-- Does the cell carry out an instruction now: running, its domain powered, nothing waited for, no stage of it
stalled (R12)? -/
def State.cellRuns (s : State) (n : Nat) : Bool :=
  (s.cell n).state == 2 && (s.cell n).wait == .none && s.isPowered (cellDomain n) && !s.unitStalled (0x50 + n)

/-- A cell waits; `st` is what HIV_CELL_n_STATUS shows: 3 in WAIT, BAR and POST, 2 otherwise. -/
def State.cellWaits (s : State) (n st : Nat) (w : CellWait) : State :=
  s.mapCell n (fun c => { c with state := st, wait := w })

/-- The instruction a cell waits in completes, with the effect `f` on the cell. -/
def State.cellGoes (s : State) (n : Nat) (f : CellSt → CellSt) : State :=
  s.mapCell n (fun c => { f c.retire with state := 2, wait := .none })

/-! Barriers (R80). -/

def State.barrier (s : State) (b : Nat) : Barrier := sget ⟨0, []⟩ s.hive.barriers b

def State.setBarrier (s : State) (b : Nat) (x : Barrier) : State :=
  { s with hive := { s.hive with barriers := sset ⟨0, []⟩ s.hive.barriers b x } }

/-- Every cell that waits at barrier `b` leaves it with `v`, and it is free. -/
def State.barLeave (s : State) (b : Nat) (v : Word) : State :=
  let s := (List.range 8).foldl (fun s n =>
    match (s.cell n).wait with
    | .bar b' rd _ => if b' = b then s.cellGoes n (fun c => c.putG rd v) else s
    | _ => s) s
  s.setBarrier b ⟨0, []⟩

/-- Cell `n` leaves the barriers it has arrived at. -/
def State.barForget (s : State) (n : Nat) : State :=
  (List.range 4).foldl (fun s b =>
    let x := s.barrier b
    let l := x.arrived.filter (· != n)
    if x.arrived.contains n then s.setBarrier b (if l.isEmpty then ⟨0, []⟩ else { x with arrived := l }) else s) s

/-- A participant stops while others wait: they leave with 2. The barriers named in `but` are left alone. -/
def State.barStopped (s : State) (n : Nat) (but : List Nat) : State :=
  (List.range 4).foldl (fun s b =>
    let x := s.barrier b
    if x.mask.getLsbD n && !x.arrived.isEmpty && !but.contains b then s.barLeave b 2 else s) s

/-! Stops (R84, R87). -/

/-- A cell stops in state `st`: what it waited for is dropped (R66), barriers learn of it. -/
def State.halt (s : State) (n st cause exit : Nat) : State :=
  let s := s.mapCell n (fun c => { c with state := st, cause := cause, exitCode := exit, wait := .none })
  (s.barForget n).barStopped n []

/-- The state of a cell that is stopped without a fault or STOP: 1 with an image, 0 without. -/
def CellSt.restState (c : CellSt) : Nat := if c.image then 1 else 0

/-- A cell stops on a fault (R53, R86, R87): the instruction has no effect, events 73, 74 and 79, and a report. -/
def State.cellFaultAs (s : State) (n cause : Nat) (s' : State) : State :=
  let pc := (s.cell n).pc.toNat
  let s := s'.fire 73
  let s := if cause = 6 then s.fire 74 else s
  let s := if cause = 7 then s.fire 79 else s
  s.report (0x50 + n) n (if cause = 6 then 0x09 else 0x0A) pc

def State.cellFault (s : State) (n cause : Nat) : State := s.cellFaultAs n cause (s.halt n 5 cause 0)

/-- A cell stops on the mask mismatch of barrier `b`: that barrier is unaffected; others learn that it has stopped (R80). -/
def State.cellFaultApart (s : State) (n b cause : Nat) : State :=
  s.cellFaultAs n cause
    ((s.mapCell n (fun c => { c with state := 5, cause := cause, exitCode := 0, wait := .none })).barStopped n [b])

/-- The swarm COMMIT that a cell waits in returns, for groups and frames that `sel` chooses: SUCCESS with its frame, or LATE
with 0 (R74, R77). -/
def State.commitReturns (s : State) (sel : Nat → Nat → Bool) (apply : Bool) : State :=
  (List.range 8).foldl (fun s c =>
    match (s.cell c).wait with
    | .swarm rd rt g n =>
      if sel g n then s.cellGoes c (fun x =>
        (x.putG rt (if apply then 0x01 else 0x0D)).putG rd (if apply then BitVec.ofNat 32 n else 0))
      else s
    | _ => s) s

/-! Starts (R59, R86, R88). -/

/-- CSR_WDOG at a start: two frame periods in µs, rounded up, for a frame program (R86). -/
def CellSt.wdogInit (c : CellSt) : Word :=
  if c.framePeriod = 0 then 0 else BitVec.ofNat 32 ((c.framePeriod.toNat * 2 + 999) / 1000)

/-- A cell starts at its entry point. -/
def State.startCell (s : State) (n : Nat) (reason : Word) : State :=
  s.mapCell n (fun c =>
    { c with state := 2, cause := 0, exitCode := 0, pc := BitVec.ofNat 32 c.entry, g := sset 0 [] 1 reason, w := [],
             startReason := reason, dramBase := 0, wdog := c.wdogInit, icount := 0, wait := .none, hostStopped := false,
             loadStop := false })

/-! What a Hive domain loses with its power (R88). -/

/-- The completion queues of cell `n` are cleared; the tags of their items end (R40). -/
def State.clearCqs (s : State) (n : Nat) : State :=
  (List.range 8).foldl (fun s k =>
    let items := s.cq (8 * n + k)
    items.foldl (fun s i => s.endItemTag i) (s.setCq (8 * n + k) [])) s

/-- Data memory, completion queues, mailbox, pending bits and masks go; the alarm is disarmed. -/
def State.clearCell (s : State) (n : Nat) : State :=
  let s := (s.clearCqs n).zero (dmemBase n) dmemSize
  s.mapCell n (fun c => { c with inbox := [], evpend := 0, evmask := 0, alarm := .idle, alarmTime := 0 })

/-- The cells of domain `d` stop with it. -/
def State.cellsOff (s : State) (d : Nat) : State :=
  ((List.range 8).filter (fun n => cellDomain n == d)).foldl (fun s n =>
    let was := (s.cell n).live
    let s := s.halt n (s.cell n).restState 0 0
    let s := if was then s.fire 73 else s
    s.clearCell n) s

/-- The cells of domain `d` that hold an image and were not stopped by the host start again with g1 = 1, one whose image an image
load is about to replace among them (DESIGN CHOICE, log entry 47). -/
def State.cellsUp (s : State) (d : Nat) : State :=
  ((List.range 8).filter (fun n => cellDomain n == d)).foldl (fun s n =>
    if (s.cell n).image && !(s.cell n).hostStopped then s.startCell n 1 else s) s

end Sys2Proof.Machine
end

