-- ==== Sys2Proof/Machine/Cmp.lean ====
section
/-!
DEFINITION. The compositor: layers, sources, scaling, blending, line rings, late fetch, write-back, reports, tables
(spec/06_compositor.md R207 to R241).
-/
namespace Sys2Proof.Machine

def cmpWbDropped : Nat := 0x10
def cmpBadParams : Nat := 0x11
def cmpOutputBusy : Nat := 0x12
def cmpNotRunning : Nat := 0x14

def State.cmpOut (s : State) (o : Nat) : CmpOutSt := sget CmpOutSt.empty s.cmpOuts o
def State.setCmpOut (s : State) (o : Nat) (c : CmpOutSt) : State := { s with cmpOuts := sset CmpOutSt.empty s.cmpOuts o c }
def State.mapCmpOut (s : State) (o : Nat) (f : CmpOutSt → CmpOutSt) : State := s.setCmpOut o (f (s.cmpOut o))
def State.ringUse (s : State) (l : Nat) : RingUse := sget RingUse.empty s.cmpRings l
def State.setRingUse (s : State) (l : Nat) (r : RingUse) : State := { s with cmpRings := sset RingUse.empty s.cmpRings l r }

/-! Layer blocks (R239). -/

/-- A layer's block. -/
structure Layer where
  l : Nat
  enable : Bool
  output : Nat
  z : Nat
  format : Nat
  source : Nat
  premultiplied : Bool
  edge : Bool
  lutEn : Bool
  lutBank : Nat
  coefBank : Nat
  bt2020 : Bool
  full : Bool
  addr : Nat
  addr2 : Nat
  stride : Nat
  w : Nat
  h : Nat
  cropX : Nat
  cropY : Nat
  cropW : Nat
  cropH : Nat
  dstX : Int
  dstY : Int
  dstW : Nat
  dstH : Nat
  stepX : Nat
  stepY : Nat
  initX : Nat
  initY : Nat
  alpha : Nat
  clear : Nat
  ringLines : Nat
  deriving DecidableEq, Repr

/-- A layer's block from its registers, by index. -/
def layerOf (l : Nat) (r : Nat → Word) : Layer :=
  let b (i hi lo : Nat) : Nat := bitsOf (r i) hi lo
  { l := l, enable := b 0 31 31 == 1, output := b 0 30 30, z := b 0 27 24, format := b 0 23 20, source := b 0 19 18,
    premultiplied := b 0 17 17 == 1, edge := b 0 16 16 == 1, lutEn := b 0 15 15 == 1, lutBank := b 0 14 14,
    coefBank := b 0 13 13, bt2020 := b 0 12 12 == 1, full := b 0 11 11 == 1,
    addr := b 1 31 6 * 64 + b 2 15 0 * 2 ^ 32, addr2 := b 3 31 6 * 64 + b 4 15 0 * 2 ^ 32, stride := b 5 23 0,
    w := b 6 31 16, h := b 6 15 0, cropX := b 7 31 16, cropY := b 7 15 0, cropW := b 8 31 16, cropH := b 8 15 0,
    dstX := signed 16 (b 9 31 16), dstY := signed 16 (b 9 15 0), dstW := b 10 31 16, dstH := b 10 15 0,
    stepX := b 11 31 0, stepY := b 12 31 0, initX := b 13 15 0, initY := b 13 31 16, alpha := b 14 15 0,
    clear := b 15 31 0 + b 16 31 0 * 2 ^ 32, ringLines := b 17 15 0 }

/-- A layer's active block. -/
def State.layer (s : State) (l : Nat) : Layer := layerOf l (fun i => s.reg (Reg.cmpLACtrl l + 4 * i))

/-- Is the layer one of the video layers 0 to 7? -/
def Layer.video (y : Layer) : Bool := decide (y.l < 8)

/-- Does the layer take its pixels unscaled (R219, R220)? -/
def Layer.bypass (y : Layer) : Bool :=
  !y.video || (y.stepX == 0x10000 && y.stepY == 0x10000 && y.initX == 0 && y.initY == 0)

/-- Bytes of a source pixel; the luma plane's for format 4. -/
def Layer.bpp (y : Layer) : Nat := if y.format = 4 then 2 else if y.format = 5 then 4 else bppOf y.format

/-- Is the format allowed for the layer's kind and source (R213)? -/
def Layer.formatOk (y : Layer) : Bool :=
  let f := y.format
  (if y.video then decide (f ≤ 5) else f == 0 || f == 1 || f == 5) &&
  (if y.source = 0 then true else if y.source = 1 then f == 0 || f == 1
   else if y.source = 2 then y.video && decide (f ≤ 3) else false)

/-- The checks of R235 on an enabled layer, for every kind and source alike (DEDUCED, log entry 33). -/
def Layer.ok (v : Variant) (y : Layer) : Bool :=
  y.formatOk && inMemory v y.addr 64 && ((y.source == 0 && y.format != 4) || inMemory v y.addr2 64) &&
  decide (y.cropX + y.cropW ≤ y.w ∧ y.cropY + y.cropH ≤ y.h ∧ 0 < y.cropW ∧ 0 < y.cropH) &&
  decide (0x400 ≤ y.stepX ∧ y.stepX ≤ 0x80000 ∧ 0x400 ≤ y.stepY ∧ y.stepY ≤ 0x80000) &&
  (y.video || (y.dstW == y.cropW && y.dstH == y.cropH)) && decide (y.w * y.bpp ≤ y.stride * 64) && (y.source != 2 || decide (2 ≤ y.ringLines))

/-! Source pixels (R213 to R216). -/

def Rgba.map (f : Nat → Nat) (p : Rgba) : Rgba := ⟨f p.r, f p.g, f p.b, f p.a⟩
/-- Channel `c` of a pixel. -/
def Rgba.ch (p : Rgba) (c : Nat) : Nat := if c = 0 then p.r else if c = 1 then p.g else if c = 2 then p.b else p.a
def Rgba.ofFn (f : Nat → Nat) : Rgba := ⟨f 0, f 1, f 2, f 3⟩

/-- The address of source line `y`; for a ring, of the slot that holds it. -/
def State.srcLine (s : State) (ly : Layer) (y : Nat) : Nat :=
  if ly.source = 2 then
    let first := (s.ringUse ly.l).first.getD 0
    ly.addr + ((first + y) % 2 ^ 32 % ly.ringLines) * ly.stride * 64
  else ly.addr + y * ly.stride * 64

/-- The header address and the slot address of the block that holds a pixel of a packed surface (R188). -/
def blockAt (w bpp addr hdr x y : Nat) : Nat × Nat :=
  (hdr + (y / 4) * hdrStride w + x / 16, addr + ((y / 4) * blocksAcross w + x / 16) * 64 * bpp)

/-- The bytes of a block's slot that its mode stores (R189). -/
def slotUsed (bpp hdr : Nat) : Nat :=
  let m := nbits hdr 7 6
  if m = 0 then 64 * bpp else if m = 1 then min ((nbits hdr 4 0 + 1) * 32) (64 * bpp) else if m = 2 then 32 else 0

/-- A pixel of a packed surface: none when a word it comes from is poisoned; the clear value for a malformed block
(R192, R214, R215). -/
def State.packedPixel (s : State) (format clear w addr hdr x y : Nat) : Option Nat :=
  let bpp := bppOf format
  let (ha, sa) := blockAt w bpp addr hdr x y
  let hb := (s.byte ha).toNat
  let i := 16 * (y % 4) + x % 16
  if s.poisonedAt ha 1 then none
  else match unpackBlock format clear hb (s.bytes sa (slotUsed bpp hb)) with
    | none => some (clear % 2 ^ (8 * bpp))
    | some px =>
      if (if nbits hb 7 6 = 0 then s.poisonedAt (sa + i * bpp) bpp else s.poisonedAt sa (slotUsed bpp hb)) then none
      else some (px.getD i 0)

/-- A number in memory, none where it is poisoned. -/
def State.numIf (s : State) (a n : Nat) : Option Nat := if s.poisonedAt a n then none else some (s.num a n)

/-- Luma and chroma codes to a colour (R216 step 3); alpha is 1.0. -/
def yccToRgb (bt2020 full : Bool) (yv cb cr : Nat) : Rgba :=
  let kr : Int := if bt2020 then 2627 else 2126
  let kb : Int := if bt2020 then 593 else 722
  let dy : Int := if full then 1023 else 876
  let dc : Int := if full then 1023 else 896
  let yn : Int := if full then yv else (yv : Int) - 64
  let den := dy * dc * 10000
  let r := yn * dc * 10000 + 2 * (10000 - kr) * ((cr : Int) - 512) * dy
  let b := yn * dc * 10000 + 2 * (10000 - kb) * ((cb : Int) - 512) * dy
  let g := yn * dc * 100000000 - kr * r - kb * b
  let gd := den * (10000 - kr - kb)
  let q (n d : Int) : Nat := half (min n.toNat d.toNat) d.toNat
  ⟨q r den, q g gd, q b den, 0x3C00⟩

/-- The chroma pair (Cb, Cr) of column pair `j`, line `y`, before horizontal upsampling (R216 step 2). -/
def State.chromaAt (s : State) (ly : Layer) (j y : Nat) : Option (Nat × Nat) :=
  if ly.format = 3 then
    let a := s.srcLine ly y + 8 * j
    (s.numIf a 4).bind (fun u => (s.numIf (a + 4) 4).map (fun v => (nbits u 25 16, nbits v 25 16)))
  else
    let row (k : Nat) : Option (Nat × Nat) :=
      (s.numIf (ly.addr2 + k * ly.stride * 64 + 4 * j) 4).map (fun u => (nbits u 9 0, nbits u 25 16))
    let k := y / 2
    let o := mirror ((ly.h + 1) / 2) (if y % 2 = 0 then (k : Int) - 1 else (k : Int) + 1)
    (row k).bind (fun c => (row o).map (fun d => ((3 * c.1 + d.1 + 2) / 4, (3 * c.2 + d.2 + 2) / 4)))

/-- Steps 1 to 3 of R216 at source pixel (x, y); none for a pixel taken from a poisoned word. -/
def State.srcPixel (s : State) (ly : Layer) (x y : Nat) : Option Rgba :=
  if ly.format = 3 ∨ ly.format = 4 then
    let luma := (s.numIf (s.srcLine ly y + ly.bpp * x) ly.bpp).map (fun v => nbits v 9 0)
    let j := x / 2
    let c := if x % 2 = 0 then s.chromaAt ly j y
      else (s.chromaAt ly j y).bind (fun a =>
        (s.chromaAt ly (mirror ly.w ((x : Int) + 1) / 2) y).map (fun b => ((a.1 + b.1 + 1) / 2, (a.2 + b.2 + 1) / 2)))
    luma.bind (fun yv => c.map (fun c => yccToRgb ly.bt2020 ly.full yv c.1 c.2))
  else
    let raw := if ly.source = 1 then s.packedPixel ly.format ly.clear ly.w ly.addr ly.addr2 x y
      else s.numIf (s.srcLine ly y + ly.bpp * x) ly.bpp
    raw.map (fun v =>
      if ly.format = 0 then Rgba.ofFn (fun c => takeHalf (pixChannel 0 v c))
      else if ly.format = 1 then Rgba.ofFn (fun c => half (pixChannel 1 v c) (if c = 3 then 3 else 1023))
      else if ly.format = 2 then Rgba.ofFn (fun c => half (pixChannel 0 v c) 65535)
      else Rgba.ofFn (fun c => half (nbits v (8 * c + 7) (8 * c)) 255))

/-- Entry `e` of a 16-bit table of the compositor from word `base`. -/
def State.cmpEntry (s : State) (t b base e : Nat) : Nat :=
  nbits (s.tbl 0x2A t b (base + e / 8)).toNat (16 * (e % 8) + 15) (16 * (e % 8))

/-- The input LUT of a video layer on channel `c` (R216 step 4). -/
def State.inputLut (s : State) (ly : Layer) (c v : Nat) : Nat :=
  let x : Nat := (clampI 0 (2 ^ 24) (ofHalf v)).toNat
  let i : Nat := min (x / 2 ^ 14) 1023
  let f : Int := (x : Int) - i * 2 ^ 14
  let e (k : Nat) : Int := ofHalf (s.cmpEntry (2 * ly.l + 1) ly.lutBank (129 * c) k)
  rn16 (e i * 2 ^ 14 + (e (i + 1) - e i) * f) 38

/-- The product of two binary16 patterns, RN16. -/
def mulHalf (a b : Nat) : Nat := rn16 (ofHalf a * ofHalf b) 48

/-- The words of a layer's input LUT that a source pixel reads (R216 step 4, R233). -/
def State.lutWords (s : State) (ly : Layer) (x y : Nat) : List Nat :=
  match s.srcPixel ly x y with
  | none => []
  | some p =>
    if ly.video && ly.lutEn then
      [0, 1, 2].flatMap (fun c =>
        let i := min ((clampI 0 (2 ^ 24) (ofHalf (p.ch c))).toNat / 2 ^ 14) 1023
        [129 * c + i / 8, 129 * c + (i + 1) / 8])
    else []

/-- Is a word of a layer's tables uncorrectable: its LUT's, or its coefficients'? -/
def State.layerTblBad (s : State) (ly : Layer) (lut : Bool) (w : Nat) : Bool :=
  s.badWord (if lut then tblWord 0x2A (2 * ly.l + 1) ly.lutBank w else tblWord 0x2A (2 * ly.l) ly.coefBank w)

/-- A source pixel after steps 1 to 5 of R216, premultiplied; transparent when a source word is poisoned (R215), or a word of its LUT
(DESIGN CHOICE, log entry 33). -/
def State.premult (s : State) (ly : Layer) (x y : Nat) : Rgba :=
  match s.srcPixel ly x y with
  | none => Rgba.zero
  | some p =>
    if (s.lutWords ly x y).any (s.layerTblBad ly true) then Rgba.zero else
    let p := if ly.video && ly.lutEn then ⟨s.inputLut ly 0 p.r, s.inputLut ly 1 p.g, s.inputLut ly 2 p.b, p.a⟩ else p
    if ly.premultiplied then p else ⟨mulHalf p.r p.a, mulHalf p.g p.a, mulHalf p.b p.a, p.a⟩

/-- The source pixel that a position takes, by the crop rectangle and edge; none outside it for a transparent edge (R218). -/
def Layer.crop (ly : Layer) (x y : Int) : Option (Nat × Nat) :=
  let hx : Int := (ly.cropX + ly.cropW - 1 : Nat)
  let hy : Int := (ly.cropY + ly.cropH - 1 : Nat)
  if ly.edge && (decide (x < ly.cropX) || decide (hx < x) || decide (y < ly.cropY) || decide (hy < y)) then none
  else some ((clampI ly.cropX hx x).toNat, (clampI ly.cropY hy y).toNat)

/-- The premultiplied pixel at any source position. -/
def State.cropped (s : State) (ly : Layer) (x y : Int) : Rgba :=
  match ly.crop x y with | some p => s.premult ly p.1 p.2 | none => Rgba.zero

/-! Scaling (R217 to R220). -/

/-- The source position of destination coordinate `d`, 16 fractional bits. -/
def scalePos (crop init d step : Nat) : Nat := crop * 65536 + init + d * step

/-- Tap `t` of phase `p` of a layer's coefficient table; `vert` the vertical part (R233). -/
def State.coef (s : State) (ly : Layer) (vert : Bool) (p t : Nat) : Int :=
  signed 16 (if vert then s.cmpEntry (2 * ly.l) ly.coefBank 64 (6 * p + t) else s.cmpEntry (2 * ly.l) ly.coefBank 0 (8 * p + t))

/-- RN16 of Σ tap × sample / 1,024. -/
def tapSum (l : List (Int × Nat)) : Nat := rn16 ((l.map (fun p => p.1 * ofHalf p.2)).sum) 34

/-- The words of a layer's coefficient table that destination pixel (dx, dy) reads (R217, R233). -/
def Layer.coefWords (ly : Layer) (dx dy : Nat) : List Nat :=
  if ly.bypass then []
  else
    let fy := scalePos ly.cropY ly.initY dy ly.stepY / 1024 % 64
    [scalePos ly.cropX ly.initX dx ly.stepX / 1024 % 64, 64 + 6 * fy / 8, 64 + (6 * fy + 5) / 8]

/-- The table words that destination pixel (dx, dy) of a layer reads: of the LUT (true) and of the coefficients. -/
def State.layerReads (s : State) (ly : Layer) (dx dy : Nat) : List (Bool × Nat) :=
  let at_ (x y : Int) : List (Bool × Nat) :=
    match ly.crop x y with | some p => (s.lutWords ly p.1 p.2).map (fun w => (true, w)) | none => []
  let src := if ly.bypass then at_ (ly.cropX + dx : Nat) (ly.cropY + dy : Nat)
    else
      let ix : Int := (scalePos ly.cropX ly.initX dx ly.stepX / 65536 : Nat)
      let iy : Int := (scalePos ly.cropY ly.initY dy ly.stepY / 65536 : Nat)
      (List.range 8).flatMap (fun k => (List.range 6).flatMap (fun t => at_ (ix - 3 + (k : Nat)) (iy - 2 + (t : Nat))))
  src ++ (ly.coefWords dx dy).map (fun w => (false, w))

/-- Steps 6 and 7 of R216 at destination pixel (dx, dy); transparent when a coefficient's word is uncorrectable (DESIGN CHOICE, log
entry 33). -/
def State.layerPixel (s : State) (ly : Layer) (dx dy : Nat) : Rgba :=
  if (ly.coefWords dx dy).any (s.layerTblBad ly false) then Rgba.zero else
  let p := if ly.bypass then s.cropped ly (ly.cropX + dx : Nat) (ly.cropY + dy : Nat)
    else
      let px := scalePos ly.cropX ly.initX dx ly.stepX
      let py := scalePos ly.cropY ly.initY dy ly.stepY
      let fx := px / 1024 % 64
      let fy := py / 1024 % 64
      let hrow (t : Nat) : Rgba :=
        let src := (List.range 8).map (fun k =>
          (s.coef ly false fx k, s.cropped ly ((px / 65536 : Nat) - 3 + k) ((py / 65536 : Nat) - 2 + t)))
        Rgba.ofFn (fun c => tapSum (src.map (fun q => (q.1, q.2.ch c))))
      let rows := (List.range 6).map (fun t => (s.coef ly true fy t, hrow t))
      Rgba.ofFn (fun c =>
        let v := tapSum (rows.map (fun q => (q.1, q.2.ch c)))
        if c = 3 then (if ofHalf v < 0 then 0 else if 2 ^ 24 < ofHalf v then 0x3C00 else v) else if ofHalf v < 0 then 0 else v)
  if ly.alpha = 0x3C00 then p else p.map (fun c => mulHalf c ly.alpha)

/-- One layer over another (R221). -/
def blendOver (d p : Rgba) : Rgba :=
  let one := 2 ^ 24 - ofHalf p.a
  Rgba.ofFn (fun c => rn16 (ofHalf (p.ch c) * 2 ^ 24 + ofHalf (d.ch c) * one) 48)

/-- The background of an output, with alpha 1.0. -/
def State.background (s : State) (o : Nat) : Rgba :=
  ⟨takeHalf (s.fld (Reg.cmpOutAct0 o) 15 0), takeHalf (s.fld (Reg.cmpOutAct0 o) 31 16),
    takeHalf (s.fld (Reg.cmpOutAct1 o) 15 0), 0x3C00⟩

/-! Lines. -/

/-- Does the layer cover some pixel of line `n` of the frame's part of the canvas? -/
def Layer.covers (y : Layer) (f : CmpFrame) (n : Nat) : Bool :=
  decide (y.dstY ≤ n ∧ (n : Int) < y.dstY + y.dstH ∧ y.dstX < (f.x0 + f.w : Nat) ∧ (f.x0 : Int) < y.dstX + y.dstW)

/-- The layers of the frame that cover line `n`, in stacking order, those switched off apart. -/
def State.covering (s : State) (f : CmpFrame) (n : Nat) : List Layer :=
  ((f.layers.filter (fun l => !f.off.contains l)).map s.layer).filter (fun y => y.covers f n)

/-- Line `n` of an output's picture (R221). -/
def State.composeLine (s : State) (o : Nat) (f : CmpFrame) (n : Nat) : List Rgba :=
  let ls := s.covering f n
  (List.range f.w).map (fun i =>
    let x : Int := (f.x0 + i : Nat)
    ls.foldl (fun d y =>
      if y.dstX ≤ x ∧ x < y.dstX + y.dstW then blendOver d (s.layerPixel y (x - y.dstX).toNat ((n : Int) - y.dstY).toNat) else d)
      (s.background o))

/-- The table words that line `n` reads meet their errors, once each (R25). -/
def State.meetLayers (s : State) (f : CmpFrame) (n : Nat) : State :=
  if s.flaws.isEmpty then s else
  (s.covering f n).foldl (fun s0 y =>
    let xs := (List.range f.w).filter (fun i => decide (y.dstX ≤ ((f.x0 + i : Nat) : Int) ∧ ((f.x0 + i : Nat) : Int) < y.dstX + y.dstW))
    (xs.flatMap (fun i => s.layerReads y (((f.x0 + i : Nat) : Int) - y.dstX).toNat ((n : Int) - y.dstY).toNat)).eraseDups.foldl
      (fun s r => if r.1 then s.meetTbl 0x2A (2 * y.l + 1) y.lutBank r.2 else s.meetTbl 0x2A (2 * y.l) y.coefBank r.2) s0) s

/-- The source rows that a layer needs for line `n`, first and last. -/
def Layer.rows (y : Layer) (n : Nat) : Nat × Nat :=
  let dy := ((n : Int) - y.dstY).toNat
  let hy := y.cropY + y.cropH - 1
  if y.bypass then (min (y.cropY + dy) hy, min (y.cropY + dy) hy)
  else
    let i : Int := (scalePos y.cropY y.initY dy y.stepY / 65536 : Nat)
    ((clampI y.cropY hy (i - 2)).toNat, (clampI y.cropY hy (i + 3)).toNat)

/-- The source columns that a layer needs for the frame's part of the canvas, first and last. -/
def Layer.cols (y : Layer) (f : CmpFrame) : Nat × Nat :=
  let lo := (max y.dstX f.x0 - y.dstX).toNat
  let hi := (min (y.dstX + y.dstW) (f.x0 + f.w : Nat) - 1 - y.dstX).toNat
  let hx := y.cropX + y.cropW - 1
  if y.bypass then (min (y.cropX + lo) hx, min (y.cropX + hi) hx)
  else
    ((clampI y.cropX hx ((scalePos y.cropX y.initX lo y.stepX / 65536 : Nat) - 3)).toNat,
      (clampI y.cropX hx ((scalePos y.cropX y.initX hi y.stepX / 65536 : Nat) + 4)).toNat)

/-- The words that a layer fetches with source row `r`, columns `c0` to `c1`, and its malformed blocks. `fresh` says that
the row's block row has not been fetched yet, `after` that the row above it has. -/
def State.fetched (s : State) (y : Layer) (r c0 c1 : Nat) (fresh after : Bool) : List Nat × Nat :=
  if y.source = 1 then
    if !fresh then ([], 0) else
    (List.range (c1 / 16 + 1 - c0 / 16)).foldl (fun a i =>
      let (ha, sa) := blockAt y.w y.bpp y.addr y.addr2 (16 * (c0 / 16 + i)) r
      let hb := (s.byte ha).toNat
      let bad := !s.poisonedAt ha 1 && (unpackBlock y.format y.clear hb (s.bytes sa (slotUsed y.bpp hb))).isNone
      (a.1 ++ wordsOf ha 1 ++ wordsOf sa (slotUsed y.bpp hb), a.2 + bad.toNat)) ([], 0)
  else
    let pairs := (if c1 % 2 = 1 ∧ c1 + 1 < y.w then c1 / 2 + 1 else c1 / 2) + 1 - c0 / 2
    let main := if y.format = 3 then wordsOf (s.srcLine y r + c0 / 2 * 8) (pairs * 8)
      else wordsOf (s.srcLine y r + c0 * y.bpp) ((c1 - c0 + 1) * y.bpp)
    let beside := mirror ((y.h + 1) / 2) (if r % 2 = 0 then (r / 2 : Nat) - 1 else (r / 2 : Nat) + 1)
    let need := if y.format ≠ 4 then [] else if !after then [r / 2, beside].eraseDups
      else if r % 2 = 1 ∧ beside = r / 2 + 1 then [beside] else []
    (main ++ need.flatMap (fun k => wordsOf (y.addr2 + k * y.stride * 64 + c0 / 2 * 4) (pairs * 4)), 0)

/-- Do event `e` `n` times. -/
def State.fireTimes (s : State) (n e : Nat) : State := (List.range n).foldl (fun s _ => s.fire e) s

/-- A layer fetches the rows it needs for line `n` that it has not fetched yet: poisoned words and malformed blocks are
counted and reported (R214, R215), unmapped rows are access faults (R48). -/
def State.fetchFor (s : State) (f : CmpFrame) (y : Layer) (n : Nat) : State × CmpFrame :=
  let (lo, hi) := y.rows n
  let (c0, c1) := y.cols f
  let next := max lo (sget 0 f.rows y.l)
  let rs := (List.range (hi + 1 - next)).map (· + next)
  let got := rs.map (fun r => s.fetched y r c0 c1 (r % 4 == 0 || r == next && (sget 0 f.rows y.l == 0 || decide (sget 0 f.rows y.l ≤ r / 4 * 4)))
    (decide (next < r) || sget 0 f.rows y.l == r && r != 0))
  let words := (got.flatMap (·.1)).eraseDups
  let bad := (words.filter (fun w => s.badWord w || s.onFailed (16 * w))).length
  let mal := (got.map (·.2)).sum
  let s := match words.find? (fun w => !inMemory s.variant (16 * w) 16) with
    | some w => s.accessFault (.unit 0x28) false (16 * w)
    | none => s
  let s := if s.flaws.isEmpty then s else words.foldl State.meetWord s
  let s := s.bump (Reg.cmpLCount y.l) 15 8 bad
  let s := (List.range bad).foldl (fun s _ => (s.report 0x28 y.l 0x02 0).fire 124) s
  let s := s.bump (Reg.cmpLCount y.l) 23 16 mal
  let first := decide (0 < mal) && !f.malMade.contains y.l
  let s := if first then s.fire 123 else s
  (s, { f with rows := sset 0 f.rows y.l (max (hi + 1) (sget 0 f.rows y.l)), malformed := f.malformed + mal,
               poisoned := f.poisoned + bad, malMade := if first then f.malMade ++ [y.l] else f.malMade })

/-! Line rings (R223, R224). -/

/-- Modulo 2³², is `a` ahead of `b`? -/
def ahead (a b : Nat) : Bool := let d := (a + 2 ^ 32 - b % 2 ^ 32) % 2 ^ 32; decide (0 < d ∧ d < 2 ^ 31)

/-- A ring layer without a ring frame takes the one that word 0 shows, when it is newer than the one used last. -/
def State.ringSelect (s : State) (y : Layer) : State :=
  let s := s.meet y.addr2 16
  let u := s.ringUse y.l
  let number := s.num (y.addr2 + 12) 4
  if u.first.isNone && (match u.last with | none => true | some l => ahead number l) then
    s.setRingUse y.l ⟨some number, some (s.num (y.addr2 + 8) 4)⟩
  else s

/-- Is source row `r` of a ring layer available? -/
def State.ringHas (s : State) (y : Layer) (r : Nat) : Bool :=
  match (s.ringUse y.l).first with
  | some first => ahead (s.ringWritten y.addr2) (first + r)
  | none => false

/-- Raise released_total of a ring to ring line `v`, or to written_total if that is lower. -/
def State.ringRelease (s : State) (y : Layer) (v : Nat) : State :=
  let w := s.ringWritten y.addr2
  let v := if ahead v w then w else v
  if ahead v (s.ringReleased y.addr2) then s.unitStore 0x28 (y.addr2 + 20) (leBytes 4 v) else s

/-- A ring layer is done with its frame (R224). -/
def State.ringDone (s : State) (y : Layer) : State :=
  match (s.ringUse y.l).first with
  | some first =>
    (s.ringRelease y ((first + y.cropY + y.cropH) % 2 ^ 32)).setRingUse y.l { s.ringUse y.l with first := none }
  | none => s

/-- Does the other output of a locked pair still compose lines of a layer, and how many has it composed (R209, R224)? -/
def State.otherNeeds (s : State) (o : Nat) (f : CmpFrame) (y : Layer) : Option Nat :=
  match (s.cmpOut (1 - o)).frame with
  | some g =>
    if s.locked && !f.memory && !g.memory && g.layers.contains y.l && !g.off.contains y.l &&
        decide (y.dstX < (g.x0 + g.w : Nat) ∧ (g.x0 : Int) < y.dstX + y.dstW ∧ (g.line : Int) < y.dstY + y.dstH ∧ g.line < g.h)
    then some g.line else none
  | none => none

/-- With line `n` the next to come, a ring layer releases what no line to come can need (R224). -/
def State.ringFrom (s : State) (y : Layer) (n h : Nat) : State :=
  match (s.ringUse y.l).first with
  | some first =>
    let m := max n y.dstY.toNat
    if h ≤ m ∨ y.dstY + y.dstH ≤ (m : Int) then s.ringRelease y ((first + y.cropY + y.cropH) % 2 ^ 32)
    else s.ringRelease y ((first + (y.rows m).1) % 2 ^ 32)
  | none => s

/-- The ring layers of a frame release what neither it, from line `n` on, nor the other output of a locked pair needs any more. -/
def State.ringsFrom (s : State) (o : Nat) (f : CmpFrame) (n : Nat) : State :=
  ((f.layers.filter (fun l => !f.off.contains l)).map s.layer).foldl
    (fun s y =>
      if y.source = 2 then
        match s.otherNeeds o f y with
        | none => if f.h ≤ n then s.ringDone y else s.ringFrom y n f.h
        | some k => s.ringFrom y (min n k) f.h
      else s) s

/-! Write-back (R229 to R231). -/

/-- The words of an encode table that value `v` of channel `k` reads (R178, R233). -/
def encWords (k v : Nat) : List Nat :=
  let i := (if v / 32768 = 0 then v else 0) / 8
  [512 * k + i / 8, 512 * k + (i + 1) / 8]

/-- A pixel's stored form and the codes of its line under a write-back's encode table (R230); an uncorrectable word of the table gives
code 0, since no poison reaches the write-back (R215; DESIGN CHOICE, log entry 33). -/
def State.wbLine (s : State) (o n : Nat) (c : WbCmd) (px : List Rgba) : List (Nat × Bool) :=
  let enc (k v : Nat) : Nat :=
    if (encWords k v).any (fun w => s.badWord (tblWord 0x2A (16 + o) c.encBank w)) then 0
    else shaper (s.cmpEntry (16 + o) c.encBank (512 * k)) v
  if c.format = 0 then px.map (fun p => (p.r + p.g * 2 ^ 16 + p.b * 2 ^ 32 + p.a * 2 ^ 48, false))
  else if c.format = 1 then
    px.map (fun p =>
      let q (k : Nat) : Nat := min ((enc k (p.ch k) + 32) / 64) 1023
      (q 0 + q 1 * 2 ^ 10 + q 2 * 2 ^ 20 + 3 * 2 ^ 30, false))
  else
    let e (i k : Nat) : Nat := enc k ((px.getD i Rgba.zero).ch k) * fixOne / 65535
    let ycc (i : Nat) := yccOf c.ycc2020 (e i 0) (e i 1) (e i 2)
    (List.range px.length).map (fun i =>
      let up (k : Nat) : Bool := Config.freeCode n (k * 2 ^ 15 + i)
      let even := i - i % 2
      let at_ (k : Int) : Int := let t := ycc (mirror px.length k); if i % 2 = 0 then t.2.1 else t.2.2
      let cc := (at_ ((even : Int) - 1) + 2 * at_ even + at_ ((even : Int) + 1)) / 4
      let yy := (ycc i).1
      let yc := if c.full then roundCode (up 0) (1023 * yy) else roundCode (up 0) ((219 * yy + 16 * (fixOne : Nat)) * 4)
      (yc + 65536 * quantiseC c.full (up 1) cc, false))

/-- A write-back ends (R231, R238). -/
def State.wbClose (s : State) (o : Nat) (w : WbOpen) (status : Nat) : State :=
  let s := if w.rows.isEmpty then s
    else s.packRow 0x28 w.cmd.format w.cmd.clearEn w.cmd.clear w.cmd.addr w.cmd.addr2 w.cmd.w ((w.written - 1) / 4) 0
      (w.rows ++ List.replicate (4 - w.rows.length) (w.rows.getLastD []))
  let s := s.mapCmpOut o (fun c => { c with wbOpen := none })
  let first := if status = stSuccess then 0xFFFF else w.written
  let s := s.complete 8 w.cmd.tag status (BitVec.ofNat 64 (w.number * 2 ^ 32 + w.written * 65536 + first))
  if status = stSuccess then s.fire 125 else if status = cmpWbDropped then s.fire 126 else s

/-- Write the next line of a write-back. -/
def State.wbPut (s : State) (o : Nat) (w : WbOpen) (px : List Rgba) : State × WbOpen :=
  let c := w.cmd
  let line := s.wbLine o s.fresh c px
  let s := if s.flaws.isEmpty || !c.encEn then s else
    (px.flatMap (fun p => [0, 1, 2].flatMap (fun k => encWords k (p.ch k)))).eraseDups.foldl
      (fun s w => s.meetTbl 0x2A (16 + o) c.encBank w) s
  let s := { s with fresh := s.fresh + 1 }
  let bpp := bppOf c.format
  if !c.packed then (s.storePixels 0x28 (c.addr + w.written * c.stride * 64) bpp line, { w with written := w.written + 1 })
  else
    let rows := w.rows ++ [line]
    if rows.length = 4 then
      (s.packRow 0x28 c.format c.clearEn c.clear c.addr c.addr2 c.w (w.written / 4) 0 rows,
        { w with written := w.written + 1, rows := [] })
    else (s, { w with written := w.written + 1, rows := rows })

/-- The columns of line `y` that output `o` composed reach an open write-back of output `h` (R231). -/
def State.wbTake (s : State) (h o y x0 : Nat) (px : List Rgba) (split : Option Nat) (wbFull : Bool) : State :=
  match (s.cmpOut h).wbOpen with
  | none => s
  | some w =>
    let c := w.cmd
    if y < c.y ∨ c.y + c.h ≤ y then s
    else if wbFull then s.wbClose h w cmpWbDropped
    else
      let lo := max c.x x0
      let cut := (px.drop (lo - x0)).take (c.x + c.w - lo)
      let parts := sset [] w.parts (2 * y + o) cut
      let whole := match split with
        | none => some cut
        | some p =>
          let a := sget [] parts (2 * y)
          let b := sget [] parts (2 * y + 1)
          if (decide (c.x < p) && a.isEmpty) || (decide (p < c.x + c.w) && b.isEmpty) then none else some (a ++ b)
      match whole with
      | some line =>
        let parts := sset [] (sset [] parts (2 * y) []) (2 * y + 1) []
        let (s, w) := s.wbPut h { w with parts := parts } line
        let s := s.mapCmpOut h (fun r => { r with wbOpen := some w })
        if w.written = c.h then s.wbClose h w stSuccess else s
      | none => s.mapCmpOut h (fun r => { r with wbOpen := some { w with parts := parts } })

/-- An armed write-back is claimed by a frame on a canvas `w` × `h` (R229). -/
def State.wbClaim (s : State) (o number w h : Nat) : State :=
  match (s.cmpOut o).wbArmed with
  | some c =>
    let s := s.mapCmpOut o (fun r => { r with wbArmed := none })
    if w < c.x + c.w ∨ h < c.y + c.h then s.complete 8 c.tag cmpBadParams 0
    else s.mapCmpOut o (fun r => { r with wbOpen := some ⟨c, number, [], 0, []⟩ })
  | none => s

/-! Frames. -/

/-- Show the running bits, the lock and the lines of CMP_STATUS. -/
def State.cmpShow (s : State) : State :=
  let line (o : Nat) : Nat := match (s.cmpOut o).frame with | some f => f.line % 16384 | none => 0
  let busy := [0, 1].any (fun o => match (s.cmpOut o).frame with | some f => f.memory | none => false)
  s.setReg Reg.cmpStatus (packBits [(s.locked.toNat, 31), ((s.genRuns 0).toNat, 30), ((s.genRuns 1).toNat, 29),
    (busy.toNat, 28), (line 1, 14), (line 0, 0)])

/-- The four words of a frame report are written and its descriptor completes (R237). -/
def State.cmpReportDone (s : State) (o : Nat) (f : CmpFrame) : State :=
  match (s.cmpOut o).repOpen with
  | some (tag, addr) =>
    let s := s.mapCmpOut o (fun r => { r with repOpen := none })
    let late := (f.lateLine.map (fun p => 2 ^ p.1)).sum
    let lateOf (k : Nat) : Nat := match f.lateLine.find? (fun p => p.1 == k) with | some p => p.2 | none => 0xFFFF
    let w0 := f.number * 2 ^ 96 + f.latch % 2 ^ 32 * 2 ^ 64 + late * 2 ^ 48 + f.invalid * 2 ^ 32 + f.held * 2 ^ 16 +
      (s.epoch 10).toNat * 256
    let wl (j : Nat) : Nat := ((List.range 8).map (fun r => lateOf (8 * j + r) * 2 ^ (16 * r))).sum
    let c32 (n : Nat) : Nat := min n (2 ^ 32 - 1)
    let w3 := c32 f.malformed * 2 ^ 96 + c32 f.poisoned * 2 ^ 64 + c32 f.misses * 2 ^ 32 + c32 f.undelivered
    let s := s.unitStore 0x28 addr (leBytes 16 w0 ++ leBytes 16 (wl 0) ++ leBytes 16 (wl 1) ++ leBytes 16 w3)
    s.complete 8 tag stSuccess (BitVec.ofNat 64 (f.number * 2 ^ 32 + 0xFFFF))
  | none => s

/-- The layers of an output's picture, in stacking order: those that R235 lets in; with the mask of those it does not
(R208, R209, R221). -/
def State.cmpLayers (s : State) (o : Nat) : List Nat × Nat :=
  let mine := ((List.range 16).map s.layer).filter (fun y => y.enable && (s.locked || y.output == o))
  let good := mine.filter (Layer.ok s.variant)
  let bad := mine.filter (fun y => !Layer.ok s.variant y)
  (((List.range 16).flatMap (fun z => good.filter (fun y => y.z == z))).map (·.l), (bad.map (fun y => 2 ^ y.l)).sum)

/-- A frame of an output begins: layers checked, rings selected (R210, R223, R235); of a locked pair, once for both. -/
def State.cmpBegin (s : State) (o : Nat) (memory : Bool) (w h x0 held : Nat) : State :=
  let (ls, bad) := s.cmpLayers o
  let mine := (List.range 16).filter (fun l => s.locked || (s.layer l).output == o)
  let mask := (mine.map (fun l => 2 ^ l)).sum
  let inv := s.fld Reg.cmpLayerInvalid 31 16
  let s := s.setFld Reg.cmpLayerInvalid 31 16 ((inv &&& (0xFFFF - mask)) ||| bad)
  let again := s.locked && o == 1 && !memory
  let s := if again then s else s.fireTimes ((List.range 16).filter (fun l => bad.testBit l)).length 132
  let late := s.fld Reg.cmpLateMask 15 0
  let s := s.setFld Reg.cmpLateMask 15 0 (late &&& (0xFFFF - mask))
  let rings := (ls.map s.layer).filter (fun y => y.source == 2)
  let step := fun (a : State × Nat) (y : Layer) =>
    let s := if again then a.1 else (a.1.setRingUse y.l { a.1.ringUse y.l with first := none }).ringSelect y
    if (s.ringUse y.l).first.isSome then (s, a.2)
    else (if again then s else s.bump (Reg.cmpLCount y.l) 7 0 1, a.2 + 1)
  let (s, misses) := rings.foldl step (s, 0)
  let wb := if s.locked && !memory then 0 else o
  let f : CmpFrame :=
    { memory := memory, number := (s.reg (Reg.cmpFrames o)).toNat, latch := if memory then s.now else (s.cmpOut o).latchAt,
      w := w, h := h, x0 := x0, layers := ls,
      off := [], line := 0, lateLine := [], invalid := bad, held := held, malformed := 0, poisoned := 0, misses := misses,
      undelivered := 0, rows := [], malMade := [],
      enc := (s.cmpOut wb).wbOpen.bind (fun w => if w.cmd.encEn then some (16 + wb, w.cmd.encBank) else none) }
  let s := s.mapCmpOut o (fun c => { c with frame := some f, eq := [] })
  (if again then s else s.ringsFrom o f 0).cmpShow

/-- What stands unfinished of an output's last frame ends at its next latch point, or when its generator stops (R212; DESIGN CHOICE, log
entry 33); a frame claimed and never composed too. -/
def State.cmpEnd (s : State) (o : Nat) : State :=
  let c := s.cmpOut o
  let frame := match c.frame with
    | some f => some f
    | none => if c.wbOpen.isSome || c.repOpen.isSome then some (.blank (s.reg (Reg.cmpFrames o)).toNat c.latchAt) else none
  match frame with
  | none => s
  | some f =>
    let s := (f.layers.map s.layer).foldl (fun s y => if y.source = 2 then s.ringDone y else s) s
    let s := match (s.cmpOut o).wbOpen with | some w => s.wbClose o w cmpWbDropped | none => s
    let s := s.cmpReportDone o f
    s.mapCmpOut o (fun c => { c with frame := none })

/-- Write a set's staged values to the active blocks of the layers and outputs (R211): a visible layer that would change
its output keeps its block under a commit of group 0 or 1. Answers the mask of the layers held. -/
def State.cmpApply (s : State) (p : PendSet) (pair : Bool) : State × Nat :=
  let one := fun (a : State × Nat) (l : Nat) =>
    let (s, held) := a
    match p.val (Reg.cmpLCtrl l) with
    | none => a
    | some v =>
      let act := s.reg (Reg.cmpLACtrl l)
      if !pair && bitsOf act 31 31 == 1 && bitsOf v 30 30 != bitsOf act 30 30 then (s.fire 128, held + 2 ^ l)
      else
        let s := if bitsOf v 31 31 = 1 ∧ bitsOf act 31 31 = 0 then s.setRingUse l RingUse.empty else s
        ((List.range 18).foldl (fun s i =>
          match p.val (Reg.cmpLCtrl l + 4 * i) with | some v => s.setReg (Reg.cmpLACtrl l + 4 * i) v | none => s) s, held)
  let (s, held) := (List.range 16).foldl one (s, 0)
  ([0, 1].foldl (fun s o =>
    let s := match p.val (Reg.cmpOut0 o) with | some v => s.setReg (Reg.cmpOutAct0 o) v | none => s
    match p.val (Reg.cmpOut1 o) with | some v => s.setReg (Reg.cmpOutAct1 o) v | none => s) s, held)

/-- The held bits that a latch point of output `o` leaves (R211): unlocked, those of the layers it shows, which the other
output's commits hold; of a locked pair, A's for B. -/
def State.heldElsewhere (s : State) (o : Nat) : Nat :=
  let mask := (((List.range 16).filter (fun l => (s.layer l).output == o)).map (fun l => 2 ^ l)).sum
  if s.locked then (if o = 0 then 0 else s.fld Reg.cmpLayerInvalid 15 0) else s.fld Reg.cmpLayerInvalid 15 0 &&& mask

/-- The latch point of output `o` as the compositor sees it (R210): the counter steps and a set that is due becomes
active. `pair` is a set of group 4 that lands with it. Answers the mask of the layers held. -/
def State.cmpLatch (s : State) (o : Nat) (pair : Option PendSet) : State × Nat :=
  if !s.isPowered 10 || s.isFenced 10 then (s, 0) else
  let keep := s.heldElsewhere o
  let s := ((s.cmpEnd o).count (Reg.cmpFrames o) 1).mapCmpOut o (fun c => { c with latchAt := s.now })
  let s := s.fire (120 + o)
  let (s, h4) := match pair with | some p => s.cmpApply p true | none => (s, 0)
  let due := (s.pendOf o).filter (fun p => decide (p.frame ≤ (s.reg (Reg.cmpFrames o)).toNat))
  let s := s.setPend o ((s.pendOf o).filter (fun p => !decide (p.frame ≤ (s.reg (Reg.cmpFrames o)).toNat)))
  let (s, held) := due.foldl (fun (a : State × Nat) p => let r := a.1.cmpApply p false; (r.1, a.2 ||| r.2)) (s, h4)
  let s := if pair.isSome then (s.fire 130).fire 131 else if !due.isEmpty then s.fire (130 + o) else s
  (s.setFld Reg.cmpLayerInvalid 15 0 (held ||| keep), held)

/-- At a latch point, the frame that follows is claimed on its canvas by what is armed (R229, R237). -/
def State.cmpClaim (s : State) (o canvasW h : Nat) : State :=
  if !s.isPowered 10 || s.isFenced 10 then s else
  let s := s.wbClaim o (s.reg (Reg.cmpFrames o)).toNat canvasW h
  match (s.cmpOut o).repArmed with
  | some r => s.mapCmpOut o (fun c => { c with repArmed := none, repOpen := some r })
  | none => s

/-- The frame of output `o` begins: its layers, its rings. -/
def State.cmpStart (s : State) (o w h x0 held : Nat) : State :=
  if !s.isPowered 10 || s.isFenced 10 then s else s.cmpBegin o false w h x0 held

/-- The last line of output `o`'s frame has left for the wall (R237). -/
def State.cmpLeft (s : State) (o : Nat) : State :=
  match (s.cmpOut o).frame with | some f => s.cmpReportDone o f | none => s

/-- Pixels of output `o` that the generator did not get (R228). -/
def State.cmpMissed (s : State) (o n : Nat) : State :=
  match (s.cmpOut o).frame with
  | some f =>
    if n = 0 ∨ f.memory then s
    else (s.mapCmpOut o (fun c => { c with frame := some { f with undelivered := f.undelivered + n } })).fire 133
  | none => s

/-- Compose line `f.line` of output `o`; `skip` are layers switched off for it (R225, R226). -/
def State.cmpLine (s : State) (o : Nat) (f : CmpFrame) (skip : List Nat) (residue wbFull : Bool) : State :=
  let n := f.line
  let offs := (s.covering f n).filter (fun y => skip.contains y.l)
  let s := offs.foldl (fun s y =>
    let s := (s.bump (Reg.cmpLCount y.l) 31 24 1).setFld Reg.cmpLateMask y.l y.l 1
    (if y.source = 2 && (s.otherNeeds o f y).isNone then s.ringDone y else s).fire 122) s
  let f := { f with off := f.off ++ offs.map (·.l), lateLine := offs.foldl (fun m y => sset 0xFFFF m y.l n) f.lateLine }
  let cov := s.covering f n
  let (s, f) := cov.foldl (fun (a : State × CmpFrame) y => a.1.fetchFor a.2 y n) (s, f)
  let px := s.composeLine o f n
  let s := (((s.meetLayers f n).ringsFrom o f (n + 1)).tally 0x28 f.w)
  let s := if residue then (s.report 0x28 0 0x08 0).fire 129 else s
  let h := if s.locked then 0 else o
  let split := if s.locked && !f.memory then some (s.activeSet 0).hActive else none
  let scanned := match (s.gen o).line with | k => decide (n < k)
  let s := s.mapCmpOut o (fun c => { c with frame := some { f with line := n + 1 },
                                            eq := if f.memory || scanned then c.eq else c.eq ++ [(n, px)] })
  let s := if f.memory || !scanned then s
    else s.mapGen o (fun g =>
      { g with recs := match g.recs.reverse with
          | [] => []
          | r :: t => ({ r with late := r.late + f.w } :: t).reverse })
  let s := s.wbTake h o n f.x0 px split wbFull
  let s := if f.memory && decide (n + 1 = f.h) then s.cmpEnd o else s
  s.cmpShow

/-- The frame of output `o` with a line still to compose: while its generator runs, or for a CMP_COMPOSE (R212, R232); none while a
stage of the compositor is stalled (R12). -/
def State.cmpDueFrame (s : State) (o : Nat) : Option CmpFrame :=
  match (s.cmpOut o).frame with
  | some f =>
    if f.line < f.h ∧ s.isPowered 10 = true ∧ s.isFenced 10 = false ∧ s.unitStalled 0x28 = false ∧
        (f.memory = true ∨ s.genRuns o = true) then some f else none
  | none => none

/-- Ring layers that cover line `n` and hold no ring frame look for one; the rows each lacks decide what is missing. -/
def State.ringsFor (s : State) (f : CmpFrame) (n : Nat) : State × List Nat :=
  let rings := (s.covering f n).filter (fun y => y.source == 2)
  let s := rings.foldl State.ringSelect s
  (s, (rings.filter (fun y => let (lo, hi) := y.rows n; !(List.range (hi + 1 - lo)).all (fun i => s.ringHas y (lo + i)))).map (·.l))

/-- CMP_LINE_COMPOSE (R225, R231, R232): every covering layer holds its source pixels; a ring layer that does not, waits, and a
CMP_COMPOSE waits for room in the staging buffer. -/
def doCmpLineCompose (o : Nat) (residue wbFull : Bool) (s : State) : State :=
  match s.cmpDueFrame o with
  | some f =>
    let (s, missing) := s.ringsFor f f.line
    if missing.isEmpty && !(f.memory && wbFull) then s.cmpLine o f [] residue wbFull else s
  | none => s

/-- CMP_LATE_THRESHOLD (R222, R226, R227, R231): no layer of a CMP_COMPOSE is late. -/
def doCmpLateThreshold (o : Nat) (missing : BitVec 16) (residue wbFull : Bool) (s : State) : State :=
  match s.cmpDueFrame o with
  | some f =>
    if f.memory then s
    else
      let (s, rings) := s.ringsFor f f.line
      s.cmpLine o f (rings ++ (List.range 16).filter (fun l => missing.getLsbD l)) residue wbFull
  | none => s

/-! Descriptors (R236 to R238). -/

/-- The fields of a CMP_WRITEBACK or CMP_COMPOSE. -/
def wbCmdOf (t : Taken) : WbCmd :=
  { tag := t.tag, format := t.fld 0 86 84, packed := t.fld 0 83 82 == 1, encEn := t.fld 0 81 81 == 1, encBank := t.fld 0 80 80,
    ycc2020 := t.fld 0 79 79 == 1, full := t.fld 0 78 78 == 1, clearEn := t.fld 0 77 77 == 1, addr := t.fld 1 127 80,
    stride := t.fld 1 79 56, addr2 := t.fld 1 55 8, x := t.fld 2 127 112, y := t.fld 2 111 96, w := t.fld 2 95 80,
    h := t.fld 2 79 64, clear := t.fld 2 63 0 }

/-- Is output B absent (R207)? -/
def outputAbsent (v : Variant) (o : Nat) : Bool := v == .ew9730 && o == 1

/-- The status of a write-back's field checks, none when they pass. -/
def State.wbCheck (s : State) (t : Taken) (compose : Bool) : Option Nat :=
  let c := wbCmdOf t
  let o := t.fld 0 87 87
  let bpp := bppOf c.format
  let cw := t.fld 0 63 48
  let ch := t.fld 0 47 32
  if outputAbsent s.variant o || (s.locked && o == 1) || !(c.format == 0 || c.format == 1 || c.format == 3) ||
      decide (2 ≤ t.fld 0 83 82) || (c.packed && c.format == 3) || (c.format != 0 && !c.encEn) ||
      !t.zeros [(0, 76, 64), (0, 31, 0), (1, 7, 0)] || (!compose && decide (cw ≠ 0 ∨ ch ≠ 0)) ||
      (!c.packed && c.addr2 != 0) || c.w == 0 || c.h == 0 || (c.format == 3 && c.w % 2 == 1) ||
      (c.packed && (c.addr % 64 != 0 || c.addr2 % 64 != 0)) || (!c.packed && decide (c.stride * 64 < c.w * bpp)) ||
      (compose && decide (cw = 0 ∨ ch = 0 ∨ cw < c.x + c.w ∨ ch < c.y + c.h)) then some cmpBadParams
  else if (if c.packed then
      !inMemory s.variant c.addr (blocksAcross c.w * ((c.h + 3) / 4) * 64 * bpp) ||
      !inMemory s.variant c.addr2 (hdrStride c.w * ((c.h + 3) / 4))
    else !inMemory s.variant c.addr ((c.h - 1) * c.stride * 64 + c.w * bpp)) then some stBadAddress
  else none

/-- CMP_WRITEBACK (R229 to R232). -/
def doCmpWriteback (s : State) : State :=
  s.takeWhen 8 0x10 [2] (fun t => (s.cmpOut (t.fld 0 87 87)).wbArmed.isNone) fun t s =>
    let o := t.fld 0 87 87
    match s.wbCheck t false with
    | some st => s.complete 8 t.tag st 0
    | none =>
      if !s.genRuns o then s.complete 8 t.tag cmpNotRunning 0
      else s.mapCmpOut o (fun c => { c with wbArmed := some (wbCmdOf t) })

/-- CMP_COMPOSE (R232). -/
def doCmpCompose (s : State) : State :=
  s.takeWhen 8 0x12 [2] (fun t =>
    s.genRuns (t.fld 0 87 87) || ((s.cmpOut (t.fld 0 87 87)).wbOpen.isNone &&
      (match (s.cmpOut (t.fld 0 87 87)).frame with | some f => !f.memory | none => true))) fun t s =>
    let o := t.fld 0 87 87
    match s.wbCheck t true with
    | some st => s.complete 8 t.tag st 0
    | none =>
      if s.genRuns o then s.complete 8 t.tag cmpOutputBusy 0
      else
        let s := s.cmpEnd o
        let n := (s.reg (Reg.cmpFrames o)).toNat
        let s := s.mapCmpOut o (fun c => { c with wbOpen := some ⟨wbCmdOf t, n, [], 0, []⟩ })
        s.cmpBegin o true (t.fld 0 63 48) (t.fld 0 47 32) 0 0

/-- CMP_REPORT (R237). -/
def doCmpReport (s : State) : State :=
  s.takeWhen 8 0x13 [1] (fun t => (s.cmpOut (t.fld 0 87 87)).repArmed.isNone) fun t s =>
    let o := t.fld 0 87 87
    let addr := t.fld 1 127 80
    if outputAbsent s.variant o || !t.zeros [(0, 86, 0), (1, 79, 0)] || addr % 64 != 0 then s.complete 8 t.tag cmpBadParams 0
    else if !s.genRuns o then s.complete 8 t.tag cmpNotRunning 0
    else if !inMemory s.variant addr 64 then s.complete 8 t.tag stBadAddress 0
    else s.mapCmpOut o (fun c => { c with repArmed := some (t.tag, addr) })

/-! Tables (R233, R234). -/

/-- The words of compositor table `k`. -/
def cmpTblSize (k : Nat) : Nat := if 18 ≤ k then 0 else if 16 ≤ k then 1536 else if k % 2 = 0 then 112 else 387

/-- Is bank `b` of table `k` in use (R234)? -/
def State.cmpInUse (s : State) (k b : Nat) : Bool :=
  if 16 ≤ k then
    let o := k - 16
    let names (c : WbCmd) : Bool := c.encEn && c.encBank == b
    (match (s.cmpOut o).wbArmed with | some c => names c | none => false) ||
    (match (s.cmpOut o).wbOpen with | some w => names w.cmd | none => false) ||
    [0, 1].any (fun r => match (s.cmpOut r).frame with | some f => decide (f.line < f.h) && f.enc == some (k, b) | none => false)
  else
    let l := k / 2
    let bit := if k % 2 = 0 then 13 else 14
    let sel (v : Word) : Bool := bitsOf v 31 31 == 1 && bitsOf v bit bit == b
    sel (s.reg (Reg.cmpLACtrl l)) ||
    ([0, 1, 4].any (fun g => (s.pendOf g).any (fun p => match p.val (Reg.cmpLCtrl l) with | some v => sel v | none => false)))

/-- CMP_TABLE_LOAD (R233, R234, R236). -/
def doCmpTableLoad (s : State) : State :=
  s.takeAs 8 0x11 [0] fun t s =>
    let id := t.fld 0 87 83
    let b := t.fld 0 82 82
    s.tableLoad 8 t.tag 0x2A id b (t.fld 0 81 64) (t.fld 0 63 46 + 1) (cmpTblSize id) (t.fld 0 45 2 * 16) Reg.cmpDenied 127
      (decide (id < 18) && t.fld 0 1 0 == 0) (s.cmpInUse id b)

/-- CMP_TBL_DATA3_WRITE (R162, R233). -/
def doCmpTblData3Write (m : Master) (value : Word) (s : State) : State :=
  s.gateWrite m (Reg.cmpTblData 3) fun s =>
    let a := s.reg Reg.cmpTblAddr
    let id := bitsOf a 31 27
    let b := bitsOf a 26 26
    if 18 ≤ id then s
    else s.tblDataWrite 0x2A id b (bitsOf a 10 0) (cmpTblSize id) 10 (Reg.cmpTblData 0) Reg.cmpTblAddr Reg.cmpDenied 127
      (s.cmpInUse id b) value

/-- ABORT reaches a descriptor of the compositor (R42): an armed one is unclaimed, an open one ends at once. -/
def State.cmpAbort (s : State) (tag : Nat) : Option State :=
  [0, 1].findSome? (fun o =>
    let c := s.cmpOut o
    let armed := match c.wbArmed with | some w => w.tag == tag | none => false
    let open_ := match c.wbOpen with | some w => w.cmd.tag == tag | none => false
    let rep (r : Option (Nat × Nat)) : Bool := match r with | some x => x.1 == tag | none => false
    if armed then some ((s.mapCmpOut o (fun c => { c with wbArmed := none })).complete 8 tag stAborted 0)
    else if open_ then
      match c.wbOpen with
      | some w =>
        let s := s.wbClose o w stAborted
        some (match c.frame with
          | some f => if f.memory then (s.mapCmpOut o (fun c => { c with frame := none })).cmpShow else s
          | none => s)
      | none => none
    else if rep c.repArmed || rep c.repOpen then
      some ((s.mapCmpOut o (fun c =>
        { c with repArmed := if rep c.repArmed then none else c.repArmed,
                 repOpen := if rep c.repOpen then none else c.repOpen })).complete 8 tag stAborted 0)
    else none)

end Sys2Proof.Machine
end

