-- ==== Sys2Proof/Machine/Lnx.lean ====
section
/-!
DEFINITION. The lane complex: wall lanes, management commands, return reports, equalisation, eye scans, PLLs
(spec/08_lanes_tile_link.md R277 to R309).
-/
namespace Sys2Proof.Machine

def lnxLaneBusy : Nat := 0x10
def lnxBadParams : Nat := 0x11
def lnxLaneOff : Nat := 0x12
def lnxNoKey : Nat := 0x13
def lnxNoReply : Nat := 0x14
def lnxReadFailed : Nat := 0x15

/-- Is wall lane `l` absent? -/
def wallAbsent (v : Variant) (l : Nat) : Bool := decide (24 ≤ l) || laneAbsent v (16 + l)

def State.wlState (s : State) (l : Nat) : Nat := s.fld (Reg.lnxWlStatus l) 31 28

/-- Set wall lane `l`'s state, and show it in LNX_SH_UP and in the quad's tx_running. -/
def State.setWlState (s : State) (l st : Nat) : State :=
  let s := s.setFld (Reg.lnxWlStatus l) 31 28 st
  (s.setFld Reg.lnxShUp l l (st == 2).toNat).showTx (4 + l / 4)

/-- Set the return channel's lock of wall lane `l`. -/
def State.setWlLock (s : State) (l : Nat) (b : Bool) : State :=
  let s := (s.setFld (Reg.lnxWlStatus l) 24 24 b.toNat).setFld Reg.lnxShRxlock l l b.toNat
  s.setFld (Reg.lnxStatus (4 + l / 4)) (4 + l % 4) (4 + l % 4) b.toNat

def State.wlLocked (s : State) (l : Nat) : Bool := s.fld (Reg.lnxWlStatus l) 24 24 == 1

/-- A lane that is starting comes up once its CTLE is adapted and its return channel locked (R305). -/
def State.laneRise (s : State) (l : Nat) : State :=
  if s.wlState l = 1 ∧ (s.serialLane (16 + l)).adapted = true ∧ s.wlLocked l = true then (s.setWlState l 2).fire 160 else s

/-- The TRAIN blocks of a legacy lane leave (R284). -/
def State.sendTrain (s : State) (l : Nat) : State :=
  s.sendBlocks l (List.replicate (s.lane l).trainBlocks trainBlock)

/-- Erase a lane's key: seq restarts only with a fresh one (R292). -/
def State.eraseLaneKey (s : State) (l : Nat) : State :=
  (s.mapLane l (fun w => { w with key := none })).setFld Reg.lnxShGuard l l 0

/-- A lane starts: its CTLE is to be adapted, its taps and counts of headers begin anew (R280, R283). -/
def State.startSerial (s : State) (n : Nat) : State :=
  let rx := Reg.lnxRx (n / 4) (n % 4)
  let s := (((s.setFld rx 31 28 0).setFld rx 26 26 0).setReg (Reg.lnxDfeA (n / 4) (n % 4)) 0).setReg (Reg.lnxDfeB (n / 4) (n % 4)) 0
  s.mapSerial n (fun x => { x with heads := [], adapted := false, limitMade := false })

/-- Is a management command one that belongs to no key? -/
def Mgmt.plain : Mgmt → Bool
  | .block _ _ => true
  | .keyx _ _ _ => false

/-- Lane `l` as the fields of a LANE_SETUP ask: key erased, with one on its way, seq 0, equalisation and state anew (R292, R305, R306). What
the scrambler starts from, the spec does not say: zeros (DESIGN CHOICE, log entry 35). -/
def State.setUpLane (s : State) (t : Taken) (l mode : Nat) (guard : Bool) : State :=
  let pre := t.fld 0 76 73
  let post := t.fld 0 72 68
  let q := 4 + l / 4
  let train := if t.fld 0 64 49 = 0 then 8448 else t.fld 0 64 49
  let s := (s.eraseLaneKey l).mapLane l (fun w =>
    { w with mode := mode, guard := guard, trainBlocks := train, txInvert := t.fld 0 79 79 == 1, rxInvert := t.fld 0 78 78 == 1,
             seq := 0, mgmt := w.mgmt.filter Mgmt.plain, scram := 0 })
  let s := s.setReg (Reg.lnxWlSeq l) 0
  let s := s.setReg (Reg.lnxTx q (l % 4))
    (packBits [(pre, 20), (post, 15), (t.fld 0 67 65, 12), ((63 + 64 - pre - post) % 64, 6)])
  let s := (s.startSerial (16 + l)).setFld (Reg.lnxRx q (l % 4)) 27 27 (t.fld 0 77 77)
  let s := (s.eqStart (Reg.lnxEqTx q (l % 4))).eqStart (Reg.lnxEqRx q (l % 4))
  let s := (s.setFld (Reg.lnxWlStatus l) 27 26 mode).setFld (Reg.lnxWlStatus l) 25 25 guard.toNat
  let s := (s.setWlLock l false).setWlState l (if mode = 0 then 0 else 1)
  if mode = 2 then s.sendTrain l else s

/-- Has a lane's management queue room (R306)? -/
def State.mgmtRoom (s : State) (l : Nat) : Bool := decide ((s.lane l).mgmt.length < 16)

/-- Queue a management block on a lane. -/
def State.mgmtPut (s : State) (l : Nat) (m : Mgmt) : State := s.mapLane l (fun w => { w with mgmt := w.mgmt ++ [m] })

/-- Is a lane's management queue full for a descriptor that would enter it? -/
def State.mgmtOk (s : State) (t : Taken) : Bool :=
  let l := t.fld 0 87 83
  wallAbsent s.variant l || !s.laneUp l || s.mgmtRoom l

/-- ENUMERATE (R295, R306, R307). -/
def doEnumerate (s : State) : State :=
  s.takeWhen 11 0x11 [1] s.mgmtOk fun t s =>
    let l := t.fld 0 87 83
    let dest := t.fld 1 127 80
    let fin (s : State) (st : Nat) : State := s.complete 11 t.tag st 0
    if wallAbsent s.variant l || !t.zeros [(0, 66, 0), (1, 79, 0)] || dest % 64 != 0 then fin s lnxBadParams
    else if !s.laneUp l then fin s lnxLaneOff
    else if !inMemory s.variant dest 2048 then fin s stBadAddress
    else
      let s := s.unitStore 0x30 dest (List.replicate 2048 0)
      (s.mgmtPut l (.block 0xAA 0)).mapLane l (fun w => { w with enums := w.enums ++ [(t.tag, dest, [])] })

/-- TILE_WRITE (R306): complete once its command has entered the lane's queue. -/
def doTileWrite (s : State) : State :=
  s.takeWhen 11 0x12 [0] (fun t => s.mgmtOk t) fun t s =>
    let l := t.fld 0 87 83
    if wallAbsent s.variant l || t.fld 0 26 0 != 0 then s.complete 11 t.tag lnxBadParams 0
    else if !s.laneUp l then s.complete 11 t.tag lnxLaneOff 0
    else
      (s.mgmtPut l (.block 0xB4 (t.fld 0 58 27 * 2 ^ 24 + t.fld 0 73 59 * 2 ^ 9 + t.fld 0 74 74 * 2 ^ 8 + t.fld 0 82 75))).complete
        11 t.tag stSuccess 0

/-- TILE_READ (R306, R307). -/
def doTileRead (s : State) : State :=
  s.takeWhen 11 0x13 [0] (fun t => s.mgmtOk t) fun t s =>
    let l := t.fld 0 87 83
    let pos := t.fld 0 82 75
    let reg := t.fld 0 74 60
    if wallAbsent s.variant l || t.fld 0 43 0 != 0 then s.complete 11 t.tag lnxBadParams 0
    else if !s.laneUp l then s.complete 11 t.tag lnxLaneOff 0
    else
      (s.mgmtPut l (.block 0xCC ((t.tag % 256) * 2 ^ 23 + reg * 2 ^ 8 + pos))).mapLane l (fun w =>
        { w with reads := w.reads ++ [(t.tag, pos, reg)] })

/-- EYE_SCAN (R281, R307). -/
def doEyeScan (s : State) : State :=
  s.takeAs 11 0x14 [1] fun t s =>
    let n := t.fld 0 87 82
    let dest := t.fld 1 127 80
    if decide (52 ≤ n) || laneAbsent s.variant n || decide (10 < t.fld 0 81 78) || !t.zeros [(0, 77, 0), (1, 79, 0)] ||
        dest % 64 != 0 then s.complete 11 t.tag lnxBadParams 0
    else if !s.isPowered (quadDomain (n / 4)) then s.complete 11 t.tag lnxLaneOff 0
    else if !inMemory s.variant dest 16256 then s.complete 11 t.tag stBadAddress 0
    else { s with eyeScans := s.eyeScans ++ [(n, t.tag, dest)] }

/-- The run of zero counts that holds index `i` of a list; 0 when its own count is not zero. -/
def zeroRun (l : List Nat) (i : Nat) : Nat :=
  if l.getD i 1 ≠ 0 then 0
  else ((l.drop i).takeWhile (· == 0)).length + ((l.take i).reverse.takeWhile (· == 0)).length

/-- EYE_SCAN_DONE (R281): 127 × 64 counts, by offset + 63 and phase. -/
def doEyeScanDone (n : Nat) (counts : List (BitVec 32)) (s : State) : State :=
  match s.eyeScans.find? (fun e => e.1 == n) with
  | none => s
  | some e =>
    let c := (List.range 8128).map (fun i => min ((counts.getD i 0).toNat) 65535)
    let width := zeroRun ((c.drop (64 * 63)).take 64) 32
    let height := zeroRun ((List.range 127).map (fun o => c.getD (64 * o + 32) 0)) 63
    let s := { s with eyeScans := s.eyeScans.erase e }
    (s.unitStore 0x30 e.2.2 (c.flatMap (leBytes 2))).complete 11 e.2.1 stSuccess
      (BitVec.ofNat 64 (width * 2 ^ 48 + height * 2 ^ 32))

/-- MANAGEMENT_GROUP_SEND (R286): at most eight queued commands leave in one control group; KEYX goes alone. -/
def doManagementGroupSend (l : Nat) (s : State) : State :=
  let w := s.lane l
  let take := (w.mgmt.takeWhile Mgmt.plain).take 8
  if take.isEmpty || !s.laneUp l || s.laneScanned l || s.unitStalled 0x3D then s
  else
    let s := s.setLane l { w with mgmt := w.mgmt.drop take.length }
    s.sendManagement l false (take.map (fun m =>
      match m with | .block t f => ctrlBlock t f | .keyx _ _ _ => ctrlBlock 0x1E 0))

/-! Return reports (R293, R304). -/

/-- Does wall lane `l` take return reports: set up, return channel locked? -/
def State.reportsIn (s : State) (l : Nat) : Bool :=
  s.isPowered 25 && !wallAbsent s.variant l && s.wlState l != 0 && s.wlLocked l

/-- A report is dropped because the lane's inbound queue is full (R22, R304). -/
def State.dropReport (s : State) (l : Nat) : State :=
  ((s.bump (Reg.lnxWlCount0 l) 31 16 1).eqSeen (Reg.lnxEqRx (4 + l / 4) (l % 4)) (some 255)).fire 163

/-- The status entry of the receiver at position `p` of lane `l`. -/
def entryAddr (l p : Nat) : Nat := laneStatusBase + (256 * l + p) * 16

/-- A report updates its receiver's status entry: bits [hi:lo] take `v`, and the count of reports steps (R304). -/
def State.statusEntry (s : State) (l p : Nat) (parts : List (Nat × Nat × Nat)) : State :=
  let a := entryAddr l p
  let s := (s.eqSeen (Reg.lnxEqRx (4 + l / 4) (l % 4)) none).meet a 16
  let old := s.num a 16
  let set (q hi lo v : Nat) : Nat := q - nbits q hi lo * 2 ^ lo + (v % 2 ^ (hi + 1 - lo)) * 2 ^ lo
  let q := parts.foldl (fun q x => set q x.1 x.2.1 x.2.2) old
  s.storeNum a 16 (set q 15 8 (nbits q 15 8 + 1))

/-- TILE_STATUS_REPORT (R293, R304). -/
def doTileStatusReport (l : Nat) (f : BitVec 56) (full : Bool) (s : State) : State :=
  if !s.reportsIn l then s
  else if full then s.dropReport l
  else
    let v := f.toNat
    let p := nbits v 7 0
    let s := s.statusEntry l p [(127, 112, nbits v 23 8), (111, 104, nbits v 31 24), (103, 96, nbits v 39 32),
      (95, 80, nbits v 55 40)]
    let s := if nbits v 16 12 ≠ 0 then s.fire 164 else s
    let beyond := match (s.lane l).enumHigh with | some h => decide (h ≤ p) | none => false
    if nbits v 8 8 = 1 || beyond then s.fire 165 else s

/-- TILE_ENUM_REPLY (R295, R304, R306): it counts for the oldest ENUMERATE that gathers (DESIGN CHOICE, log entry 35). -/
def doTileEnumReply (l : Nat) (f : BitVec 56) (full : Bool) (s : State) : State :=
  if !s.reportsIn l then s
  else if full then s.dropReport l
  else
    let v := f.toNat
    let p := nbits v 7 0
    let s := s.statusEntry l p [(7, 7, 1), (3, 0, nbits v 11 8)]
    match (s.lane l).enums with
    | (tag, dest, seen) :: rest =>
      let s := s.unitStore 0x30 (dest + 8 * p) (leBytes 7 v ++ [1])
      s.mapLane l (fun w => { w with enums := (tag, dest, if seen.contains p then seen else seen ++ [p]) :: rest })
    | [] => s

/-- ENUMERATE_TIMEOUT (R306, R307), of the oldest. -/
def doEnumerateTimeout (l : Nat) (s : State) : State :=
  let w := s.lane l
  match w.enums with
  | [] => s
  | (tag, _, seen) :: rest =>
    let high := seen.foldl max 0
    let gap := ((List.range high).find? (fun p => !seen.contains p)).getD 0xFFFFFFFF
    let s := s.setLane l { w with enums := rest, enumHigh := some (if seen.isEmpty then 0 else high + 1) }
    (s.setFld (Reg.lnxWlStatus l) 16 8 seen.length).complete 11 tag stSuccess (BitVec.ofNat 64 (seen.length * 2 ^ 32 + gap))

/-- TILE_READ_REPLY (R293, R307): the oldest read of that position and register. -/
def doTileReadReply (l : Nat) (f : BitVec 56) (full : Bool) (s : State) : State :=
  if !s.reportsIn l then s
  else if full then s.dropReport l
  else
    let v := f.toNat
    let p := nbits v 7 0
    let s := s.statusEntry l p []
    match (s.lane l).reads.find? (fun r => r.2.1 == p && r.2.2 == nbits v 22 8) with
    | some r =>
      let s := s.mapLane l (fun w => { w with reads := w.reads.erase r })
      if nbits v 23 23 = 1 then s.complete 11 r.1 stSuccess (BitVec.ofNat 64 (nbits v 55 24))
      else s.complete 11 r.1 lnxReadFailed 0
    | none => s.bump (Reg.lnxWlCount1 l) 15 0 1

/-- TILE_READ_TIMEOUT (R307): the oldest read of a position. -/
def doTileReadTimeout (l p : Nat) (s : State) : State :=
  match (s.lane l).reads.find? (fun r => r.2.1 == p) with
  | some r =>
    let s := s.mapLane l (fun w =>
      { w with reads := w.reads.erase r, mgmt := w.mgmt.erase (.block 0xCC ((r.1 % 256) * 2 ^ 23 + r.2.2 * 2 ^ 8 + p)) })
    s.complete 11 r.1 lnxNoReply 0
  | none => s

/-- TILE_UNKNOWN_REPORT (R304). -/
def doTileUnknownReport (l : Nat) (_block : BitVec 64) (s : State) : State :=
  if s.reportsIn l then s.bump (Reg.lnxWlCount0 l) 15 0 1 else s

/-! Locks, equalisation, PLLs. -/

/-- Does lane `n` run: its quad present, powered and with its PLL locked, and a wall lane set up? -/
def State.laneRuns (s : State) (n : Nat) : Bool :=
  !laneAbsent s.variant n && s.isPowered (quadDomain (n / 4)) && s.fld (Reg.lnxStatus (n / 4)) 31 31 == 1 &&
  (n / 4 < 4 || 10 ≤ n / 4 || s.wlState (n - 16) != 0)

/-- Is a header, two bits in the order they arrive, valid (R282)? -/
def headerOk (a b : Bool) : Bool := a != b

/-- One more bit of a stream in which a receiver hunts at all 66 offsets: the valid headers in a row at each offset, the offset of the
next header first; the bit before; whether it has locked (R283). -/
def huntStep (a : List Nat × Bool × Bool) (b : Bool) : List Nat × Bool × Bool :=
  match a with
  | ([], _, l) => ([], b, l)
  | (r :: rest, prev, l) =>
    let n := if headerOk prev b then r + 1 else 0
    (rest ++ [n], b, l || n == 64)

/-- Does a receiver that hunts in a stream lock (R283)? -/
def huntLocks : List Bool → Bool
  | [] => false
  | b :: t => (t.foldl huntStep (List.replicate 66 0, b, false)).2.2

/-- Does a legacy lane's receiver, which slips one bit per two invalid headers, lock in a stream (R284)? `run` valid headers in a row,
`bad` invalid ones since the last slip. -/
def slipLocks : Nat → Nat → Nat → List Bool → Bool
  | 0, _, _, _ => false
  | f + 1, run, bad, bits =>
    match bits with
    | a :: b :: _ =>
      if headerOk a b then (run == 63 || slipLocks f (run + 1) bad (bits.drop 66))
      else if bad = 0 then slipLocks f 0 1 (bits.drop 66)
      else slipLocks f 0 0 (bits.drop 67)
    | _ => false

/-- Is lane `n` one of Plepor's own 64b/66b lanes, which R283 governs: wall or cascade? -/
def plepor (n : Nat) : Bool := decide (16 ≤ n ∧ n < 48)

/-- Does lane `n` carry no 64b/66b blocks: PCIe? -/
def noBlocks (n : Nat) : Bool := decide (n < 16)

/-- The bits of a stream as the receiver of lane `n` takes them (R306). -/
def State.received (s : State) (n : Nat) (bits : List Bool) : List Bool :=
  if 16 ≤ n ∧ n < 40 then bits.map (fun b => b != (s.lane (n - 16)).rxInvert) else bits

/-- Does the stream since lane `n` began to hunt lock its receiver: by R283, or R284 for a legacy wall lane; an Ethernet lane locks by the
rules of IEEE 802.3, as the command says. -/
def State.streamLocks (s : State) (n : Nat) (bits : List Bool) : Bool :=
  if !plepor n then true
  else if n < 40 ∧ (s.lane (n - 16)).mode = 2 then slipLocks bits.length 0 0 (s.received n bits)
  else huntLocks (s.received n bits)

/-- RX_LOCK_GAINED (R283, R284): `bits` is the stream since the lane began to hunt. -/
def doRxLockGained (n : Nat) (bits : List Bool) (s : State) : State :=
  let st := Reg.lnxStatus (n / 4)
  if !s.laneRuns n || noBlocks n || s.fld st (4 + n % 4) (4 + n % 4) == 1 || !s.streamLocks n bits then s
  else
    let s := (s.setFld st (8 + n % 4) (8 + n % 4) 1).mapSerial n (fun x => { x with heads := [] })
    if 16 ≤ n ∧ n < 40 then ((s.setWlLock (n - 16) true).fire 162).laneRise (n - 16)
    else s.setFld st (4 + n % 4) (4 + n % 4) 1

/-- Headers arrive on a lane that is locked (R283): the window of the last ones, the invalid ones counted, and whether sixteen have now
fallen within 512, at which the lock is lost. -/
def headRun : List Bool → Nat → List Bool → List Bool × Nat × Bool
  | w, e, [] => (w, e, false)
  | w, e, h :: t =>
    let w := (h :: w).take 512
    let e := e + (!h).toNat
    if 16 ≤ (w.filter (!·)).length then (w, e, true) else headRun w e t

/-- RX_LOCK_LOST (R283): `heads` says of the headers received since the last such command which are valid. The invalid ones are counted; a
Plepor lane loses its lock at the sixteenth within 512. -/
def doRxLockLost (n : Nat) (heads : List Bool) (s : State) : State :=
  if !s.laneRuns n || s.fld (Reg.lnxStatus (n / 4)) (4 + n % 4) (4 + n % 4) == 0 then s
  else
    let (w, e, lost) := headRun (s.serialLane n).heads 0 heads
    let lost := lost || !plepor n
    let s := (s.bump (Reg.lnxRx (n / 4) (n % 4)) 15 0 e).mapSerial n (fun x => { x with heads := if lost then [] else w })
    if !lost then s
    else if 16 ≤ n ∧ n < 40 then (s.setWlLock (n - 16) false).fire 161
    else s.setFld (Reg.lnxStatus (n / 4)) (4 + n % 4) (4 + n % 4) 0

/-- CTLE_ADAPTED (R280): once after the lane starts; the code is then held. -/
def doCtleAdapted (n : Nat) (code : BitVec 4) (s : State) : State :=
  if !s.laneRuns n || (s.serialLane n).adapted then s
  else
    let s := (s.setFld (Reg.lnxRx (n / 4) (n % 4)) 31 28 code.toNat).mapSerial n (fun x => { x with adapted := true })
    if 16 ≤ n ∧ n < 40 then s.laneRise (n - 16) else s

/-- Does one of the eight taps of lane `n` stand at an end of its range? -/
def State.tapAtRail (s : State) (n : Nat) : Bool :=
  [Reg.lnxDfeA (n / 4) (n % 4), Reg.lnxDfeB (n / 4) (n % 4)].any (fun k =>
    (List.range 4).any (fun i => let v := s.fld k (8 * i + 7) (8 * i); v == 127 || v == 128))

/-- DFE_TAP_AT_RAIL (R280): a tap adapts to a value, unless adaptation is frozen. While a tap stands at an end of its range at_rail is set;
the first time since the lane started raises the event. -/
def doDfeTapAtRail (n tap : Nat) (value : BitVec 8) (s : State) : State :=
  let rx := Reg.lnxRx (n / 4) (n % 4)
  if !s.laneRuns n || s.fld rx 27 27 == 1 then s
  else
    let k := if tap < 4 then Reg.lnxDfeA (n / 4) (n % 4) else Reg.lnxDfeB (n / 4) (n % 4)
    let lo := 24 - 8 * (tap % 4)
    let s := s.setFld k (lo + 7) lo value.toNat
    let s := s.setFld rx 26 26 (s.tapAtRail n).toNat
    if s.tapAtRail n && !(s.serialLane n).limitMade then (s.mapSerial n (fun x => { x with limitMade := true })).fire 168 else s

/-- A wall lane of a quad whose PLL unlocks: its return channel drops lock, it is no longer up (R278). -/
def State.wallUnlock (s : State) (l : Nat) : State :=
  let s := if s.wlLocked l then s.fire 161 else s
  let s := s.setWlLock l false
  if s.wlState l = 2 then s.setWlState l 1 else s

/-- QUAD_PLL_UNLOCK (R278): transmitters stop, receivers drop lock. -/
def doQuadPllUnlock (q : Nat) (s : State) : State :=
  if quadAbsent s.variant q || s.fld (Reg.lnxStatus q) 31 31 == 0 then s
  else
    let s := if 4 ≤ q ∧ q < 10 then (List.range 4).foldl (fun s k => s.wallUnlock (4 * (q - 4) + k)) s else s
    let s := s.setFld (Reg.lnxStatus q) 31 0 0
    (s.report (0x30 + q) 0 0x0D 0).fire 167

/-- QUAD_PLL_RELOCK (R278): the quad restarts by itself; its lanes start again, a legacy one with its TRAIN blocks (R284). -/
def doQuadPllRelock (q : Nat) (s : State) : State :=
  if quadAbsent s.variant q || !s.isPowered (quadDomain q) || s.fld (Reg.lnxStatus q) 31 31 == 1 then s
  else
    let s := (s.setFld (Reg.lnxStatus q) 31 31 1).showTx q
    (List.range 4).foldl (fun s k =>
      let s := s.startSerial (4 * q + k)
      if 4 ≤ q ∧ q < 10 ∧ (s.lane (4 * (q - 4) + k)).mode = 2 ∧ s.wlState (4 * (q - 4) + k) ≠ 0 then s.sendTrain (4 * (q - 4) + k)
      else s) s

/-- LEGACY_RETRAIN (R284): the return channel has been out of lock for more than 1 ms. -/
def doLegacyRetrain (l : Nat) (s : State) : State :=
  if (s.lane l).mode = 2 ∧ s.laneRuns (16 + l) = true ∧ s.wlLocked l = false then (s.setWlState l 1).sendTrain l else s

end Sys2Proof.Machine
end

