-- ==== Sys2Proof/Machine/Wlo.lean ====
section
/-!
DEFINITION. The wall output: timing generators, latch points, mode changes, the locked pair, tile map and calibration,
scan-out, Hold, Daymark (spec/07_wall_output.md R242 to R276).
-/
namespace Sys2Proof.Machine

def wloMapInvalid : Nat := 0x10
def wloBadParams : Nat := 0x11
def wloTableInUse : Nat := 0x13
def wloNotRunning : Nat := 0x14
def wloAlreadyRunning : Nat := 0x15
def wloLockedPair : Nat := 0x16
def wloHoldIncomplete : Nat := 0x17
def wloAlreadyHeld : Nat := 0x18

def State.setGenState (s : State) (g st : Nat) : State := (s.setFld (Reg.wloStatus g) 31 28 st).cmpShow

/-- Generator B of an EW9730 is absent; a generator without power does nothing. -/
def State.genHere (s : State) (g : Nat) : Bool :=
  !(s.variant == .ew9730 && g == 1) && s.isPowered (11 + g) && !s.isFenced (11 + g)

/-- The generators that act as one with `g`. -/
def State.pairOf (s : State) (g : Nat) : List Nat := if s.locked then [0, 1] else [g]

/-! Timing sets (R243, R244, R248, R259). -/

/-- Do the fields of a set satisfy R243 and R244, the rates apart? -/
def TimingSet.timingOk (t : TimingSet) : Bool :=
  decide (8 ≤ t.hActive ∧ t.hActive ≤ 16384 ∧ t.hActive % 8 = 0) &&
  decide (t.hTotal % 8 = 0 ∧ t.hActive + 64 ≤ t.hTotal ∧ t.hTotal ≤ 32768) &&
  decide (1 ≤ t.vActive ∧ t.vActive ≤ 16384) &&
  decide (4000000 * 65536 ≤ t.period ∧ t.period ≤ 1000000000 * 65536) &&
  decide ((t.vActive + 2) * t.line ≤ t.period) && decide (t.frameRef ≤ 1)

/-- Do the active rates of two sets sum to at most 10.0 Gpx/s? Pixels over ns, times the product of the periods. -/
def ratesOk (ts : List TimingSet) : Bool :=
  let num (t : TimingSet) : Nat := t.hActive * t.vActive * 65536
  match ts with
  | [a] => decide (num a ≤ 10 * a.period)
  | [a, b] => decide (num a * b.period + num b * a.period ≤ 10 * a.period * b.period)
  | _ => true

/-- The capacity of a lane for one line, in bits (R259). -/
def TimingSet.capacity (t : TimingSet) : Int := (25 * t.line / 65536 : Nat) - 512

/-- The first cause that rejects a set (R248): 1 timing, 2 rate, 3 lane load, 4 map bank, 5 frame address; 0 for none.
`others` are the sets of the other running generators. -/
def State.rejectReason (s : State) (t : TimingSet) (others : List TimingSet) : Nat :=
  if !t.timingOk then 1
  else if 6 * t.line < t.hTotal * 65536 ∨ ratesOk (t :: others) = false then 2
  else if (List.range 24).any (fun l => decide (t.capacity < ((s.reg (Reg.wloShLoad t.mapBank l)).toNat % 2 ^ 24 : Nat))) then 3
  else if s.fld (Reg.wloShMap t.mapBank) 31 31 = 0 then 4
  else if t.memory then
    let ok := if t.packed then
        inMemory s.variant t.addr (blocksAcross t.hActive * ((t.vActive + 3) / 4) * 512) &&
        inMemory s.variant t.hdr (hdrStride t.hActive * ((t.vActive + 3) / 4))
      else inMemory s.variant t.addr ((t.vActive - 1) * t.stride * 64 + t.hActive * 8)
    if ok then 0 else 5
  else 0

/-- The set that generator `g` would have with the staged values of the sets given, later ones over earlier ones. -/
def State.candidate (s : State) (g : Nat) (ps : List PendSet) : TimingSet :=
  (List.range 18).map (fun i =>
    ps.foldl (fun v p => (p.val (Reg.wloCtrl g + 4 * i)).getD v) ((s.activeSet g).getD i 0))

/-- B's set as part of a locked pair: A's V, LINE, PERIOD, ANCHOR and FREF_OFFSET, frame_ref, fref_div and slew (R252). -/
def pairSet (a b : TimingSet) : TimingSet :=
  let c := a.getD 0 0
  let d := putBits (putBits (putBits (b.getD 0 0) 28 27 (bitsOf c 28 27)) 23 21 (bitsOf c 23 21)) 15 0 (bitsOf c 15 0)
  (List.range 18).map (fun i => if i = 0 then d else if 2 ≤ i ∧ i ≤ 9 then a.getD i 0 else b.getD i 0)

/-- Write a set to the active block of a generator. -/
def State.putActive (s : State) (g : Nat) (t : TimingSet) : State :=
  (List.range 18).foldl (fun s i => s.setReg (Reg.wloActCtrl g + 4 * i) (t.getD i 0)) s

/-- Does a set change the mode (R251)? -/
def modeChange (old new : TimingSet) : Bool :=
  old.hActive != new.hActive || old.hTotal != new.hTotal || old.vActive != new.vActive || old.line != new.line ||
  old.period != new.period || old.frameRef != new.frameRef || old.frefDiv != new.frefDiv || old.lock != new.lock ||
  decide (((new.anchor : Int) - old.anchor) * 65536 % (max 1 old.period : Nat) ≠ 0)

/-! Frame instants (R244, R245). -/

/-- The grid instant nearest to `t`, all in 2⁻¹⁶ ns. -/
def nearGrid (grid period t : Nat) : Nat :=
  let p : Int := (max 1 period : Nat)
  ((grid : Int) + (((t : Int) - grid) + p / 2) / p * p).toNat

/-- The first grid instant at or after `t`. -/
def gridFrom (grid period t : Nat) : Nat :=
  let p : Int := (max 1 period : Nat)
  ((grid : Int) + (((t : Int) - grid) + p - 1) / p * p).toNat

/-- The start of the vertical blanking of the frame with instant `f`. -/
def TimingSet.blankStart (t : TimingSet) (f : Nat) : Nat := f - (t.period - t.vActive * t.line)

/-- The latch point of frame `n` of a running generator, in 2⁻¹⁶ ns (R242). -/
def State.latchTime (s : State) (g n : Nat) : Int :=
  let t := s.activeSet g
  let ahead : Int := (((n + 2 ^ 32 - (s.reg (Reg.wloFrames g)).toNat) % 2 ^ 32 : Nat))
  ((s.gen g).nextInstant : Int) + ahead * t.period - (t.period - t.vActive * t.line : Nat)

/-- The latch point of frame `n` of group `k` on generator `g`: groups 0 and 1 number their frames by CMP_FRAMES (R75, R210). -/
def State.groupLatch (s : State) (k g n : Nat) : Int :=
  if k ≤ 1 then s.latchTime g ((n + 2 ^ 32 - (s.reg (Reg.cmpFrames g)).toNat + (s.reg (Reg.wloFrames g)).toNat) % 2 ^ 32)
  else s.latchTime g n

/-- Is a generator on the swarm grid (R455)? -/
def State.onSwarmGrid (s : State) (t : TimingSet) : Bool :=
  s.cas.enable && t.period == s.cas.gridPeriod && t.period != 0 &&
  decide (((t.anchor : Int) - s.cas.gridAnchor) * 65536 % (max 1 t.period : Nat) = 0)

/-! The tile map and calibration (R254 to R261). -/

/-- A region's load on a line, bits (R259). -/
def TileEntry.load (r : TileEntry) : Nat := 3 * r.n * r.w + 256

/-- Does entry `e` fail a check of R256, given the entries before it? -/
def mapEntryBad (v : Variant) (before : List TileEntry) (e : TileEntry) : Bool :=
  let on := before.filter (·.enable)
  let mine := on.filter (fun r => r.gen == e.gen && decide (e.y0 < r.y0 + r.h))
  (match before.getLast? with | some p => decide (e.y0 * 65536 + e.x0 ≤ p.y0 * 65536 + p.x0) | none => false) ||
  (e.enable &&
    (e.low != 0 || e.codeWidth == 3 || wallAbsent v e.lane || decide (32768 < e.x0 + e.w) || decide (16384 < e.y0 + e.h) ||
     mine.any (fun r => decide (r.x0 < e.x0 + e.w ∧ e.x0 < r.x0 + r.w ∧ r.y0 < e.y0 + e.h)) ||
     on.any (fun r => r.lane == e.lane && r.pos == e.pos && r.module == e.module) || decide (1024 ≤ mine.length)))

/-- The first failing index of a list of entries, oldest first. -/
def mapFirstBad (v : Variant) (before : List TileEntry) : List TileEntry → Option Nat
  | [] => none
  | e :: t => if mapEntryBad v before e then some before.length else mapFirstBad v (before ++ [e]) t

/-- The largest load of lane `l` on any line. -/
def laneLoad (es : List TileEntry) (l : Nat) : Nat :=
  let mine := es.filter (fun e => e.enable && e.lane == l)
  (mine.map (fun a => ((mine.filter (fun e => decide (e.y0 ≤ a.y0 ∧ a.y0 < e.y0 + e.h))).map TileEntry.load).sum)).foldl max 0

/-- Is a tile map (bit 26) or calibration (bit 25) bank in use (R261)? -/
def State.wallBankInUse (s : State) (bit b : Nat) : Bool :=
  [0, 1].any (fun g =>
    (s.genState g != 0 && bitsOf (s.reg (Reg.wloActCtrl g)) bit bit == b) ||
    ([2, 3, 4].flatMap s.pendOf).any (fun p => match p.val (Reg.wloCtrl g) with | some v => bitsOf v bit bit == b | none => false))

/-- MAP_LOAD (R254, R256, R259, R261). -/
def doMapLoad (g : Nat) (s : State) : State :=
  let q := 9 + g
  s.takeAs q 0x10 [0] fun t s =>
    let b := t.fld 0 87 87
    let count := t.fld 0 86 71 + 1
    let src := t.fld 0 70 27 * 16
    if t.fld 0 26 0 ≠ 0 then s.complete q t.tag wloBadParams 0
    else if !inMemory s.variant src (16 * count) then s.complete q t.tag stBadAddress 0
    else if s.wallBankInUse 26 b then ((s.bump Reg.wloShDenied 15 0 1).fire 150).complete q t.tag wloTableInUse 0
    else
      let s := s.meet src (16 * count)
      if s.poisonedAt src (16 * count) then s.complete q t.tag stPoisoned 0 else
      let es := (List.range count).map (fun i => decodeTile (s.quadAt (src + 16 * i)))
      let bad := mapFirstBad s.variant [] es
      let n := bad.getD count
      let s := s.store (mapBase b) (s.bytes src (16 * n))
      match bad with
      | some i => (s.setReg (Reg.wloShMap b) 0).complete q t.tag wloMapInvalid (BitVec.ofNat 64 (n * 2 ^ 32 + i))
      | none =>
        let s := s.setReg (Reg.wloShMap b) (BitVec.ofNat 32 (2 ^ 31 + count))
        let s := (List.range 24).foldl (fun s l => s.setFld (Reg.wloShLoad b l) 23 0 (min (laneLoad es l) (2 ^ 24 - 1))) s
        (s.complete q t.tag stSuccess (BitVec.ofNat 64 (count * 2 ^ 32 + 0xFFFFFFFF))).fire 149

/-- CAL_LOAD (R257, R261, R271). -/
def doCalLoad (g : Nat) (s : State) : State :=
  let q := 9 + g
  s.takeAs q 0x11 [0] fun t s =>
    let b := t.fld 0 87 87
    let first := t.fld 0 86 73
    let count := t.fld 0 72 59 + 1
    let src := t.fld 0 58 15 * 16
    if t.fld 0 14 0 ≠ 0 ∨ 16384 < first + count then s.complete q t.tag wloBadParams 0
    else if !inMemory s.variant src (32 * count) then s.complete q t.tag stBadAddress 0
    else if s.wallBankInUse 25 b then ((s.bump Reg.wloShDenied 15 0 1).fire 150).complete q t.tag wloTableInUse 0
    else
      let s := s.meet src (32 * count)
      if s.poisonedAt src (32 * count) then s.complete q t.tag stPoisoned 0
      else (s.store (calBase b + 32 * first) (s.bytes src (32 * count))).complete q t.tag stSuccess (BitVec.ofNat 64 count)

/-- A region's part that generator `g` sends: first canvas column, first column on the generator, width; none when all of
it is clipped (R260). -/
def State.inWindow (s : State) (g : Nat) (r : TileEntry) : Option (Nat × Nat × Nat) :=
  let split := if s.locked && g == 1 then (s.activeSet 0).hActive else 0
  let w := (s.activeSet g).hActive
  if r.x0 < split ∨ split + w ≤ r.x0 then none else some (r.x0, r.x0 - split, min r.w (split + w - r.x0))

/-- How many regions of a generator are clipped (R260). -/
def State.clipped (s : State) (g : Nat) : Nat :=
  ((s.regionsOf g).filter (fun p => match s.inWindow g p.2 with | some c => c.2.2 != p.2.w | none => true)).length

/-! Correction (R258). -/

/-- The calibration entry `i` as matrix, gains and blacks. -/
def State.calEntry (s : State) (b i : Nat) : List Nat × List Nat × List Nat :=
  let v := s.num (calBase b + 32 * i) 32
  ((List.range 9).map (fun k => nbits v (255 - 16 * k) (240 - 16 * k)),
    (List.range 3).map (fun k => nbits v (111 - 16 * k) (96 - 16 * k)),
    (List.range 3).map (fun k => nbits v (63 - 16 * k) (48 - 16 * k)))

/-- The codes of a pixel under a calibration entry. -/
def correctPixel (cal : List Nat × List Nat × List Nat) (n : Nat) (p : Rgba) : List Nat :=
  let (m, gain, black) := cal
  (List.range 3).map (fun c =>
    let k (j : Nat) : Int := ofHalf (m.getD (3 * c + j) 0)
    let t := ofHalf (rn16 (ofHalf (gain.getD c 0) * (k 0 * ofHalf p.r + k 1 * ofHalf p.g + k 2 * ofHalf p.b)) 72)
    let v : Nat := (clampI 0 (2 ^ 24) t).toNat
    let top := 2 ^ n - 1
    let bk := black.getD c 0
    if top ≤ bk then top else min (bk + (v * (top - bk) * 2 + 2 ^ 24) / 2 ^ 25) top)

/-- The identity, unit gains and zero blacks. -/
def unitCal : List Nat × List Nat × List Nat :=
  ([0x3C00, 0, 0, 0, 0x3C00, 0, 0, 0, 0x3C00], [0x3C00, 0x3C00, 0x3C00], [0, 0, 0])

/-- The KEEP runs of a segment, as (offset, length): the pixels `miss` says are missing, by the rule of R289. -/
def keepRuns (n count : Nat) (miss : Nat → Bool) : List (Nat × Nat) :=
  let step := fun (a : List (Nat × Nat) × Bool × Bool) (i : Nat) =>
    -- (runs, in a run, the last run extends to the end)
    let (runs, inRun, toEnd) := a
    let grow := match runs.reverse with | (o, l) :: t => ((o, l + 1) :: t).reverse | [] => []
    if toEnd then (grow, true, true)
    else if miss i then
      if inRun then (grow, true, false)
      else
        let k := runs.length
        let r := (runs.map (·.2)).sum + 1
        if k < 14 ∧ 3 + k + (3 * n * (count - r) + 63) / 64 ≤ (3 * n * count + 256) / 64 then (runs ++ [(i, 1)], true, false)
        else (runs ++ [(i, 1)], true, true)
    else (runs, false, false)
  ((List.range count).foldl step ([], false, false)).1

/-- Bytes of codes laid end to end, lowest bit first (R288). -/
def codeBytes (n : Nat) (codes : List Nat) : List Byte :=
  leBytes ((n * codes.length + 7) / 8) (codes.zipIdx.map (fun p => p.1 * 2 ^ (n * p.2))).sum

/-- The blocks of a segment, its payload bytes, and the pixels kept (R287 to R290). -/
def segment (r : TileEntry) (row count : Nat) (codes : Nat → List Nat) (miss : Nat → Bool) : List Block × List Byte × Nat :=
  let runs := keepRuns r.n count miss
  let kept (i : Nat) : Bool := runs.any (fun p => decide (p.1 ≤ i ∧ i < p.1 + p.2))
  let sent := (List.range count).filter (fun i => !kept i)
  let payload := codeBytes r.n (sent.flatMap codes)
  let start := ctrlBlock 0x4B ((count - 1) * 2 ^ 31 + row * 2 ^ 17 + r.codeWidth * 2 ^ 15 + r.module * 2 ^ 8 + r.pos)
  let keeps := runs.map (fun p => ctrlBlock 0x66 ((p.2 - 1) * 2 ^ 14 + p.1))
  let fin := ctrlBlock 0x55 (runs.length * 2 ^ 47 + sent.length * 2 ^ 32 + crc32c payload)
  ([start] ++ dataBlocks payload ++ keeps ++ [fin], payload, count - sent.length)

/-! Records of frames (R262, R267, R272). -/

/-- The latch point of the frame that the counter names: its record begins, and an armed WLO_REPORT claims it (R229, R260, R272). -/
def State.openRec (s : State) (g : Nat) : State :=
  let x := s.gen g
  let r : WallRec :=
    { number := (s.reg (Reg.wloFrames g)).toNat, instant := 0, err := 0, underrun := 0, late := 0, segments := 0, watch := 0,
      mismatch := 0, missing := 0, clipped := s.clipped g, receivers := s.receiversOf g, marks := [], reported := [],
      report := x.repArmed.head? }
  let s := s.bump Reg.wloShClip 15 0 (s.clipped g)
  s.setGen g { x with recs := x.recs ++ [r], repArmed := x.repArmed.drop 1, line := 0 }

/-- The first blanking of the frame of the last record begins. -/
def State.beginBlank (s : State) (g : Nat) : State := s.mapGen g (fun x => { x with line := 0, phase := 3 })

/-- The frame of the last record is not sent: a Hold stopped the mode change that it was to follow. Its WLO_REPORT is armed for the next
one (R265; DESIGN CHOICE, log entry 34). -/
def State.dropRec (s : State) (g : Nat) : State :=
  s.mapGen g (fun x =>
    { x with recs := x.recs.dropLast, repArmed := (x.recs.getLast?.bind (·.report)).toList ++ x.repArmed })

/-- Change the record of the frame in progress. -/
def Gen.mapRec (x : Gen) (f : WallRec → WallRec) : Gen :=
  { x with recs := match x.recs.reverse with | [] => [] | r :: t => (f r :: t).reverse }

/-- Close a record: write its report, if one is claimed (R272). -/
def State.closeRec (s : State) (g : Nat) (r : WallRec) : State :=
  match r.report with
  | none => s
  | some (tag, addr) =>
    let c (n : Nat) : Nat := min n (2 ^ 32 - 1)
    let c16 (n : Nat) : Nat := min n 65535
    let w0 := r.number * 2 ^ 96 + r.instant % 2 ^ 32 * 2 ^ 64 + wrapInt 32 r.err * 2 ^ 32 + (s.epoch (11 + g)).toNat * 2 ^ 24
    let w1 := c r.underrun * 2 ^ 96 + c r.late * 2 ^ 64 + c r.segments * 2 ^ 32 + r.watch
    let w2 := c16 r.mismatch * 2 ^ 112 + c16 r.missing * 2 ^ 96 + c16 r.clipped * 2 ^ 80
    (s.unitStore (0x2C + g) addr (leBytes 16 w0 ++ leBytes 16 w1 ++ leBytes 16 w2 ++ leBytes 16 0)).complete (9 + g) tag
      stSuccess 0

/-! Starts, mode changes and latch points (R242 to R252). -/

/-- Start the next frame of the compositor's outputs that generators `gs` take (R210, R212, R250). -/
def State.startOutputs (s : State) (gs : List Nat) : State :=
  gs.foldl (fun s g =>
    let t := s.activeSet g
    if t.memory then s
    else
      let shown := (((List.range 16).filter (fun l => !s.locked && (s.layer l).output == g)).map (fun l => 2 ^ l)).sum
      s.cmpStart g t.hActive t.vActive (if s.locked && g == 1 then (s.activeSet 0).hActive else 0)
        (s.fld Reg.cmpLayerInvalid 15 0 &&& (0xFFFF - shown))) s

/-- At their latch point, the frames of generators `gs` are claimed: by the compositor's write-back and report on the canvas that they
will show, and by WLO_REPORT (R229, R237, R272). -/
def State.claimFrames (s : State) (gs : List Nat) : State :=
  gs.foldl (fun s g =>
    let t := s.activeSet g
    let other := if s.locked then (s.activeSet (1 - g)).hActive else 0
    (if t.memory then s else s.cmpClaim g (t.hActive + other) t.vActive).openRec g) s

/-- The compositor's part of a latch point on outputs `gs`. -/
def State.latchOutputs (s : State) (gs : List Nat) (pair : Option PendSet) : State :=
  gs.foldl (fun s g => (s.cmpLatch g (if g == gs.headD 0 then pair else none)).1) s

/-- The frame that group `k` counts at the latch point generator `g` has just reached: groups 0 and 1 count CMP_FRAMES, which
steps there too, the others WLO_FRAMES (R75, R210, R242). -/
def State.groupCount (s : State) (g k : Nat) : Nat :=
  if k ≤ 1 then ((s.reg (Reg.cmpFrames g)).toNat + 1) % 2 ^ 32 else (s.reg (Reg.wloFrames g)).toNat

/-- The shadow groups whose latch points are those of generator `g` (R73). -/
def groupsAt (g : Nat) : List Nat := [g, 2 + g, 4]

/-- Sets that swarm commits prepared and no DECIDE came for are discarded at their latch point (R457), and a COMMIT that still
waits for that frame returns LATE (R77). -/
def State.dropPrepared (s : State) (gs : List Nat) : State :=
  gs.foldl (fun s g =>
    let s := (groupsAt g).foldl (fun s k =>
      match sget none s.cas.prepared k with
      | some p =>
        if p.frame ≤ s.groupCount g k then
          (({ s with cas := { s.cas with prepared := sset none s.cas.prepared k none } }).report 0x10 0 0x0E p.id).fire 248
        else s
      | none => s) s
    s.commitReturns (fun k n => (groupsAt g).contains k && decide (n ≤ s.groupCount g k)) false) s

/-- The sets of the generators' groups that are due, and what is left of each group. -/
def State.dueSets (s : State) (gs : List Nat) (all : Bool) : List PendSet × Option PendSet × State :=
  let due (g : Nat) (p : PendSet) : Bool := all || decide (p.frame ≤ (s.reg (Reg.wloFrames g)).toNat)
  let pair := if s.locked then (s.pendOf 4).filter (due 0) else []
  let own := gs.flatMap (fun g => (s.pendOf (2 + g)).filter (due g))
  let s := gs.foldl (fun s g => s.setPend (2 + g) ((s.pendOf (2 + g)).filter (fun p => !due g p))) s
  let s := if s.locked then s.setPend 4 ((s.pendOf 4).filter (fun p => !due 0 p)) else s
  (pair ++ own, pair.getLast?, s)

/-- The sets that `gs` would run with, and the generators that would then run together: B's staged block joins A's when
lock is set (R252); lock of a locked pair changes by group 4 only. -/
def State.planSets (s : State) (gs : List Nat) (ps : List PendSet) (pair : Option PendSet) : List (Nat × TimingSet) :=
  let lockable := s.variant != .ew9730
  let a := s.candidate 0 ps
  let keepLock := s.locked && (pair.bind (fun p => p.val (Reg.wloCtrl 0))).isNone
  let a : TimingSet := (putBits (a.getD 0 0) 31 31 ((a.lock || keepLock) && lockable && (gs.contains 0)).toNat) :: a.drop 1
  if gs.contains 0 && a.lock then
    let b := if s.locked then s.candidate 1 ps else (stagedSetKeys 1).map s.reg
    [(0, a), (1, pairSet a ((putBits (b.getD 0 0) 31 31 0) :: b.drop 1))]
  else gs.map (fun g => (g, if g = 0 then a else s.candidate 1 ps))

/-- The first cause that rejects a plan, 0 for none. -/
def State.planReject (s : State) (plan : List (Nat × TimingSet)) : Nat :=
  let rest := [0, 1].filter (fun g => !(plan.map (·.1)).contains g && s.genRuns g)
  let reason (p : Nat × TimingSet) : Nat :=
    s.rejectReason p.2 ((plan.filter (fun r => r.1 != p.1)).map (·.2) ++ rest.map s.activeSet)
  ((plan.map reason).filter (· != 0)).headD 0

/-- A set is rejected (R248): reason recorded on the generators, WLO_REJECT fires. -/
def State.rejectSet (s : State) (gs : List Nat) (reason : Nat) : State :=
  (gs.foldl (fun s g => s.setFld (Reg.wloStatus g) 23 20 reason) s).fire 148

/-- Put a plan in force: active blocks, the lock, reject_reason cleared. -/
def State.putPlan (s : State) (plan : List (Nat × TimingSet)) : State :=
  let s := plan.foldl (fun s p => (s.putActive p.1 p.2).setFld (Reg.wloStatus p.1) 23 20 0) s
  match plan.find? (fun p => p.1 == 0) with
  | some p => [0, 1].foldl (fun s g => s.setFld (Reg.wloStatus g) 27 27 p.2.lock.toNat) s
  | none => s

/-- Is a frame counter step of A followed by B's (R252)? -/
def State.stepFrames (s : State) (gs : List Nat) : State :=
  match gs with
  | [0, 1] =>
    let s := s.count (Reg.wloFrames 0) 1
    s.setReg (Reg.wloFrames 1) (s.reg (Reg.wloFrames 0))
  | _ => gs.foldl (fun s g => s.count (Reg.wloFrames g) 1) s

/-- Begin a restart of `gs` (R251, R265): the generators stop, HOLD goes to `lanes`, each raster comes back with its frame
instant `f`. -/
def State.beginRestart (s : State) (gs : List Nat) (lanes : List Nat) (f : Nat → Nat) : State :=
  let s := s.fire 140
  let n := (s.reg (Reg.wloFrames (gs.headD 0))).toNat
  let s := s.sendControl lanes (gs == [1]) n 0x87 ((n + 2 ^ 32 - 1) % 2 ^ 32)
  gs.foldl (fun s g =>
    ((s.mapGen g (fun x =>
      { x with phase := 1, nextInstant := f g, reland := false, releaseDue := true, heldFrom := [], line := 0 })).eqStart
        (Reg.wloEq g)).setGenState g 3) s

/-- The lanes that carry a region of some of the generators. -/
def State.lanesOfAll (s : State) (gs : List Nat) : List Nat := (gs.flatMap s.lanesOf).eraseDups

/-- The generators of `gs` stop and are held (R264 step 4); a START that waits begins. -/
def State.holdDone (s : State) (gs : List Nat) : State :=
  let want := (gs.flatMap s.receiversOf).eraseDups
  let got := want.filter (fun r => gs.any (fun g => (s.gen g).heldFrom.contains r))
  let all := got.length == want.length
  let waits := gs.flatMap (fun g => (s.gen g).holds)
  let s := gs.foldl (fun s g =>
    ((s.mapGen g (fun x => { x with holds := [], holdAsked := false, phase := 0, releaseDue := true })).cmpEnd g).setGenState g 5) s
  let s := s.fire 142
  waits.foldl (fun s w => s.complete w.queue w.tag (if all then stSuccess else wloHoldIncomplete)
    (BitVec.ofNat 64 (got.length * 2 ^ 32 + (want.length - got.length)))) s

/-- Have all receivers of holding generators reported held? -/
def State.allHeld (s : State) (gs : List Nat) : Bool :=
  (gs.flatMap s.receiversOf).all (fun r => gs.any (fun g => (s.gen g).heldFrom.contains r))

/-- A START taken in Hold returns the device to Run (R506). -/
def State.startRuns (s : State) : State :=
  if s.fld Reg.fghStatus 31 28 = 1 then (s.setFld Reg.fghStatus 31 28 0).fire 25 else s

/-- START is carried out on `g` (R247): its pending sets, then the retiming. -/
def State.beginStart (s : State) (g : Nat) (w : GenWait) : State :=
  let gs := s.pairOf g
  let (ps, pair, s) := s.dueSets gs true
  let plan := s.planSets gs ps pair
  let reason := s.planReject plan
  if reason ≠ 0 then (s.rejectSet gs reason).complete w.queue w.tag wloBadParams 0
  else
    let s := match pair with | some p => ((s.cmpApply p true).1.fire 130).fire 131 | none => s
    let s := s.putPlan plan
    let t : TimingSet := (plan.head?.map (·.2)).getD []
    let grid := t.anchor * 65536
    let f := gridFrom grid t.period ((s.now + 1000000) * 65536 + (t.period - t.vActive * t.line))
    State.startRuns <| plan.foldl (fun s p =>
      let s := if s.onSwarmGrid t then
          s.setReg (Reg.wloFrames p.1) (BitVec.ofInt 32 ((s.cas.gridFrame : Int) +
            ((f : Int) - s.cas.gridAnchor * 65536) / (max 1 t.period : Nat) - 1))
        else s
      ((s.mapGen p.1 (fun x =>
        { x with phase := 1, grid := grid, nextInstant := f, first := true, reland := false, goodFrames := 0, adjust := 0,
                 lastPulse := none, pulseRun := 0, watchLast := none, freezeMade := false, line := 0,
                 startCmd := if p.1 = g then some w else x.startCmd, startWait := none,
                 holds := [], holdAsked := false })).eqStart (Reg.wloEq p.1)).setGenState p.1 1) s

/-- The Hold of `gs` is complete, and then the START that waits, if any. -/
def State.holdEnds (s : State) (gs : List Nat) : State :=
  let s := s.holdDone gs
  gs.foldl (fun s g =>
    match (s.gen g).startWait with
    | some w => (s.mapGen g (fun x => { x with startWait := none })).beginStart g w
    | none => s) s

/-- START (R247, R253, R265). -/
def doStart (g : Nat) (s : State) : State :=
  let q := 9 + g
  s.takeWhen q 0x12 [0] (fun _ => (s.gen g).startWait.isNone) fun t s =>
    let st := s.genState g
    if t.fld 0 87 0 ≠ 0 then s.complete q t.tag wloBadParams 0
    else if s.locked ∧ g = 1 then s.complete q t.tag wloLockedPair 0
    else if st = 4 ∨ (1 ≤ st ∧ st ≤ 3 ∧ (s.gen g).holdAsked = true) then s.mapGen g (fun x => { x with startWait := some ⟨q, t.tag⟩ })
    else if 1 ≤ st ∧ st ≤ 3 then s.complete q t.tag wloAlreadyRunning 0
    else s.beginStart g ⟨q, t.tag⟩

/-- A Hold is asked of running generators (R264 to R266). -/
def State.askHold (s : State) (g : Nat) (w : List GenWait) : State :=
  let gs := s.pairOf g
  let st := s.genState g
  let s := gs.foldl (fun s k =>
    let s := s.mapGen k (fun x => { x with holds := if k = g then w else [], holdAsked := st != 3, phase := if st = 3 then 0 else x.phase })
    let s := if st = 3 then s.dropRec k else s
    if st = 1 then s else s.setGenState k 4) s
  if st = 3 && s.allHeld gs then s.holdEnds gs else s

/-- HOLD (R253, R264, R265). -/
def doHold (g : Nat) (s : State) : State :=
  let q := 9 + g
  s.takeAs q 0x13 [0] fun t s =>
    let st := s.genState g
    if t.fld 0 71 0 ≠ 0 then s.complete q t.tag wloBadParams 0
    else if s.locked ∧ g = 1 then s.complete q t.tag wloLockedPair 0
    else if st = 0 ∨ st = 4 ∨ st = 5 ∨ (s.gen g).holdAsked = true then s.complete q t.tag wloAlreadyHeld 0
    else s.askHold g [⟨q, t.tag⟩]

/-- Protective Hold (R266): each running generator enters Hold. -/
def State.protectHold (s : State) : State :=
  let gs := [0, 1].filter (fun g => decide (1 ≤ s.genState g ∧ s.genState g ≤ 3) && !(s.gen g).holdAsked && !(s.locked && g == 1))
  gs.foldl (fun s g => (s.askHold g []).fire 143) s

/-- WLO_REPORT (R272). -/
def doWloReport (g : Nat) (s : State) : State :=
  let q := 9 + g
  s.takeWhen q 0x14 [1] (fun _ => (s.gen g).repArmed.isEmpty) fun t s =>
    let addr := t.fld 1 127 80
    if !t.zeros [(0, 87, 0), (1, 79, 0)] ∨ addr % 64 ≠ 0 then s.complete q t.tag wloBadParams 0
    else if !s.genRuns g then s.complete q t.tag wloNotRunning 0
    else if !inMemory s.variant addr 64 then s.complete q t.tag stBadAddress 0
    else s.mapGen g (fun x => { x with repArmed := [(t.tag, addr)] })

/-- Is generator `g` at a latch point: it scans out in Run, or in the frame after which it holds, and its frame is complete
(R248)? A locked B follows A. -/
def State.atLatch (s : State) (g : Nat) : Bool :=
  s.genHere g && !(s.locked && g == 1) && (s.genState g == 2 || (s.genState g == 4 && (s.gen g).holdAsked)) && (s.gen g).phase == 0

/-- The latch point at which a Hold begins (R264): HOLD goes to the tiles; with no receiver left to report, the Hold ends. -/
def State.latchHold (s : State) (g : Nat) : State :=
  let gs := s.pairOf g
  let n := (s.reg (Reg.wloFrames g)).toNat
  let s := s.sendControl (s.lanesOfAll gs) (gs == [1]) n 0x87 n
  let s := gs.foldl (fun s k => s.mapGen k (fun x => { x with holdAsked := false, heldFrom := [] })) s
  if s.allHeld gs then s.holdEnds gs else s

/-- The next frame follows on the grid, nothing changing (R242, R248). -/
def State.latchOn (s : State) (gs : List Nat) (period : Nat) (pair : Option PendSet) : State :=
  let s := (s.latchOutputs gs pair).claimFrames gs
  let s := gs.foldl (fun s k =>
    (s.mapGen k (fun x => { x with nextInstant := nearGrid x.grid period (x.nextInstant + period) })).beginBlank k) s
  s.startOutputs gs

/-- A latch point in Run (R248 to R252). -/
def State.latchRun (s : State) (g : Nat) : State :=
  let x := s.gen g
  let gs := s.pairOf g
  let old := s.activeSet g
  let latch := x.nextInstant + old.vActive * old.line
  let s := (s.stepFrames gs).dropPrepared gs
  let (ps, pair, s) := s.dueSets gs false
  let plan := s.planSets gs ps pair
  let reason := if ps.isEmpty then 0 else s.planReject plan
  let s := if reason ≠ 0 then s.rejectSet gs reason else s
  let go := !ps.isEmpty && reason == 0
  let now := if go then plan else gs.map (fun k => (k, s.activeSet k))
  let changes := go && now.any (fun p => modeChange (s.activeSet p.1) p.2)
  let all := (gs ++ now.map (·.1)).eraseDups
  let oldLanes := s.lanesOfAll (all.filter s.genRuns)
  let s := if go then s.putPlan plan else s
  let pair := if go then pair else none
  if changes then
    let s := if all == gs then s else s.setReg (Reg.wloFrames 1) (s.reg (Reg.wloFrames 0))
    let f (k : Nat) : Nat :=
      let t := s.activeSet k
      latch + 2 * old.period + (t.period - t.vActive * t.line)
    let s := (s.latchOutputs all pair).claimFrames all
    let s := now.foldl (fun s p =>
      ((s.setReg (Reg.wloAct p.1 6) (BitVec.ofNat 32 (f p.1 / 65536))).setReg (Reg.wloAct p.1 7)
        (BitVec.ofNat 32 (f p.1 / 65536 / 2 ^ 32))).mapGen p.1 (fun x => { x with grid := f p.1 })) s
    s.beginRestart all ((oldLanes ++ s.lanesOfAll all).eraseDups) f
  else if x.reland then
    let s := (s.latchOutputs gs pair).claimFrames gs
    let f := gridFrom x.grid old.period (latch + 2 * old.period + (old.period - old.vActive * old.line))
    s.beginRestart gs ((oldLanes ++ s.lanesOfAll gs).eraseDups) (fun _ => f)
  else s.latchOn gs old.period pair

/-- WLO_LATCH_POINT (R242, R248 to R252, R264). -/
def doWloLatchPoint (g : Nat) (s : State) : State :=
  if s.atLatch g then (if (s.gen g).holdAsked then s.latchHold g else s.latchRun g) else s

/-- GENERATOR_RETIMED (R247, R251). -/
def doGeneratorRetimed (g : Nat) (s : State) : State :=
  if s.genHere g && (s.gen g).phase == 1 && (s.genState g == 1 || s.genState g == 3) then
    (s.pairOf g).foldl (fun s k => s.mapGen k (fun x => { x with phase := 2 })) s
  else s

/-- RASTER_RESTART (R247, R251): the first blanking begins; at a START the counter steps here. -/
def doRasterRestart (g : Nat) (s : State) : State :=
  let st := s.genState g
  if !s.genHere g || (s.locked && g == 1) || (s.gen g).phase != 2 || !(st == 1 || st == 3) then s
  else
    let gs := s.pairOf g
    let s := if st = 1 then ((((s.stepFrames gs).dropPrepared gs)).latchOutputs gs none).claimFrames gs else s
    (gs.foldl State.beginBlank s).startOutputs gs

/-- Foghorn and the events learn of a frozen watch rectangle (R268), once a frame's last line has left. -/
def State.freezeCheck (s : State) (g : Nat) : State :=
  let x := s.gen g
  let k := (s.activeSet g).getD 17 0
  if bitsOf k 31 31 = 0 then (s.setFld (Reg.wloFreezeRun g) 7 0 0).setGen g { x with watchLast := none, freezeMade := false }
  else
    let v := x.watchCrc ^^^ 0xFFFFFFFF
    let same := x.watchLast == some v
    let run := if same then min 255 (s.fld (Reg.wloFreezeRun g) 7 0 + 1) else 0
    let s := (s.setFld (Reg.wloFreezeRun g) 7 0 run).setGen g
      { x with watchLast := some v, freezeMade := x.freezeMade && same, watchCrc := 0xFFFFFFFF }
    if same && !x.freezeMade && decide (max 1 (bitsOf k 7 0) ≤ run) then
      ((s.mapGen g (fun x => { x with freezeMade := true })).report (0x2C + g) 0 0x0B 0).fire 145
    else s

/-- The phase of one generator at a frame instant (R245). -/
def State.phaseAt (s : State) (g : Nat) (e : Int) : State :=
  let t := s.activeSet g
  let x := s.gen g
  let big := decide (t.period / 65536 < 4 * e.natAbs)
  let good := if e.natAbs ≤ 20 then min 8 (x.goodFrames + 1) else 0
  let adj : Int := (min e.natAbs t.slew : Nat)
  let s := (s.setReg (Reg.wloPhase g) (BitVec.ofInt 32 e)).setGen g
    { x with goodFrames := good, reland := x.reland || big, adjust := if big then 0 else if e < 0 then adj else -adj }
  let locked := s.fld (Reg.wloStatus g) 26 26 == 1
  if locked && decide (100 < e.natAbs) then (s.setFld (Reg.wloStatus g) 26 26 0).fire 146
  else if good = 8 then s.setFld (Reg.wloStatus g) 26 26 1 else s

/-- The frame instant of generator `k`, at Beacon nanosecond `actual` (R242, R245, R286): FRAME to its lanes, the phase
measured, the scan from line 0; a START finishes. `lead` is the generator that speaks for the pair. -/
def State.instantOf (s : State) (k lead actual : Nat) : State :=
  let x := s.gen k
  let number := (s.reg (Reg.wloFrames k)).toNat
  let s := (s.lanesOf k).foldl (fun s l =>
    if s.laneUp l then
      s.sendGroup l false (k == 1) number 0xFFFF 0 ((if x.releaseDue then [ctrlBlock 0x99 number] else []) ++
        [ctrlBlock 0x78 (number + (k == 1).toNat * 2 ^ 32)])
    else s) s
  let target := x.nextInstant / 65536
  let e : Int := (actual : Int) - target
  let s := s.phaseAt k e
  let s := s.mapGen k (fun x =>
    { x.mapRec (fun r => { r with instant := actual, err := e }) with
      phase := 0, line := 0, underrunMade := false, releaseDue := false, first := false, watchCrc := 0xFFFFFFFF })
  let restarted := s.genState k == 1 || s.genState k == 3
  let s := if restarted then s.setGenState k (if x.holdAsked then 4 else 2) else s
  let s := s.fire (136 + k)
  let s := if restarted && k == lead then s.fire 141 else s
  match x.startCmd with
  | some w =>
    (s.mapGen k (fun x => { x with startCmd := none })).complete w.queue w.tag stSuccess
      (BitVec.ofNat 64 (number * 2 ^ 32 + target % 2 ^ 32))
  | none => s

/-- FRAME_INSTANT (R242, R245, R247, R251, R268, R286): `actual` in Beacon ns. -/
def doFrameInstant (g : Nat) (actual : Nat) (s : State) : State :=
  if s.genHere g && !(s.locked && g == 1) && (s.gen g).phase == 3 then
    let gs := s.pairOf g
    gs.foldl (fun s k => s.instantOf k (gs.headD 0) actual) s
  else s

/-! Scan-out (R249, R259 to R262, R267, R268). -/

/-- A line of a memory frame: its pixels, and whether a word of it is poisoned (R249). -/
def State.memoryLine (s : State) (t : TimingSet) (y : Nat) : List Rgba × Bool :=
  let raw := (List.range t.hActive).map (fun x =>
    if t.packed then s.packedPixel 0 0 t.hActive t.addr t.hdr x y else s.numIf (t.addr + y * t.stride * 64 + 8 * x) 8)
  (raw.map (fun v => match v with | some p => Rgba.ofFn (fun c => takeHalf (pixChannel 0 p c)) | none => Rgba.zero),
    raw.any Option.isNone)

/-- The ranges of memory that line `y` of a memory frame is read from, as (address, length). -/
def State.frameReads (s : State) (t : TimingSet) (y : Nat) : List (Nat × Nat) :=
  if t.packed then
    (List.range (blocksAcross t.hActive)).flatMap (fun i =>
      let (ha, sa) := blockAt t.hActive 8 t.addr t.hdr (16 * i) y
      [(ha, 1), (sa, slotUsed 8 (s.byte ha).toNat)])
  else [(t.addr + y * t.stride * 64, 8 * t.hActive)]

/-- What scanning a line gathers: by lane, segments and blocks; the counts of kept pixels, segments and corrected pixels; CRCs by
receiver. -/
structure LineOut where
  groups : Sparse (List Block)
  segs : Sparse Nat
  kept : Nat
  sent : Nat
  marks : Sparse Nat
  done : Nat
  deriving DecidableEq, Repr

/-- Send the segment of one region on line `y` (R258, R259, R288). -/
def State.scanRegion (s : State) (g y : Nat) (t : TimingSet) (px : Nat → Rgba) (miss : Nat → Bool) (a : State × LineOut)
    (p : Nat × TileEntry) : State × LineOut :=
  let (s', o) := a
  let r := p.2
  match s.inWindow g r with
  | none => a
  | some (_, x0, w) =>
    if !s.laneCarries r.lane then (s'.bump (Reg.lnxWlCount1 r.lane) 31 16 1, o)
    else
      let poisoned := s.poisonedAt (mapBase t.mapBank + 16 * p.1) 16 ||
        (t.correct && s.poisonedAt (calBase t.calBank + 32 * r.cal) 32)
      let cal := if t.correct then s.calEntry t.calBank r.cal else unitCal
      let (blocks, payload, kept) := segment r (y - r.y0) w (fun i => correctPixel cal r.n (px (x0 + i)))
        (fun i => poisoned || miss (x0 + i))
      let key := r.lane * 256 + r.pos
      let s' := if poisoned then (s'.report (0x2C + g) 0 0x0B p.1).fire 152 else s'
      (s', { o with groups := sset [] o.groups r.lane (sget [] o.groups r.lane ++ blocks),
                    segs := sset 0 o.segs r.lane (sget 0 o.segs r.lane + 1), kept := o.kept + kept, sent := o.sent + 1, done := o.done + (w - kept),
                    marks := sset 0xFFFFFFFF o.marks key (crc32cOver (sget 0xFFFFFFFF o.marks key) payload) })

/-- Does generator `g` scan out a line now (R249)? -/
def State.scanDue (s : State) (g : Nat) : Bool :=
  s.genHere g && (s.genState g == 2 || (s.genState g == 4 && (s.gen g).holdAsked)) && (s.gen g).phase == 0 &&
    decide ((s.gen g).line < (s.activeSet g).vActive)

/-- Scan out line `y` of generator `g`: the segments of the regions that it crosses, in order of their first columns, what is
missing kept; `missing` lists runs of columns (start, length) that had not reached the elastic queue in time. -/
def State.scanLine (s : State) (g : Nat) (missing : List (Nat × Nat)) (residue : Bool) : State :=
  let x := s.gen g
  let t := s.activeSet g
  let y := x.line
  let eqLine := ((s.cmpOut g).eq.find? (fun l => l.1 == y)).map (·.2)
  let s := if t.memory then (s.frameReads t y).foldl (fun s r => s.meet r.1 r.2) s else s
  let (line, bad) := if t.memory then s.memoryLine t y else (eqLine.getD [], false)
  let gone := (!t.memory && eqLine.isNone) || s.unitStalled (0x2C + g)
  let px (i : Nat) : Rgba := line.getD i Rgba.zero
  let miss (i : Nat) : Bool := gone || missing.any (fun m => decide (m.1 ≤ i ∧ i < m.1 + m.2))
  let lost := ((List.range t.hActive).filter miss).length
  let rec_ := x.recs.getLast?
  let regs := (s.regionsOf g).filter (fun p => decide (p.2.y0 ≤ y ∧ y < p.2.y0 + p.2.h ∧ 0 < p.2.w))
  let cols := (List.range 33).flatMap (fun k => regs.filter (fun p => p.2.x0 / 1024 == k))
  let sorted := cols.foldl (fun (l : List (Nat × TileEntry)) p =>
    l.filter (fun r => decide (r.2.x0 ≤ p.2.x0)) ++ [p] ++ l.filter (fun r => decide (p.2.x0 < r.2.x0))) []
  let s := sorted.foldl (fun s p =>
    let s := s.meet (mapBase t.mapBank + 16 * p.1) 16
    if t.correct then s.meet (calBase t.calBank + 32 * p.2.cal) 32 else s) s
  let (s, o) := sorted.foldl (s.scanRegion g y t px miss)
    (s, ⟨[], [], 0, 0, (rec_.map (·.marks)).getD [], 0⟩)
  let number := (s.reg (Reg.wloFrames g)).toNat
  let s := o.groups.foldl (fun s p => s.sendGroup p.1 false (g == 1) number y (sget 0 o.segs p.1) p.2) s
  let wp := t.getD 15 0
  let ws := t.getD 16 0
  let inWatch (i : Nat) : Bool :=
    decide (bitsOf wp 31 16 ≤ i ∧ i < bitsOf wp 31 16 + bitsOf ws 31 16 ∧ bitsOf wp 15 0 ≤ y ∧ y < bitsOf wp 15 0 + bitsOf ws 15 0)
  let watched := (List.range t.hActive).filter (fun i => inWatch i && !miss i)
  let crc := crc32cOver x.watchCrc (watched.flatMap (fun i => leBytes 2 (px i).r ++ leBytes 2 (px i).g ++ leBytes 2 (px i).b))
  let last := decide (y + 1 = t.vActive)
  let armed := bitsOf (t.getD 17 0) 31 31 == 1
  let s := s.mapGen g (fun x =>
    { x.mapRec (fun r =>
        { r with underrun := r.underrun + o.kept, late := r.late + (if gone then 0 else lost), segments := r.segments + o.sent, marks := o.marks,
                 watch := if last && armed then crc ^^^ 0xFFFFFFFF else r.watch }) with
      line := y + 1, watchCrc := crc, underrunMade := x.underrunMade || decide (0 < o.kept) })
  let s := ((s.bump (Reg.wloUnderrun g) 31 0 o.kept).eqSeen (Reg.wloEq g) (if 0 < lost then some 0 else none)).tally (0x2C + g) o.done
  let s := if 0 < o.kept ∧ x.underrunMade = false then s.fire (138 + g) else s
  let s := (s.setFld (Reg.wloStatus g) 15 0 y).mapCmpOut g (fun c => { c with eq := c.eq.filter (fun l => decide (y < l.1)) })
  let s := if t.memory then s else s.cmpMissed g lost
  let s := if bad then s.fire 152 else s
  let s := if residue then (s.report (0x2C + g) 0 0x08 0).fire 151 else s
  if last then (s.freezeCheck g).cmpLeft g else s

/-- WLO_LINE_SCAN (R249, R258 to R262, R267, R268). -/
def doWloLineScan (g : Nat) (missing : List (Nat × Nat)) (residue : Bool) (s : State) : State :=
  if s.scanDue g then s.scanLine g missing residue else s

/-! The frame reference (R244, R246). -/

/-- The distance between two grids of period `p`. -/
def gridGap (p a b : Nat) : Nat :=
  let d := (((a : Int) - b) % (max 1 p : Nat)).toNat
  min d (max 1 p - d)

/-- FREF_EDGE: a pulse stamped in Beacon ns, for every generator with frame_ref = 1. A pulse near the position that the one before
predicts is accepted; one that no other preceded moves the grid only by P / 4 or less (R246). The frame that has been latched takes its
instant on the new grid (R244). -/
def doFrefEdge (stamp : Nat) (s : State) : State :=
  [0, 1].foldl (fun s g =>
    let t := s.activeSet g
    let x := s.gen g
    if !s.genHere g || !s.genRuns g || t.frameRef != 1 then s
    else
      let span := t.frefDiv * t.period / 65536
      let ok := match x.lastPulse with
        | none => true
        | some p => decide ((((stamp : Int) - (p + span : Nat)).natAbs) * 1000 ≤ span)
      let run := if ok then x.pulseRun + 1 else 0
      let grid := ((stamp : Int) + signed 32 (t.getD 9 0).toNat).toNat * 65536
      let moves := ok && (x.lastPulse.isSome || decide (4 * gridGap t.period grid x.grid ≤ t.period))
      let s := s.setGen g
        { x with lastPulse := some stamp, pulseRun := min 2 run, grid := if moves then grid else x.grid,
                 nextInstant := if moves && x.phase == 3 then nearGrid grid t.period x.nextInstant else x.nextInstant }
      if ok && decide (2 ≤ run) then s.setFld (Reg.wloStatus g) 25 25 0 else s) s

/-- FREF_LOST_TIMEOUT (R246). -/
def doFrefLostTimeout (g : Nat) (s : State) : State :=
  if s.genHere g && s.genRuns g && (s.activeSet g).frameRef == 1 && s.fld (Reg.wloStatus g) 25 25 == 0 then
    ((s.mapGen g (fun x => { x with pulseRun := 0 })).setFld (Reg.wloStatus g) 25 25 1).fire 147
  else s

/-! Hold and Daymark reports (R264, R267, R304). -/

/-- HOLD_ACK_TIMEOUT (R264). -/
def doHoldAckTimeout (g : Nat) (s : State) : State :=
  if s.genHere g && !(s.locked && g == 1) && s.genState g == 4 && !(s.gen g).holdAsked then s.holdEnds (s.pairOf g) else s

/-- TILE_HELD_REPORT (R264, R304). -/
def doTileHeldReport (l : Nat) (f : BitVec 56) (full : Bool) (s : State) : State :=
  if !s.reportsIn l then s
  else if full then s.dropReport l
  else
    let p := nbits f.toNat 7 0
    let key := l * 256 + p
    let s := s.statusEntry l p [(31, 16, nbits f.toNat 23 8)]
    let s := [0, 1].foldl (fun s g =>
      let x := s.gen g
      if (s.genState g == 3 || s.genState g == 4) && !x.holdAsked && (s.receiversOf g).contains key && !x.heldFrom.contains key
      then s.setGen g { x with heldFrom := x.heldFrom ++ [key] } else s) s
    [0, 1].foldl (fun s g =>
      if s.genState g == 4 && !(s.gen g).holdAsked && !(s.locked && g == 1) && s.allHeld (s.pairOf g)
      then s.holdEnds (s.pairOf g) else s) s

/-- Change the records of a frame number of generator `g`. -/
def State.mapRecs (s : State) (g : Nat) (f : WallRec → WallRec) : State :=
  s.mapGen g (fun x => { x with recs := x.recs.map f })

/-- TILE_DAYMARK_REPORT (R267, R304). -/
def doTileDaymarkReport (l : Nat) (f : BitVec 56) (full : Bool) (s : State) : State :=
  if !s.reportsIn l then s
  else if full then s.dropReport l
  else
    let v := f.toNat
    let p := nbits v 7 0
    let key := l * 256 + p
    let low := nbits v 23 8
    let mark := nbits v 55 24
    let s := s.statusEntry l p [(79, 64, low), (63, 32, mark)]
    [0, 1].foldl (fun s g =>
      let hit (r : WallRec) : Bool := r.number % 65536 == low && r.receivers.contains key && !r.reported.contains key
      match (s.gen g).recs.find? hit with
      | none => s
      | some r =>
        let bad := (sget 0xFFFFFFFF r.marks key ^^^ 0xFFFFFFFF) != mark
        let s := s.mapRecs g (fun q =>
          if hit q then { q with reported := q.reported ++ [key], mismatch := q.mismatch + bad.toNat } else q)
        if bad then (((s.bump (Reg.wloDaymark g) 31 16 1)).report (0x2C + g) 0 0x0B key).fire 144 else s) s

/-- DAYMARK_DEADLINE (R267, R272): F_(N+2) + 2 ms of the oldest frame not yet decided. -/
def doDaymarkDeadline (g : Nat) (s : State) : State :=
  match (s.gen g).recs with
  | [] => s
  | r :: rest =>
    if !s.genHere g || !(decide (2 ≤ ((s.reg (Reg.wloFrames g)).toNat + 2 ^ 32 - r.number) % 2 ^ 32) || !s.genRuns g) then s
    else
      let missing := r.receivers.filter (fun k => !r.reported.contains k)
      let r := { r with missing := missing.length }
      let s := s.mapGen g (fun x => { x with recs := rest })
      let s := s.bump (Reg.wloDaymark g) 15 0 missing.length
      let s := missing.foldl (fun s k => s.report (0x2C + g) 0 0x0B k) s
      let s := if missing.isEmpty then s else s.fire 144
      s.closeRec g r

/-- ABORT reaches a WLO_REPORT that is armed or open (R42). -/
def State.wloAbort (s : State) (g tag : Nat) : Option State :=
  let x := s.gen g
  let q := 9 + g
  if x.repArmed.any (fun r => r.1 == tag) then
    some ((s.setGen g { x with repArmed := x.repArmed.filter (fun r => r.1 != tag) }).complete q tag stAborted 0)
  else if x.recs.any (fun r => match r.report with | some p => p.1 == tag | none => false) then
    some ((s.mapRecs g (fun r =>
      match r.report with | some p => if p.1 = tag then { r with report := none } else r | none => r)).complete q tag stAborted 0)
  else none

end Sys2Proof.Machine
end

