-- ==== Sys2Proof/Machine/Commit.lean ====
section
/-!
DEFINITION. Shadow groups: what a commit copies, the frame it lands on, how a set becomes pending (R73 to R76).
-/
namespace Sys2Proof.Machine

/-- Is a group reserved (R73)? -/
def groupReserved (g : Nat) : Bool := decide (9 ≤ g)

/-- Is a group swarm-capable (R73)? -/
def groupSwarm (g : Nat) : Bool := decide (g ≤ 4)

/-- Is a group's unit absent (R73)? -/
def groupAbsent (v : Variant) (g : Nat) : Bool :=
  (v == .ew9730 && (g == 1 || g == 3 || g == 4)) || (v.small && (g == 6 || g == 8))

/-- The staged keys of the layers that compose an output, of all while A and B are locked (R208). -/
def State.stagedLayers (s : State) (o : Nat) : List Nat :=
  (List.range 16).flatMap (fun l =>
    if s.locked || s.fld (Reg.cmpLCtrl l) 30 30 == o then (List.range 18).map (fun i => Reg.cmpLCtrl l + 4 * i) else []) ++
  (if s.locked then [0, 1] else [o]).flatMap (fun o => [Reg.cmpOut0 o, Reg.cmpOut1 o])

/-- The keys of a group's staged values. -/
def State.stagedKeys (s : State) (g : Nat) : List Nat :=
  if g ≤ 1 then s.stagedLayers g
  else if g ≤ 3 then (if s.locked then stagedSetKeys 0 ++ stagedSetKeys 1 else stagedSetKeys (g - 2))
  else if g = 4 then s.stagedLayers 0 ++ stagedSetKeys 0 ++ stagedSetKeys 1
  else if g ≤ 6 then [Reg.clrBankShadow (g - 5)]
  else [Reg.rfeBankShadow (g - 7)]

/-- The copy of a group's staged values that an acceptance takes (R75). -/
def State.stagedCopy (s : State) (g : Nat) : List (Nat × Word) := (s.stagedKeys g).map (fun k => (k, s.reg k))

/-- The frame counter of a group (R75). -/
def groupFrames (g : Nat) : Nat :=
  if g ≤ 1 then Reg.cmpFrames g
  else if g ≤ 3 then Reg.wloFrames (g - 2)
  else if g = 4 then Reg.wloFrames 0
  else if g ≤ 6 then Reg.clrFrames (g - 5)
  else Reg.rfeFrames (g - 7)

/-- The frame that a local commit lands on: its latch point is the next one of the group (R75). -/
def State.landing (s : State) (g : Nat) : Nat := ((s.reg (groupFrames g)).toNat + 1) % 2 ^ 32

/-- Show that a set is pending, where a register shows it. -/
def State.pendShow (s : State) (g : Nat) : State :=
  if g = 5 ∨ g = 6 then s.clrPendShow (g - 5) else if g = 7 ∨ g = 8 then s.rfePendShow (g - 7) else s

/-- A set becomes pending for a frame: it replaces one that waits for the same latch point, and the superseded count steps (R76); a
set that a swarm commit made pending for a later frame stands. A set of group 4 replaces those of groups 0 to 3 that would land by
then, as their frame numbers read (DESIGN CHOICE for both, log entry 47). -/
def State.acceptSet (s : State) (g frame : Nat) (writes : List (Nat × Word)) : State :=
  let l := s.pendOf g
  let s := if l.any (fun p => p.frame == frame) then
      { s with hive := { s.hive with superseded := sset 0 s.hive.superseded g (sget 0 s.hive.superseded g + 1) } }
    else s
  let s := s.setPend g (l.filter (fun p => p.frame != frame) ++ [⟨frame, writes⟩])
  let s := if g = 4 then
      [0, 1, 2, 3].foldl (fun s k => s.setPend k ((s.pendOf k).filter (fun p => decide (frame < p.frame)))) s
    else s
  s.pendShow g

/-- A local commit of a group: its status and frame (R74 to R76). -/
def State.commitLocal (s : State) (g : Nat) : State × Nat × Nat :=
  if groupReserved g then (s, 0x11, 0)
  else if groupAbsent s.variant g then (s, 0x02, 0)
  else if g = 4 ∧ !s.locked then (s, 0x10, 0)
  else (s.acceptSet g (s.landing g) (s.stagedCopy g), 0x01, s.landing g)

end Sys2Proof.Machine
end

