-- ==== Sys2Proof/Machine/Cas.lean ====
section
/-!
DEFINITION. The cascade: links, steering, enumeration, Waggles, roles, carried images, swarm commits and snapshots
(spec/12_time_cascade.md R443 to R460).
-/
namespace Sys2Proof.Machine

def casBadParams : Nat := 0x10
def casRingDown : Nat := 0x11
def casNotMaster : Nat := 0x12
def casStreamBusy : Nat := 0x13

def State.mapCas (s : State) (f : Cas → Cas) : State := { s with cas := f s.cas }

/-! Roles, positions, lead time (R448, R451, R454). -/

def State.casRole (s : State) : Nat := s.fld Reg.casStatus 27 26
def State.casPos (s : State) : Nat := s.fld Reg.casStatus 23 20
def State.casAssigned (s : State) : Bool := s.fld Reg.casStatus 24 24 == 0
def State.casStrap (s : State) : Bool := s.fld Reg.casCap 30 30 == 1
def State.casTerm (s : State) : Nat := s.fld Reg.casTerm 15 0

/-- Does the device hold the frame-timing role (R454)? -/
def State.holdsRole (s : State) : Bool := !s.cas.enable || s.casRole != 0

def State.ringSize (s : State) : Nat := if s.cas.enable then s.fld Reg.casStatus 19 16 + 1 else 1

/-- T_lead in ns (R454). -/
def State.lead (s : State) : Nat := 200000 + 50000 * s.ringSize

/-- CAS_LEAD and the state field of CAS_STATUS. -/
def State.casShow (s : State) : State :=
  let s := s.setFld Reg.casLead 15 0 (s.lead / 1000)
  let st := if !s.cas.enable then 0
    else if s.fld Reg.casStatus 25 25 = 1 then 4
    else match s.cas.usable.length with | 0 => 1 | 1 => 2 | _ => 3
  s.setFld Reg.casStatus 31 28 st

def State.setRole (s : State) (r : Nat) : State := s.setFld Reg.casStatus 27 26 r

/-! Payload fields. -/

def pktByte (p : AdeoftPkt) (i : Nat) : Nat := (p.payload.getD i 0).toNat
/-- `n` bytes of a payload from `i`, little-endian. -/
def pktNum (p : AdeoftPkt) (i n : Nat) : Nat := ofLe ((p.payload.drop i).take n)
/-- A stamp of a payload, in 2⁻¹⁶ ns (R445). -/
def pktStamp (p : AdeoftPkt) (i : Nat) : Nat := pktNum p i 8 * 65536 + pktNum p (i + 8) 2
/-- The ten bytes of a stamp. -/
def stampBytes (t : Nat) : List Byte := leBytes 8 (t / 65536) ++ leBytes 2 (t % 65536)
def pktPut (p : AdeoftPkt) (i : Nat) (bs : List Byte) : AdeoftPkt := { p with payload := putBytes p.payload i bs }

/-! Steering (R446, R447). -/

def controlKind (k : Nat) : Bool := decide (k ≤ 5) || k == 8

/-- F of a packet's PKT_START (R444). -/
def startField (p : AdeoftPkt) : Nat :=
  (p.kind * 2 ^ 52 + p.origin * 2 ^ 48 + p.dest * 2 ^ 44 + p.broadcast.toNat * 2 ^ 43 + p.upstream.toNat * 2 ^ 42) +
    (p.wraps % 4 * 2 ^ 40 + p.linkLocal.toNat * 2 ^ 39 + p.hops % 128 * 2 ^ 32 + p.seq % 65536 * 2 ^ 16 + p.payload.length % 2 ^ 14)

/-- The data blocks of a guarded packet under a key, sent by `member` with counts `b` and `n` (R540): header, payload, tag. Kinds 0, 6
and 7 are authenticated only. -/
def guardBlocks (p : AdeoftPkt) (key member b n : Nat) : List Block :=
  let nonce := member * 2 ^ 88 + b % 2 ^ 32 * 2 ^ 56 + n % 2 ^ 56
  let head := dataBlocks (beBytes 12 nonce ++ leBytes 4 0)
  let data := dataBlocks p.payload
  let plain := p.kind == 0 || p.kind == 6 || p.kind == 7
  let body := if plain then data else data.zipIdx.map (fun x => (false, x.1.2 ^^^ Config.gcmStream key nonce x.2))
  let aad := BitVec.ofNat 64 (startField p) :: (head ++ (if plain then data else [])).map (·.2)
  let tag := Config.gcmTag key nonce aad (if plain then [] else body.map (·.2))
  head ++ body ++ [(false, BitVec.setWidth 64 tag), (false, BitVec.setWidth 64 (tag >>> 64))]

/-- The blocks of a packet (R445, R540): PKT_START, its data, PKT_END with the CRC over B1 to B7 of PKT_START and the payload, or under
guard every data block as sent. -/
def packetBlocks (p : AdeoftPkt) (guard : Option (Nat × Nat × Nat × Nat)) : List Block :=
  let head := leBytes 7 (startField p)
  match guard with
  | none => ctrlBlock 0x33 (startField p) :: dataBlocks p.payload ++ [ctrlBlock 0x4B (crc32c (head ++ p.payload))]
  | some (key, member, b, n) =>
    let data := guardBlocks p key member b n
    ctrlBlock 0x33 (startField p) :: data ++ [ctrlBlock 0x4B (crc32c (head ++ data.flatMap (fun x => leBytes 8 x.2.toNat)))]

/-- The lanes that a link's blocks travel on from link block `k` on, and the number of the next one (R443): block `k` on lane `k` mod
4, and an ALIGN on every lane each 4,096 blocks. -/
def stripe : Nat → List Block → List (Nat × Block) × Nat
  | k, [] => ([], k)
  | k, b :: t =>
    if k % 16384 = 0 then
      let r := stripe (k + 5) t
      ((List.range 4).map (fun i => (i, ctrlBlock 0x2D (i * 2 ^ 48))) ++ (k % 4, b) :: r.1, r.2)
    else
      let r := stripe (k + 1) t
      ((k % 4, b) :: r.1, r.2)

/-- Blocks leave on a link, each lane with its own scrambler (R282, R443). -/
def State.sendLink (s : State) (d : Nat) (bs : List Block) : State :=
  let r := stripe (sget 0 s.cas.blocks d) bs
  let w := r.1.foldl (fun (a : Sparse Nat × List (Nat × BitVec 66)) x =>
    let y := wireStep (sget 0 a.1 (4 * d + x.1), []) x.2
    (sset 0 a.1 (4 * d + x.1) y.1, a.2 ++ y.2.map (fun b => (x.1, b)))) (s.cas.scram, [])
  (s.mapCas (fun c => { c with blocks := sset 0 c.blocks d r.2, scram := w.1 })).emit (.adeoft d w.2)

/-- The IDLE blocks that have left since the link's last packet, as many as time allowed, a free value; an incident of the lanes' transmit
queues (R22, R444; DESIGN CHOICE, log entry 35). -/
def State.linkIdle (s : State) (d : Nat) : State :=
  let (q, s) := s.takeFree
  (List.range 4).foldl (fun s l => s.eqSeen (Reg.lnxEqTx (10 + d) l) (some 0))
    (s.sendLink d (List.replicate q.toNat (ctrlBlock 0x1E 0)))

/-- A packet leaves on a link; copies of control packets are kept for 200 µs; the guard's counter steps (R447, R540). -/
def State.leave (s : State) (link : Nat) (p : AdeoftPkt) : State :=
  let guard := s.kpr.sk.bind (fun k => s.cas.guard.map (fun g => (k.1, k.2, g.1, g.2)))
  let s := (s.linkIdle link).sendLink link (packetBlocks p guard)
  s.mapCas (fun c =>
    { c with
      guard := c.guard.map (fun g => (g.1, (g.2 + 1) % 2 ^ 56))
      recent := if controlKind p.kind then
          c.recent.filter (fun r => decide (s.now < r.2.1 + 200000)) ++ [(link, s.now, p)] else c.recent })

/-- Send a packet in its direction, reversing at a link that is down (R446). -/
def State.steer : Nat → State → AdeoftPkt → State
  | 0, s, _ => s
  | n + 1, s, p =>
    let link := if p.upstream then 0 else 1
    if s.cas.usable.contains link then s.leave link p
    else if 2 ≤ p.wraps then s
    else State.steer n s { p with upstream := !p.upstream, wraps := p.wraps + 1 }

/-- The device originates a packet (R446). -/
def State.originate (s : State) (kind dest : Nat) (broadcast upstream : Bool) (payload : List Byte) : State :=
  let p : AdeoftPkt :=
    { kind := kind, origin := s.casPos, dest := dest, broadcast := broadcast, upstream := upstream, wraps := 0,
      linkLocal := false, hops := 0, seq := s.cas.seqNo, arrival := 0, payload := payload }
  State.steer 4 (s.mapCas (fun c => { c with seqNo := (c.seqNo + 1) % 65536 })) p

/-- A link-local packet. -/
def State.sendLocal (s : State) (link kind : Nat) (payload : List Byte) : State :=
  let p : AdeoftPkt :=
    { kind := kind, origin := s.casPos, dest := 0, broadcast := false, upstream := link == 0, wraps := 0,
      linkLocal := true, hops := 0, seq := s.cas.seqNo, arrival := 0, payload := payload }
  (s.mapCas (fun c => { c with seqNo := (c.seqNo + 1) % 65536 })).leave link p

/-- Is the packet one that the device originated? -/
def State.ownPacket (s : State) (p : AdeoftPkt) : Bool := s.casAssigned && p.origin == s.casPos && !p.linkLocal

/-- Has the packet been delivered before; and the note that it has, which forgets numbers half the range behind. -/
def State.sawPacket (s : State) (p : AdeoftPkt) : Bool := s.cas.seen.contains (p.origin, p.seq)
def State.notePacket (s : State) (p : AdeoftPkt) : State :=
  s.mapCas (fun c =>
    { c with seen := c.seen.filter (fun x => x.1 != p.origin || decide ((p.seq + 65536 - x.2) % 65536 < 32768)) ++ [(p.origin, p.seq)] })

/-- Is the packet removed here (R446)? -/
def State.removes (s : State) (p : AdeoftPkt) : Bool :=
  (s.casAssigned && p.dest == s.casPos && !p.broadcast && controlKind p.kind) || p.linkLocal ||
  (s.ownPacket p && (p.wraps == 0 || p.wraps == 2)) || decide (32 < p.hops)

/-- Forward a packet unless it is removed; the meter of the ring counts its blocks (R461). -/
def State.forward (s : State) (p : AdeoftPkt) : State :=
  if s.removes p then s
  else (State.steer 4 s { p with hops := p.hops + 1 }).tally 0x10 (2 + (p.payload.length + 7) / 8)

/-- Is the cascade at work: enabled and none of its stage groups stalled (R12)? -/
def State.casRuns (s : State) : Bool := s.cas.enable && !s.unitStalled 0x10

/-- A packet of kind `k` arrives on a link that is up: `run` delivers it when it is for this device and new; it is
forwarded as `run` leaves it. -/
def State.receive (s : State) (k link : Nat) (p : AdeoftPkt) (mine : Bool) (run : State → State × AdeoftPkt) : State :=
  if !s.casRuns || !s.cas.usable.contains link || p.kind != k then s
  else if mine && !s.sawPacket p then
    let (s, p) := run (s.notePacket p)
    s.forward p
  else s.forward p

/-- Is a packet for this device by its destination? -/
def State.addressed (s : State) (p : AdeoftPkt) : Bool := s.casAssigned && (p.broadcast || p.dest == s.casPos) && !s.ownPacket p

/-! Links (R443, R447, R450). -/

/-- Which of the lanes of link `d` are locked: the up-link is quad 10, the down-link quad 11. -/
def State.linkLocks (s : State) (d : Nat) : Nat := s.fld (Reg.lnxStatus (10 + d)) 7 4

/-- A link goes down; its transmitters stop until ADEOFT_TX_RESTART (R443, R447). -/
def State.linkDown (s : State) (d : Nat) : State :=
  let s := s.mapCas (fun c => { c with usable := c.usable.filter (· != d), txOn := c.txOn.filter (· != d) })
  let s := (s.setReg (Reg.casLinkStatus d) (packBits [(1, 30), (s.linkLocks d, 26)])).showTx (10 + d)
  let back := s.cas.recent.filter (fun r => r.1 == d && decide (s.now < r.2.1 + 200000))
  let s := s.mapCas (fun c => { c with recent := c.recent.filter (fun r => r.1 != d) })
  let s := back.foldl (fun s r =>
    if r.2.2.wraps < 2 then State.steer 4 s { r.2.2 with upstream := !r.2.2.upstream, wraps := r.2.2.wraps + 1 } else s) s
  s.casShow.fire 244

def State.linkUpNow (s : State) (d : Nat) : Bool := s.fld (Reg.casLinkStatus d) 31 31 == 1

/-- ADEOFT_LINK_DOWN. -/
def doAdeoftLinkDown (d : Nat) (s : State) : State := if s.cas.enable && s.linkUpNow d then s.linkDown d else s

/-- The links follow the locks of their lanes: one whose lane has lost its lock goes down (R443). -/
def State.casFollow (s : State) : State :=
  if !s.cas.enable then s else
  [0, 1].foldl (fun s d =>
    let s := s.setFld (Reg.casLinkStatus d) 29 26 (s.linkLocks d)
    if s.linkUpNow d && s.linkLocks d != 15 then s.linkDown d else s) s

/-- ADEOFT_LINK_UP (R443, R447): all four lanes have been locked and aligned for 1 ms. A link that had gone down is used 10 ms later,
one that had not at once. -/
def doAdeoftLinkUp (d : Nat) (s : State) : State :=
  if !s.cas.enable || s.linkUpNow d || s.linkLocks d != 15 || (s.cas.guard.isNone && s.fld Reg.kprStatus 17 17 == 1) then s else
  let again := s.fld (Reg.casLinkStatus d) 30 30
  let s := s.setReg (Reg.casLinkStatus d) (packBits [(1, 31), (again, 30), (15, 26)])
  let s := if again = 0 then s.mapCas (fun c => { c with usable := c.usable ++ [d] }) else s
  s.casShow.fire 244

/-- ADEOFT_LINK_REUSE (R447). -/
def doAdeoftLinkReuse (d : Nat) (s : State) : State :=
  if s.cas.enable && s.linkUpNow d && !s.cas.usable.contains d then
    (((s.setFld (Reg.casLinkStatus d) 30 30 0).mapCas (fun c => { c with usable := c.usable ++ [d] })).casShow).fire 244
  else s

/-- ADEOFT_TX_RESTART (R443). -/
def doAdeoftTxRestart (d : Nat) (s : State) : State :=
  if s.cas.enable && !s.cas.txOn.contains d then
    (s.mapCas (fun c => { c with txOn := c.txOn ++ [d], blocks := sset 0 c.blocks d 0 })).showTx (10 + d)
  else s

/-- LINK_DELAY_MEASURE (R450). -/
def doLinkDelayMeasure (s : State) : State :=
  if !s.casRuns then s else
  [0, 1].foldl (fun s d => if s.linkUpNow d then s.sendLocal d 6 (stampBytes s.stamp ++ leBytes 6 0) else s) s

/-- DELAY_REQ_RECEIVED (R450). -/
def doDelayReqReceived (d : Nat) (p : AdeoftPkt) (s : State) : State :=
  if !s.casRuns || !s.linkUpNow d || p.kind != 6 then s else
  let z := leBytes 6 0
  s.sendLocal d 7 (stampBytes (pktStamp p 0) ++ z ++ stampBytes p.arrival ++ z ++ stampBytes s.stamp ++ z)

/-- DELAY_RESP_RECEIVED (R450): the mean of the last eight measurements. -/
def doDelayRespReceived (d : Nat) (p : AdeoftPkt) (s : State) : State :=
  if !s.casRuns || !s.linkUpNow d || p.kind != 7 then s else
  let x : Int := (((p.arrival : Int) - pktStamp p 0) - ((pktStamp p 32 : Int) - pktStamp p 16)) / 2
  let l := (sget [] s.cas.delays d ++ [x.toNat])
  let l := l.drop (l.length - 8)
  (s.mapCas (fun c => { c with delays := sset [] c.delays d l })).setReg (Reg.casLinkDelay d)
    (BitVec.ofNat 32 (l.sum / max 1 l.length))

/-- ADEOFT_BAD_PACKET (R444, R445, R541). -/
def doAdeoftBadPacket (d : Nat) (reason : BadPacket) (s : State) : State :=
  if !s.casRuns || !s.linkUpNow d then s else
  match reason with
  | .crc => s.bump Reg.casCount0 31 16 1
  | .unknownKind => s.bump Reg.casCount1 15 0 1
  | .control => s.bump Reg.casCount1 15 0 1
  | .guardFail => (s.bump Reg.kprCount 15 0 1).fire 38

/-! Enumeration and set-up (R448). -/

/-- ENUM leaves the master. -/
def State.startEnum (s : State) (tag : Nat) : State :=
  let s := (s.setFld Reg.casStatus 23 20 0).setFld Reg.casStatus 24 24 0
  let s := s.setFld Reg.casStatus 15 12 0
  let s := s.mapCas (fun c => { c with enumTag := some tag })
  s.originate 8 0 true false (leBytes 8 1)

/-- ADEOFT_ENUM_RECEIVED (R446, R448): next at byte 0, overflow at byte 1; the master takes the ENUM that has gone all the way. -/
def doAdeoftEnumReceived (d : Nat) (p : AdeoftPkt) (s : State) : State :=
  if !s.casRuns || !s.cas.usable.contains d || p.kind != 8 then s
  else if s.cas.enumTag.isSome && !(p.wraps == 0 || p.wraps == 2) then s.forward p
  else if s.cas.enumTag.isSome then
    let n := pktByte p 0
    let s := (s.setFld Reg.casStatus 19 16 (min 15 (n - 1))).casShow
    let s := s.fire 244
    match s.cas.enumTag with
    | some t => (s.mapCas (fun c => { c with enumTag := none })).complete 20 t stSuccess (BitVec.ofNat 64 n)
    | none => s
  else if s.sawPacket p then s.forward p
  else
    let s := s.notePacket p
    let n := pktByte p 0
    if 16 ≤ n then
      let s := s.setFld Reg.casStatus 24 24 1
      s.forward (pktPut p 1 [1])
    else
      let s := (s.setFld Reg.casStatus 23 20 n).setFld Reg.casStatus 24 24 0
      let s := (s.setFld Reg.casStatus 15 12 p.origin).fire 244
      s.forward (pktPut p 0 [BitVec.ofNat 8 (n + 1)])

/-- The Waggle of the role holder (R449). -/
def State.sendWaggle (s : State) (acting : Bool) : State :=
  let flags := acting.toNat + 2 * s.cas.ptp.toNat
  let payload := leBytes 2 s.casTerm ++ leBytes 1 s.casPos ++ leBytes 1 (s.fld Reg.casStatus 11 8) ++ leBytes 1 flags ++
    leBytes 3 s.ringSize ++ stampBytes s.stamp ++ leBytes 6 0 ++ leBytes 8 0 ++ leBytes 8 s.cas.gridAnchor ++
    leBytes 8 s.cas.gridPeriod ++ leBytes 4 s.cas.gridFrame ++ leBytes 4 s.cas.wagglePeriod ++ leBytes 8 0
  s.originate 0 0 true false payload

/-- WAGGLE_SEND. -/
def doWaggleSend (s : State) : State :=
  if s.casRuns && s.casRole != 0 && s.casAssigned then s.sendWaggle (s.casRole == 2) else s

/-- The cascade is switched off; dual_master stays until a reset (R451). -/
def State.casOff (s : State) : State :=
  let g := s.cas.guard
  let ring := s.cas.ring
  let s := [0, 1].foldl (fun s d => s.setReg (Reg.casLinkStatus d) 0) s
  let s := { s with cas := { Cas.empty with guard := g, ring := ring, seqNo := s.cas.seqNo, commitId := s.cas.commitId,
                                            snapId := s.cas.snapId } }
  (((s.setReg Reg.casStatus (packBits [(s.fld Reg.casStatus 25 25, 25), (1, 24)])).casShow).showTx 10).showTx 11

/-- The active bits of streams go with the ring. -/
def State.dropStreams (s : State) : State :=
  (List.range 64).foldl (fun s k => (s.setFld (Reg.casExp k) 31 31 0).setFld (Reg.casImp k) 31 31 0)
    (s.mapCas (fun c => { c with exports := [], imports := [] }))

/-- The status that refuses a CAS_SETUP that joins, none when it passes (R448, R451). A device with the strap is master. -/
def State.joinRefused (s : State) (t : Taken) : Option Nat :=
  let enum := t.fld 0 85 85 == 1
  let master := s.casRole != 0 || (!s.cas.enable && s.casStrap)
  if enum && !master then some casNotMaster
  else if enum && !s.cas.usable.contains 1 then some casRingDown
  else none

/-- The device joins the ring, or goes on in it with new parameters; the holder of the role takes the swarm's (R449, R451). -/
def State.casJoin (s : State) (t : Taken) : State :=
  let fresh := !s.cas.enable
  let ring : MemRing := ⟨t.fld 2 127 80, t.fld 2 79 64, t.fld 2 63 16⟩
  let yield := t.fld 0 84 84 == 1 && s.casRole == 2
  let holder := s.casRole != 0
  let s := s.mapCas (fun c =>
    { c with enable := true, rate := t.fld 0 86 86 == 1, wagglePeriod := t.fld 0 79 67, ring := some ring,
             txOn := if fresh then [0, 1] else c.txOn })
  let s := if holder then
      (s.mapCas (fun c =>
        { c with ptp := t.fld 0 66 66 == 1, gridFrame := t.fld 0 31 0,
                 gridAnchor := t.fld 1 127 64, gridPeriod := t.fld 1 63 0 })).setFld Reg.casStatus 11 8 (t.fld 0 83 80)
    else s
  let s := if yield then (((s.sendWaggle false).setRole 0).fire 246) else s
  s.casShow

/-- Are the fields of a CAS_SETUP bad (R448)? -/
def casSetupBad (v : Variant) (t : Taken) : Bool :=
  let period := t.fld 0 79 67
  let ring : MemRing := ⟨t.fld 2 127 80, t.fld 2 79 64, t.fld 2 63 16⟩
  !t.zeros [(0, 65, 32), (2, 15, 0)] || (t.fld 0 87 87 == 1 && (decide (period < 1000) || decide (6000 < period) ||
    !ringEntriesOk ring.entries || ring.base % 64 != 0 || ring.ctrl % 64 != 0 ||
    !inMemory v ring.base (64 * ring.entries) || !inMemory v ring.ctrl 64))

/-- CAS_SETUP (R448, R449, R451, R459). -/
def doCasSetup (s : State) : State :=
  s.takeAs 20 0x10 [2] (fun t s =>
    if casSetupBad s.variant t then s.complete 20 t.tag casBadParams 0
    else if t.fld 0 87 87 = 0 then (s.dropStreams.casOff).complete 20 t.tag stSuccess 0
    else
      let s' := if !s.cas.enable && s.casStrap then s.setRole 1 else s
      match s.joinRefused t with
      | some st => s.complete 20 t.tag st 0
      | none =>
        let s := (List.range 8).foldl (fun s k => s.setTx (40 + k)) (s'.casJoin t).casFollow
        if t.fld 0 85 85 = 1 then s.startEnum t.tag else s.complete 20 t.tag stSuccess 0)

/-! Waggles and roles (R449 to R451). -/

/-- The six stamp registers take new values, held back while a reading is in progress (R461). -/
def State.putStamps (s : State) (l : List Word) : State :=
  if s.cas.held then s.mapCas (fun c => { c with heldStamps := l })
  else l.zipIdx.foldl (fun s p => s.setReg (Reg.casWaggle p.2) p.1) s

/-- The Waggle is recorded (R449). -/
def State.recordWaggle (s : State) (p : AdeoftPkt) : State :=
  let w64 (v : Nat) : List Word := [BitVec.ofNat 32 v, BitVec.ofNat 32 (v / 2 ^ 32)]
  let s := s.mapCas (fun c =>
    { c with gridAnchor := pktNum p 32 8, gridPeriod := pktNum p 40 8, gridFrame := pktNum p 48 4, misses := 0,
             ptp := nbits (pktByte p 4) 1 1 == 1, waggleTerm := some (pktNum p 0 2, p.origin),
             waggleActing := nbits (pktByte p 4) 0 0 == 1 })
  let s := (w64 s.cas.gridAnchor ++ w64 s.cas.gridPeriod ++ [BitVec.ofNat 32 s.cas.gridFrame]).zipIdx.foldl
    (fun s x => s.setReg (Reg.casGridAnchorLo + 4 * x.2) x.1) s
  let s := s.putStamps (w64 (pktNum p 8 8) ++ w64 (pktNum p 24 8) ++ w64 (p.arrival / 65536))
  let s := (s.setFld Reg.casStatus 15 12 (pktByte p 2)).setFld Reg.casStatus 11 8 (pktByte p 3)
  let s := s.setFld Reg.casStatus 19 16 (pktByte p 5 - 1)
  (s.setFld Reg.casTerm 15 0 (pktNum p 0 2)).casShow

/-- The device takes the frame-timing role at the next term (R451). -/
def State.takeRole (s : State) (r : Nat) : State :=
  let s := (s.setRole r).setFld Reg.casTerm 15 0 (s.casTerm + 1)
  let s := (s.setFld Reg.casStatus 15 12 s.casPos).mapCas (fun c => { c with misses := 0, waggleTerm := none })
  (s.fire 246).sendWaggle (r == 2)

/-- Does the device follow the Waggles of a strapped master other than `origin` in the term it knows: between equal terms that one
wins (R451)? -/
def State.followsMaster (s : State) (origin : Nat) : Bool :=
  !s.cas.waggleActing && (match s.cas.waggleTerm with | some (term, o) => term == s.casTerm && o != origin | none => false)

/-- A Waggle at this device (R449, R451): one without the acting-deputy flag comes from a strapped master, or is a yield's. -/
def State.hearWaggle (s : State) (p : AdeoftPkt) : State :=
  let term := pktNum p 0 2
  let acting := pktByte p 4 % 2 == 1
  if s.casRole = 1 ∧ s.casStrap ∧ !acting then ((s.setFld Reg.casStatus 25 25 1).casShow).fire 248
  else if term < s.casTerm then s
  else if s.casRole ≠ 0 ∧ term = s.casTerm then
    if s.casStrap then s else (s.setRole 0).recordWaggle p
  else if s.casStrap && s.casRole == 0 && !acting && s.cas.waggleTerm == some (term, p.origin) then
    (s.recordWaggle p).takeRole 1
  else if acting ∧ term = s.casTerm ∧ s.followsMaster p.origin then s
  else (s.setRole 0).recordWaggle p

/-- WAGGLE_RECEIVED (R449, R450): a forwarding device adds its residence time and the delay of the link of arrival. -/
def doWaggleReceived (d : Nat) (p : AdeoftPkt) (s : State) : State :=
  let later (s : State) (p : AdeoftPkt) : AdeoftPkt :=
    let c := wrapInt 64 (signed 64 (pktNum p 24 8) + ((s.stamp : Int) - p.arrival) + (s.reg (Reg.casLinkDelay d)).toNat)
    pktPut p 24 (leBytes 8 c)
  if s.addressed p && !s.sawPacket p then s.receive 0 d p true (fun s => (s.hearWaggle p, later s p))
  else s.receive 0 d (later s p) false (fun s => (s, p))

/-- WAGGLE_MISS (R449, R451): the deputy's third miss in a row is a takeover. -/
def doWaggleMiss (s : State) : State :=
  if !s.cas.enable || !s.casAssigned || s.casRole != 0 then s else
  let s := (s.bump Reg.casCount0 15 0 1).mapCas (fun c => { c with misses := c.misses + 1 })
  let s := s.fire 245
  if 3 ≤ s.cas.misses ∧ s.fld Reg.casStatus 11 8 = s.casPos then s.takeRole 2 else s

/-- CAS_WAGGLE_STAMP_READ (R461): reading ORIGIN_LO holds the six registers, reading ARRIVAL_HI releases them. -/
def doCasWaggleStampRead (_m : Master) (k : Nat) (s : State) : State :=
  let s := s.emit (.regData (s.reg (Reg.casWaggle k)))
  if k = 0 then s.mapCas (fun c => { c with held := true, heldStamps := if c.held then c.heldStamps else [] })
  else if k = 5 ∧ s.cas.held then
    let l := s.cas.heldStamps
    (s.mapCas (fun c => { c with held := false, heldStamps := [] })).putStamps l
  else s

/-! Carried images (R452, R453). -/

def bytesPerPixel (format : Nat) : Nat := if format = 0 ∨ format = 2 then 8 else 4

/-- The fields of CAS_EXPORT and CAS_IMPORT: format, width, stride, control block, base, lines; none when one is bad. -/
def State.casStreamFields (s : State) (t : Taken) : Option (Nat × Nat × Nat × Nat × Nat × Nat) :=
  let f := t.fld 0 76 74
  let w := t.fld 0 73 58
  let stride := t.fld 0 57 34
  let ctrl := t.fld 1 127 80
  let base := t.fld 1 79 32
  let lines := t.fld 1 31 16
  if !t.zeros [(0, 33, 0), (1, 15, 0)] || decide (3 < f) || w == 0 || lines == 0 || ctrl % 64 != 0 || base % 64 != 0 ||
    decide (stride * 64 < w * bytesPerPixel f) || !inMemory s.variant ctrl 64 || !inMemory s.variant base (lines * stride * 64)
  then none else some (f, w, stride, ctrl, base, lines)

def State.casExport (s : State) (k : Nat) : Option CasExp := sget none s.cas.exports k
def State.casImport (s : State) (k : Nat) : Option CasImp := sget none s.cas.imports k
def State.setExport (s : State) (k : Nat) (x : Option CasExp) : State :=
  s.mapCas (fun c => { c with exports := sset none c.exports k x })
def State.setImport (s : State) (k : Nat) (x : Option CasImp) : State :=
  s.mapCas (fun c => { c with imports := sset none c.imports k x })

/-- CAS_EXPORT. -/
def doCasExport (s : State) : State :=
  s.takeAs 20 0x11 [1] (fun t s =>
    let k := t.fld 0 87 82
    match s.casStreamFields t with
    | none => s.complete 20 t.tag casBadParams 0
    | some (f, w, stride, ctrl, base, lines) =>
      if (s.casExport k).isSome || (s.casImport k).isSome then s.complete 20 t.tag casStreamBusy 0
      else if s.cas.usable.isEmpty then s.complete 20 t.tag casRingDown 0
      else
        let s := s.setExport k (some ⟨t.fld 0 81 81 == 1, t.fld 0 80 77, f, w, stride, ctrl, base, lines, none, s.num (ctrl + 20) 4⟩)
        let s := s.setReg (Reg.casExp k) (packBits [(1, 31), (t.fld 0 81 81, 30), (t.fld 0 80 77, 26)])
        s.complete 20 t.tag stSuccess 0)

/-- CAS_IMPORT. -/
def doCasImport (s : State) : State :=
  s.takeAs 20 0x12 [1] (fun t s =>
    let k := t.fld 0 87 82
    match s.casStreamFields t with
    | none => s.complete 20 t.tag casBadParams 0
    | some (f, w, stride, ctrl, base, lines) =>
      if t.fld 0 81 77 ≠ 0 then s.complete 20 t.tag casBadParams 0
      else if (s.casExport k).isSome || (s.casImport k).isSome then s.complete 20 t.tag casStreamBusy 0
      else if s.cas.usable.isEmpty then s.complete 20 t.tag casRingDown 0
      else
        let s := s.setImport k (some ⟨f, w, stride, ctrl, base, lines, none, none, 0, 0⟩)
        (s.setFld (Reg.casImp k) 31 31 1).complete 20 t.tag stSuccess 0)

/-- CAS_STOP. -/
def doCasStop (s : State) : State :=
  s.takeAs 20 0x13 [0] (fun t s =>
    let k := t.fld 0 87 82
    if t.fld 0 80 0 ≠ 0 then s.complete 20 t.tag casBadParams 0
    else if t.fld 0 81 81 = 0 then ((s.setExport k none).setFld (Reg.casExp k) 31 31 0).complete 20 t.tag stSuccess 0
    else ((s.setImport k none).setFld (Reg.casImp k) 31 31 0).complete 20 t.tag stSuccess 0)

/-- An image packet of stream `k` leaves. -/
def State.sendImage (s : State) (x : CasExp) (kind : Nat) (payload : List Byte) : State :=
  s.originate kind x.farthest false x.upstream payload

/-- FRAME_CLOSE of the open frame. -/
def State.closeExport (s : State) (k : Nat) (x : CasExp) (number : Nat) (dropped : Nat) : State :=
  let s := s.sendImage x 11 (leBytes 1 k ++ leBytes 3 dropped ++ leBytes 4 number)
  (s.setExport k (some { x with frameOpen := none })).setFld (Reg.casExp k) 15 0 (s.fld (Reg.casExp k) 15 0 + 1)

/-- The LINE packets of one line (R452). -/
def State.sendLine (s : State) (k : Nat) (x : CasExp) (line : Nat) (bs : List Byte) : State :=
  let n := (bs.length + 8183) / 8184
  (List.range n).foldl (fun s i =>
    s.sendImage x 10 (leBytes 1 k ++ leBytes 1 (if i + 1 = n then 1 else 0) ++ leBytes 2 line ++ leBytes 4 (8184 * i) ++
      (bs.drop (8184 * i)).take 8184)) s

/-- The exporter opens the frame in its ring, sends its next visible line and releases it, or closes a frame that has ended
(R452). -/
def State.exportNext (s : State) (k : Nat) (x : CasExp) : State :=
  let s := s.meet x.ctrl 16
  let w0 := s.num x.ctrl 16
  let number := nbits w0 127 96
  let first := nbits w0 95 64
  let written := nbits w0 63 32
  let left (a b : Nat) : Nat := (a + 2 ^ 32 - b) % 2 ^ 32
  let old : Option Nat := x.frameOpen.bind (fun n => if n = number then none else some n)
  if left written x.next = 0 ∨ (old.isSome ∧ x.next = first) then
    match old with
    | some n => s.closeExport k x n 0
    | none => match x.frameOpen with
      | some n => if nbits w0 0 0 = 1 then s.closeExport k x n (nbits w0 1 1) else s
      | none => s
  else
    let (s, x) := match x.frameOpen with
      | some _ => (s, x)
      | none => (s.sendImage x 9 (leBytes 1 k ++ leBytes 1 x.format ++ leBytes 2 x.width ++ leBytes 4 number ++ leBytes 8 0),
          { x with frameOpen := some number })
    let s := s.meet (x.base + x.next % x.lines * x.stride * 64) (x.width * bytesPerPixel x.format)
    let bs := s.bytes (x.base + x.next % x.lines * x.stride * 64) (x.width * bytesPerPixel x.format)
    let s := s.sendLine k x (left x.next first % 65536) bs
    let x := { x with next := (x.next + 1) % 2 ^ 32 }
    let s := (s.setExport k (some x)).unitStore 0x10 (x.ctrl + 16) (leBytes 16 (x.next * 2 ^ 32))
    if old.isNone ∧ nbits w0 0 0 = 1 ∧ left written x.next = 0 then s.closeExport k x number (nbits w0 1 1) else s

/-- CAS_EXPORT_LINE (R452). -/
def doCasExportLine (k : Nat) (s : State) : State :=
  match s.casExport k with
  | none => s
  | some x => if s.casRuns then s.exportNext k x else s

/-- Word 0 of an import ring. -/
def State.importWord0 (s : State) (x : CasImp) (number first written : Nat) (dropped closed : Bool) : State :=
  s.ringWord0 0x10 x.ctrl number first written dropped closed

/-- The importer drops the rest of its frame (R453). -/
def State.dropImport (s : State) (k : Nat) (x : CasImp) (number : Nat) : State :=
  let w := s.ringWritten x.ctrl
  let s := s.importWord0 x number (s.num (x.ctrl + 8) 4) w true true
  let s := s.setImport k (some { x with frameOpen := none, lastFrame := some number, got := 0 })
  (s.bump (Reg.casImp k) 15 0 1).fire 248

/-- Does the device import the packet's stream? -/
def State.imports (s : State) (p : AdeoftPkt) : Bool := s.casAssigned && (s.casImport (pktByte p 0)).isSome

/-- An image packet is removed by the farthest importer, which its destination names. -/
def State.imageDone (s : State) (p : AdeoftPkt) : Bool := s.casAssigned && p.dest == s.casPos

/-- An image packet arrives: delivered to an importer once, and forwarded unless it has reached the farthest. -/
def State.receiveImage (s : State) (k d : Nat) (p : AdeoftPkt) (run : Nat → CasImp → State → State) : State :=
  if !s.casRuns || !s.cas.usable.contains d || p.kind != k then s else
  let s := match s.casImport (pktByte p 0) with
    | some x => if s.imports p && !s.sawPacket p then run (pktByte p 0) x (s.notePacket p) else s
    | none => s
  if s.imageDone p then s else s.forward p

/-- FRAME_OPEN_RECEIVED (R452, R453). -/
def doFrameOpenReceived (d : Nat) (p : AdeoftPkt) (s : State) : State :=
  s.receiveImage 9 d p (fun k x s =>
    let number := pktNum p 4 4
    let (s, x) := match x.frameOpen with
      | some n => let s := s.dropImport k x n; (s, { x with frameOpen := none, lastFrame := some n, got := 0 })
      | none => (s, x)
    let skipped := match x.lastFrame with | some n => number != (n + 1) % 2 ^ 32 | none => false
    if skipped then
      let w := s.ringWritten x.ctrl
      (s.importWord0 x number w w false false).dropImport k x number
    else
      let w := s.ringWritten x.ctrl
      (s.importWord0 x number w w false false).setImport k (some { x with frameOpen := some number, line := 0, got := 0 }))

/-- LINE_PACKET_RECEIVED (R452, R453). -/
def doLinePacketReceived (d : Nat) (p : AdeoftPkt) (s : State) : State :=
  s.receiveImage 10 d p (fun k x s =>
    match x.frameOpen with
    | none => s
    | some number =>
      let bytes := p.payload.drop 8
      let s := s.meet (x.ctrl + 16) 16
      let w := s.ringWritten x.ctrl
      let full := decide (x.lines ≤ (w + 2 ^ 32 - s.ringReleased x.ctrl) % 2 ^ 32)
      let size := x.width * bytesPerPixel x.format
      if pktNum p 2 2 ≠ x.line % 65536 ∨ pktNum p 4 4 ≠ x.got ∨ full ∨ size < x.got + bytes.length ∨
        (pktByte p 1 = 1 ∧ x.got + bytes.length < size) then s.dropImport k x number
      else
        let s := s.unitStore 0x10 (x.base + w % x.lines * x.stride * 64 + x.got) bytes
        if x.got + bytes.length = size then
          let first := s.num (x.ctrl + 8) 4
          (s.importWord0 x number first (w + 1) false false).setImport k (some { x with line := x.line + 1, got := 0 })
        else s.setImport k (some { x with got := x.got + bytes.length }))

/-- FRAME_CLOSE_RECEIVED (R452, R453). -/
def doFrameCloseReceived (d : Nat) (p : AdeoftPkt) (s : State) : State :=
  s.receiveImage 11 d p (fun k x s =>
    match x.frameOpen with
    | none => s
    | some number =>
      if x.got ≠ 0 ∨ pktNum p 4 4 ≠ number then s.dropImport k x number
      else
        let s := s.importWord0 x number (s.num (x.ctrl + 8) 4) (s.ringWritten x.ctrl) (pktByte p 1 == 1) true
        s.setImport k (some { x with frameOpen := none, lastFrame := some number }))

/-! Messages (R459). -/

/-- CAS_MSG. -/
def doCasMsg (s : State) : State :=
  s.takeAs 20 0x14 [3] (fun t s =>
    if t.fld 0 83 0 ≠ 0 then s.complete 20 t.tag casBadParams 0
    else if !s.cas.enable || !s.casAssigned || decide (s.ringSize ≤ t.fld 0 87 84) || s.cas.usable.isEmpty then
      s.complete 20 t.tag casRingDown 0
    else
      let m := leBytes 16 (t.word 1).toNat ++ leBytes 16 (t.word 2).toNat ++ leBytes 16 (t.word 3).toNat
      (s.originate 5 (t.fld 0 87 84) false false m).complete 20 t.tag stSuccess 0)

/-- A message enters the message ring. -/
def State.putMessage (s : State) (p : AdeoftPkt) : State :=
  match s.cas.ring with
  | none => s.bump Reg.casCount1 31 16 1
  | some r =>
    let s := s.meet (r.ctrl + 16) 16
    match s.ringSlot r 64 with
    | none => s.bump Reg.casCount1 31 16 1
    | some (w, a) =>
      let s := s.unitStore 0x10 a (leBytes 8 p.origin ++ leBytes 8 (p.arrival / 65536) ++ (p.payload ++ leBytes 48 0).take 48)
      (s.ringPut 0x10 r w).fire 249

/-- ADEOFT_MSG_RECEIVED: a message to the sender's own position comes back round the ring. -/
def doAdeoftMsgReceived (d : Nat) (p : AdeoftPkt) (s : State) : State :=
  s.receive 5 d p (s.casAssigned && p.dest == s.casPos) (fun s => (s.putMessage p, p))

/-! Swarm commits (R456, R457). -/

/-- The generators of a group. -/
def groupGens (g : Nat) : List Nat := if g = 4 then [0, 1] else [g % 2]

/-- The device's vote: 0 yes, or the reason of a no (R457). -/
def State.vote (s : State) (g n tp : Nat) : Nat :=
  if !s.casAssigned && s.cas.enable then 4
  else if groupReserved g || !groupSwarm g || groupAbsent s.variant g then 2
  else if (groupGens g).any (fun x => s.genState x != 2 || !s.onSwarmGrid (s.activeSet x)) || (g == 4 && !s.locked) then 3
  else if (groupGens g).any (fun x => decide (s.groupLatch g x n < ((tp + s.lead) * 65536 : Nat))) then 1
  else 0

/-- The staged values of a group are copied into its prepared set (R456, step 3). -/
def State.prepare (s : State) (g n id : Nat) : State :=
  s.mapCas (fun c => { c with prepared := sset none c.prepared g (some ⟨g, n, id, s.stagedCopy g⟩) })

/-- A decision at this device (R456, steps 5 and 6); `mine` says that the request came from here. A DECIDE apply that finds no
prepared set any more applies nothing, and COMMIT does not return SUCCESS for it (R77). -/
def State.decide_ (s : State) (mine : Bool) (g n id : Nat) (apply : Bool) (refuser reason : Nat) : State :=
  let held := match sget none s.cas.prepared g with | some p => p.id == id | none => false
  let s := match sget none s.cas.prepared g with
    | some p =>
      if p.id = id then
        let s := s.mapCas (fun c => { c with prepared := sset none c.prepared g none })
        if apply then s.acceptSet g n p.writes else s
      else s
    | none => s
  let st := if apply then 0x01 else 0x0D
  let s := (s.setReg Reg.casCommitLast (packBits [(st, 24), (g % 16, 20), (refuser, 12), (reason, 0)])).setReg
    Reg.casCommitFrame (BitVec.ofNat 32 n)
  let s := s.fire 247
  if mine then s.commitReturns (fun g' n' => g' == g && n' == n) (apply && held) else s

/-- The role holder decides (R456, step 4). -/
def State.sendDecide (s : State) (o : PrepOut) (apply : Bool) (refuser reason : Nat) : State :=
  let s := s.mapCas (fun c => { c with prepOut := none })
  let payload := leBytes 1 o.requester ++ leBytes 1 o.group ++ leBytes 1 apply.toNat ++ leBytes 1 refuser ++
    leBytes 4 o.frame ++ leBytes 4 o.id ++ leBytes 4 reason
  let s := if s.cas.enable then s.originate 3 0 true false payload else s
  s.decide_ (!s.cas.enable || o.requester == s.casPos) o.group o.frame o.id apply refuser reason

/-- The role holder takes a request: its own vote, then PREPARE; a swarm of one decides at once (R454, R456). -/
def State.startPrepare (s : State) (r : CommitReq) : State :=
  let id := s.cas.commitId
  let tp := s.now
  let o : PrepOut := ⟨id, r.requester, r.group, r.frame, tp⟩
  let s := s.mapCas (fun c => { c with commitId := (c.commitId + 1) % 2 ^ 32, prepOut := some o })
  let v := s.vote r.group r.frame tp
  let s := s.prepare r.group r.frame id
  let me := s.casPos
  if !s.cas.enable then s.sendDecide o (v == 0) (if v = 0 then 0xFF else me) v
  else
    s.originate 2 0 true false (leBytes 1 r.requester ++ leBytes 1 r.group ++ leBytes 1 (v == 0).toNat ++
      leBytes 1 (if v = 0 then 0xFF else me) ++ leBytes 4 r.frame ++ leBytes 8 tp ++ leBytes 4 id ++ leBytes 12 v)

/-- The next request held is taken once no PREPARE is out. -/
def State.nextRequest (s : State) : State :=
  match s.cas.prepOut, s.cas.requests with
  | none, r :: rest => (s.mapCas (fun c => { c with requests := rest })).startPrepare r
  | _, _ => s

/-- A DECIDE that refuses a request that was never prepared; its commit id names no prepared set. -/
def State.sendRefusal (s : State) (r : CommitReq) : State :=
  let keep := s.cas.prepOut
  let id := s.cas.commitId
  let s := s.mapCas (fun c => { c with commitId := (c.commitId + 1) % 2 ^ 32 })
  let s := s.sendDecide ⟨id, r.requester, r.group, r.frame, s.now⟩ false s.casPos 5
  s.mapCas (fun c => { c with prepOut := keep })

/-- A request at the role holder (R456, step 2): one at a time, sixteen held, a seventeenth and any while two masters are
seen refused with reason 5. -/
def State.takeRequest (s : State) (r : CommitReq) : State :=
  if s.fld Reg.casStatus 25 25 = 1 ∨ 16 ≤ s.cas.requests.length then
    s.sendRefusal r
  else (s.mapCas (fun c => { c with requests := c.requests ++ [r] })).nextRequest

/-- COMMIT_REQ_RECEIVED (R456). -/
def doCommitReqReceived (d : Nat) (p : AdeoftPkt) (s : State) : State :=
  s.receive 1 d p (s.casAssigned && p.dest == s.casPos && s.holdsRole) (fun s =>
    (s.takeRequest ⟨p.origin, pktByte p 0, pktNum p 4 4, pktNum p 8 8⟩, p))

/-- The device prepares and votes on a PREPARE that it passes on: the first no keeps its reason (R456, R457). -/
def State.votePrepare (s : State) (p : AdeoftPkt) : State :=
  let s := s.notePacket p
  let g := pktByte p 1
  let n := pktNum p 4 4
  let v := s.vote g n (pktNum p 8 8)
  let s := if v = 2 ∨ v = 4 then s else s.prepare g n (pktNum p 16 4)
  let p := if v ≠ 0 ∧ pktByte p 2 = 1 then
      pktPut (pktPut p 2 [0, BitVec.ofNat 8 (if s.casAssigned then s.casPos else 0xFF)]) 20 [BitVec.ofNat 8 v]
    else p
  s.forward p

/-- PREPARE_RECEIVED (R456, R457). -/
def doPrepareReceived (d : Nat) (p : AdeoftPkt) (s : State) : State :=
  if !s.casRuns || !s.cas.usable.contains d || p.kind != 2 then s
  else if s.ownPacket p then
    match s.cas.prepOut with
    | some o =>
      if o.id = pktNum p 16 4 ∧ (p.wraps = 0 ∨ p.wraps = 2) then
        let yes := pktByte p 2 == 1 && decide (s.now ≤ o.tp + s.lead / 2)
        (s.sendDecide o yes (pktByte p 3) (if pktByte p 2 = 1 ∧ !yes then 6 else pktByte p 20)).nextRequest
      else s.forward p
    | none => s.forward p
  else if s.sawPacket p then s.forward p
  else s.votePrepare p

/-- PREPARE_TIMEOUT (R456, step 4). -/
def doPrepareTimeout (s : State) : State :=
  match s.cas.prepOut with
  | some o => if o.tp + s.lead / 2 < s.now then (s.sendDecide o false 0xFF 6).nextRequest else s
  | none => s

/-- DECIDE_RECEIVED (R456, step 5). -/
def doDecideReceived (d : Nat) (p : AdeoftPkt) (s : State) : State :=
  s.receive 3 d p (s.addressed p) (fun s =>
    (s.decide_ (pktByte p 0 == s.casPos) (pktByte p 1) (pktNum p 4 4) (pktNum p 8 4) (pktByte p 2 == 1) (pktByte p 3)
      (pktByte p 12), p))

/-! Swarm snapshots (R458). -/

/-- A snapshot is due at a time; at most one in a Beacon microsecond. -/
def State.scheduleSnap (s : State) (t origin : Nat) : State :=
  if s.cas.snaps.any (fun u => u.1 / 1000 == t / 1000) then s
  else s.mapCas (fun c => { c with snaps := c.snaps ++ [(t, origin)] })

/-- The device asks the swarm for a snapshot not before `t`: the latch time (R458). -/
def State.askSwarmSnap (s : State) (t : Nat) : State × Nat :=
  let t' := max t (s.now + s.lead)
  let id := s.cas.snapId
  let s := s.mapCas (fun c => { c with snapId := (c.snapId + 1) % 2 ^ 24 })
  let s := if s.cas.enable && s.casAssigned then
      s.originate 4 0 true false (leBytes 8 t' ++ leBytes 8 (s.casPos * 2 ^ 28 + id))
    else s
  (s.scheduleSnap t' s.casPos, t')

/-- SNAP_PACKET_RECEIVED (R458). -/
def doSnapPacketReceived (d : Nat) (p : AdeoftPkt) (s : State) : State :=
  s.receive 4 d p (s.addressed p) (fun s => (s.scheduleSnap (pktNum p 0 8) p.origin, p))

/-- SWARM_SNAPSHOT_LATCH (R458): every latch time that is reached. -/
def doSwarmSnapshotLatch (s : State) : State :=
  match s.cas.snaps.filter (fun t => decide (t.1 ≤ s.now)) with
  | [] => s
  | (_, origin) :: _ =>
    (s.mapCas (fun c => { c with snaps := c.snaps.filter (fun t => decide (s.now < t.1)) })).latchSnap 1 origin

end Sys2Proof.Machine
end

