-- ==== Sys2Proof/Machine/KprCore.lean ====
section
/-!
DEFINITION. Keeper's service of requests: the mailbox and queue 24, the trailer of authenticated requests, sessions, erasing
of keys (spec/15_security.md R525, R530 to R532, R543 to R548).
-/
namespace Sys2Proof.Machine

def State.mapKpr (s : State) (f : Kpr → Kpr) : State := { s with kpr := f s.kpr }

/-! Keeper statuses (R548). -/

def kprBadRequest : Nat := 0x10
def kprAuthFail : Nat := 0x11
def kprReplay : Nat := 0x12
def kprNoSession : Nat := 0x13
def kprScope : Nat := 0x14
def kprLifecycle : Nat := 0x15
def kprSlotState : Nat := 0x16
def kprEntropyFail : Nat := 0x17
def kprSelfTestFail : Nat := 0x18
def kprNoSessionFree : Nat := 0x19
def kprRollback : Nat := 0x1A
def kprNoKey : Nat := 0x1B
def kprLaneDown : Nat := 0x1C

/-! KPR_STATUS (R550). -/

/-- Keeper's state: 0 ROM, 1 self-test, 2 ready, 3 error, 4 boot failed. -/
def State.kprState (s : State) : Nat := s.fld Reg.kprStatus 31 28
def State.lifecycle (s : State) : Nat := s.fld Reg.kprStatus 27 26
def State.tampered (s : State) : Bool := s.fld Reg.kprStatus 24 24 == 1
def State.trngOk (s : State) : Bool := s.fld Reg.kprStatus 21 21 == 1

/-- The state of slot `k`: 0 empty, 1 programmed, 2 revoked. -/
def State.slotState (s : State) (k : Nat) : Nat :=
  if s.fld Reg.kprSlots (16 + k) (16 + k) = 1 then 2
  else if (sget none s.kpr.slots k).isSome then 1 else 0

/-- Does slot `k` authorise usage bit `u` (R526)? -/
def State.slotHas (s : State) (k u : Nat) : Bool :=
  s.slotState k == 1 && (match sget none s.kpr.slots k with | some x => x.usage.testBit u | none => false)

/-- certified, and the fields that follow Keeper's memories (R551, R550). -/
def State.kprShow (s : State) : State :=
  let has (u : Nat) : Bool := (List.range 8).any (fun k => s.slotHas k u)
  let ok := s.lifecycle == 2 && s.kprState != 0 && s.fld Reg.kprFw 31 16 == 0x0302 && decide (5 ≤ s.fld Reg.kprFw 15 0) &&
    s.fld Reg.kprStatus 20 20 == 1 && s.trngOk && s.fld Reg.kprStatus 23 22 == 0 && !s.tampered &&
    s.fld Reg.kprStatus 16 16 == 1 && decide (1 ≤ s.fld Reg.kprTamper 31 30) && has 1 && has 0
  let s := s.setFld Reg.kprStatus 25 25 ok.toNat
  let s := s.setFld Reg.kprStatus 19 19 s.kpr.wk.isSome.toNat
  s.setFld Reg.kprStatus 18 18 s.kpr.sk.isSome.toNat

/-! Sessions (R530 to R532). -/

def State.session (s : State) (i : Nat) : Option Session := sget none s.kpr.sessions i

def State.setSession (s : State) (i : Nat) (x : Option Session) : State :=
  let s := s.mapKpr (fun k => { k with sessions := sset none k.sessions i x })
  s.setFld Reg.kprStatus (11 + i) (11 + i) (match x with | some y => y.proved.toNat | none => 0)

/-- A session closes, or is dropped before it was proved (R530, R532). -/
def State.closeSession (s : State) (i : Nat) : State :=
  match s.session i with
  | some x => if x.proved then (s.setSession i none).fire 34 else s.setSession i none
  | none => s

def State.closeSessions (s : State) : State := [1, 2, 3, 4].foldl State.closeSession s

/-! Requests (R546). -/

/-- Number in `n` bytes from byte `i` of a request, least significant first. -/
def KprServe.num (k : KprServe) (i n : Nat) : Nat := ofLe ((k.req.drop i).take n)
/-- `n` bytes of a request's parameters from byte `i` of them. -/
def KprServe.par (k : KprServe) (i n : Nat) : List Byte := (k.req.drop (8 + i)).take n
/-- A number in a request's parameters. -/
def KprServe.parNum (k : KprServe) (i n : Nat) : Nat := ofLe (k.par i n)
/-- The length of a request's parameters. -/
def KprServe.len (k : KprServe) : Nat := k.num 2 2

/-- The response is written and the request is done (R546, R548). -/
def State.kprAnswer (s : State) (st : Nat) (data : List Byte) : State :=
  match s.kpr.serving with
  | none => s
  | some k =>
    let buf := (leBytes 2 st ++ leBytes 2 data.length ++ leBytes 4 0 ++ data ++ leBytes 256 0).take 256
    let s := s.mapKpr (fun x => { x with serving := none, hostLast := k.tag.isNone, lane := none, burning := none })
    let s := if st = kprAuthFail then s.fire 35 else s
    match k.tag with
    | none =>
      let s := (List.range 64).foldl (fun s i => s.setReg (Reg.kprMbResp i) (BitVec.ofNat 32 (ofLe ((buf.drop (4 * i)).take 4)))) s
      (s.setFld Reg.kprMbCtrl 30 30 0).fire 32
    | some t => (s.unitStore 0x08 k.resp buf).complete 24 t st (BitVec.ofNat 64 data.length)

/-- The codes of R547, each with the lengths its parameters may have (DESIGN CHOICE, log entry 27). -/
def kprLengthOk (code len : Nat) : Bool :=
  match code with
  | 0x0001 => len == 0
  | 0x0002 => len == 0
  | 0x0003 => len == 1
  | 0x0010 => len == 97
  | 0x0011 => len == 100
  | 0x0012 => len == 0
  | 0x0013 => decide (32 ≤ len ∧ len ≤ 216)
  | 0x0020 => len == 152
  | 0x0021 => len == 1
  | 0x0022 => len == 1
  | 0x0030 => len == 98
  | 0x0031 => len == 1
  | 0x0032 => len == 5
  | 0x0033 => len == 1
  | 0x0034 => len == 69
  | 0x0035 => len == 1
  | 0x0036 => len == 0
  | 0x0037 => len == 0
  | 0x0040 => len == 0
  | 0x0041 => len == 97
  | 0x0050 => len == 0
  | 0x0051 => len == 6
  | 0x0052 => decide (6 ≤ len ∧ len ≤ 190)
  | 0x0060 => len == 6
  | _ => false

/-- The scope a command needs (R547): none, any session, or a bit of the scope mask. -/
inductive KprScope where
  | none | any | bit (b : Nat)
  deriving DecidableEq, Repr

def kprScopeOf (code lifecycle : Nat) : KprScope :=
  if code = 0x12 then .any
  else if code = 0x20 ∨ code = 0x22 then .bit 1
  else if code = 0x21 ∨ code = 0x52 then .bit 0
  else if 0x30 ≤ code ∧ code ≤ 0x37 then (if lifecycle = 1 then .none else .bit 2)
  else .none

/-- The nonce of a session's requests: salt and counter, the counter big-endian (R531). -/
def sessionNonce (x : Session) (counter : Nat) : Nat := x.salt * 2 ^ 64 + counter

/-- The additional data of a tag as 64-bit blocks. -/
def aadBlocks (bs : List Byte) : List (BitVec 64) :=
  (List.range ((bs.length + 7) / 8)).map (fun i => BitVec.ofNat 64 (ofLe ((bs.drop (8 * i)).take 8)))

/-- The checks of R531 and R533 on a session id, counter, tag and additional data, in order: the status, with `scope` none
where any will do. -/
def State.checkTag (s : State) (id counter tag : Nat) (aad : List Byte) (scope : Option Nat) : State × Nat :=
  match (if 1 ≤ id ∧ id ≤ 4 then s.session id else none) with
  | none => (s, kprNoSession)
  | some x =>
    if !x.proved then (s, kprNoSession)
    else if Config.gcmTag x.key (sessionNonce x counter) (aadBlocks aad) [] != BitVec.ofNat 128 tag then
      let s := s.setSession id (some { x with fails := x.fails + 1 })
      (if 8 ≤ x.fails + 1 then s.closeSession id else s, kprAuthFail)
    else
      let s := s.setSession id (some { x with fails := 0 })
      if counter ≤ x.counter then (s, kprReplay)
      else if (match scope with | some b => !x.scope.testBit b | none => false) then (s, kprScope)
      else (s.setSession id (some { x with fails := 0, counter := counter }), stSuccess)

/-- The trailer of the request served (R531). -/
def State.checkTrailer (s : State) (k : KprServe) (scope : Option Nat) : State × Nat :=
  let o := k.len
  if k.parNum (o + 1) 7 ≠ 0 then (s, kprBadRequest)
  else s.checkTag (k.parNum o 1) (k.parNum (o + 8) 8) (k.parNum (o + 16) 16) (k.req.take (8 + o + 16)) scope

/-- Does the request draw random numbers (R542)? -/
def kprDraws (code : Nat) : Bool := code == 0x03 || code == 0x10 || code == 0x21 || code == 0x40

/-- The status of a request that is not carried out, by the checks every command shares (R525, R528, R531, R542, R545); the
state after them, since a tag that fails counts. -/
def State.kprCheck (s : State) (k : KprServe) : State × Nat :=
  let c := k.code
  if !kprLengthOk c k.len || k.num 4 4 != 0 || decide (248 < k.len) then (s, kprBadRequest)
  else if s.kprState = 0 ∨ s.kprState = 1 ∨ s.kprState = 4 then
    if c = 0x01 ∨ (c = 0x60 ∧ s.kprState ≠ 1) then (s, stSuccess) else (s, kprBadRequest)
  else if c = 0x60 then (s, kprBadRequest)
  else if s.kprState = 3 ∧ c ≠ 0x01 ∧ c ≠ 0x50 ∧ c ≠ 0x37 then (s, kprSelfTestFail)
  else if s.lifecycle = 3 ∧ c ≠ 0x01 ∧ c ≠ 0x02 then (s, kprLifecycle)
  else
    let r := match kprScopeOf c s.lifecycle with
      | .none => (s, stSuccess)
      | .any => s.checkTrailer k none
      | .bit b => s.checkTrailer k (some b)
    if r.2 = stSuccess ∧ kprDraws c ∧ !r.1.trngOk then (r.1, kprEntropyFail) else r

/-- Keeper begins to serve a request: one that fails a shared check is answered at once, any other waits for its command. -/
def State.kprBegin (s : State) (k : KprServe) : State :=
  let s := (s.meetUnit 0x08 0).mapKpr (fun x => { x with serving := some k })
  let (s, st) := s.kprCheck k
  if st = stSuccess then s else s.kprAnswer st []

/-- Is Keeper busy with steps 5 and 6 of an image load (R546)? -/
def State.kprLoading (s : State) : Bool := s.hive.loader.step == .copying || s.hive.loader.step == .verifying

/-- Keeper serves the mailbox and queue 24 alternately (R546). -/
def State.hostTurn (s : State) : Bool := !(s.kpr.hostLast && !(s.queue 24).waiting.isEmpty)

/-- The mailbox's request. -/
def State.mailRequest (s : State) : List Byte := (List.range 64).flatMap (fun i => leBytes 4 (s.reg (Reg.kprMbReq i)).toNat)

/-- The mailbox's request is served when it is its turn. -/
def State.kprNext (s : State) : State :=
  if s.kpr.serving.isNone && s.kpr.hostWait && s.hostTurn && !s.kprLoading then
    let req := s.mailRequest
    (s.mapKpr (fun x => { x with hostWait := false })).kprBegin ⟨none, 0, req, ofLe (req.take 2)⟩
  else s

/-- A request ends with a status and data. -/
def State.kprRespond (s : State) (st : Nat) (data : List Byte) : State := (s.kprAnswer st data).kprNext

/-- Carry out the request served when its code is `code`. -/
def State.kprServe (s : State) (code : Nat) (run : KprServe → State → State) : State :=
  match s.kpr.serving with
  | some k => if k.code = code && s.kpr.lane.isNone && s.kpr.burning.isNone then run k s else s
  | none => s

/-! Erasing keys (R543, R544). -/

/-- A LANE_KEY whose lane goes down completes LANE_DOWN; its KEYX never leaves (R537). -/
def State.laneKeyLost (s : State) (lanes : List Nat) : State :=
  match s.kpr.lane with
  | some l => if lanes.contains l then s.kprRespond kprLaneDown [] else s
  | none => s

/-- LANE_SETUP (R279, R284, R292, R305, R306). -/
def doLaneSetup (s : State) : State :=
  s.takeAs 11 0x10 [0] fun t s =>
    let l := t.fld 0 87 83
    let mode := t.fld 0 82 81
    let guard := t.fld 0 80 80 == 1
    let post := t.fld 0 72 68
    let fin (s : State) (st : Nat) : State := s.complete 11 t.tag st 0
    if wallAbsent s.variant l || mode == 3 || decide (24 ≤ post) || t.fld 0 48 0 != 0 || (mode == 2 && guard) then
      fin s lnxBadParams
    else if s.laneInUse l then fin s lnxLaneBusy
    else if guard && s.fld Reg.kprStatus 19 19 == 0 then fin s lnxNoKey
    else fin ((s.setUpLane t l mode guard).laneKeyLost [l]) stSuccess

/-- Every lane key is erased, with those on their way. -/
def State.eraseLaneKeys (s : State) : State :=
  let s := (List.range 24).foldl (fun s l =>
    let s := if (s.lane l).key.isSome then s.eraseLaneKey l else s
    s.mapLane l (fun w => { w with mgmt := w.mgmt.filter Mgmt.plain })) s
  if s.kpr.lane.isSome then s.kprRespond kprNoKey [] else s

/-- The cascade link state is erased: a guarded cascade's links go down and stay down (R543). -/
def State.eraseCascade (s : State) : State :=
  if s.cas.guard.isNone then s else
  let s := s.mapCas (fun c => { c with guard := none })
  [0, 1].foldl (fun s d => if s.linkUpNow d then s.linkDown d else s) s

/-- Does the request in progress need the key of a session that is open: a proof or a check under it (R530, R533, R544)? -/
def State.sessionKeyNeeded (s : State) : Bool :=
  match s.kpr.serving with
  | some k => (k.code == 0x11 || k.code == 0x13) && (s.session (k.parNum 0 1)).isSome
  | none => false

/-- Volatile zeroisation (R544, action 1): a request in progress that needs a key that goes completes NO_KEY. -/
def State.zeroiseVolatile (s : State) : State :=
  let lost := s.sessionKeyNeeded
  let s := ((s.eraseLaneKeys).eraseCascade).closeSessions
  if lost then s.kprRespond kprNoKey [] else s

/-- Volatile zeroisation, and WK, SK and their install numbers (R544, action 2). -/
def State.zeroiseKeys (s : State) : State :=
  let s := s.zeroiseVolatile
  (s.mapKpr (fun k => { k with wk := none, sk := none, wkNumber := 0, skNumber := 0 })).kprShow

end Sys2Proof.Machine
end

