-- ==== Sys2Proof/Machine/Boot.lean ====
section
/-!
DEFINITION. The course of boot: entries that are done, the end of boot (spec/13_host_control_buses.md R468, R469).
-/
namespace Sys2Proof.Machine

/-- HCI_BOOT_STATUS.state: 0 ROM, 1 directory, 2 loading, 3 done, 4 waiting for host, 5 failed. -/
def State.bootState (s : State) : Nat := s.fld Reg.hciBootStatus 31 28
def State.setBootState (s : State) (x : Nat) : State := s.setFld Reg.hciBootStatus 31 28 x
def State.bootSrc (s : State) : Nat := s.fld Reg.hciBootStatus 27 26

/-- Pass over the Keeper firmware entry, which step 4 has dealt with. -/
def State.bootSkip (s : State) : State :=
  { s with hci := { s.hci with bootNext := s.hci.bootNext + ((s.hci.entries.drop s.hci.bootNext).takeWhile (fun e => e.type == 1)).length } }

/-- Every entry is done: boot ends, or waits for the host under BOOT_SRC 0b01 and 0b10 (R469, step 6). -/
def State.bootSettle (s : State) : State :=
  if s.bootState = 2 ∧ s.hci.entries.length ≤ s.hci.bootNext then
    s.setBootState (if s.bootSrc = 1 ∨ s.bootSrc = 2 then 4 else 3)
  else s

/-- The present boot entry is done, loaded or failed: counted, and the next one is due (R469). -/
def State.bootEntryDone (s : State) (ok : Bool) : State :=
  let s := if ok then s.bump Reg.hciBootStatus 23 16 1
    else
      let s := if s.fld Reg.hciBootStatus 7 0 = 0xFF then s.setFld Reg.hciBootStatus 7 0 s.hci.bootNext else s
      s.bump Reg.hciBootStatus 15 8 1
  ({ s with hci := { s.hci with bootNext := s.hci.bootNext + 1, bootWait := false } }).bootSkip.bootSettle

end Sys2Proof.Machine
end

