-- ==== Sys2Proof/Machine/Cls.lean ====
section
/-!
DEFINITION. The clip store: clips, the write buffer, reads and writes, host queue pairs, reset and activation, the SSD side
(spec/10_recording_replay.md R376 to R402).
-/
namespace Sys2Proof.Machine

def clsBadParams : Nat := 0x10
def clsNoClip : Nat := 0x11
def clsClipFull : Nat := 0x12
def clsIndexFull : Nat := 0x13
def clsBeyondEnd : Nat := 0x14
def clsClipClosed : Nat := 0x15
def clsOverlap : Nat := 0x16
def clsStoreBusy : Nat := 0x17
def clsMediumError : Nat := 0x18
def clsReadError : Nat := 0x19
def clsNotReady : Nat := 0x1A
def clsClipBusy : Nat := 0x1B

def State.mapCls (s : State) (f : Cls → Cls) : State := { s with cls := f s.cls }
def State.clip (s : State) (c : Nat) : Option Clip := sget none s.cls.clips c
def State.setClip (s : State) (c : Nat) (v : Option Clip) : State := s.mapCls (fun x => { x with clips := sset none x.clips c v })

/-- The store's state (CLS_STATUS): 0 not set up, 1 bringing up, 2 ready, 3 resetting, 4 activating, 5 activation-ready. -/
def State.clsState (s : State) : Nat := s.fld Reg.clsStatus 31 28
def State.setClsState (s : State) (v : Nat) : State := s.setFld Reg.clsStatus 31 28 v

/-- Does the store fetch commands? -/
def State.clsFetches (s : State) : Bool := s.isPowered 18 && decide (s.clsState ≤ 2)
def State.clsReady (s : State) : Bool := s.clsState == 2 && s.cls.setup.isSome

/-- The state of the SSD on root port `r`. -/
def State.ssd (s : State) (r : Nat) : Nat := s.fld (Reg.clsRpStatus r) 31 28

/-- Set an SSD's state and show it. -/
def State.setSsd (s : State) (r v : Nat) : State :=
  let s := s.setFld (Reg.clsRpStatus r) 31 28 v
  ((s.setFld Reg.clsStatus (26 + r) (26 + r) (v == 3).toNat).setFld Reg.clsStatus (24 + r) (24 + r) (v == 4).toNat).setFld
    Reg.clsStatus (22 + r) (22 + r) (v == 5 || v == 6).toNat

/-! The volume (R376). -/

/-- Volume blocks of an SSD: its capacity rounded down to whole MiB. -/
def State.ssdBlocks (s : State) (r : Nat) : Nat :=
  ((s.reg (Reg.clsRpCapLo r)).toNat + 2 ^ 32 * (s.reg (Reg.clsRpCapHi r)).toNat) / 256 * 256

def State.volumeBlocks (s : State) (u : ClsSetup) : Nat :=
  match u.ssds with
  | [a] => s.ssdBlocks a
  | [a, b] => 2 * min (s.ssdBlocks a) (s.ssdBlocks b)
  | _ => 0

/-- The SSD and the LBA of a volume block, and the LBAs of a block. -/
def State.blockPlace (s : State) (u : ClsSetup) (v : Nat) : Nat × Nat × Nat :=
  let n := u.ssds.length
  let r := u.ssds.getD (v / 256 % max 1 n) 0
  let k := if s.fld (Reg.clsRpStatus r) 13 13 = 1 then 1 else 8
  (r, (v / 256 / max 1 n * 256 + v % 256) * k, k)

/-! Pages (R382). -/

/-- The page number of an index page. -/
def indexPage (k : Nat) : Nat := 2 ^ 36 + k

/-- The volume block of a page of a clip. -/
def Clip.block (c : Clip) (p : Nat) : Nat := if p < 2 ^ 36 then c.dataFirst + p else c.indexFirst + (p - 2 ^ 36)

def State.page? (s : State) (c p : Nat) : Option Page := s.cls.pages.find? (fun x => x.clip == c && x.page == p)

/-- Replace a page. -/
def State.putPage (s : State) (x : Page) : State :=
  s.mapCls (fun y => { y with pages := y.pages.filter (fun z => !(z.clip == x.clip && z.page == x.page)) ++ [x] })

def Page.dirty (p : Page) : Bool := !p.loading && !p.lost && decide (p.durable < p.version)
def State.dirtyPages (s : State) : Nat := (s.cls.pages.filter Page.dirty).length

/-- The address of a page's slot. -/
def ClsSetup.slotAddr (u : ClsSetup) (k : Nat) : Nat := u.wbBase + 4096 * k

/-- Show the buffer's use. -/
def State.clsShow (s : State) : State :=
  let d := s.dirtyPages
  let s := s.setReg Reg.clsWb (packBits [(d * 4096 / 2 ^ 20, 16), ((s.cls.pages.length - d) * 4096 / 2 ^ 20, 0)])
  let s := s.setFld Reg.clsStatus 21 11
    ((s.cls.clips.filter (fun p => match p.2 with | some c => c.state == 1 || c.state == 2 | none => false)).length)
  [0, 1].foldl (fun s r => s.setFld (Reg.clsRpOutstanding r) 15 0 ((s.cls.nvme.filter (fun k => k.port == r)).length)) s

/-- A free slot, after evicting the oldest clean page if need be; `keep` are pages that must stay. -/
def State.takeSlot (s : State) (u : ClsSetup) (keep : List (Nat × Nat)) : Option (Nat × State) :=
  let n := u.wbMib * 256
  let used := s.cls.pages.map (·.slot)
  if s.cls.pages.length < n then
    (((List.range (s.cls.pages.length + 1)).find? (fun k => !used.contains k))).map (fun k => (k, s))
  else
    let clean := s.cls.pages.filter (fun p => !p.dirty && !p.loading && !keep.contains (p.clip, p.page))
    match (clean.map (·.order)).min? with
    | none => none
    | some o =>
      match clean.find? (fun p => p.order == o) with
      | none => none
      | some p => some (p.slot, s.mapCls (fun x => { x with pages := x.pages.filter (fun y => !(y.slot == p.slot)) }))

/-- The next value of the store's order of use. -/
def State.tickCls (s : State) : Nat × State := (s.cls.clock, s.mapCls (fun x => { x with clock := x.clock + 1 }))

/-! NVMe (R393). -/

/-- Issue an NVMe command. -/
def State.nvmeIssue (s : State) (port lba blocks : Nat) (write : Bool) (keys : List (Nat × Nat × Nat)) (retried : Bool)
    (bytes : List Byte) : State :=
  let cid := s.cls.nextCid
  (s.mapCls (fun x => { x with
    nextCid := (x.nextCid + 1) % 65536, nvme := x.nvme ++ [⟨port, cid, write, keys, retried, s.now⟩] })).emit
    (.nvme port cid write lba blocks bytes)

/-- Write a page to the medium, with FUA (DESIGN CHOICE, log entry 23), unless a write of this content is outstanding. -/
def State.flushPage (s : State) (c p : Nat) (retried : Bool) : State :=
  match s.cls.setup, s.clip c, s.page? c p with
  | some u, some k, some x =>
    if !x.dirty || s.cls.nvme.any (fun n => n.write && n.keys.contains (c, p, x.version)) then s
    else
      let (r, lba, n) := s.blockPlace u (k.block p)
      let s := s.meet (u.slotAddr x.slot) 4096
      s.nvmeIssue r lba n true [(c, p, x.version)] retried (s.bytes (u.slotAddr x.slot) 4096)
  | _, _, _ => s

/-- Write every dirty page that `f` selects. -/
def State.flushPages (s : State) (f : Page → Bool) : State :=
  (s.cls.pages.filter (fun p => p.dirty && f p)).foldl (fun s p => s.flushPage p.clip p.page false) s

/-- Load missing pages as clean pages: runs of blocks of one stripe unit, at most 32 to a command. None when there is no
room for them all. -/
def State.loadPages (s : State) (u : ClsSetup) (c : Nat) (k : Clip) (ps : List Nat) (keep : List (Nat × Nat)) : Option State :=
  let place := ps.foldl (fun (a : Option State) p =>
    a.bind (fun s => (s.takeSlot u keep).map (fun (slot, s) =>
      let (o, s) := s.tickCls
      s.putPage ⟨c, p, slot, 0, 0, 4096, true, o, false⟩))) (some s)
  place.map (fun s =>
    let runs := ps.foldl (fun (l : List (List Nat)) p =>
      match l.reverse with
      | (q :: qs) :: t =>
        let lastP := (q :: qs).getLastD q
        if lastP + 1 = p ∧ k.block lastP + 1 = k.block p ∧ k.block p % 256 ≠ 0 ∧ (q :: qs).length < 32
        then ((q :: qs ++ [p]) :: t).reverse else l ++ [[p]]
      | _ => l ++ [[p]]) []
    runs.foldl (fun s run =>
      let (r, lba, n) := s.blockPlace u (k.block (run.headD 0))
      s.nvmeIssue r lba (n * run.length) false (run.map (fun p => (c, p, 0))) false []) s)

/-! Completions. -/

/-- A command of the store completes. -/
def State.clsDone (s : State) (q tag status : Nat) (result : Nat) : State :=
  (s.mapCls (fun x => { x with jobs := x.jobs.filter (fun j => !(j.q == q && j.tag == tag)) })).complete q tag status
    (BitVec.ofNat 64 result)

/-- Change the job of a command. -/
def State.setJob (s : State) (q tag : Nat) (job : ClsJob) : State :=
  s.mapCls (fun x => { x with jobs := x.jobs.map (fun j => if j.q = q ∧ j.tag = tag then { j with job := job } else j) })

def State.addJob (s : State) (q tag : Nat) (job : ClsJob) : State :=
  s.mapCls (fun x => { x with jobs := x.jobs ++ [⟨q, tag, job⟩] })

/-- Copy bytes, with poison; says whether a source byte was poisoned (R26, R396). -/
def State.copyRange (s : State) (src dst n : Nat) : State × Bool :=
  let s := s.meet src n
  let bad := (wordsOf src n).filter (fun w => s.badWord w || s.onFailed (16 * w))
  let s' := s.unitStore 0x46 dst (s.bytes src n)
  (bad.foldl (fun t w =>
    let lo := max src (16 * w)
    let hi := min (src + n) (16 * w + 16)
    t.poisonRange (dst + (lo - src)) (hi - lo)) s', !bad.isEmpty)

/-! Writes (R378, R379, R382, R384). -/

/-- The pieces of a byte range by page: page, offset in it, offset in the range, length. -/
def pagePieces (a n : Nat) : List (Nat × Nat × Nat × Nat) :=
  if n = 0 then [] else
  (List.range ((a + n - 1) / 4096 - a / 4096 + 1)).map (fun i =>
    let p := a / 4096 + i
    let lo := max a (p * 4096)
    let hi := min (a + n) (p * 4096 + 4096)
    (p, lo - p * 4096, lo - a, hi - lo))

/-- Pages of a clip that a range touches, with the index page of entry `e` when it carries one. -/
def touchedPages (a n : Nat) (entry : Option Nat) : List Nat :=
  (pagePieces a n).map (·.1) ++ (match entry with | some e => [indexPage (e / 256)] | none => [])

/-- Make sure that a page stands in the buffer for writing: a new page is all zeros. -/
def State.openPage (s : State) (u : ClsSetup) (c p : Nat) (keep : List (Nat × Nat)) : Option State :=
  match s.page? c p with
  | some _ => some s
  | none => (s.takeSlot u keep).map (fun (slot, s) =>
      let (o, s) := s.tickCls
      ({ s with mem := (s.zero (u.slotAddr slot) 4096).mem, poison := (s.zero (u.slotAddr slot) 4096).poison }).putPage
        ⟨c, p, slot, 0, 0, 0, false, o, false⟩)

/-- Note that a page has changed. -/
def State.touchPage (s : State) (c p : Nat) : State :=
  match s.page? c p with
  | some x =>
    let (o, s) := s.tickCls
    s.putPage { x with version := x.version + 1, order := o }
  | none => s

/-- Pages with their present versions. -/
def State.versions (s : State) (c : Nat) (ps : List Nat) : List (Nat × Nat × Nat) :=
  ps.filterMap (fun p => (s.page? c p).map (fun x => (c, p, x.version)))

/-- The address of source byte `i` of a CLIP_WRITE (R398). -/
def writeSrc (src ringBase ringBytes i : Nat) : Nat :=
  if ringBytes = 0 then src + i else ringBase + (src - ringBase + i) % ringBytes

/-- A write is no longer waited for as a write: the FLUSHes and CLIP_CLOSEs that wait for it go on. -/
def State.writeGone (s : State) (q tag : Nat) (pages : List (Nat × Nat × Nat)) : State :=
  s.mapCls (fun x => { x with jobs := x.jobs.map (fun j =>
    match j.job with
    | .flush w p => if w.contains (q, tag) then { j with job := .flush (w.erase (q, tag)) (p ++ pages) } else j
    | .close c w b => { j with job := .close c (w.erase (q, tag)) b }
    | .drop c e => { j with job := .drop c (e.erase (q, tag)) }
    | _ => j) })

/-- Carry out a waiting CLIP_WRITE, or leave it waiting. -/
def State.tryWrite (s : State) (q tag : Nat) (clip : Nat) (fua index : Bool) (flags number src len ringBase ringBytes : Nat)
    (warned : Bool) : State :=
  match s.cls.setup, s.clip clip with
  | some u, some k =>
    let a := k.ack
    let entry := if index then some k.entries else none
    let fail (st : Nat) : State := (s.writeGone q tag []).clsDone q tag st 0
    if k.state ≠ 1 then fail clsClipClosed
    else if k.dataBlocks * 4096 < a + len then fail clsClipFull
    else if index && decide (k.indexBlocks * 256 ≤ k.entries) then fail clsIndexFull
    else
      let ps := touchedPages a len entry
      let keep := ps.map (fun p => (clip, p))
      let fresh := (ps.filter (fun p => match s.page? clip p with | some x => !x.dirty | none => true)).length
      let partials := ((if a % 4096 ≠ 0 then [a / 4096] else []) ++
        (match entry with | some e => if e % 256 ≠ 0 then [indexPage (e / 256)] else [] | none => []))
      let missing := partials.filter (fun p => (s.page? clip p).isNone)
      if u.dirtyMib * 256 < s.dirtyPages + fresh then
        if warned then s
        else (s.setJob q tag (.write clip fua index flags number src len ringBase ringBytes true)).fire 220
      else if !missing.isEmpty then (s.loadPages u clip k missing keep).getD s
      else if ps.any (fun p => match s.page? clip p with | some x => x.loading | none => false) then s
      else
        match ps.foldl (fun (t : Option State) p => t.bind (fun t => t.openPage u clip p keep)) (some s) with
        | none => s
        | some s =>
          let (s, bad) := (pagePieces a len).foldl (fun (t : State × Bool) (p, off, at_, n) =>
            let dst := (match t.1.page? clip p with | some x => u.slotAddr x.slot | none => 0) + off
            let split := if ringBytes = 0 then n else min n (ringBytes - (src - ringBase + at_) % ringBytes)
            let r := t.1.copyRange (writeSrc src ringBase ringBytes at_) dst split
            let r2 := if split < n then r.1.copyRange (writeSrc src ringBase ringBytes (at_ + split)) (dst + split) (n - split) else (r.1, false)
            (r2.1.touchPage clip p, t.2 || r.2 || r2.2)) (s, false)
          let s := match entry with
            | some e =>
              let p := indexPage (e / 256)
              let dst := (match s.page? clip p with | some x => u.slotAddr x.slot | none => 0) + 16 * (e % 256)
              (s.unitStore 0x46 dst (leBytes 16 (a % 2 ^ 48 * 2 ^ 80 + len * 2 ^ 56 + flags * 2 ^ 48 + number))).touchPage clip p
            | none => s
          let s := s.setClip clip (some { k with ack := a + len, entries := k.entries + index.toNat })
          let vs := s.versions clip ps
          let wanted := s.cls.jobs.any (fun j => match j.job with | .flush w _ => w.contains (q, tag) | _ => false)
          let s := s.writeGone q tag vs
          let s := if fua || wanted then s.flushPages (fun x => vs.contains (x.clip, x.page, x.version)) else s
          if fua then s.setJob q tag (.durable a vs bad)
          else s.clsDone q tag (if bad then stPoisoned else stSuccess) a
  | _, _ => (s.writeGone q tag []).clsDone q tag clsNoClip 0

/-! Reads (R380, R381). -/

/-- Carry out a waiting read, or leave it waiting. -/
def State.tryRead (s : State) (q tag : Nat) (clip : Nat) (index wait : Bool) (first len dest : Nat) : State :=
  match s.cls.setup, s.clip clip with
  | some u, some k =>
    let there := if index then decide (first < k.entries) else decide (first + len ≤ k.ack)
    if !there then
      if wait && k.state == 1 then s else s.clsDone q tag clsBeyondEnd 0
    else
      let n := if index then min len (k.entries - first) else len
      let (a, bytes) := if index then (16 * first, 16 * n) else (first, n)
      let base := if index then 2 ^ 36 else 0
      let pieces := pagePieces a bytes
      let ps := pieces.map (fun p => p.1 + base)
      let missing := ps.filter (fun p => (s.page? clip p).isNone)
      if missing.any (fun p => s.ssd (s.blockPlace u (k.block p)).1 == 5 || s.ssd (s.blockPlace u (k.block p)).1 == 6) then
        (s.fire 219).clsDone q tag clsReadError 0
      else if !missing.isEmpty then (s.loadPages u clip k missing (ps.map (fun p => (clip, p)))).getD s
      else if ps.any (fun p => match s.page? clip p with | some x => x.loading | none => false) then s
      else
        let (s, bad) := pieces.foldl (fun (t : State × Bool) (p, off, at_, m) =>
          let src := (match t.1.page? clip (p + base) with | some x => u.slotAddr x.slot | none => 0) + off
          let r := t.1.copyRange src (dest + at_) m
          (r.1, t.2 || r.2)) (s, false)
        s.clsDone q tag (if bad then stPoisoned else stSuccess) n
  | _, _ => s.clsDone q tag clsBeyondEnd 0

/-- Is a page's version on the medium, or the page gone? -/
def State.onMedium (s : State) (v : Nat × Nat × Nat) : Bool :=
  match s.page? v.1 v.2.1 with | some x => decide (v.2.2 ≤ x.durable) || x.lost | none => true

/-- The bytes of a clip that are on the medium without a gap (R383). -/
def State.durableBytes (s : State) (c : Nat) (k : Clip) : Nat :=
  ((s.cls.pages.filter (fun p => p.clip == c && decide (p.page < 2 ^ 36) && !p.loading && (p.dirty || p.lost))).map
    (fun p => p.page * 4096 + p.durBytes)).foldl min k.ack

/-! What waits goes on. -/

/-- One try at a command's job. -/
def State.tryJob (s : State) (j : ClsCmd) : State :=
  match s.cls.jobs.find? (fun x => x.q == j.q && x.tag == j.tag) with
  | none => s
  | some j =>
    match j.job with
    | .write c fua idx fl no src len rb rn w =>
      let firstWrite := s.cls.jobs.find? (fun x => match x.job with | .write .. => true | _ => false)
      if firstWrite.any (fun x => x.q == j.q && x.tag == j.tag) then s.tryWrite j.q j.tag c fua idx fl no src len rb rn w else s
    | .read c idx wait first len dest => s.tryRead j.q j.tag c idx wait first len dest
    | .durable a ps bad =>
      if ps.all s.onMedium then (s.writeGone j.q j.tag []).clsDone j.q j.tag (if bad then stPoisoned else stSuccess) a else s
    | .flush w ps => if w.isEmpty && ps.all s.onMedium then (s.fire 213).clsDone j.q j.tag stSuccess 0 else s
    | .close c w closing =>
      if !w.isEmpty then s
      else
        let s := if closing then s
          else
            let s := match s.clip c with
              | some k => if k.state = 1 then s.setClip c (some { k with state := 2 }) else s
              | none => s
            (s.setJob j.q j.tag (.close c [] true)).flushPages (fun x => x.clip == c)
        if s.cls.pages.any (fun x => x.clip == c && x.dirty) then s
        else ((s.writeGone j.q j.tag []).clsDone j.q j.tag stSuccess 0)
    | .drop c e =>
      let waitingOn := e.any (fun k => s.cls.jobs.any (fun x => x.q == k.1 && x.tag == k.2))
      if waitingOn then s
      else
        let s := s.mapCls (fun x => { x with
          pages := x.pages.filter (fun y => y.clip != c),
          nvme := x.nvme.filter (fun n => n.keys.all (fun k => k.1 != c)) })
        (s.setClip c none).clsDone j.q j.tag stSuccess 0

/-- One pass over the commands, oldest first; none goes on during a reset (R390, step 2). -/
def State.clsPass (s : State) : State := if s.clsState = 3 then s else s.cls.jobs.foldl State.tryJob s

/-- The store's memories are read: the clip table, the page map (R401). -/
def State.clsMemories (s : State) : State := (s.meetUnit 0x46 0).meetUnit 0x46 1

/-- Everything that can go on goes on. -/
def State.clsGo (s : State) : State := (((s.clsMemories.clsPass).clsPass).clsPass).clsShow

/-! Taking commands (R386, R387, R397, R398). -/

/-- A command's queue: 18, or 60 + n. -/
def srcQueue : ClsSrc → Nat
  | .device => 18
  | .hostPair n => 60 + n.val

/-- The store's opcodes, the common ones among them. -/
def clsOpcode (op : Nat) : Bool := op == 1 || op == 2 || op == 3 || decide (0x10 ≤ op ∧ op ≤ 0x19)

/-- The entry at the head of host pair `n`'s submission ring, if there is one to fetch. -/
def State.hostEntry (s : State) (n : Nat) : Option (Nat × List Quad) :=
  let size := s.fld (Reg.clsHqSqSize n) 12 0
  let head := s.fld (Reg.clsHqSqHead n) 11 0
  let base := s.fld (Reg.clsHqSqLo n) 31 6 * 64 + s.fld (Reg.clsHqSqHi n) 15 0 * 2 ^ 32
  if s.fld (Reg.clsHqCtrl n) 31 31 = 0 ∨ size = 0 ∨ head = s.fld (Reg.clsHqSqTail n) 11 0 ∨ s.blocked (60 + n) = true then none
  else some (base + 64 * head, (List.range 4).map (fun i => s.quadAt (base + 64 * head + 16 * i)))

/-- The command of a host pair's entry (R386, R387): no cell posted it. -/
def State.hostTaken (s : State) (n : Nat) (ws : List Quad) : Taken :=
  { words := ws, cell := 255, tag := w0Tag (ws.headD 0), cq := 0, epoch := s.epoch 18,
    endsTag := !(s.queue (60 + n)).tags.contains (w0Tag (ws.headD 0)), done := none, aborts := [] }

/-- `s` with the entry at the head of host pair `n` fetched as `t`: SQ_HEAD steps on, the tag is outstanding (R386, R388). -/
def State.hostPush (s : State) (n : Nat) (t : Taken) : State :=
  let q := 60 + n
  let s := s.setFld (Reg.clsHqSqHead n) 11 0 ((s.fld (Reg.clsHqSqHead n) 11 0 + 1) % s.fld (Reg.clsHqSqSize n) 12 0)
  let c := s.queue q
  (s.setQueue q { c with taken := c.taken ++ [t], tags := if t.endsTag then c.tags ++ [t.tag] else c.tags }).startAge q t.tag
    (!t.endsTag)

/-- The status with which an entry of a host pair is refused at once, none when it goes to its command (R387, R398). -/
def State.hostCheck (s : State) (n a : Nat) (ws : List Quad) (lens : List Nat) : Option Nat :=
  let w0 := ws.headD 0
  if (s.queue (60 + n)).tags.contains (w0Tag w0) then some stDupTag
  else if s.poisonedAt a 64 then some stPoisoned
  else if !clsOpcode (w0Opcode w0) then some stBadOpcode
  else if !lens.contains (w0Len w0) then some stBadLength
  else if qbits w0 119 112 ≠ 0 ∨ qbits w0 93 88 ≠ 0 ∨ (List.range 4).any (fun i => decide (w0Len w0 < i) && ws.getD i 0 != 0) then
    some clsBadParams
  else none

/-- The store reads the entry at `a` of host pair `n`, whose ring memory is 1 + `n` of its window. -/
def State.hostRead (s : State) (n a : Nat) : State := (s.meet a 64).meetUnit 0x46 (1 + n)

/-- The store fetches the entry at the head of a host pair: it finishes with the status of a check, or goes to `run`. -/
def State.hostFetch (s : State) (n : Nat) (lens : List Nat) (run : Taken → State → State) : State :=
  match s.hostEntry n with
  | none => s
  | some (a, ws) =>
    if w0Opcode (ws.headD 0) = 0 then
      s.setFld (Reg.clsHqSqHead n) 11 0 ((s.fld (Reg.clsHqSqHead n) 11 0 + 1) % s.fld (Reg.clsHqSqSize n) 12 0)
    else
      let t := s.hostTaken n ws
      let s := s.hostRead n a
      match s.hostCheck n a ws lens with
      | some st => (s.hostPush n { t with done := some (st, 0) }).settleQueue (60 + n)
      | none => run t (s.hostPush n t)

/-- Entries of unknown opcodes finish as they reach the head. -/
def State.hostSkip (n : Nat) : Nat → State → State
  | 0, s => s
  | f + 1, s =>
    match s.hostEntry n with
    | none => s
    | some (_, ws) =>
      if clsOpcode (w0Opcode (ws.headD 0)) || !s.clsFetches then s
      else State.hostSkip n f (s.hostFetch n [0, 1, 2, 3] (fun _ s => s))

/-- The store takes a command with opcode `op` from a source. -/
def State.clsTake (s : State) (src : ClsSrc) (op : Nat) (lens : List Nat) (run : Taken → State → State) : State :=
  if !s.clsFetches then s
  else match src with
    | .device => s.takeAs 18 op lens run
    | .hostPair n =>
      match s.hostEntry n.val with
      | some (_, ws) =>
        if w0Opcode (ws.headD 0) = op then State.hostSkip n.val 4096 (s.hostFetch n.val lens run) else State.hostSkip n.val 4096 s
      | none => s

/-- A command on a clip: NOT_READY and NO_CLIP first (R397). -/
def State.onClip (s : State) (src : ClsSrc) (t : Taken) (ok : Bool) (run : Nat → Clip → State) : State :=
  let q := srcQueue src
  let c := t.fld 0 87 78
  if !s.clsReady then s.complete q t.tag clsNotReady 0
  else if !ok then s.complete q t.tag clsBadParams 0
  else match s.clip c with
    | none => s.complete q t.tag clsNoClip 0
    | some k => run c k

/-- The clip that a CLIP_OPEN asks for (R377). -/
def clipOf (t : Taken) : Clip :=
  ⟨1, t.fld 1 127 96, t.fld 1 95 64, t.fld 1 63 32, t.fld 1 31 0, t.fld 2 127 80, t.fld 2 79 48⟩

/-- The status that refuses a CLIP_OPEN, none when it passes (R377, R397). -/
def State.openRefused (s : State) (t : Taken) : Option Nat :=
  match s.clsReady, s.cls.setup with
  | true, some u =>
    let df := t.fld 1 127 96
    let db := t.fld 1 95 64
    let xf := t.fld 1 63 32
    let xb := t.fld 1 31 0
    let v := s.volumeBlocks u
    let meet (a n b m : Nat) : Bool := decide (a < b + m ∧ b < a + n)
    if !t.zeros [(0, 77, 0), (2, 47, 0)] ∨ db = 0 ∨ xb = 0 ∨ v < df + db ∨ v < xf + xb ∨ db * 4096 < t.fld 2 127 80 ∨
        xb * 256 < t.fld 2 79 48 then some clsBadParams
    else if (s.clip (t.fld 0 87 78)).isSome then some clsClipBusy
    else if meet df db xf xb || s.cls.clips.any (fun p =>
        match p.2 with
        | some k => (k.state == 1 || k.state == 2) &&
            (meet df db k.dataFirst k.dataBlocks || meet df db k.indexFirst k.indexBlocks ||
             meet xf xb k.dataFirst k.dataBlocks || meet xf xb k.indexFirst k.indexBlocks)
        | none => false) then some clsOverlap
    else none
  | _, _ => some clsNotReady

/-- CLIP_OPEN (R377). -/
def doClipOpen (src : ClsSrc) (s : State) : State :=
  s.clsTake src 0x11 [2] fun t s =>
    match s.openRefused t with
    | some st => s.complete (srcQueue src) t.tag st 0
    | none => ((s.setClip (t.fld 0 87 78) (some (clipOf t))).complete (srcQueue src) t.tag stSuccess 0).clsShow

/-- Do the fields of a CLIP_WRITE pass (R378, R398)? -/
def clipWriteOk (v : Variant) (t : Taken) : Bool :=
  let a := t.fld 1 127 80
  let len := t.fld 1 79 56
  let rb := t.fld 2 127 80
  let rn := t.fld 2 79 56 * 4096
  t.zeros [(0, 67, 32), (1, 55, 0), (2, 55, 0)] && len != 0 &&
    (if rn = 0 then rb == 0 && inMemory v a len
     else rb % 4096 == 0 && inMemory v rb rn && decide (rb ≤ a ∧ a < rb + rn ∧ len ≤ rn))

/-- The append that a CLIP_WRITE asks for. -/
def clipWriteJob (t : Taken) (c : Nat) : ClsJob :=
  .write c (t.fld 0 77 77 == 1) (t.fld 0 76 76 == 1) (t.fld 0 75 68) (t.fld 0 31 0) (t.fld 1 127 80) (t.fld 1 79 56) (t.fld 2 127 80)
    (t.fld 2 79 56 * 4096) false

/-- CLIP_WRITE (R378, R379, R384, R398). -/
def doClipWrite (src : ClsSrc) (s : State) : State :=
  s.clsTake src 0x12 [2] fun t s =>
    s.onClip src t (clipWriteOk s.variant t) fun c k =>
      if k.state ≠ 1 then s.complete (srcQueue src) t.tag clsClipClosed 0
      else (s.addJob (srcQueue src) t.tag (clipWriteJob t c)).clsGo

/-- WRITE_BUFFER_ROOM (R382). -/
def doWriteBufferRoom (s : State) : State := s.clsGo

/-- CLIP_READ (R380, R398). -/
def doClipRead (src : ClsSrc) (s : State) : State :=
  s.clsTake src 0x13 [1] fun t s =>
    let q := srcQueue src
    let len := t.fld 1 79 56
    let dest := t.fld 1 55 8
    s.onClip src t (t.zeros [(0, 76, 0), (1, 7, 0)] && len != 0 && inMemory s.variant dest len) fun c _ =>
      (s.addJob q t.tag (.read c false (t.fld 0 77 77 == 1) (t.fld 1 127 80) len dest)).clsGo

/-- INDEX_READ (R381, R398). -/
def doIndexRead (src : ClsSrc) (s : State) : State :=
  s.clsTake src 0x14 [1] fun t s =>
    let q := srcQueue src
    let count := t.fld 1 79 56
    let dest := t.fld 1 127 80
    s.onClip src t (t.zeros [(0, 76, 0), (1, 23, 0)] && count != 0 && dest % 16 == 0 && inMemory s.variant dest (16 * count)) fun c _ =>
      (s.addJob q t.tag (.read c true (t.fld 0 77 77 == 1) (t.fld 1 55 24) count dest)).clsGo

/-- FLUSH (R385). -/
def doFlush (src : ClsSrc) (s : State) : State :=
  s.clsTake src 0x15 [0] fun t s =>
    let q := srcQueue src
    if !s.clsReady then s.complete q t.tag clsNotReady 0
    else if t.fld 0 87 0 ≠ 0 then s.complete q t.tag clsBadParams 0
    else
      let writes := s.cls.jobs.filterMap (fun j => match j.job with | .write .. => some (j.q, j.tag) | _ => none)
      let dirty := (s.cls.pages.filter Page.dirty).map (fun p => (p.clip, p.page, p.version))
      ((s.flushPages (fun _ => true)).addJob q t.tag (.flush writes dirty)).clsGo

/-- CLIP_CLOSE (R399). -/
def doClipClose (src : ClsSrc) (s : State) : State :=
  s.clsTake src 0x16 [0] fun t s =>
    let q := srcQueue src
    s.onClip src t (t.fld 0 77 0 == 0) fun c _ =>
      let writes := s.cls.jobs.filterMap (fun j =>
        match j.job with
        | .write k .. => if k = c then some (j.q, j.tag) else none
        | .durable _ ps _ => if ps.any (fun p => p.1 == c) then some (j.q, j.tag) else none
        | _ => none)
      (s.addJob q t.tag (.close c writes false)).clsGo

/-- The clip that a job works on, waiting reads apart. -/
def ClsJob.blocksDrop (s : State) (c : Nat) : ClsJob → Bool
  | .write k .. => k == c
  | .read k idx _ first len _ => k == c && (match s.clip c with
      | some x => if idx then decide (first < x.entries) else decide (first + len ≤ x.ack)
      | none => false)
  | .durable _ ps _ => ps.any (fun p => p.1 == c)
  | .flush _ _ => false
  | .close k _ _ => k == c
  | .drop k _ => k == c

/-- A CLIP_DROP waits for the commands on its clip; reads that wait for data that will not come are beyond the end (R399). -/
def State.dropJob (s : State) (q tag c : Nat) : State :=
  let beyond := s.cls.jobs.filter (fun j => match j.job with
    | .read k .. => k == c && !ClsJob.blocksDrop s c j.job
    | _ => false)
  let s := beyond.foldl (fun s j => s.clsDone j.q j.tag clsBeyondEnd 0) s
  let earlier := (s.cls.jobs.filter (fun j => ClsJob.blocksDrop s c j.job)).map (fun j => (j.q, j.tag))
  (s.addJob q tag (.drop c earlier)).clsGo

/-- CLIP_DROP (R399). -/
def doClipDrop (src : ClsSrc) (s : State) : State :=
  s.clsTake src 0x17 [0] fun t s =>
    let q := srcQueue src
    s.onClip src t (t.fld 0 77 0 == 0) fun c _ =>
      s.dropJob q t.tag c

/-- CLIP_QUERY (R399, R400); of a free clip, NO_CLIP. -/
def doClipQuery (src : ClsSrc) (s : State) : State :=
  s.clsTake src 0x18 [1] fun t s =>
    let q := srcQueue src
    let dest := t.fld 1 127 80
    s.onClip src t (t.zeros [(0, 77, 0), (1, 79, 0)] && dest % 16 == 0 && inMemory s.variant dest 16) fun c k =>
      let word := k.ack % 2 ^ 48 * 2 ^ 80 + s.durableBytes c k % 2 ^ 48 * 2 ^ 32 + k.entries
      (s.unitStore 0x46 dest (leBytes 16 word)).complete q t.tag stSuccess (BitVec.ofNat 64 (k.state * 2 ^ 60 + k.ack % 2 ^ 48))

/-- How long a command has been outstanding, µs; none when its tag is not (R388). -/
def State.ageOf (s : State) (q tag : Nat) : Option Nat :=
  if (s.queue q).tags.contains tag then
    (s.cls.ages.find? (fun a => a.q == q && a.tag == tag)).map (fun a => (s.now - a.since) / 1000)
  else none

/-- AGE (R388, R398, R400). -/
def doAge (src : ClsSrc) (s : State) : State :=
  s.clsTake src 0x19 [0] fun t s =>
    let q := srcQueue src
    if t.fld 0 65 0 ≠ 0 then s.complete q t.tag clsBadParams 0
    else match s.ageOf (t.fld 0 87 82) (t.fld 0 81 66) with
      | some a => s.complete q t.tag stSuccess (BitVec.ofNat 64 a)
      | none => s.complete q t.tag stNoTag 0

/-- CLS_AGE_THRESHOLD (R388). -/
def doClsAgeThreshold (src : ClsSrc) (tag : BitVec 16) (s : State) : State :=
  let q := srcQueue src
  let t := (s.reg Reg.clsAgeThresh).toNat
  match s.ageOf q tag.toNat, s.cls.ages.find? (fun a => a.q == q && a.tag == tag.toNat) with
  | some age, some a =>
    if t = 0 ∨ age ≤ t ∨ a.fired = true then s
    else (s.mapCls (fun x => { x with ages := x.ages.map (fun b => if b.q = q ∧ b.tag = tag.toNat then { b with fired := true } else b) })).fire 221
  | _, _ => s

/-! Setup and SSDs (R393 to R396). -/

/-- The root ports that the variant has (R356). -/
def rootPortAbsent (v : Variant) (r : Nat) : Bool := v == .ew9730 || (v == .ew9750 && r == 1)

/-- The store that a STORE_SETUP asks for (R394). -/
def setupOf (t : Taken) : ClsSetup :=
  ⟨(List.range 2).filter (fun r => nbits (t.fld 0 87 86) r r == 1), t.fld 0 85 85 == 1, t.fld 1 127 80, t.fld 1 79 64, t.fld 1 63 48,
    t.fld 2 127 80, if t.fld 2 79 48 = 0 then 10000 else t.fld 2 79 48⟩

/-- The status that refuses a STORE_SETUP, none when it passes (R394, R398). -/
def State.setupRefused (s : State) (t : Taken) : Option Nat :=
  let u := setupOf t
  let wb := t.fld 1 127 80
  let mib := t.fld 1 79 64
  let dirty := t.fld 1 63 48
  let nvme := t.fld 2 127 80
  if t.fld 0 87 86 = 0 ∨ u.ssds.any (rootPortAbsent s.variant) = true ∨ !t.zeros [(0, 84, 0), (1, 47, 0), (2, 47, 0)] ∨
      wb % 2 ^ 20 ≠ 0 ∨ mib < 64 ∨ 16384 < mib ∨ dirty = 0 ∨ mib < dirty ∨ nvme % 2 ^ 21 ≠ 0 ∨
      dramTop s.variant < wb + mib * 2 ^ 20 ∨ inMemory s.variant nvme (2 ^ 21) = false then some clsBadParams
  else if s.clsState = 1 ∨ s.cls.clips.any (fun p => match p.2 with | some k => k.state == 1 | none => false) = true then
    some clsStoreBusy
  else none

/-- The bring-up of the SSDs of a store begins (R394). -/
def State.setupStart (s : State) (q tag : Nat) (u : ClsSetup) : State :=
  let s := s.mapCls (fun x => { x with setup := some u, setupTag := some (q, tag), clips := [], pages := [], nvme := [] })
  let s := (List.range 2).foldl (fun s r => s.setSsd r (if u.ssds.contains r then 1 else 0)) s
  (s.setClsState 1).clsShow

/-- STORE_SETUP (R394, R398). -/
def doStoreSetup (src : ClsSrc) (s : State) : State :=
  s.clsTake src 0x10 [2] fun t s =>
    match s.setupRefused t with
    | some st => s.complete (srcQueue src) t.tag st 0
    | none => s.setupStart (srcQueue src) t.tag (setupOf t)

/-- The end of a reset: the store fetches again (R390, step 5). -/
def State.resetEnd (s : State) : State :=
  (((s.mapCls (fun x => { x with resetStep := 0 })).setClsState (if s.cls.setup.isSome then 2 else 0)).clsShow).fire 222

/-- The bring-up of an SSD is over: when it was the last of the mask, a STORE_SETUP completes (R394) or a reset ends (R390). -/
def State.bringUpOver (s : State) : State :=
  match s.cls.setup with
  | none => s
  | some u =>
    if u.ssds.any (fun r => s.ssd r == 1 || s.ssd r == 2) then s
    else match s.cls.setupTag with
      | none => if s.clsState = 3 ∧ s.cls.resetStep = 5 then s.resetEnd else s
      | some (q, tag) =>
        if s.clsState = 3 then s else
        let all := u.ssds.all (fun r => s.ssd r == 3)
        let s := s.mapCls (fun x => { x with setupTag := none, setup := if all then x.setup else none })
        (s.setClsState (if all then 2 else 0)).complete q tag (if all then stSuccess else clsNotReady)
          (BitVec.ofNat 64 (s.ssd 0 + 16 * s.ssd 1))

/-- SSD_BRINGUP_STEP_DONE (R393, R394). -/
def doSsdBringupStepDone (r : Nat) (result : BringUp) (s : State) : State :=
  let st := s.ssd r
  if !s.isPowered 18 || !(st == 1 || st == 2) then s
  else match result with
    | .linkUp speed width =>
      if st = 1 then
        let s := ((s.setSsd r 2).setFld (Reg.clsRpStatus r) 27 24 speed).setFld (Reg.clsRpStatus r) 23 19 width
        (List.range (min 4 width)).foldl (fun s k => s.setTx (8 + 4 * r + k)) s
      else s
    | .initialised blocks queues lba4k vwc =>
      if st = 2 then
        let s := ((s.setFld (Reg.clsRpStatus r) 18 15 (min 8 queues)).setFld (Reg.clsRpStatus r) 14 14
          (vwc && (match s.cls.setup with | some u => u.vwc | none => false)).toNat).setFld (Reg.clsRpStatus r) 13 13 lba4k.toNat
        let s := (s.setReg (Reg.clsRpCapLo r) (BitVec.ofNat 32 blocks)).setReg (Reg.clsRpCapHi r) (BitVec.ofNat 32 (blocks / 2 ^ 32))
        ((s.setSsd r 3).fire 214).bringUpOver
      else s
    | .unsuitable => ((s.setSsd r 6).fire 216).bringUpOver
    | .failed => ((s.setSsd r 5).fire 216).bringUpOver

/-- Pages that were not on the medium are lost (R390, R396): counted, reported, event 225. -/
def State.losePages (s : State) (f : Page → Bool) : State :=
  let gone := s.cls.pages.filter (fun p => p.dirty && f p)
  if gone.isEmpty then s
  else
    let s := s.mapCls (fun x => { x with pages := x.pages.map (fun p => if p.dirty && f p then { p with lost := true } else p) })
    ((s.bump Reg.clsLost 31 0 gone.length).report 0x46 0 0x0D gone.length).fire 225

/-- A Write has failed for good on an SSD (R396). -/
def State.mediumError (s : State) (r : Nat) : State :=
  match s.cls.setup with
  | none => s
  | some u =>
    let onSsd (p : Page) : Bool := match s.clip p.clip with | some k => (s.blockPlace u (k.block p.page)).1 == r | none => false
    let clips := ((s.cls.pages.filter (fun p => p.dirty && onSsd p)).map (·.clip)).eraseDups
    let hit (ps : List (Nat × Nat × Nat)) : Bool := ps.any (fun p => clips.contains p.1 && !s.onMedium p)
    let jobs := s.cls.jobs.filter (fun j => match j.job with | .durable _ ps _ => hit ps | .flush _ ps => hit ps | _ => false)
    let s := jobs.foldl (fun s j => (s.writeGone j.q j.tag []).clsDone j.q j.tag clsMediumError
      (match j.job with | .durable a _ _ => a | _ => 0)) s
    let s := clips.foldl (fun s c => match s.clip c with | some k => s.setClip c (some { k with state := 3 }) | none => s) s
    ((s.losePages (fun p => clips.contains p.clip)).report 0x46 r 0x0D 0).fire 218

/-- The reads that wait for pages fail (R396). -/
def State.readError (s : State) (keys : List (Nat × Nat × Nat)) : State :=
  let hit (j : ClsCmd) : Bool := match j.job with
    | .read c idx _ first len _ =>
      let ps := if idx then (pagePieces (16 * first) (16 * len)).map (fun p => p.1 + 2 ^ 36) else (pagePieces first len).map (·.1)
      keys.any (fun k => k.1 == c && ps.contains k.2.1)
    | _ => false
  let jobs := s.cls.jobs.filter hit
  let s := s.mapCls (fun x => { x with pages := x.pages.filter (fun p => !(p.loading && keys.any (fun k => k.1 == p.clip && k.2.1 == p.page))) })
  jobs.foldl (fun s j => (s.clsDone j.q j.tag clsReadError 0).fire 219) s

/-- An NVMe Write has landed: its pages are on the medium in the version written (R383, R385). -/
def State.nvmeWritten (s : State) (n : NvmeCmd) : State :=
  n.keys.foldl (fun s k =>
    match s.page? k.1 k.2.1, s.clip k.1 with
    | some p, some c =>
      let bytes := if p.page < 2 ^ 36 then min 4096 (c.ack - p.page * 4096) else 4096
      s.putPage { p with durable := max p.durable k.2.2, durBytes := if k.2.2 = p.version then bytes else p.durBytes }
    | _, _ => s) s

/-- An NVMe Read has landed: its pages that still load hold the data (R380). -/
def State.nvmeRead (s : State) (u : ClsSetup) (n : NvmeCmd) (data : List Byte) : State :=
  n.keys.zipIdx.foldl (fun s k =>
    match s.page? k.1.1 k.1.2.1 with
    | some p =>
      if p.loading then
        let bs := (data.drop (4096 * k.2)).take 4096
        (s.unitStore 0x46 (u.slotAddr p.slot) (bs ++ List.replicate (4096 - bs.length) 0)).putPage { p with loading := false }
      else s
    | none => s) s

/-- NVME_COMPLETION (R383, R395, R396). -/
def doNvmeCompletion (r cid : Nat) (ok : Bool) (data : List Byte) (s : State) : State :=
  match s.cls.nvme.find? (fun n => n.port == r && n.cid == cid), s.cls.setup with
  | some n, some u =>
    let s := s.mapCls (fun x => { x with nvme := x.nvme.erase n })
    if ok then (if n.write then s.nvmeWritten n else s.nvmeRead u n data).clsGo
    else
      let s := s.bump (Reg.clsRpErrors r) 31 16 1
      if !n.write then (s.readError n.keys).clsGo
      else if n.retried then (s.mediumError r).clsGo
      else
        let s := s.bump (Reg.clsRpErrors r) 15 0 1
        (n.keys.foldl (fun s k => s.flushPage k.1 k.2.1 true) s).clsShow
  | _, _ => s

/-- PAGE_FLUSH_DUE (R382); index pages are numbered from 2³⁶ on. -/
def doPageFlushDue (clip page : Nat) (s : State) : State := if s.isPowered 18 then (s.flushPage clip page false).clsShow else s

/-- SSD_TIMEOUT (R395). -/
def doSsdTimeout (r cid : Nat) (s : State) : State :=
  if s.cls.nvme.any (fun n => n.port == r && n.cid == cid) && s.ssd r == 3 then (s.setSsd r 4).fire 215 else s

/-- An SSD is failed (R395, R396): what waits on it fails (DESIGN CHOICE, log entry 23). -/
def State.ssdFail (s : State) (r : Nat) : State :=
  let cmds := s.cls.nvme.filter (fun n => n.port == r)
  let s := (s.setSsd r 5).mapCls (fun x => { x with nvme := x.nvme.filter (fun n => n.port != r) })
  let s := (s.report 0x46 r 0x0D 0).fire 216
  let s := s.readError (cmds.flatMap (fun n => if n.write then [] else n.keys))
  let s := if cmds.any (·.write) then s.mediumError r else s
  s.clsGo

/-- SSD_FAILURE (R395): a link down or CSTS.CFS. -/
def doSsdFailure (r : Nat) (s : State) : State :=
  let st := s.ssd r
  if !s.isPowered 18 || st == 0 || st == 5 || st == 6 then s
  else if st = 1 ∨ st = 2 then ((s.setSsd r 5).fire 216).bringUpOver
  else s.ssdFail r

/-- HEALTH_LOG_POLL (R393, R395). -/
def doHealthLogPoll (r : Nat) (temperature : BitVec 16) (warning : Byte) (s : State) : State :=
  let st := s.ssd r
  if !s.isPowered 18 || !(decide (2 ≤ st ∧ st ≤ 5)) then s
  else
    let s := s.setReg (Reg.clsRpHealth r) (packBits [(temperature.toNat, 8), (warning.toNat, 0)])
    if warning = 0 then s
    else
      let s := s.fire 217
      if st = 5 then s else if st = 2 then ((s.setSsd r 5).fire 216).bringUpOver else s.ssdFail r

/-! Host queue pairs (R386, R387, R401). -/

/-- A doorbell value that the ring does not have. -/
def State.badDoorbell (s : State) (m : Master) (k : Nat) : State := (s.accessFault m true (regsBase + k)).fire 226

/-- SQ_TAIL_DOORBELL (R386). -/
def doSqTailDoorbell (m : Master) (n : Nat) (value : Word) (s : State) : State :=
  s.gateWrite m (Reg.clsHqSqTail n) fun s =>
    if s.fld (Reg.clsHqSqSize n) 12 0 ≤ value.toNat then s.badDoorbell m (Reg.clsHqSqTail n)
    else
      let s := s.setFld (Reg.clsHqSqTail n) 11 0 value.toNat
      if s.clsFetches then State.hostSkip n 4096 s else s

/-- The tags of the items that a new CQ_HEAD has passed. -/
def State.passedTags (s : State) (n old new : Nat) : List Nat :=
  let size := s.fld (Reg.clsHqCqSize n) 12 0
  let base := s.fld (Reg.clsHqCqLo n) 31 6 * 64 + s.fld (Reg.clsHqCqHi n) 15 0 * 2 ^ 32
  (List.range ((new + size - old) % max 1 size)).map (fun i => itemTag (s.quadAt (base + 16 * ((old + i) % max 1 size))))

/-- HQ_ENABLE (R401). -/
def doHqEnable (m : Master) (n : Nat) (value : Word) (s : State) : State :=
  s.gateWrite m (Reg.clsHqCtrl n) fun s =>
    if bitsOf value 31 31 = 0 then s.setFld (Reg.clsHqCtrl n) 31 31 0
    else
      let sizeOk (k : Nat) : Bool := let v := s.fld k 12 0; decide (16 ≤ v ∧ v ≤ 4096) && v == 2 ^ Nat.log2 v
      let base (lo hi : Nat) : Nat := s.fld lo 31 6 * 64 + s.fld hi 15 0 * 2 ^ 32
      if sizeOk (Reg.clsHqSqSize n) && sizeOk (Reg.clsHqCqSize n) &&
          inMemory s.variant (base (Reg.clsHqSqLo n) (Reg.clsHqSqHi n)) (64 * s.fld (Reg.clsHqSqSize n) 12 0) &&
          inMemory s.variant (base (Reg.clsHqCqLo n) (Reg.clsHqCqHi n)) (16 * s.fld (Reg.clsHqCqSize n) 12 0) then
        let s := s.setFld (Reg.clsHqCtrl n) 31 31 1
        if s.clsFetches then State.hostSkip n 4096 s else s
      else (s.setFld (Reg.clsHqCtrl n) 31 31 0).accessFault m true (regsBase + Reg.clsHqCtrl n)

/-! Reset and activation (R390, R391). -/

/-- Clip-store reset, steps 1 to 3. -/
def State.clsResetStart (s : State) : State :=
  let s := s.setClsState 3
  -- what has not been acknowledged appends nothing
  let s := s.flushPages (fun _ => true)
  let vwc := (List.range 2).filter (fun r => s.ssd r == 3 && s.fld (Reg.clsRpStatus r) 14 14 == 1)
  (vwc.foldl (fun s r => s.emit (.nvmeOther r 0 0)) s).clsShow

/-- CLS_RESET (R390). -/
def doClsReset (m : Master) (value : Word) (s : State) : State :=
  s.gateWrite m Reg.clsCtrl fun s =>
    if bitsOf value 31 31 = 1 ∧ s.isPowered 18 = true ∧ s.clsState ≠ 3 then s.clsResetStart else s

/-- Every taken command of queue `q` that is not done is aborted by the reset; a fua write whose bytes are there carries A. -/
def State.resetTaken (s : State) (q : Nat) : State :=
  (s.queue q).taken.foldl (fun s t =>
    if t.done.isSome then s
    else
      let a := match s.cls.jobs.find? (fun j => j.q == q && j.tag == t.tag) with
        | some ⟨_, _, .durable a ps _⟩ => if ps.all s.onMedium then a else 0
        | _ => 0
      s.complete q t.tag stAbortedByReset (BitVec.ofNat 64 a)) s

/-- Descriptors that wait in queue 18 are aborted by the reset. -/
def State.resetWaiting (s : State) : State :=
  let c := s.queue 18
  let ts := c.waiting.map (fun d =>
    { d.taken (s.epoch 18) with done := some (if d.dup then stDupTag else stAbortedByReset, 0) })
  (s.setQueue 18 { c with waiting := [], taken := c.taken ++ ts }).settleQueue 18

/-- Entries between SQ_HEAD and the tail of a host pair are aborted by the reset. -/
def State.resetEntries (n : Nat) : Nat → State → State
  | 0, s => s
  | f + 1, s =>
    match s.hostEntry n with
    | none => s
    | some _ => State.resetEntries n f (s.hostFetch n [0, 1, 2, 3] (fun t s => s.complete (60 + n) t.tag stAbortedByReset 0))

/-- Does an SSD that is ready still have dirty pages to take (R390, step 3)? -/
def State.resetWrites (s : State) : Bool :=
  s.cls.pages.any (fun p => p.dirty && (match s.cls.setup, s.clip p.clip with
    | some u, some k => s.ssd (s.blockPlace u (k.block p.page)).1 == 3
    | _, _ => false))

/-- A STORE_SETUP that the reset has aborted leaves no setup, and its SSDs as they were before it. -/
def State.setupAborted (s : State) : State :=
  if s.cls.setupTag.isNone then s
  else
    let s := s.mapCls (fun x => { x with setup := none, setupTag := none })
    (List.range 2).foldl (fun s r => if s.ssd r = 1 ∨ s.ssd r = 2 then s.setSsd r 0 else s) s

/-- Has a host pair that is enabled an entry still to be aborted? -/
def State.resetOwed (s : State) : Bool :=
  (List.range 4).any (fun n => s.fld (Reg.clsHqCtrl n) 31 31 == 1 && s.fld (Reg.clsHqSqSize n) 12 0 != 0 &&
    s.fld (Reg.clsHqSqHead n) 11 0 != s.fld (Reg.clsHqSqTail n) 11 0)

/-- Step 5 of a reset: clips and buffer are cleared, SSDs that are stalled or failed are brought up again, and fetching resumes when they
have been (R390). -/
def State.resetUp (s : State) : State :=
  let s := s.setupAborted.mapCls (fun x => { x with clips := [], pages := [], nvme := [], jobs := [], resetStep := 5 })
  let again := match s.cls.setup with
    | some u => u.ssds.filter (fun r => s.ssd r == 4 || s.ssd r == 5)
    | none => []
  if again.isEmpty then s.resetEnd else (again.foldl (fun (s : State) r => s.setSsd r 1) s).clsShow

/-- Step 4 of a reset as far as the completion rings have room: entries of the host pairs are aborted; then step 5 (R386, R390). -/
def State.resetGo (s : State) : State :=
  if s.clsState ≠ 3 ∨ s.cls.resetStep ≠ 4 then s
  else
    let s := (List.range 4).foldl (fun s n => State.resetEntries n 4096 s) s
    if s.resetOwed then s else s.resetUp

/-- CLS_RESET_FLUSH_DONE (R390, steps 3 to 5): once every page is written that an SSD can take, what is dirty still is lost, and every
command is aborted. -/
def doClsResetFlushDone (s : State) : State :=
  if s.clsState ≠ 3 ∨ s.resetWrites = true ∨ s.cls.resetStep ≠ 0 then s
  else
    let s := s.losePages (fun _ => true)
    let s := (s.resetTaken 18).resetWaiting
    let s := (List.range 4).foldl (fun s n => s.resetTaken (60 + n)) s
    (s.mapCls (fun x => { x with jobs := [], resetStep := 4 })).resetGo

/-- CQ_HEAD_DOORBELL (R386, R387); a reset that waits for room goes on (R390). -/
def doCqHeadDoorbell (m : Master) (n : Nat) (value : Word) (s : State) : State :=
  s.gateWrite m (Reg.clsHqCqHead n) fun s =>
    if s.fld (Reg.clsHqCqSize n) 12 0 ≤ value.toNat then s.badDoorbell m (Reg.clsHqCqHead n)
    else
      let tags := s.passedTags n (s.fld (Reg.clsHqCqHead n) 11 0) value.toNat
      let c := s.queue (60 + n)
      let s := s.setQueue (60 + n) { c with tags := tags.foldl List.erase c.tags }
      ((s.setFld (Reg.clsHqCqHead n) 11 0 value.toNat).settleQueue (60 + n)).resetGo

/-- Activation begins (R391, step 1). -/
def State.clsActivate (s : State) : State :=
  if s.isPowered 18 && decide (s.clsState ≤ 2) then s.setClsState 4 else s

/-- CLS_ACTIVATE (R391). -/
def doClsActivate (m : Master) (value : Word) (s : State) : State :=
  s.gateWrite m Reg.clsCtrl fun s => if bitsOf value 30 30 = 1 then s.clsActivate else s

/-- Does a command hold activation back (R391)? -/
def State.holdsActivation (s : State) (j : ClsCmd) : Bool :=
  match j.job with
  | .read c idx wait first len _ =>
    !(wait && (match s.clip c with | some k => if idx then decide (k.entries ≤ first) else decide (k.ack < first + len) | none => false))
  | _ => true

/-- ACTIVATION_READY (R391, steps 2 and 3). -/
def doActivationReady (s : State) : State :=
  if s.clsState == 4 && s.cls.setupTag.isNone && !s.cls.jobs.any s.holdsActivation then (s.setClsState 5).fire 223 else s

/-- Fetching resumes (R391, step 5). -/
def State.clsResume (s : State) : State :=
  if s.clsState == 5 then
    let s := (s.setClsState (if s.cls.setup.isSome then 2 else 0)).fire 224
    (List.range 4).foldl (fun s n => State.hostSkip n 4096 s) s
  else s

/-- CLS_RESUME (R391). -/
def doClsResume (m : Master) (value : Word) (s : State) : State :=
  s.gateWrite m Reg.clsCtrl fun s => if bitsOf value 29 29 = 1 then s.clsResume else s

/-- ABORT reaches a store command (R389). -/
def State.clsAbort (s : State) (q tag : Nat) : Option State :=
  (s.cls.jobs.find? (fun j => j.q == q && j.tag == tag)).bind (fun j =>
    match j.job with
    | .write .. => some (((s.writeGone q tag []).clsDone q tag stAborted 0).clsGo)
    | .read .. => some (s.clsDone q tag stAborted 0)
    | .durable a _ _ => some (((s.writeGone q tag []).clsDone q tag stAborted a).clsGo)
    | .flush .. => some (s.clsDone q tag stAborted 0)
    | .close .. => none
    | .drop .. => none)

/-- PD_18 loses power (R392). -/
def State.clsPowerDown (s : State) : State :=
  { s with cls := Cls.empty, queues := s.queues.filter (fun p => p.1 < 60 || 64 ≤ p.1) }

end Sys2Proof.Machine
end

