-- ==== Sys2Proof/Machine/Lpk.lean ====
section
/-!
DEFINITION. The lossless packer: the packed raw format, packing into chains and unpacking (spec/10_recording_replay.md
R356 to R375).
-/
namespace Sys2Proof.Machine

def lpkBadParams : Nat := 0x10
def lpkOutOfRoom : Nat := 0x11
def lpkBadStream : Nat := 0x12
def lpkCrcError : Nat := 0x13

/-! The format (R357 to R365). -/

/-- How far back the predictor of column `x` lies (R358). -/
def lpkDelta (cfa x : Nat) : Nat := if cfa = 0 then 2 else if cfa = 2 then 1 else if x % 2 = 1 then 1 else 3

/-- The predictor of column `x` given the row's samples. -/
def lpkPred (cfa : Nat) (row : List Nat) (x : Nat) : Nat :=
  if lpkDelta cfa x ≤ x then row.getD (x - lpkDelta cfa x) 0 else 0

/-- The mapped value of a sample and its predictor (R358). -/
def lpkMap (v pred : Nat) : Nat :=
  let d := (v + 65536 - pred) % 65536
  if d < 32768 then 2 * d else 2 * (65536 - d) - 1

/-- The sample that a mapped value stands for. -/
def lpkUnmap (z pred : Nat) : Nat := if z % 2 = 0 then (pred + z / 2) % 65536 else (pred + 65536 - (z + 1) / 2) % 65536

/-- One to three bytes of a mapped value (R359). -/
def lpkBytes (z : Nat) : List Nat :=
  if z < 128 then [z] else if z / 128 < 128 then [z % 128 + 128, z / 128]
  else [z % 128 + 128, z / 128 % 128 + 128, z / 16384]

/-- The byte string of a block's rows. -/
def lpkString (cfa : Nat) (rows : List (List Nat)) : List Nat :=
  rows.flatMap (fun r => (r.zipIdx.flatMap (fun p => lpkBytes (lpkMap p.1 (lpkPred cfa r p.2)))))

/-- The width of the k-th code (R360). -/
def lpkCodeWidth (k : Nat) : Nat := min 13 (Nat.log2 (256 + k) + 1)

/-- The position of an entry in the dictionary's list from entry 257 on. -/
def dictFind (l : List (Nat × Nat)) (e : Nat × Nat) : Option Nat := (l.findIdx? (· == e)).map (· + 257)

/-- The codes of a byte string (R360): the dictionary's entries from 257 on are pairs (code, byte). -/
def lpkCodes (bs : List Nat) : List Nat :=
  match bs with
  | [] => [256]
  | b :: t =>
    let r := t.foldl (fun (a : Nat × List (Nat × Nat) × List Nat) c =>
      let (w, dict, out) := a
      match dictFind dict (w, c) with
      | some k => (k, dict, out)
      | none => (c, if dict.length + 257 < 8192 then dict ++ [(w, c)] else dict, out ++ [w])) (b, [], [])
    r.2.2 ++ [r.1, 256]

/-- The coded payload (R361). -/
def lpkPayload (codes : List Nat) : List Byte :=
  let s := codes.zipIdx.foldl (fun (a : Nat × Nat) p => (a.1 + p.1 * 2 ^ a.2, a.2 + lpkCodeWidth p.2)) (0, 0)
  leBytes ((s.2 + 7) / 8) s.1

/-- The string of an entry. -/
def dictString (dict : List (List Nat)) (k : Nat) : Option (List Nat) :=
  if k < 256 then some [k] else if k = 256 then none else dict[k - 257]?

/-- Decode codes from the bits of a payload (R360): none on a decode error. `n` bounds the codes. -/
def lpkDecode (bits total : Nat) : Nat → Nat → Nat → List (List Nat) → Option (List Nat) → List Nat → Option (List Nat)
  | 0, _, _, _, _, _ => none
  | f + 1, k, at_, dict, prev, out =>
    let w := lpkCodeWidth k
    if total < at_ + w then none
    else
      let code := bits / 2 ^ at_ % 2 ^ w
      match prev with
      | none => if code < 256 then lpkDecode bits total f (k + 1) (at_ + w) dict (some [code]) [code] else none
      | some p =>
        if code = 256 then some out
        else
          let cur := if code = dict.length + 257 ∧ dict.length + 257 < 8192 then some (p ++ [p.headD 0]) else dictString dict code
          match cur with
          | none => none
          | some c =>
            let dict := if dict.length + 257 < 8192 then dict ++ [p ++ [c.headD 0]] else dict
            lpkDecode bits total f (k + 1) (at_ + w) dict (some c) (out ++ c)

/-- The mapped values of a byte string, none when it ends inside one or one is too long. -/
def lpkValues : Nat → List Nat → Option (List Nat)
  | 0, l => if l.isEmpty then some [] else none
  | _ + 1, [] => some []
  | f + 1, a :: t =>
    if a < 128 then (lpkValues f t).map (a :: ·)
    else match t with
      | b :: t2 =>
        if b < 128 then (lpkValues f t2).map ((a - 128 + 128 * b) :: ·)
        else match t2 with
          | c :: t3 => if c < 4 then (lpkValues f t3).map ((a - 128 + 128 * (b - 128) + 16384 * c) :: ·) else none
          | [] => none
      | [] => none

/-- A row from its mapped values. -/
def lpkRow (cfa : Nat) (zs : List Nat) : List Nat := zs.foldl (fun r z => r ++ [lpkUnmap z (lpkPred cfa r r.length)]) []

/-- The rows of a coded block, none on a decode error (R368). -/
def lpkUnpackRows (cfa w n : Nat) (payload : List Byte) : Option (List (List Nat)) :=
  let total := 8 * payload.length
  (lpkDecode (ofLe payload) total (total / 9 + 1) 0 0 [] none []).bind (fun s =>
    (lpkValues s.length s).bind (fun zs =>
      if zs.length = w * n then some ((List.range n).map (fun i => lpkRow cfa ((zs.drop (i * w)).take w))) else none))

/-- The samples of rows as bytes. -/
def rowBytes (rows : List (List Nat)) : List Byte := rows.flatMap (fun r => r.flatMap (leBytes 2))

/-- The payload of a block and whether it is stored raw (R362, R369). -/
def lpkBlock (cfa w : Nat) (rows : List (List Nat)) (forceRaw : Bool) : List Byte × Bool :=
  let coded := lpkPayload (lpkCodes (lpkString cfa rows))
  if forceRaw || decide (2 * w * rows.length ≤ coded.length) then (rowBytes rows, true) else (coded, false)

/-- A block header and its padded payload (R365). -/
def lpkBlockBytes (index : Nat) (rows : List (List Nat)) (payload : List Byte) (raw last bad : Bool) : List Byte :=
  let h := leBytes 4 payload.length ++ leBytes 2 index ++ leBytes 1 rows.length ++
    leBytes 1 (raw.toNat + 2 * last.toNat + 4 * bad.toNat) ++ leBytes 4 (crc32c (rowBytes rows))
  h ++ leBytes 4 (crc32c h) ++ payload ++ List.replicate ((16 - payload.length % 16) % 16) 0

/-- A frame header (R364). -/
def LpkRun.header (r : LpkRun) (truncated : Bool) : List Byte :=
  let h := [0x4C, 0x50, 0x4B, 0x31] ++ leBytes 2 1 ++ leBytes 1 r.cfa ++ leBytes 1 r.exposures ++ leBytes 1 r.width ++
    leBytes 1 (r.poisoned.toNat + 2 * truncated.toNat) ++ leBytes 2 r.block ++ leBytes 2 r.w ++ leBytes 2 r.h ++
    leBytes 4 r.frame ++ leBytes 4 r.capture ++ leBytes 8 r.pos ++ leBytes 2 r.raw ++ List.replicate 14 0
  h ++ leBytes 4 (crc32c h) ++ List.replicate 12 0

/-! Chains (R366). -/

/-- The chain of `n` entries at an address, none when an entry is invalid. -/
def State.readChain (s : State) (a n : Nat) : Option (List (Nat × Nat)) :=
  if a % 16 ≠ 0 ∨ n = 0 ∨ 64 < n ∨ inMemory s.variant a (16 * n) = false then none
  else
    let es := (List.range n).map (fun i => s.quadAt (a + 16 * i))
    if es.all (fun q => qbits q 47 0 == 0 && qbits q 127 80 % 64 == 0 && qbits q 79 48 != 0 && qbits q 79 48 % 64 == 0 &&
        inMemory s.variant (qbits q 127 80) (qbits q 79 48)) then
      some (es.map (fun q => (qbits q 127 80, qbits q 79 48)))
    else none

def chainSize (c : List (Nat × Nat)) : Nat := (c.map (·.2)).sum

/-- The parts of memory that stream bytes `pos` to `pos + n` lie in. -/
def chainParts : List (Nat × Nat) → Nat → Nat → List (Nat × Nat)
  | [], _, _ => []
  | (a, size) :: t, pos, n =>
    if n = 0 then []
    else if size ≤ pos then chainParts t (pos - size) n
    else
      let k := min n (size - pos)
      (a + pos, k) :: chainParts t 0 (n - k)

/-- Write stream bytes. -/
def State.chainPut (s : State) (win : Nat) (c : List (Nat × Nat)) (pos : Nat) (bs : List Byte) : State :=
  ((chainParts c pos bs.length).foldl (fun (a : State × List Byte) p =>
    (a.1.unitStore win p.1 (a.2.take p.2), a.2.drop p.2)) (s, bs)).1

/-- Read stream bytes, and whether one of them is poisoned. -/
def State.chainGet (s : State) (c : List (Nat × Nat)) (pos n : Nat) : List Byte × Bool :=
  let ps := chainParts c pos n
  (ps.flatMap (fun p => s.bytes p.1 p.2), ps.any (fun p => s.poisonedAt p.1 p.2))

/-- The reads of stream bytes. -/
def State.meetChain (s : State) (c : List (Nat × Nat)) (pos n : Nat) : State :=
  (chainParts c pos n).foldl (fun s p => s.meet p.1 p.2) s

/-- The memories of an engine are read: the dictionaries, the block staging (R373). -/
def State.lpkMemories (s : State) (n : Nat) : State := (s.meetUnit (0x44 + n) 0).meetUnit (0x44 + n) 1

/-! Commands (R367 to R372). -/

def State.lpk (s : State) (n : Nat) : Option LpkRun := sget none s.lpks n
def State.setLpk (s : State) (n : Nat) (r : Option LpkRun) : State :=
  let st := match r with | some _ => 1 | none => 0
  ({ s with lpks := sset none s.lpks n r }).setReg (Reg.lpkStatus n)
    (packBits [(st, 28), (match r with | some r => r.block % 65536 | none => 0, 0)])

/-- A descriptor of engine `n` completes. -/
def State.lpkDone (s : State) (n tag status : Nat) (result : Nat) : State :=
  (s.count (Reg.lpkFrames n) 1).complete (16 + n) tag status (BitVec.ofNat 64 result)

/-- The packing ends: header, counts, completion (R367, R370, R372). -/
def State.lpkEnd (s : State) (n : Nat) (r : LpkRun) (full aborted : Bool) : State :=
  let s := s.chainPut (0x44 + n) r.chain 0 (r.header (full || aborted))
  let s := (s.setLpk n none).bump (Reg.lpkCount0 n) 31 16 r.raw
  let s := if full then (s.bump (Reg.lpkCount0 n) 15 0 1).fire 202 else s
  let s := if r.poisoned then s.fire 206 else s
  let st := if aborted then stAborted else if full then lpkOutOfRoom else if r.poisoned then stPoisoned else stSuccess
  s.lpkDone n r.tag st (r.pos % 2 ^ 32 * 2 ^ 32 + r.block % 65536 * 65536 + r.raw % 65536)

/-- The packing that an LPK_PACK asks for, none when a field check refuses it (R357, R366, R371). -/
def State.packOf (s : State) (t : Taken) : Option LpkRun :=
  let w := t.fld 1 55 40
  let h := t.fld 1 39 24
  let e := t.fld 0 85 84 + 1
  let src := t.fld 1 127 80
  let stride := t.fld 1 79 56
  if t.fld 0 87 86 = 3 ∨ e = 4 ∨ !t.zeros [(0, 81, 64), (1, 23, 0), (2, 71, 0)] ∨ src % 64 ≠ 0 ∨ w < 16 ∨ 16384 < w ∨ w % 8 ≠ 0 ∨
      h = 0 ∨ stride * 64 < 2 * w ∨ inMemory s.variant src ((h * e - 1) * stride * 64 + 2 * w) = false then none
  else (s.readChain (t.fld 2 127 80) (t.fld 2 79 72)).map (fun c =>
    { tag := t.tag, cfa := t.fld 0 87 86, exposures := e, width := 10 + 2 * t.fld 0 83 82, frame := t.fld 0 63 32,
      capture := t.fld 0 31 0, src := src, stride := stride, w := w, h := h, chain := c, block := 0, pos := 64, raw := 0,
      poisoned := false })

/-- LPK_PACK (R357, R366, R371): the engine then codes one block at a time. -/
def doLpkPack (n : Nat) (s : State) : State :=
  s.takeWhen (16 + n) 0x10 [2] (fun _ => (s.lpk n).isNone) fun t s =>
    let s := s.meet (t.fld 2 127 80) (16 * t.fld 2 79 72)
    match s.packOf t with
    | some r =>
      if s.poisonedAt (t.fld 2 127 80) (16 * t.fld 2 79 72) then s.lpkDone n t.tag stPoisoned 0 else s.setLpk n (some r)
    | none => s.lpkDone n t.tag lpkBadParams 0

/-- The next block of a packing is coded and written, or the packing ends for want of room (R357 to R363, R367, R369). -/
def State.lpkBlockPut (s : State) (n : Nat) (r : LpkRun) (mismatch : Bool) : State :=
  let total := r.h * r.exposures
  let first := 16 * r.block
  let k := min 16 (total - first)
  let at_ (i x : Nat) : Nat := r.src + (first + i) * r.stride * 64 + 2 * x
  let s := ((List.range k).foldl (fun s i => s.meet (at_ i 0) (2 * r.w)) (s.lpkMemories n)).tally (0x44 + n) (2 * r.w * k)
  let bad := (List.range k).any (fun i => s.poisonedAt (at_ i 0) (2 * r.w))
  let rows := (List.range k).map (fun i => (List.range r.w).map (fun x =>
    if s.poisonedAt (at_ i x) 2 then 0 else s.num (at_ i x) 2))
  let (payload, raw) := lpkBlock r.cfa r.w rows (bad || mismatch)
  let last := decide (total ≤ first + k)
  let s := if mismatch then (s.report (0x44 + n) 0 0x08 0).fire 205 else s
  let bytes := lpkBlockBytes r.block rows payload raw last bad
  if chainSize r.chain < r.pos + bytes.length then s.lpkEnd n r true false
  else
    let s := s.chainPut (0x44 + n) r.chain r.pos bytes
    let r := { r with block := r.block + 1, pos := r.pos + bytes.length, raw := r.raw + raw.toNat, poisoned := r.poisoned || bad }
    if last then s.lpkEnd n r false false else s.setLpk n (some r)

/-- LPK_BLOCK_CODED (R357 to R363, R367, R369). -/
def doLpkBlockCoded (n : Nat) (mismatch : Bool) (s : State) : State :=
  if !s.isPowered 17 || s.isFenced 17 || s.unitStalled (0x44 + n) then s else
  match s.lpk n with
  | none => s
  | some r => s.lpkBlockPut n r mismatch

/-- What unpacking has done so far: next stream byte, blocks, bad blocks, CRC errors, poisoned, stopped. -/
structure UnpackAcc where
  pos : Nat
  blocks : Nat
  bad : Nat
  crc : Nat
  poisoned : Bool
  stopped : Bool
  deriving DecidableEq, Repr

/-- Unpack block `b` (R368, R369). -/
def State.unpackOne (s : State) (n : Nat) (c : List (Nat × Nat)) (cfa w total dest stride b : Nat) (a : UnpackAcc) : State × UnpackAcc :=
  let k := min 16 (total - 16 * b)
  let s := if a.stopped then s else s.meetChain c a.pos 16
  let hd := s.chainGet c a.pos 16
  let h := hd.1
  let f (o m : Nat) : Nat := ofLe ((h.drop o).take m)
  let len := f 0 4
  let raw := f 7 1 % 2 == 1
  let pois := f 7 1 / 4 % 2 == 1
  let padded := (len + 15) / 16 * 16
  if a.stopped then (s, a)
  else if h.length ≠ 16 ∨ hd.2 = true ∨ crc32c (h.take 12) ≠ f 12 4 ∨ f 4 2 ≠ b ∨ f 6 1 ≠ k ∨ k = 0 ∨
      (if raw then decide (len ≠ 2 * w * k) else decide (len = 0 ∨ 2 * w * k ≤ len)) = true ∨
      chainSize c < a.pos + 16 + padded then (s, { a with stopped := true })
  else
    let s := ((s.meetChain c (a.pos + 16) len).lpkMemories n).tally (0x44 + n) (2 * w * k)
    let data := s.chainGet c (a.pos + 16) len
    let got := if data.2 then none
      else if raw then some ((List.range k).map (fun i => (List.range w).map (fun x => ofLe ((data.1.drop (2 * (i * w + x))).take 2))))
      else lpkUnpackRows cfa w k data.1
    let rows := got.getD (List.replicate k (List.replicate w 0))
    let s := rows.zipIdx.foldl (fun s p =>
      let addr := dest + (16 * b + p.2) * stride * 64
      let s := s.unitStore (0x44 + n) addr (p.1.flatMap (leBytes 2))
      if pois then s.poisonRange addr (2 * w) else s) s
    let wrong := got.isSome && crc32c (rowBytes rows) != f 8 4
    (s, { pos := a.pos + 16 + padded, blocks := a.blocks + 1, bad := a.bad + got.isNone.toNat, crc := a.crc + wrong.toNat,
          poisoned := a.poisoned || pois, stopped := false })

/-- A field of a stream header: `m` bytes at offset `o`. -/
def hdrField (h : List Byte) (o m : Nat) : Nat := ofLe ((h.drop o).take m)

/-- Is the header of a stream refused (R368)? -/
def headerBad (h : List Byte × Bool) : Bool :=
  let f := hdrField h.1
  decide (h.1.length ≠ 64) || h.2 || decide (f 0 4 ≠ 0x314B504C) || decide (f 4 2 ≠ 1) || decide (crc32c (h.1.take 48) ≠ f 0x30 4) ||
    decide (f 12 2 < 16) || decide (16384 < f 12 2) || decide (f 12 2 % 8 ≠ 0) || decide (2 < f 6 1) || decide (f 7 1 = 0) ||
    decide (3 < f 7 1)

/-- Unpack the blocks of a stream with header `h` (R368, R369), and finish (R372). -/
def State.unpackAll (s : State) (n tag : Nat) (c : List (Nat × Nat)) (h : List Byte) (dest stride : Nat) : State :=
  let f := hdrField h
  let total := f 14 2 * f 7 1
  let (s, a) := (List.range (f 10 2)).foldl
    (fun (a : State × UnpackAcc) b => a.1.unpackOne n c (f 6 1) (f 12 2) total dest stride b a.2) (s, ⟨64, 0, 0, 0, false, false⟩)
  let st := if a.stopped then lpkBadStream else if a.poisoned then stPoisoned
    else if 0 < a.bad + a.crc then lpkCrcError else stSuccess
  let s := s.bump (Reg.lpkCount1 n) 31 16 a.crc
  let s := if a.stopped then (s.bump (Reg.lpkCount1 n) 15 0 1).fire 204 else s
  let s := if st = lpkCrcError then s.fire 203 else s
  let s := if a.poisoned then s.fire 206 else s
  s.lpkDone n tag st (min total (16 * a.blocks) * 2 ^ 32 + a.blocks % 65536 * 65536 + a.bad % 65536)

/-- LPK_UNPACK (R364, R368, R369, R371, R372). -/
def doLpkUnpack (n : Nat) (s : State) : State :=
  let q := 16 + n
  s.takeWhen q 0x11 [1] (fun _ => (s.lpk n).isNone) fun t s =>
    let s := s.meet (t.fld 1 55 8) (16 * t.fld 1 7 0)
    let dest := t.fld 1 127 80
    let stride := t.fld 1 79 56
    match s.readChain (t.fld 1 55 8) (t.fld 1 7 0) with
    | none => s.lpkDone n t.tag lpkBadParams 0
    | some c =>
      let s := s.meetChain c 0 64
      let h := s.chainGet c 0 64
      let w := hdrField h.1 12 2
      let total := hdrField h.1 14 2 * hdrField h.1 7 1
      if t.fld 0 87 0 ≠ 0 ∨ dest % 64 ≠ 0 then s.lpkDone n t.tag lpkBadParams 0
      else if s.poisonedAt (t.fld 1 55 8) (16 * t.fld 1 7 0) then s.lpkDone n t.tag stPoisoned 0
      else if headerBad h then ((s.bump (Reg.lpkCount1 n) 15 0 1).fire 204).lpkDone n t.tag lpkBadStream 0
      else if stride * 64 < 2 * w ∨ (total ≠ 0 ∧ inMemory s.variant dest ((total - 1) * stride * 64 + 2 * w) = false) then
        s.lpkDone n t.tag lpkBadParams 0
      else s.unpackAll n t.tag c h.1 dest stride

/-- ABORT reaches a running LPK_PACK (R370). -/
def State.lpkAbort (s : State) (n tag : Nat) : Option State :=
  match s.lpk n with
  | some r => if r.tag = tag then some (s.lpkEnd n r false true) else none
  | none => none

end Sys2Proof.Machine
end

