-- ==== Sys2Proof/Machine/H265.lean ====
section
/-!
DEFINITION. What of H.265 the codec's rules rest on: Annex B byte streams and NAL units, the headers that say which picture a slice
belongs to and which pictures it refers to, and the picture hashes (spec/09_codec.md R314, R325, R336, R341 to R344; the syntax is
ITU-T H.265's, which the manual names: PRESUMED, log entry 49).
-/
namespace Sys2Proof.Machine

/-! Annex B. -/

def Nal.type (u : Nal) : Nat := nbits (u.bytes.headD 0).toNat 6 1
def Nal.layer (u : Nal) : Nat := nbits (ofBe (u.bytes.take 2)) 8 3
def Nal.tid (u : Nal) : Nat := nbits (ofBe (u.bytes.take 2)) 2 0
def Nal.payload (u : Nal) : List Byte := u.bytes.drop 2

/-- Take out emulation prevention bytes; `z` zeros stand before. -/
def unescape : Nat → List (Byte × Bool) → List (Byte × Bool)
  | _, [] => []
  | z, b :: t => if 2 ≤ z ∧ b.1 = 3 then unescape 0 t else b :: unescape (if b.1 = 0 then z + 1 else 0) t

/-- Put in emulation prevention bytes. -/
def escape : Nat → List Byte → List Byte
  | _, [] => []
  | z, b :: t => if 2 ≤ z ∧ b.toNat ≤ 3 then 3 :: b :: escape (if b = 0 then 1 else 0) t else b :: escape (if b = 0 then z + 1 else 0) t

/-- One byte more of a stream: the zeros before it; the unit that is open, its last byte first; the units before it. -/
def nalStep (a : Nat × Option (List (Byte × Bool)) × List (List (Byte × Bool))) (b : Byte × Bool) :
    Nat × Option (List (Byte × Bool)) × List (List (Byte × Bool)) :=
  if 2 ≤ a.1 ∧ b.1 = 1 then (0, some [], a.2.2 ++ a.2.1.toList) else (if b.1 = 0 then a.1 + 1 else 0, a.2.1.map (b :: ·), a.2.2)

/-- The NAL units of a byte stream, each byte with whether it is poisoned. -/
def byteStreamUnits (bs : List (Byte × Bool)) : List Nal :=
  let r := bs.foldl nalStep (0, none, [])
  (r.2.2 ++ r.2.1.toList).filterMap (fun l =>
    let u := unescape 0 (l.dropWhile (fun b => b.1 == 0)).reverse
    if 2 ≤ u.length then some ⟨u.map (·.1), u.any (·.2)⟩ else none)

/-- A NAL unit of layer 0 and temporal layer 0 as it stands in a stream, after a start code of `zeros` + 1 bytes. -/
def nalBytes (zeros type : Nat) (payload : List Byte) : List Byte :=
  List.replicate zeros 0 ++ [1] ++ [BitVec.ofNat 8 (2 * type), 1] ++ escape 0 payload

/-- Is a NAL unit one that the decoder discards: of a higher layer, or of a type reserved or unspecified (R314)? -/
def Nal.discarded (u : Nal) : Bool :=
  u.layer != 0 || decide (10 ≤ u.type ∧ u.type ≤ 15) || decide (22 ≤ u.type ∧ u.type ≤ 31) || decide (41 ≤ u.type)

/-- Is a NAL unit a slice segment? -/
def Nal.slice (u : Nal) : Bool := decide (u.type ≤ 21)

/-! Reading syntax elements. -/

abbrev Parse := StateT (List Bool) Option

def bitsOfBytes (bs : List Byte) : List Bool := bs.flatMap (fun b => (List.range 8).map (fun i => b.getLsbD (7 - i)))
def natOfBits (bs : List Bool) : Nat := bs.foldl (fun a b => 2 * a + b.toNat) 0

/-- u(n). -/
def readU (n : Nat) : Parse Nat := fun b => if (b.take n).length = n then some (natOfBits (b.take n), b.drop n) else none
/-- u(1). -/
def readFlag : Parse Bool := do return (← readU 1) == 1
/-- ue(v). -/
def readUe : Parse Nat := fun b =>
  let z := (b.takeWhile (!·)).length
  if 32 < z then none else (readU (z + 1) (b.drop z)).map (fun r => (r.1 - 1, r.2))
/-- se(v). -/
def readSe : Parse Int := do
  let k ← readUe
  return if k % 2 = 1 then ((k + 1) / 2 : Nat) else -((k / 2 : Nat) : Int)
/-- A syntax element outside its range ends the reading (R344). -/
def require (ok : Bool) : Parse Unit := fun b => if ok then some ((), b) else none
/-- Read an element `n` times. -/
def readN {α : Type} (n : Nat) (p : Nat → Parse α) : Parse (List α) := (List.range n).mapM p

/-! Reference picture sets. -/

/-- The pictures that a set names. -/
def Rps.size (r : Rps) : Nat := r.before.length + r.after.length

/-- A set predicted from `ref` by `d`, with the flags used_by_curr_pic and use_delta of its entries and then of the picture itself. -/
def Rps.predict (ref : Rps) (d : Int) (flags : List (Bool × Bool)) : Rps :=
  let f (j : Nat) : Bool × Bool := flags.getD j (false, false)
  let neg := ref.before.zipIdx.map (fun p => (p.1.1 + d, f p.2))
  let pos := ref.after.zipIdx.map (fun p => (p.1.1 + d, f (ref.before.length + p.2)))
  let own := [(d, f ref.size)]
  let pick (l : List (Int × Bool × Bool)) (keep : Int → Bool) : List (Int × Bool) :=
    (l.filter (fun x => keep x.1 && x.2.2)).map (fun x => (x.1, x.2.1))
  ⟨pick (pos.reverse ++ own ++ neg) (fun x => decide (x < 0)), pick (neg.reverse ++ own ++ pos) (fun x => decide (0 < x))⟩

/-- The deltas of one side of an explicit set, `sign` away from the picture. -/
def readDeltas (n : Nat) (sign : Int) : Parse (List (Int × Bool)) := do
  let l ← readN n (fun _ => do
    let d ← readUe
    let used ← readFlag
    return (d, used))
  return (l.foldl (fun (a : List (Int × Bool) × Int) x =>
    let at_ : Int := a.2 + sign * (x.1 + 1 : Nat)
    (a.1 ++ [(at_, x.2)], at_)) ([], 0)).1

/-- st_ref_pic_set(i), with the sets before it; `head` says that a slice header holds it. -/
def readRps (sets : List Rps) (i : Nat) (head : Bool) : Parse Rps := do
  let inter ← if i = 0 then pure false else readFlag
  if inter then
    let back ← if head then readUe else pure 0
    let sign ← readFlag
    let d ← readUe
    require (decide (back + 1 ≤ i))
    let ref := sets.getD (i - 1 - back) ⟨[], []⟩
    let flags ← readN (ref.size + 1) (fun _ => do
      let used ← readFlag
      let use ← if used then pure true else readFlag
      return (used, use))
    return ref.predict ((if sign then -1 else 1) * (d + 1 : Nat)) flags
  else
    let neg ← readUe
    let pos ← readUe
    require (decide (neg + pos ≤ 16))
    return ⟨← readDeltas neg (-1), ← readDeltas pos 1⟩

/-- num_short_term_ref_pic_sets sets, one after another. -/
def readRpsList : Nat → List Rps → Parse (List Rps)
  | 0, sets => pure sets
  | n + 1, sets => do
    let r ← readRps sets sets.length false
    readRpsList n (sets ++ [r])

/-! Parameter sets. -/

/-- profile_tier_level( ): the general profile, its compatibility flags, the 43 bits of constraints, the level. -/
def readPtl (subLayers : Nat) : Parse (Nat × Nat × Nat × Nat) := do
  let _ ← readU 3
  let profile ← readU 5
  let compat ← readU 32
  let _ ← readU 4
  let constraints ← readU 44
  let level ← readU 8
  let flags ← readN subLayers (fun _ => readU 2)
  let _ ← if subLayers = 0 then pure 0 else readU (2 * (8 - subLayers))
  let _ ← readN subLayers (fun i => do
    let f := flags.getD i 0
    let _ ← if 2 ≤ f then readU 88 else pure 0
    if f % 2 = 1 then readU 8 else pure 0)
  return (profile, compat, constraints, level)

/-- scaling_list_data( ), read over. -/
def readScaling : Parse Unit := do
  let _ ← readN 4 (fun size => readN (if size = 3 then 2 else 6) (fun _ => do
    let explicit ← readFlag
    if !explicit then
      let _ ← readUe
      return ()
    else
      let _ ← if 1 < size then readSe else pure 0
      let _ ← readN (min 64 (2 ^ (4 + 2 * size))) (fun _ => readSe)
      return ()))
  return ()

/-- seq_parameter_set_rbsp( ) as far as the VUI: its identifier and contents. -/
def readSps : Parse (Nat × Sps) := do
  let vps ← readU 4
  let layers ← readU 3
  let _ ← readU 1
  let (profile, compat, constraints, level) ← readPtl layers
  let id ← readUe
  let chroma ← readUe
  require (decide (id ≤ 15 ∧ chroma ≤ 3))
  let planes ← if chroma = 3 then readFlag else pure false
  let w ← readUe
  let h ← readUe
  require (decide (0 < w ∧ 0 < h))
  let window ← readFlag
  let _ ← readN (if window then 4 else 0) (fun _ => readUe)
  let dy ← readUe
  let dc ← readUe
  let poc ← readUe
  require (decide (dy ≤ 8 ∧ dc ≤ 8 ∧ poc ≤ 12))
  let each ← readFlag
  let order ← readN (if each then layers + 1 else 1) (fun _ => do
    let a ← readUe
    let b ← readUe
    let c ← readUe
    return (a, b, c))
  let top := order.getLastD (0, 0, 0)
  let minCb ← readUe
  let diffCb ← readUe
  require (decide (top.1 ≤ 15 ∧ top.2.1 ≤ top.1 ∧ minCb + diffCb + 3 ≤ 6 ∧ 4 ≤ minCb + diffCb + 3))
  let _ ← readN 4 (fun _ => readUe)
  let scaling ← readFlag
  let given ← if scaling then readFlag else pure false
  let _ ← if given then readScaling else pure ()
  let _ ← readU 2
  let pcm ← readFlag
  let _ ← if pcm then (do let _ ← readU 8; let _ ← readUe; let _ ← readUe; readU 1) else pure 0
  let n ← readUe
  require (decide (n ≤ 64))
  let rps ← readRpsList n []
  let long ← readFlag
  let lts ← if long then (do
      let k ← readUe
      require (decide (k ≤ 32))
      readN k (fun _ => do
        let lsb ← readU (poc + 4)
        let used ← readFlag
        return (lsb, used)))
    else pure []
  return (id, ⟨vps, profile, compat, constraints, level, chroma, planes, w, h, dy + 8, dc + 8, poc + 4, top.1 + 1, top.2.1, top.2.2,
    minCb + diffCb + 3, rps, long, lts⟩)

/-- pic_parameter_set_rbsp( ) as far as the slice headers need it. -/
def readPps : Parse (Nat × Pps) := do
  let id ← readUe
  let sps ← readUe
  require (decide (id ≤ 63 ∧ sps ≤ 15))
  let dependent ← readFlag
  let out ← readFlag
  let extra ← readU 3
  let _ ← readU 2
  let _ ← readUe
  let _ ← readUe
  let _ ← readSe
  let _ ← readU 2
  let delta ← readFlag
  let _ ← if delta then readUe else pure 0
  let _ ← readSe
  let _ ← readSe
  let _ ← readU 4
  let tiles ← readFlag
  let wpp ← readFlag
  return (id, ⟨sps, dependent, out, extra, tiles, wpp⟩)

/-- The identifier of a sequence parameter set, however the rest of it reads. -/
def readSpsId : Parse Nat := do
  let _ ← readU 4
  let layers ← readU 3
  let _ ← readU 1
  let _ ← readPtl layers
  readUe

/-! Slice headers. -/

/-- What the decoder needs of a slice segment's header; the long-term pictures as (POC or its low bits, whether it is the whole POC, used by
the picture itself). -/
structure SliceHead where
  first : Bool
  noOutput : Bool
  pps : Nat
  dependent : Bool
  address : Nat
  intra : Bool
  output : Bool
  lsb : Nat
  rps : Rps
  lts : List (Nat × Option Nat × Bool)
  deriving DecidableEq, Repr

/-- The bits that a number below `n` takes. -/
def bitsFor (n : Nat) : Nat := if n ≤ 1 then 0 else Nat.log2 (n - 1) + 1

def Sps.ctbs (p : Sps) : Nat := ((p.w + 2 ^ p.ctb - 1) / 2 ^ p.ctb) * ((p.h + 2 ^ p.ctb - 1) / 2 ^ p.ctb)

/-- The long-term pictures of a header: low bits, the cycles of the high bits back from the picture where they are given, used. -/
def readLts (p : Sps) : Parse (List (Nat × Option Nat × Bool)) := do
  let k ← if p.ltLsb.isEmpty then pure 0 else readUe
  let m ← readUe
  require (decide (k + m ≤ 16))
  let l ← readN (k + m) (fun i => do
    let e ← if i < k then (do
        let j ← readU (bitsFor p.ltLsb.length)
        return p.ltLsb.getD j (0, false))
      else (do
        let lsb ← readU p.pocBits
        let used ← readFlag
        return (lsb, used))
    let msb ← readFlag
    let d ← if msb then readUe else pure 0
    return (e.1, msb, d, e.2))
  return (l.zipIdx.foldl (fun (a : List (Nat × Option Nat × Bool) × Nat) x =>
    let cyc := if x.2 = 0 ∨ x.2 = k then x.1.2.2.1 else a.2 + x.1.2.2.1
    (a.1 ++ [(x.1.1, if x.1.2.1 then some cyc else none, x.1.2.2.2)], cyc)) ([], 0)).1

/-- slice_segment_header( ) as far as its reference picture set; the parameter sets it names come from `sets`. -/
def readSlice (nal : Nat) (pps : Nat → Option Pps) (sps : Nat → Option Sps) : Parse (SliceHead × Pps × Sps) := do
  let first ← readFlag
  let irap := decide (16 ≤ nal ∧ nal ≤ 23)
  let noOut ← if irap then readFlag else pure false
  let id ← readUe
  match pps id with
  | none => failure
  | some pp =>
    match sps pp.sps with
    | none => failure
    | some sp =>
      let dependent ← if !first && pp.dependent then readFlag else pure false
      let address ← if first then pure 0 else readU (bitsFor sp.ctbs)
      require (decide (address < sp.ctbs))
      let none_ : SliceHead := ⟨first, noOut, id, dependent, address, true, true, 0, ⟨[], []⟩, []⟩
      if dependent then return (none_, pp, sp)
      let _ ← readU pp.extraBits
      let type ← readUe
      require (decide (type ≤ 2))
      let out ← if pp.outputFlag then readFlag else pure true
      let _ ← if sp.planes then readU 2 else pure 0
      let head := { none_ with intra := type == 2, output := out }
      if nal = 19 ∨ nal = 20 then return (head, pp, sp)
      let lsb ← readU sp.pocBits
      let own ← readFlag
      let rps ← if own then (do
          let i ← readU (bitsFor sp.rps.length)
          return sp.rps.getD i ⟨[], []⟩)
        else readRps sp.rps sp.rps.length true
      let lts ← if sp.longTerm then readLts sp else pure []
      require (decide (rps.size + lts.length < sp.buffers))
      return ({ head with lsb := lsb, rps := rps, lts := lts }, pp, sp)

/-- Carry out a reading on a unit's payload. -/
def Nal.read {α : Type} (u : Nal) (p : Parse α) : Option α := (p (bitsOfBytes u.payload)).map (·.1)

/-- The bytes of the decoded picture hash message that a suffix SEI unit carries, none where it has none. -/
def hashMessage : Nat → List Byte → Option (List Byte)
  | 0, _ => none
  | f + 1, bs =>
    let field (l : List Byte) : Nat × List Byte :=
      let n := (l.takeWhile (· == 255)).length
      (255 * n + ((l.drop n).headD 0).toNat, l.drop (n + 1))
    let (type, rest) := field bs
    let (size, body) := field rest
    if type = 132 then some (body.take size)
    else if body.length ≤ size + 1 then none else hashMessage f (body.drop size)

/-! Picture hashes. -/

/-- The rows of a component as H.265 hashes them: each sample in one byte, or in two, low first. -/
def planeBytes (depth : Nat) (rows : List (List Nat)) : List Byte :=
  rows.flatMap (fun r => r.flatMap (fun v => leBytes (if depth ≤ 8 then 1 else 2) v))

/-- The CRC of a component (R336). -/
def planeCrc (bs : List Byte) : Nat :=
  (bitsOfBytes (bs ++ [0, 0])).foldl (fun c b =>
    let n := (2 * c + b.toNat) % 65536
    if 32768 ≤ c then n ^^^ 0x1021 else n) 0xFFFF

/-- The checksum of a component. -/
def planeSum (depth : Nat) (rows : List (List Nat)) : Nat :=
  (rows.zipIdx.flatMap (fun r => r.1.zipIdx.map (fun v =>
    let mask := (v.2 % 256) ^^^ (r.2 % 256) ^^^ (v.2 / 256) ^^^ (r.2 / 256)
    ((v.1 % 256) ^^^ mask) + (if 8 < depth then (v.1 / 256) ^^^ mask else 0)))).sum % 2 ^ 32

/-- The additive constants of MD5. -/
def md5K : List Nat :=
  [0xd76aa478, 0xe8c7b756, 0x242070db, 0xc1bdceee, 0xf57c0faf, 0x4787c62a, 0xa8304613, 0xfd469501] ++
  [0x698098d8, 0x8b44f7af, 0xffff5bb1, 0x895cd7be, 0x6b901122, 0xfd987193, 0xa679438e, 0x49b40821] ++
  [0xf61e2562, 0xc040b340, 0x265e5a51, 0xe9b6c7aa, 0xd62f105d, 0x02441453, 0xd8a1e681, 0xe7d3fbc8] ++
  [0x21e1cde6, 0xc33707d6, 0xf4d50d87, 0x455a14ed, 0xa9e3e905, 0xfcefa3f8, 0x676f02d9, 0x8d2a4c8a] ++
  [0xfffa3942, 0x8771f681, 0x6d9d6122, 0xfde5380c, 0xa4beea44, 0x4bdecfa9, 0xf6bb4b60, 0xbebfbc70] ++
  [0x289b7ec6, 0xeaa127fa, 0xd4ef3085, 0x04881d05, 0xd9d4d039, 0xe6db99e5, 0x1fa27cf8, 0xc4ac5665] ++
  [0xf4292244, 0x432aff97, 0xab9423a7, 0xfc93a039, 0x655b59c3, 0x8f0ccc92, 0xffeff47d, 0x85845dd1] ++
  [0x6fa87e4f, 0xfe2ce6e0, 0xa3014314, 0x4e0811a1, 0xf7537e82, 0xbd3af235, 0x2ad7d2bb, 0xeb86d391]

/-- The rotations of a round of MD5. -/
def md5R (i : Nat) : Nat := ([7, 12, 17, 22, 5, 9, 14, 20, 4, 11, 16, 23, 6, 10, 15, 21].getD (i / 16 * 4 + i % 4) 0)

/-- One step of MD5 on a block of sixteen words. -/
def md5Step (m : List Nat) (v : Nat × Nat × Nat × Nat) (i : Nat) : Nat × Nat × Nat × Nat :=
  let (a, b, c, d) := v
  let not (x : Nat) : Nat := 0xFFFFFFFF - x
  let (f, g) :=
    if i < 16 then ((b &&& c) ||| (not b &&& d), i)
    else if i < 32 then ((d &&& b) ||| (not d &&& c), (5 * i + 1) % 16)
    else if i < 48 then (b ^^^ c ^^^ d, (3 * i + 5) % 16)
    else (c ^^^ (b ||| not d), (7 * i) % 16)
  let x := (a + f + md5K.getD i 0 + m.getD g 0) % 2 ^ 32
  let r := md5R i
  (d, (b + (x * 2 ^ r) % 2 ^ 32 + x / 2 ^ (32 - r)) % 2 ^ 32, b, c)

/-- MD5 of bytes. -/
def md5 (bs : List Byte) : List Byte :=
  let pad := bs ++ [0x80] ++ List.replicate ((119 - bs.length % 64) % 64) 0 ++ leBytes 8 (8 * bs.length)
  let block (i : Nat) : List Nat := (List.range 16).map (fun k => ofLe ((pad.drop (64 * i + 4 * k)).take 4))
  let v := (List.range (pad.length / 64)).foldl (fun (v : Nat × Nat × Nat × Nat) i =>
    let r := (List.range 64).foldl (md5Step (block i)) v
    ((v.1 + r.1) % 2 ^ 32, (v.2.1 + r.2.1) % 2 ^ 32, (v.2.2.1 + r.2.2.1) % 2 ^ 32, (v.2.2.2 + r.2.2.2) % 2 ^ 32))
    (0x67452301, 0xEFCDAB89, 0x98BADCFE, 0x10325476)
  leBytes 4 v.1 ++ leBytes 4 v.2.1 ++ leBytes 4 v.2.2.1 ++ leBytes 4 v.2.2.2

/-- The hash of a picture's components, given with their bit depths, of a hash_type: 0 MD5, 1 CRC, 2 checksum. -/
def pictureHash (type : Nat) (planes : List (Nat × List (List Nat))) : List Byte :=
  planes.flatMap (fun p =>
    if type = 0 then md5 (planeBytes p.1 p.2)
    else if type = 1 then beBytes 2 (planeCrc (planeBytes p.1 p.2))
    else beBytes 4 (planeSum p.1 p.2))

end Sys2Proof.Machine
end

