-- ==== Sys2Proof/Machine/Vcx.lean ====
section
/-!
DEFINITION. The video codec's contexts and its encoder: rate cap and floor rows, access units, NAL rings (spec/09_codec.md R311 to R339).
What H.265 makes of samples is uninterpreted (DESIGN CHOICE, log entry 18).
-/
namespace Sys2Proof.Machine

def vcxBadParams : Nat := 0x10
def vcxNoContext : Nat := 0x11
def vcxGanged : Nat := 0x12
def vcxInUse : Nat := 0x13
def vcxFloorRows : Nat := 0x14
def vcxCapTooSmall : Nat := 0x15
def vcxImpaired : Nat := 0x16
def vcxUnsupported : Nat := 0x17
def vcxDpbTooSmall : Nat := 0x18

def State.vcx (s : State) (x : Nat) : Vcx := sget Vcx.empty s.vcxs x
def State.setVcx (s : State) (x : Nat) (v : Vcx) : State := { s with vcxs := sset Vcx.empty s.vcxs x v }
def State.mapVcx (s : State) (x : Nat) (f : Vcx → Vcx) : State := s.setVcx x (f (s.vcx x))
def Vcx.ctx (v : Vcx) (c : Nat) : Option VcxCtx := sget none v.ctxs c
def Vcx.enc? (v : Vcx) (c : Nat) : Option EncCtx := match v.ctx c with | some (.enc e) => some e | _ => none
def Vcx.dec? (v : Vcx) (c : Nat) : Option DecCtx := match v.ctx c with | some (.dec d) => some d | _ => none
def State.setCtx (s : State) (x c : Nat) (k : Option VcxCtx) : State :=
  s.mapVcx x (fun v => { v with ctxs := sset none v.ctxs c k })

/-! Parameter blocks (R319). -/

/-- Bits [hi:lo] of word `i` of a parameter block. -/
def par (p : List Quad) (i hi lo : Nat) : Nat := qbits (p.getD i 0) hi lo

def up4k (n : Nat) : Nat := (n + 4095) / 4096 * 4096

def EncCtx.w (c : EncCtx) : Nat := par c.params 0 127 112
def EncCtx.h (c : EncCtx) : Nat := par c.params 0 111 96
def EncCtx.profile (c : EncCtx) : Nat := par c.params 0 95 94
def EncCtx.ctu (c : EncCtx) : Nat := 64 / 2 ^ par c.params 0 93 92
def EncCtx.qg (c : EncCtx) : Nat := 16 * 2 ^ par c.params 0 91 90
def EncCtx.perRow (c : EncCtx) : Bool := par c.params 0 89 89 == 1
def EncCtx.rc (c : EncCtx) : Nat := par c.params 0 88 87
def EncCtx.numRefs (c : EncCtx) : Nat := if c.profile = 3 then 0 else par c.params 0 86 85
def EncCtx.gang (c : EncCtx) : Bool := par c.params 0 73 73 == 1
def EncCtx.depth (c : EncCtx) : Nat := if c.profile = 0 then 8 else 10
def EncCtx.rows (c : EncCtx) : Nat := (c.h + c.ctu - 1) / c.ctu
/-- CTUs of a row. -/
def EncCtx.cols (c : EncCtx) : Nat := (c.w + c.ctu - 1) / c.ctu
def EncCtx.ringBase (c : EncCtx) : Nat := par c.params 3 127 80
def EncCtx.ringBytes (c : EncCtx) : Nat := par c.params 3 79 56 * 4096
def EncCtx.ctrl (c : EncCtx) : Nat := par c.params 3 55 8
def EncCtx.sliceRing (c : EncCtx) : Nat := par c.params 4 127 80
def EncCtx.sliceEntries (c : EncCtx) : Nat := par c.params 4 79 64
def EncCtx.save (c : EncCtx) : Nat := par c.params 4 63 16

/-- The size of a reference buffer (R319). -/
def EncCtx.refBytes (c : EncCtx) : Nat :=
  let wc := (c.w + 63) / 64 * 64
  let hc := (c.h + 63) / 64 * 64
  up4k (wc * hc * (if 2 ≤ c.profile then 4 else 3) + (wc / 16) * (hc / 16) * 16)

def DecCtx.gang (c : DecCtx) : Bool := par c.params 0 90 90 == 1
def DecCtx.requireHash (c : DecCtx) : Bool := par c.params 0 89 89 == 1
def DecCtx.mirror (c : DecCtx) : Bool := par c.params 0 88 88 == 1
def DecCtx.mirrorCore (c : DecCtx) : Nat := par c.params 0 87 86
def DecCtx.mirrorCtx (c : DecCtx) : Nat := par c.params 0 85 81
def DecCtx.buffers (c : DecCtx) : Nat := par c.params 0 95 91
def DecCtx.base (c : DecCtx) : Nat := par c.params 1 127 80
def DecCtx.stride (c : DecCtx) : Nat := par c.params 1 79 56 * 64
def DecCtx.bufBytes (c : DecCtx) : Nat := par c.params 1 55 32 * 4096
def DecCtx.save (c : DecCtx) : Nat := par c.params 2 127 80

def VcxCtx.gang : VcxCtx → Bool
  | .enc c => c.gang
  | .dec c => c.gang

/-- Is a number a power of two? -/
def isPow2 (n : Nat) : Bool := decide (0 < n) && n == 2 ^ Nat.log2 n

/-- Are the named parts of a parameter block zero? -/
def parZero (p : List Quad) (l : List (Nat × Nat × Nat)) : Bool := l.all (fun x => par p x.1 x.2.1 x.2.2 == 0)

/-- The checks of R319 on an encode parameter block. -/
def encParamsOk (v : Variant) (p : List Quad) : Bool :=
  let c := EncCtx.make p
  let lo : Int := if c.depth = 8 then 0 else -12
  let qp (hi : Nat) : Int := signed 8 (par p 2 hi (hi - 7))
  let qpOk (hi : Nat) : Bool := decide (lo ≤ qp hi ∧ qp hi ≤ 51)
  let level := par p 0 84 77
  decide (64 ≤ c.w ∧ c.w ≤ 16384 ∧ c.w % 8 = 0 ∧ 64 ≤ c.h ∧ c.h ≤ 16384 ∧ c.h % 8 = 0 ∧ c.w * c.h ≤ 35651584) &&
  par p 0 93 92 != 3 && par p 0 91 90 != 3 && decide (c.qg ≤ c.ctu) && c.rc != 3 &&
  (c.profile == 3 || par p 0 86 85 == 1 || par p 0 86 85 == 2) && decide (level ≤ if c.gang then 186 else 183) &&
  !(par p 0 75 75 == 1 && decide (2 ≤ c.profile)) && qpOk 63 && qpOk 55 && qpOk 47 && qpOk 39 && decide (qp 47 ≤ qp 39) &&
  parZero p [(0, 72, 64), (0, 31, 0), (2, 31, 0), (3, 7, 0), (4, 15, 0), (5, 79, 0), (6, 103, 0), (7, 127, 0)] &&
  c.ringBase % 4096 == 0 && c.ctrl % 64 == 0 && c.sliceRing % 64 == 0 && c.save % 4096 == 0 && par p 5 127 80 % 4096 == 0 &&
  decide (64 ≤ c.sliceEntries ∧ c.sliceEntries ≤ 32768) && isPow2 c.sliceEntries &&
  decide (par p 1 31 0 + 65536 ≤ c.ringBytes) && inMemory v c.ringBase c.ringBytes && inMemory v c.ctrl 64 &&
  inMemory v c.sliceRing (16 * c.sliceEntries) && inMemory v c.save 65536 &&
  inMemory v (par p 5 127 80) ((c.numRefs + 1) * c.refBytes)

/-- The co-located motion data at the end of a decode buffer (R319). -/
def DecCtx.motionBytes (c : DecCtx) : Nat :=
  up4k (((par c.params 0 127 112 + 15) / 16) * ((par c.params 0 111 96 + 15) / 16) * 16)

/-- The bytes that a picture of `h` lines takes in a buffer, in format 3 or 4. -/
def DecCtx.pictureBytes (c : DecCtx) (two : Bool) (h : Nat) : Nat :=
  let hd := (par c.params 0 111 96 + 7) / 8 * 8
  if two then c.stride * h else c.stride * hd + c.stride * ((h + 1) / 2)

/-- The checks of R319 on a decode parameter block; those of a mirror apart. -/
def decParamsOk (v : Variant) (p : List Quad) : Bool :=
  let c := DecCtx.make p false
  let w := par p 0 127 112
  let h := par p 0 111 96
  decide (8 ≤ w ∧ w ≤ 16384 ∧ 8 ≤ h ∧ h ≤ 16384 ∧ 2 ≤ c.buffers ∧ c.buffers ≤ 17 ∧ 2 * w ≤ c.stride) &&
  parZero p [(0, 80, 0), (1, 31, 0), (2, 79, 0), (5, 127, 0), (6, 127, 0), (7, 127, 0)] &&
  c.base % 4096 == 0 && c.save % 4096 == 0 &&
  decide (c.pictureBytes false ((h + 7) / 8 * 8) + c.motionBytes ≤ c.bufBytes) &&
  inMemory v c.base (c.buffers * c.bufBytes) && inMemory v c.save 65536

/-! Cores, gangs, mirrors (R320, R337 to R339). -/

/-- The partner of a core. -/
def vcxPartner (x : Nat) : Nat := x ^^^ 1

/-- Has the core a gang context set up? -/
def State.hasGang (s : State) (x : Nat) : Bool :=
  (s.vcx x).ctxs.any (fun p => match p.2 with | some c => c.gang | none => false)

/-- Is the core the partner of a gang in force? -/
def State.isPartner (s : State) (x : Nat) : Bool := x % 2 == 1 && s.hasGang (x - 1)

/-- Is a context covered (R339)? -/
def State.ctxCovered (s : State) (c : VcxCtx) : Bool :=
  match c with
  | .dec d => d.mirror || d.requireHash
  | .enc e =>
    match e.mirror with
    | none => false
    | some (mx, mc) =>
      match (s.vcx mx).dec? mc with
      | some d => d.mirrorIrap && decide (e.pictures ≤ d.mirrorPics + 1)
      | none => false

/-- Show valid, kind, covered and the state of a core and of its partner. -/
def State.vcxShow1 (s : State) (x : Nat) : State :=
  let v := s.vcx x
  let mine := v.ctxs.filterMap (fun p => p.2.map (fun c => (p.1, c)))
  let gangs := if x % 2 = 1 then ((s.vcx (x - 1)).ctxs.filterMap (·.2)).filter VcxCtx.gang else []
  let all := mine.map (·.2) ++ gangs
  let s := s.setReg (Reg.vcxCtxValid x) (BitVec.ofNat 32 (mine.map (fun p => 2 ^ p.1)).sum)
  let s := s.setReg (Reg.vcxCtxKind x)
    (BitVec.ofNat 32 (mine.map (fun p => match p.2 with | .dec _ => 2 ^ p.1 | .enc _ => 0)).sum)
  let s := s.setFld (Reg.vcxCap x) 29 29 (!all.isEmpty && all.all s.ctxCovered).toNat
  let mirrors := mine.any (fun p => match p.2 with | .dec d => d.mirror && d.attached | .enc _ => false)
  let st := match v.run with
    | .enc _ => 1
    | .dec _ => 2
    | .idle => if s.isPartner x then 5 else if mirrors then 4 else 0
  let row := match v.run with | .enc p => p.row % 65536 | _ => 0
  let ganged := s.hasGang x || s.isPartner x
  s.setReg (Reg.vcxStatus x) (packBits [(st, 28), (v.loaded.getD 0, 23), (ganged.toNat, 22), (row, 0)])

/-- Show every core. -/
def State.vcxShow (s : State) : State := (List.range 4).foldl State.vcxShow1 s

/-- A mirror detaches (R337). -/
def State.detachMirror (s : State) (mx mc : Nat) : State :=
  match (s.vcx mx).dec? mc with
  | some d =>
    let s := s.setCtx mx mc (some (.dec { d with attached := false }))
    match (s.vcx d.mirrorCore).enc? d.mirrorCtx with
    | some e =>
      if e.mirror = some (mx, mc) then s.setCtx d.mirrorCore d.mirrorCtx (some (.enc { e with mirror := none })) else s
    | none => s
  | none => s

/-- A context is cleared; its mirror, or its encoder's, detaches (R337). -/
def State.dropCtx (s : State) (x c : Nat) : State :=
  let s := match (s.vcx x).ctx c with
    | some (.enc e) => (match e.mirror with | some (mx, mc) => s.detachMirror mx mc | none => s)
    | some (.dec d) => if d.mirror then s.detachMirror x c else s
    | none => s
  s.mapVcx x (fun v => { v with ctxs := sset none v.ctxs c none, loaded := if v.loaded = some c then none else v.loaded })

/-- The core saves the context it holds and loads another (R317). What a save area holds is the core's own. -/
def State.loadCtx (s : State) (x c : Nat) : State :=
  let v := s.vcx x
  if v.loaded = some c then s
  else
    let save := match v.loaded.bind v.ctx with
      | some (.enc e) => some e.save
      | some (.dec d) => some d.save
      | none => none
    let s := match save with
      | some a => { s.unitStore (0x40 + x) a ((Config.hevcBytes s.fresh 65536).take 65536) with fresh := s.fresh + 1 }
      | none => s
    s.mapVcx x (fun v => { v with loaded := some c })

/-- The parameter block at an address. -/
def State.params (s : State) (a : Nat) : List Quad := (List.range 8).map (fun i => s.quadAt (a + 16 * i))

/-- Is the core free to take a descriptor that waits for the pictures before it? -/
def State.vcxIdle (s : State) (x : Nat) : Bool :=
  (match (s.vcx x).run with | .idle => true | _ => false) && (s.queue (12 + x)).taken.all (fun t => t.done.isSome)

/-- The status with which a mirror's parameter block is refused, none when it is accepted (R337). -/
def State.mirrorRefused (s : State) (x : Nat) (p : List Quad) : Option Nat :=
  let d := DecCtx.make p false
  if d.mirrorCore = x ∨ windowAbsent s.variant (0x40 + d.mirrorCore) = true then some vcxBadParams
  else match (s.vcx d.mirrorCore).enc? d.mirrorCtx with
    | none => some vcxNoContext
    | some e =>
      if par p 3 127 8 ≠ par e.params 3 127 8 ∨ par p 4 127 64 ≠ par e.params 4 127 64 ∨ d.buffers < e.numRefs + 2 ∨
        (e.gang = true ∧ (d.gang = false ∨ d.mirrorCore / 2 = x / 2)) then some vcxBadParams
      else none

/-- Do the parameters of a context ask for a gang (R320)? -/
def ctxGang (p : List Quad) (dec : Bool) : Bool := if dec then par p 0 90 90 == 1 else par p 0 73 73 == 1

/-- The status that refuses a CTX_SETUP, none when it passes (R316, R319, R320, R337). -/
def State.ctxRefused (s : State) (x : Nat) (t : Taken) : Option Nat :=
  let dec := t.fld 0 82 82 == 1
  let a := t.fld 1 127 80
  let p := s.params a
  if !t.zeros [(0, 81, 0), (1, 79, 0)] ∨ a % 64 ≠ 0 then some vcxBadParams
  else if s.isPartner x then some vcxGanged
  else if !inMemory s.variant a 128 then some stBadAddress
  else if s.poisonedAt a 128 then some stPoisoned
  else if !(if dec then decParamsOk s.variant p else encParamsOk s.variant p) then some vcxBadParams
  else if ctxGang p dec && (x % 2 == 1 || !s.isPowered (13 + vcxPartner x) || !((s.vcx (vcxPartner x)).ctxs.isEmpty)) then
    some vcxInUse
  else if dec && par p 0 88 88 == 1 then s.mirrorRefused x p
  else none

/-- A context is set up: its state anew, a mirror attached to the encoder it names, with nothing before that still to read
(R316, R328, R337). -/
def State.ctxMake (s : State) (x c : Nat) (dec : Bool) (p : List Quad) : State :=
  let mirror := dec && par p 0 88 88 == 1
  let s := s.dropCtx x c
  let ctx : VcxCtx := if dec then .dec (DecCtx.make p mirror) else .enc (EncCtx.make p)
  let s := (s.setCtx x c (some ctx)).loadCtx x c
  if mirror then
    let d := DecCtx.make p true
    match (s.vcx d.mirrorCore).enc? d.mirrorCtx with
    | some e =>
      let s := (match e.mirror with | some (mx, mc) => s.detachMirror mx mc | none => s)
      let s := (s.setCtx x c (some (.dec { d with mirrorNext := e.slices, mirrorPics := e.pictures }))).setCtx d.mirrorCore
        d.mirrorCtx (some (.enc { e with mirror := some (x, c) }))
      s.unitStore (0x40 + x) (e.ctrl + 32) (leBytes 16 (e.written % 2 ^ 64 * 2 ^ 64 + e.slices % 2 ^ 32 * 2 ^ 32))
    | none => s
  else s

/-- CTX_SETUP (R316, R319, R320, R337). -/
def doCtxSetup (x : Nat) (s : State) : State :=
  let q := 12 + x
  s.takeWhen q 0x10 [1] (fun _ => s.vcxIdle x) fun t s =>
    let s := s.meet (t.fld 1 127 80) 128
    match s.ctxRefused x t with
    | some st => s.complete q t.tag st 0
    | none =>
      ((s.ctxMake x (t.fld 0 87 83) (t.fld 0 82 82 == 1) (s.params (t.fld 1 127 80))).complete q t.tag stSuccess 0).vcxShow

/-! The NAL ring (R326 to R329). -/

/-- Bytes `a` to `b` in a ring. -/
def State.nalRing (s : State) (win base size n : Nat) (bs : List Byte) : State :=
  let at_ := n % size
  let first := bs.take (size - at_)
  (s.unitStore win (base + at_) first).unitStore win base (bs.drop (size - at_))

/-- What a ring's consumers have released: bytes and slices, each the farthest behind. -/
def State.nalReleased (s : State) (e : EncCtx) : Nat × Nat :=
  let behind (total m v : Nat) : Nat := (total + 2 ^ m - v % 2 ^ m) % 2 ^ m
  let r1 := (behind e.written 64 (s.num (e.ctrl + 24) 8), behind e.slices 32 (s.num (e.ctrl + 20) 4))
  match e.mirror with
  | none => r1
  | some _ =>
    (max r1.1 (behind e.written 64 (s.num (e.ctrl + 40) 8)), max r1.2 (behind e.slices 32 (s.num (e.ctrl + 36) 4)))

/-- Has the ring room for a slice of `b` bytes (R328)? -/
def State.nalRoom (s : State) (e : EncCtx) (b : Nat) : Bool :=
  let r := s.nalReleased e
  decide (r.1 + b ≤ e.ringBytes ∧ r.2 < e.sliceEntries)

/-- Word 0 of the control block. -/
def State.nalCtrl (s : State) (x : Nat) (e : EncCtx) : State :=
  s.unitStore (0x40 + x) e.ctrl (leBytes 16 (e.written % 2 ^ 64 * 2 ^ 64 + e.pictures % 2 ^ 32 * 2 ^ 32 + e.slices % 2 ^ 32))

/-- Write a slice and its report (R326, R329). -/
def State.nalPut (s : State) (x c : Nat) (e : EncCtx) (picture : Nat) (o : SliceOut) : State × EncCtx :=
  let s := s.nalRing (0x40 + x) e.ringBase e.ringBytes e.written o.bytes
  let word := e.written % 2 ^ 64 * 2 ^ 64 + o.bytes.length % 2 ^ 24 * 2 ^ 40 + o.row % 65536 * 2 ^ 24 + o.flags * 2 ^ 18 +
    picture % 65536
  let s := s.unitStore (0x40 + x) (e.sliceRing + (e.slices % e.sliceEntries) * 16) (leBytes 16 word)
  let last := nbits o.flags 1 1
  let e := { e with written := e.written + o.bytes.length, slices := e.slices + 1, pictures := e.pictures + last }
  (((s.nalCtrl x e).setCtx x c (some (.enc e))).fire 181, e)

/-! Encoding (R323 to R336). -/

/-- The cost of a floor row and the reserve before row `k` (R331). -/
def EncCtx.floorBits (c : EncCtx) (intra : Bool) : Nat := 552 + (3 * ((if intra then 192 else 32) * c.cols + 16) + 1) / 2
def EncCtx.reserve (c : EncCtx) (intra : Bool) (k : Nat) : Nat := 192 + (c.rows - k) * c.floorBits intra

/-- The CTU rows of the upper tile of a gang's picture (R321). -/
def EncCtx.split (c : EncCtx) : Nat := (c.rows + 1) / 2

/-- The core of a context on core `x` that codes CTU row `k` (R321). -/
def EncCtx.coder (c : EncCtx) (x k : Nat) : Nat := if c.gang ∧ c.split ≤ k then vcxPartner x else x

/-- CTU areas of 64 × 64 in the first `k` rows (R353). -/
def EncCtx.areas (c : EncCtx) (k : Nat) : Nat := k * c.cols * (c.ctu / 16) ^ 2 / 16

/-- The rate in bits per second and the size in bits of the CPB that the stream's HRD parameters describe (R319), and the tick. -/
def EncCtx.hrdRate (c : EncCtx) : Nat := (if c.rc = 1 then par c.params 1 127 96 else par c.params 1 95 64) * 1000
def EncCtx.hrdSize (c : EncCtx) : Nat := par c.params 1 63 32 * 1000
def EncCtx.timeScale (c : EncCtx) : Nat := par c.params 2 127 96
def EncCtx.ticks (c : EncCtx) : Nat := par c.params 2 95 64

/-- The stream that a context's parameter sets describe (R313, R319, R321). -/
def EncCtx.spec (c : EncCtx) : Config.StreamSpec :=
  { profile := c.profile, tier := par c.params 0 76 76, level := par c.params 0 84 77, width := c.w, height := c.h, depth := c.depth,
    ctu := c.ctu, minCu := 8, maxTb := 32, minTb := 4, qg := c.qg, reorder := 0, refs := c.numRefs, temporalMvp := false,
    transformSkip := true, signHiding := true, deblocking := true, sao := true, weighted := false, longTerm := false,
    scalingLists := false, pcm := false, dependentSlices := false, wpp := false,
    tileSplit := if c.gang ∧ 2 ≤ c.rows then some c.split else none, filterAcrossTiles := !c.gang, timing := (c.timeScale, c.ticks),
    fullRange := par c.params 0 74 74 == 1, colours := (par c.params 6 127 120, par c.params 6 119 112, par c.params 6 111 104),
    hrd := if c.rc = 0 then none else some (c.hrdRate, c.hrdSize, c.rc == 1) }

/-- The CPB's fullness at the nominal removal time of the next picture, in bits × time_scale: at a stream's first picture free value
`n`, up to the size (R330, DESIGN CHOICE, log entry 18). -/
def EncCtx.cpbNow (c : EncCtx) (n : Nat) : Nat := c.cpb.getD (min (Config.hevcFullness n) c.hrdSize * c.timeScale)

/-- The CPB's fullness one tick after an access unit of `bits` has left it, before it is held at the size. -/
def EncCtx.cpbNext (c : EncCtx) (bits : Nat) : Nat := c.cpb.getD 0 + c.hrdRate * c.ticks - bits * c.timeScale

/-- The filler data that keeps the CPB of a CBR stream from overflow after an access unit of `bits`, as far as its cap leaves room
(R332): a NAL unit of type 38. -/
def EncCtx.filler (c : EncCtx) (cap : Option Nat) (bits : Nat) : List Byte :=
  let excess := c.cpbNext bits - c.hrdSize * c.timeScale
  let room := match cap with | some k => (k - bits) / 8 | none => 0
  let n := min (max 6 ((excess + 8 * c.timeScale - 1) / (8 * c.timeScale))) room
  if c.rc ≠ 1 ∨ excess = 0 ∨ n < 6 then [] else nalBytes 2 38 (List.replicate (n - 6) 0xFF ++ [0x80])

/-- The units before the first slice (R325): delimiter, parameter sets of an IRAP picture, timing messages of use `n`. -/
def EncCtx.headers (c : EncCtx) (n kind : Nat) : List Byte :=
  let irap := decide (kind ≠ 2)
  nalBytes 3 35 [if irap then 0x10 else 0x30] ++
  (if irap then [32, 33, 34].flatMap (fun t => nalBytes 2 t (Config.hevcSet t c.spec)) else []) ++
  (if c.rc = 0 then [] else
    (if irap then nalBytes 2 39 (Config.hevcTiming n 0 c.spec) else []) ++ nalBytes 2 39 (Config.hevcTiming n 1 c.spec))

/-- The NAL unit type of a picture's slices: IDR_N_LP, CRA_NUT, TRAIL_R (PRESUMED, log entry 49). -/
def EncPic.nal (p : EncPic) : Nat := if p.kind = 0 then 20 else if p.kind = 1 then 21 else 1

/-- The pictures that a picture refers to, most recent first (R323). -/
def EncCtx.refsOf (c : EncCtx) (p : EncPic) : List (List Config.RowRecon) := if p.kind = 2 then c.recon.take c.numRefs else []

/-- The header of a slice from CTU row `row` on (R321, R323, R333). -/
def EncCtx.sliceSpec (c : EncCtx) (p : EncPic) (row : Nat) (floor : Bool) : Config.SliceSpec :=
  let own {α : Type} (v : α) : Option α := if floor then some v else none
  { nal := p.nal, address := row * c.cols, poc := p.poc, refs := (List.range (c.refsOf p).length).map (· + 1), floor := floor,
    qp := if floor ∧ p.kind ≠ 2 then some 51 else none, mergeCand := own 1, deblockOff := own true, sao := own false,
    acrossUpper := own false, from_ := c.refsOf p }

/-- A floor row's reconstruction (R333): the co-located row of RefPicList0[0], or the mid value. -/
def EncCtx.floorRow (c : EncCtx) (p : EncPic) (k : Nat) : Config.RowRecon := ((c.refsOf p).headD []).getD k .mid

/-- Line `y` of component `comp` of a reconstructed picture. -/
def EncCtx.reconLine (c : EncCtx) (rows : List Config.RowRecon) (comp y : Nat) : List Nat :=
  let line := if comp = 0 ∨ 2 ≤ c.profile then y else 2 * y
  (List.range (if comp = 0 then c.w else c.w / 2)).map (fun x =>
    match rows.getD (line / c.ctu) .mid with
    | .coded n => Config.hevcRecon n comp x y % 2 ^ c.depth
    | .mid => 2 ^ (c.depth - 1))

/-- The CRCs of a reconstructed picture (R336). -/
def EncCtx.reconCrcs (c : EncCtx) (rows : List Config.RowRecon) : List Nat :=
  (List.range 3).map (fun comp =>
    planeCrc (planeBytes c.depth ((List.range (if comp = 0 ∨ 2 ≤ c.profile then c.h else c.h / 2)).map (c.reconLine rows comp))))

/-- The hash SEI: a picture hash of type 1 in a suffix message (R325, R336). -/
def hashSei (crcs : List Nat) : List Byte := nalBytes 2 40 ([132, 7, 1] ++ crcs.flatMap (beBytes 2) ++ [0x80])

/-- The QP of a quantisation group at (x, y) whose row has QP `base` (R335). -/
def EncCtx.groupQp (c : EncCtx) (base : Int) (x y : Nat) : Int :=
  let lo : Int := if c.depth = 8 then 0 else -12
  let cx := x + c.qg / 2
  let cy := y + c.qg / 2
  let hit (q : Quad) : Bool :=
    qbits q 63 63 == 1 && decide (qbits q 127 112 ≤ cx ∧ cx < qbits q 127 112 + qbits q 95 80) &&
    decide (qbits q 111 96 ≤ cy ∧ cy < qbits q 111 96 + qbits q 79 64)
  let qp := match (c.roi.filter hit).getLast? with
    | some q => if qbits q 62 62 = 1 then signed 8 (qbits q 55 48) else base + signed 8 (qbits q 55 48)
    | none => base
  clampI lo 51 (clampI (signed 8 (par c.params 2 47 40)) (signed 8 (par c.params 2 39 32)) qp)

/-- The QPs of the groups of a CTU row. -/
def EncCtx.rowQps (c : EncCtx) (row : Nat) (base : Int) : List Int :=
  (List.range (c.ctu / c.qg)).flatMap (fun j =>
    (List.range ((c.w + c.qg - 1) / c.qg)).filterMap (fun i =>
      let y := row * c.ctu + j * c.qg
      if y < c.h then some (c.groupQp base (i * c.qg) y) else none))

/-- Is an ROI table valid (R334)? -/
def EncCtx.roiOk (c : EncCtx) (l : List Quad) : Bool :=
  l.all (fun q =>
    let v := signed 8 (qbits q 55 48)
    let lo : Int := if c.depth = 8 then 0 else -12
    qbits q 63 63 == 0 ||
      ((if qbits q 62 62 = 1 then decide (lo ≤ v ∧ v ≤ 51) else decide (-12 ≤ v ∧ v ≤ 12)) &&
       decide (1 ≤ qbits q 95 80 ∧ 1 ≤ qbits q 79 64 ∧ qbits q 127 112 + qbits q 95 80 ≤ c.w ∧ qbits q 111 96 + qbits q 79 64 ≤ c.h)))

/-- The source lines that CTU row `k` needs: the first, and the first beyond. -/
def EncCtx.rowLines (c : EncCtx) (k : Nat) : Nat × Nat := (k * c.ctu, min ((k + 1) * c.ctu) c.h)

/-- The address of a source line of a picture being encoded; lines that a frame in the ring lacks repeat the last one written (R324). -/
def State.encLine (s : State) (p : EncPic) (y : Nat) : Nat :=
  if p.ring then
    let stop := if s.num (p.src + 12) 4 = p.frame then s.ringWritten p.src else s.num (p.src + 8) 4
    let n := if y < (stop + 2 ^ 32 - p.first) % 2 ^ 32 then p.first + y else stop + 2 ^ 32 - 1
    p.src2 + (n % 2 ^ 32 % max 1 p.ringLines) * p.stride * 64
  else p.src + y * p.stride * 64

/-- The code at an address, none when it is poisoned (R315, R347). -/
def State.srcCode (s : State) (a : Nat) : Option Nat := if s.poisonedAt a 2 then none else some (s.num a 2 % 1024)

/-- A code in the coding domain (R315); a poisoned sample is coded at the mid value (R347). -/
def codeIn (depth : Nat) : Option Nat → Nat
  | none => 2 ^ (depth - 1)
  | some v => if depth = 8 then min ((v + 2) / 4) 255 else v

/-- The source samples of a CTU row in the coding domain, by component in raster order (R315). -/
def State.rowSource (s : State) (e : EncCtx) (p : EncPic) (k : Nat) : List (List Nat) :=
  let (y0, y1) := e.rowLines k
  let four := par e.params 0 75 75 == 1
  let two := decide (2 ≤ e.profile)
  let luma := (List.range (y1 - y0)).flatMap (fun i => (List.range e.w).map (fun x =>
    codeIn e.depth (s.srcCode (s.encLine p (y0 + i) + (if four then 2 else 4) * x))))
  let chroma (c : Nat) : List Nat := (List.range (if two then y1 - y0 else (y1 - y0) / 2)).flatMap (fun i =>
    (List.range (e.w / 2)).map (fun x =>
      let three (y : Nat) : Option Nat := s.srcCode (s.encLine p y + 8 * x + 4 * c + 2)
      codeIn e.depth
        (if four then s.srcCode (p.src2 + (y0 / 2 + i) * p.stride * 64 + 4 * x + 2 * c)
         else if two then three (y0 + i)
         else match three (y0 + 2 * i), three (y0 + 2 * i + 1) with
           | some a, some b => some ((a + b + 1) / 2)
           | _, _ => none)))
  [luma, chroma 0, chroma 1]

/-- The reads of a CTU row's source lines. -/
def State.meetRow (s : State) (e : EncCtx) (p : EncPic) (k : Nat) : State :=
  let (y0, y1) := e.rowLines k
  let four := par e.params 0 75 75 == 1
  (List.range (y1 - y0)).foldl (fun s i =>
    let s := s.meet (s.encLine p (y0 + i)) (e.w * (if four then 2 else 4))
    if four && i % 2 == 0 then s.meet (p.src2 + (y0 + i) / 2 * p.stride * 64) (e.w * 2) else s) s

/-- CTUs of a row with a poisoned source sample (R347). -/
def State.poisonedCtus (s : State) (e : EncCtx) (p : EncPic) (k : Nat) : Nat :=
  let (y0, y1) := e.rowLines k
  let four := par e.params 0 75 75 == 1
  let bpp := if four then 2 else 4
  ((List.range e.cols).filter (fun c =>
    let n := min e.ctu (e.w - c * e.ctu)
    (List.range (y1 - y0)).any (fun i =>
      s.poisonedAt (s.encLine p (y0 + i) + c * e.ctu * bpp) (n * bpp) ||
      (four && i % 2 == 0 && s.poisonedAt (p.src2 + (y0 + i) / 2 * p.stride * 64 + c * e.ctu * 2) (n * 2))))).length

/-- The address of the reference buffer of picture `n` of a context. -/
def EncCtx.refBuffer (c : EncCtx) (n : Nat) : Nat := par c.params 5 127 80 + (n % (c.numRefs + 1)) * c.refBytes

/-- CTUs of a row coded intra because motion search would read a poisoned reference word (R347): as many as the free value of use `n`. -/
def State.intraCtus (s : State) (e : EncCtx) (p : EncPic) (n : Nat) : Nat :=
  if (List.range (e.refsOf p).length).any (fun i => s.poisonedAt (e.refBuffer (p.number - 1 - i)) e.refBytes) then Config.hevcIntra n else 0

/-- Raise released_total of a source ring to line `v`, or to written_total if that is lower (R324). -/
def State.srcRelease (s : State) (x : Nat) (p : EncPic) (v : Nat) : State :=
  let w := s.ringWritten p.src
  let v := if ahead v w then w else v % 2 ^ 32
  if p.ring && ahead v (s.ringReleased p.src) then s.unitStore (0x40 + x) (p.src + 20) (leBytes 4 v) else s

/-- Are the source lines before `n` of the frame visible, or is the frame closed (R324)? -/
def State.srcHas (s : State) (p : EncPic) (n : Nat) : Bool :=
  !p.ring || !ahead (p.first + n) (s.ringWritten p.src) || (s.num (p.src + 12) 4 == p.frame && s.num p.src 4 % 2 == 1) ||
  ahead (s.num (p.src + 12) 4) p.frame

/-- An encode ends without a picture. -/
def State.encStop (s : State) (x : Nat) (p : EncPic) (status : Nat) : State :=
  let s := s.mapVcx x (fun v => { v with run := .idle })
  let s := s.complete (12 + x) p.tag status 0
  let s := if status = vcxCapTooSmall then s.fire 192 else s
  (s.fire (176 + x)).vcxShow

/-- Start a picture: type, cap, reserve and the units before its first slice (R323, R325, R330 to R332). -/
def State.encStart (s : State) (x : Nat) (e : EncCtx) (p : EncPic) : State :=
  let period := par e.params 0 63 32
  let byPeriod : Nat := if period ≠ 0 ∧ period ≤ e.sinceIdr then 0 else 2
  let want : Nat := if p.asked = 0 then byPeriod else if p.asked = 3 then 2 else p.asked - 1
  let kind : Nat := if e.pictures = 0 ∨ e.profile = 3 ∨ (want = 2 ∧ e.recon = []) then 0 else want
  let n := s.fresh
  let headers := e.headers n kind
  let max_ := par e.params 1 31 0
  let e := { e with cpb := some (e.cpbNow n) }
  let h := e.cpbNow n / max 1 e.timeScale
  let cap : Option Nat := if e.rc = 0 then (if max_ = 0 then none else some (8 * max_))
    else some (if max_ = 0 then h else min (8 * max_) h)
  let intra := decide (kind ≠ 2)
  let spent := 8 * headers.length
  let r0 := e.reserve intra 0
  let s := ({ s with fresh := n + 1 }.setCtx x p.ctx (some (.enc e))).srcRelease x p p.first
  let tooSmall := match cap with | some c => decide (c < spent + r0) | none => false
  if tooSmall then (s.srcRelease x p (p.first + e.h)).encStop x p vcxCapTooSmall
  else
    let p := { p with
      waiting := false, kind := kind, number := e.pictures, poc := if kind = 0 then 0 else e.sinceIdr, cap := cap, r0 := r0,
      spent := spent, headers := headers, start := e.written }
    (s.mapVcx x (fun v => { v with run := .enc p })).vcxShow

/-- A waiting encoder takes the frame that its ring shows, if it is newer than the last it took (R324). -/
def State.encTryStart (s : State) (x : Nat) (e : EncCtx) (p : EncPic) : State :=
  if !p.ring then s.encStart x e p
  else
    let frame := s.num (p.src + 12) 4
    let newer := match e.lastRings.lookup p.src with | none => true | some l => ahead frame l
    if newer then
      let e := { e with lastRings := (p.src, frame) :: e.lastRings.filter (fun r => r.1 != p.src) }
      (s.setCtx x p.ctx (some (.enc e))).encStart x e { p with frame := frame, first := s.num (p.src + 8) 4 }
    else (s.mapVcx x (fun v => { v with run := .enc { p with waiting := true } })).vcxShow

/-- The ROI table of a context once an ENC_FRAME has loaded its own (R334). -/
def State.encRoi (s : State) (e : EncCtx) (t : Taken) : List Quad :=
  if t.fld 0 80 80 = 1 then (List.range 16).map (fun i => s.quadAt (t.fld 2 79 32 + 16 * i)) else e.roi

/-- The status that refuses an ENC_FRAME on its encode context, none when it passes. -/
def State.encRefused (s : State) (e : EncCtx) (t : Taken) : Option Nat :=
  let ring := t.fld 0 79 79 == 1
  let lines := t.fld 0 78 64
  let src := t.fld 1 127 80
  let stride := t.fld 1 79 56
  let src2 := t.fld 1 55 8
  let report := t.fld 2 127 80
  let roiAddr := t.fld 2 79 32
  let load := t.fld 0 80 80 == 1
  let four := par e.params 0 75 75 == 1
  let bpp := if four then 2 else 4
  if !t.zeros [(0, 31, 0), (1, 7, 0), (2, 31, 0)] ∨ report % 64 ≠ 0 ∨ (load = true ∧ roiAddr % 16 ≠ 0) ∨
      (ring = true ∧ (lines < 2 ∨ 16383 < lines ∨ four = true ∨ src % 64 ≠ 0)) ∨ (ring = false ∧ lines ≠ 0) ∨
      (ring = false ∧ four = false ∧ src2 ≠ 0) ∨ stride * 64 < e.w * bpp then some vcxBadParams
  else if !inMemory s.variant report 64 || (load && !inMemory s.variant roiAddr 256) ||
      (if ring then !inMemory s.variant src 64 || !inMemory s.variant src2 (lines * stride * 64)
       else !inMemory s.variant src ((e.h - 1) * stride * 64 + e.w * bpp) ||
         (four && !inMemory s.variant src2 ((e.h / 2 - 1) * stride * 64 + e.w * 2))) then some stBadAddress
  else if load && s.poisonedAt roiAddr 256 then some stPoisoned
  else if load && !e.roiOk (s.encRoi e t) then some vcxBadParams
  else none

/-- The picture that an ENC_FRAME asks for, its source not yet there. -/
def encPicOf (t : Taken) : EncPic :=
  { tag := t.tag, ctx := t.fld 0 87 83, ring := t.fld 0 79 79 == 1, ringLines := t.fld 0 78 64, src := t.fld 1 127 80,
    stride := t.fld 1 79 56, src2 := t.fld 1 55 8, report := t.fld 2 127 80, capture := t.fld 0 63 32, asked := t.fld 0 82 81,
    waiting := true, kind := 0, number := 0, poc := 0, cap := none, r0 := 0, spent := 0, row := 0, floorActive := false,
    floorRows := 0, firstFloor := 0xFFFF, slices := 0, start := 0, auBytes := 0, out := [], acc := [], accRow := 0, accUse := 0,
    accJobs := [], recon := [], headers := [], aborted := false, poisoned := 0, first := 0, frame := 0, qpFirst := 0, qpSum := 0, qpCount := 0,
    crcs := [], threshMade := false }

/-- ENC_FRAME (R323, R324, R334, R350). -/
def doEncFrame (x : Nat) (s : State) : State :=
  let q := 12 + x
  s.takeWhen q 0x11 [2] (fun _ => s.vcxIdle x) fun t s =>
    let fin (st : Nat) : State := (s.complete q t.tag st 0).fire (176 + x)
    let c := t.fld 0 87 83
    if s.isPartner x then fin vcxGanged
    else match (s.vcx x).ctx c with
    | none => fin vcxNoContext
    | some (.dec _) => fin vcxBadParams
    | some (.enc e) =>
      let s := if t.fld 0 80 80 = 1 then s.meet (t.fld 2 79 32) 256 else s
      match s.encRefused e t with
      | some st => fin st
      | none =>
        let e := { e with roi := s.encRoi e t }
        ((s.setCtx x c (some (.enc e))).loadCtx x c).encTryStart x e (encPicOf t)

/-- ENC_SOURCE_FRAME_OPEN (R324). -/
def doEncSourceFrameOpen (x : Nat) (s : State) : State :=
  match (s.vcx x).run with
  | .enc p =>
    if p.waiting then
      match (s.vcx x).enc? p.ctx with | some e => s.encTryStart x e p | none => s
    else s
  | _ => s

/-- A picture is complete: report, counts, completion (R333, R351, R352). -/
def State.encDone (s : State) (x : Nat) (e : EncCtx) (p : EncPic) : State :=
  let n := s.fresh
  let s := { s with fresh := n + 2 }
  let status := if p.aborted then stAborted else if 0 < p.poisoned then stPoisoned
    else if 0 < p.floorRows then vcxFloorRows else stSuccess
  let mean : Int := if p.qpCount = 0 then 0 else
    p.qpSum / p.qpCount + (if p.qpSum % p.qpCount ≠ 0 ∧ Config.freeCode n 0 = true then 1 else 0)
  let crc (k : Nat) : Nat := p.crcs.getD k 0
  let c32 (v : Nat) : Nat := v % 2 ^ 32
  let w0 := c32 p.number * 2 ^ 96 + c32 p.poc * 2 ^ 64 + (s.epoch (13 + x)).toNat * 2 ^ 56 + status * 2 ^ 48 + p.kind * 2 ^ 40 +
    p.floorRows * 65536 + p.slices
  let w1 := p.start % 2 ^ 64 * 2 ^ 64 + c32 p.auBytes * 2 ^ 32 + (match p.cap with | some c => min c (2 ^ 32 - 1) | none => 2 ^ 32 - 1)
  let w2 := c32 p.r0 * 2 ^ 96 + p.capture * 2 ^ 64 + wrapInt 8 p.qpFirst * 2 ^ 56 + wrapInt 8 mean * 2 ^ 48 + p.firstFloor * 2 ^ 32 +
    min p.poisoned 65535 * 65536 + p.frame % 65536
  let w3 := crc 0 * 2 ^ 112 + crc 1 * 2 ^ 96 + crc 2 * 2 ^ 80
  -- the reconstructed picture goes into the next reference buffer, in the core's own layout
  let s := s.unitStore (0x40 + x) (e.refBuffer p.number)
    ((Config.hevcBytes (n + 1) e.refBytes).take e.refBytes)
  let e := { e with sinceIdr := if p.kind = 0 then 1 else e.sinceIdr + 1,
                    recon := (if p.kind = 2 then p.recon :: e.recon else [p.recon]).take e.numRefs,
                    cpb := some (min (e.hrdSize * e.timeScale) (e.cpbNext (8 * p.auBytes))) }
  let s := s.setCtx x p.ctx (some (.enc e))
  let s := s.srcRelease x p (p.first + e.h)
  let s := s.unitStore (0x40 + x) p.report (leBytes 16 w0 ++ leBytes 16 w1 ++ leBytes 16 w2 ++ leBytes 16 w3)
  let s := s.mapVcx x (fun v => { v with run := .idle })
  let s := if 0 < p.floorRows then ((s.bump (Reg.vcxFloor x) 31 16 1).bump (Reg.vcxFloor x) 15 0 p.floorRows).fire 180 else s
  let s := if 0 < p.poisoned then s.fire 191 else s
  let s := s.count (Reg.vcxPictures x) 1
  let s := s.complete (12 + x) p.tag status (BitVec.ofNat 64 (c32 p.number * 2 ^ 32 + p.floorRows * 65536 + p.slices))
  let s := match e.mirror with
    | some (mx, mc) =>
      match (s.vcx mx).dec? mc with
      | some d =>
        let lag := e.pictures - d.mirrorPics
        let s := s.setFld (Reg.vcxMirror mx) 15 8 (min lag 255)
        if 1 < lag then ((s.bump (Reg.vcxMirror mx) 31 16 1).report (0x40 + mx) 0 0x0C mc).fire 184 else s
      | none => s
    | none => s
  (s.fire (176 + x)).vcxShow

/-- Write the slices that wait, as far as the ring has room; then the picture may be complete. -/
def State.encFlush (x : Nat) : Nat → State → EncCtx → EncPic → State
  | 0, s, _, p => (s.mapVcx x (fun v => { v with run := .enc p })).vcxShow
  | f + 1, s, e, p =>
    match p.out with
    | [] => if p.row = e.rows then s.encDone x e p else (s.mapVcx x (fun v => { v with run := .enc p })).vcxShow
    | o :: t =>
      if s.nalRoom e o.bytes.length then
        let (s, e) := s.nalPut x p.ctx e p.number o
        State.encFlush x f s e { p with
          out := t, slices := p.slices + 1, auBytes := p.auBytes + o.bytes.length, threshMade := false }
      else (s.mapVcx x (fun v => { v with run := .enc p })).vcxShow

/-- Put a slice in line: the first carries the units before it, the last the hash SEI and the filler (R325, R326, R336). -/
def EncPic.put (p : EncPic) (e : EncCtx) (row : Nat) (bytes : List Byte) (floor last : Bool) : EncPic :=
  let first := decide (p.slices + p.out.length = 0)
  let p := if last then { p with crcs := e.reconCrcs p.recon } else p
  let hash := if last then hashSei p.crcs else []
  let tail := if last then hash ++ e.filler p.cap (p.spent + 8 * hash.length) else []
  let flags := (if first then 1 else 0) + (if last then 2 else 0) + (if floor then 4 else 0) + (if p.kind = 2 then 0 else 8) +
    (if p.aborted && floor then 16 else 0)
  { p with out := p.out ++ [⟨(if first then p.headers else []) ++ bytes ++ tail, row, flags⟩] }

/-- The slice that is not ended goes in line. -/
def EncPic.endSlice (p : EncPic) (e : EncCtx) (last : Bool) : EncPic :=
  if p.accJobs.isEmpty then p else { p with acc := [], accJobs := [] }.put e p.accRow p.acc false last

/-- CTU row `k` in floor mode, as use `n` of the coder (R333). -/
def EncPic.floorTake (p : EncPic) (e : EncCtx) (n : Nat) : EncPic :=
  let k := p.row
  let bytes := (nalBytes 2 p.nal (Config.hevcSlice n (e.sliceSpec p k true) [])).take (e.floorBits (decide (p.kind ≠ 2)) / 8)
  let p := p.endSlice e false
  { p with spent := p.spent + 8 * bytes.length, floorActive := true, floorRows := p.floorRows + 1, firstFloor := min p.firstFloor k,
           row := k + 1, recon := p.recon ++ [e.floorRow p k] }.put e k bytes true (decide (k + 1 = e.rows))

/-- CTU row `k` coded normally, as use `n` of the coder, with the group QPs and samples of `job` and `bad` poisoned CTUs; a slice that goes
on is coded anew with the row in it. -/
def EncPic.rowTake (p : EncPic) (e : EncCtx) (n : Nat) (base : Int) (job : Config.RowJob) (bad : Nat) : EncPic :=
  let k := p.row
  let use := if p.accJobs.isEmpty then n else p.accUse
  let from_ := if p.accJobs.isEmpty then k else p.accRow
  let jobs := p.accJobs ++ [job]
  let bytes := nalBytes 2 p.nal (Config.hevcSlice use (e.sliceSpec p from_ false) jobs)
  let last := decide (k + 1 = e.rows)
  let p := { p with
    spent := p.spent - 8 * p.acc.length + 8 * bytes.length, row := k + 1, poisoned := p.poisoned + bad,
    qpFirst := if k = 0 then base else p.qpFirst, qpSum := p.qpSum + job.qps.sum, qpCount := p.qpCount + job.qps.length,
    acc := bytes, accRow := from_, accUse := use, accJobs := jobs, recon := p.recon ++ [.coded use] }
  if e.perRow || last then p.endSlice e last else p

/-- The QP that rate control has for the row: the constant one of the picture's type, or the encoder's choice (R319, R330). -/
def EncCtx.baseQp (c : EncCtx) (p : EncPic) (chosen : Int) : Int :=
  if c.rc = 0 then signed 8 (if p.kind = 2 then par c.params 2 55 48 else par c.params 2 63 56) else chosen

/-- The memories of a core are read: the context state, the CTU line buffers, the CABAC contexts (R353). -/
def State.vcxMemories (s : State) (win : Nat) : State := ((s.meetUnit win 0).meetUnit win 1).meetUnit win 2

/-- Code the next CTU row of picture `p` (R322 to R335): a row that would leave too little of the cap is coded at its floor, and so are
all after it. -/
def State.encRowTake (s : State) (x : Nat) (e : EncCtx) (p : EncPic) (row : EncRow) : State :=
  let k := p.row
  let win := 0x40 + e.coder x k
  let s := (((s.vcxMemories win).meetRow e p k).tally win (e.areas (k + 1) - e.areas k)).srcRelease x p (p.first + (e.rowLines k).2)
  let s := if row.residue then (s.report win 0 0x08 0).fire 190 else s
  let n := s.fresh
  let s := { s with fresh := n + 1 }
  let base := e.baseQp p row.qp
  let bad := min e.cols (s.poisonedCtus e p k + s.intraCtus e p n)
  let coded := p.rowTake e n base ⟨k, e.rowQps k base, s.rowSource e p k⟩ bad
  let tooMuch := match p.cap with | some c => decide (c < coded.spent + e.reserve (decide (p.kind ≠ 2)) (k + 1)) | none => false
  State.encFlush x 4 s e (if p.floorActive || tooMuch then p.floorTake e n else coded)

/-- ENC_ROW (R326, R331 to R335, R347, R348). -/
def doEncRow (x : Nat) (row : EncRow) (s : State) : State :=
  match (s.vcx x).run with
  | .enc p =>
    match (s.vcx x).enc? p.ctx with
    | none => s
    | some e =>
      if p.waiting || !p.out.isEmpty || decide (e.rows ≤ p.row) || !s.srcHas p (e.rowLines p.row).2 ||
        s.unitStalled (0x40 + e.coder x p.row) then s
      else s.encRowTake x e p row
  | _ => s

/-- NAL_RING_ROOM (R328). -/
def doNalRingRoom (x : Nat) (s : State) : State :=
  match (s.vcx x).run with
  | .enc p => if p.out.isEmpty then s else
    match (s.vcx x).enc? p.ctx with | some e => State.encFlush x (p.out.length + 1) s e p | none => s
  | _ => s

/-- VCX_WAIT_THRESHOLD (R328, R342): once for each wait. -/
def doVcxWaitThreshold (x : Nat) (s : State) : State :=
  if s.fld (Reg.vcxWaitThresh x) 15 0 = 0 then s
  else match (s.vcx x).run with
    | .enc p =>
      if p.out.isEmpty || p.threshMade then s
      else ((s.mapVcx x (fun v => { v with run := .enc { p with threshMade := true } })).bump (Reg.vcxWaitThresh x) 31 16 1).fire 188
    | .dec d =>
      if !d.waiting || d.threshMade then s
      else ((s.mapVcx x (fun v => { v with run := .dec { d with threshMade := true } })).bump (Reg.vcxWaitThresh x) 31 16 1).fire 189
    | .idle => s

end Sys2Proof.Machine
end

