-- ==== Sys2Proof/Machine/VcxDec.lean ====
section
/-!
DEFINITION. The video codec's decoder: byte ranges, parameter sets, the picture buffers and their output, damage; mirrors; abort and power
(spec/09_codec.md R314, R315, R336 to R349). What slice data decodes to is uninterpreted (DESIGN CHOICE, log entry 18).
-/
namespace Sys2Proof.Machine

/-! What a byte range holds (R314, R340). -/

/-- The items so far, and the picture that is open. -/
structure RangeSplit where
  items : List DecItem
  slices : List Nal
  hash : Option (List Byte)

/-- The open picture ends. -/
def RangeSplit.close (a : RangeSplit) : RangeSplit :=
  if a.slices.isEmpty then a else ⟨a.items ++ [.pic a.slices a.hash], [], none⟩

/-- One NAL unit more: one of a reserved type or a higher layer, filler and messages other than picture hashes are discarded (R314); what
stands before a picture's first slice ends the one before it (PRESUMED, log entry 49). -/
def RangeSplit.step (a : RangeSplit) (u : Nal) : RangeSplit :=
  if u.discarded then a
  else if u.slice then
    let a := if (u.payload.headD 0).getLsbD 7 then a.close else a
    { a with slices := a.slices ++ [u] }
  else if u.type = 40 then
    { a with hash := if a.hash.isSome || u.poisoned then a.hash else hashMessage u.payload.length u.payload }
  else if u.type ≤ 34 then let a := a.close; { a with items := a.items ++ [.set u] }
  else if u.type = 36 ∨ u.type = 37 then let a := a.close; { a with items := a.items ++ [.eos] }
  else if u.type = 38 then a
  else a.close

/-- What a byte range holds; its end ends the picture it is in (R340). -/
def rangeItems (bs : List (Byte × Bool)) : List DecItem := ((byteStreamUnits bs).foldl RangeSplit.step ⟨[], [], none⟩).close.items

/-- A byte range, each byte with whether it is poisoned. -/
def State.rangeBytes (s : State) (a len : Nat) : List (Byte × Bool) :=
  (List.range len).map (fun i => (s.byte (a + i), s.poisonedAt (a + i) 1))

/-! Parameter sets. -/

/-- A parameter set arrives: it takes the place of the one with its identifier, and one that is damaged leaves none (R344). -/
def DecCtx.putSet (c : DecCtx) (u : Nal) : DecCtx :=
  let ok {α : Type} (p : Parse α) : Option α := if u.poisoned then none else u.read p
  if u.type = 32 then
    match u.read (readU 4) with
    | some id => { c with vpss := c.vpss.filter (· != id) ++ (ok (readU 4)).toList }
    | none => c
  else if u.type = 33 then
    match u.read readSpsId with
    | some id => { c with spss := c.spss.filter (·.1 != id) ++ (ok readSps).toList }
    | none => c
  else
    match u.read readUe with
    | some id => { c with ppss := c.ppss.filter (·.1 != id) ++ (ok readPps).toList }
    | none => c

def DecCtx.pps? (c : DecCtx) (id : Nat) : Option Pps := c.ppss.lookup id
/-- A sequence parameter set whose video parameter set has come too. -/
def DecCtx.sps? (c : DecCtx) (id : Nat) : Option Sps := (c.spss.lookup id).filter (fun p => c.vpss.contains p.vps)

/-- The header of a slice segment, with the sets it names. -/
def DecCtx.head? (c : DecCtx) (u : Nal) : Option (SliceHead × Pps × Sps) := u.read (readSlice u.type c.pps? c.sps?)

/-! Pictures in memory (R315, R319). -/

/-- The size of a picture, its chroma format and bit depths, log2 of its CTU. -/
structure PicShape where
  w : Nat
  h : Nat
  chroma : Nat
  depthY : Nat
  depthC : Nat
  ctb : Nat

def Sps.shape (p : Sps) : PicShape := ⟨p.w, p.h, p.chroma, p.depthY, p.depthC, p.ctb⟩
def EncCtx.shape (e : EncCtx) : PicShape := ⟨e.w, e.h, if 2 ≤ e.profile then 2 else 1, e.depth, e.depth, Nat.log2 e.ctu⟩

def PicShape.depth (p : PicShape) (comp : Nat) : Nat := if comp = 0 then p.depthY else p.depthC
/-- The size of a component. -/
def PicShape.size (p : PicShape) (comp : Nat) : Nat × Nat :=
  if comp = 0 then (p.w, p.h) else ((p.w + 1) / 2, if p.chroma = 2 then p.h else (p.h + 1) / 2)
/-- The CTU of a sample. -/
def PicShape.ctuOf (p : PicShape) (comp x y : Nat) : Nat :=
  let (lx, ly) := if comp = 0 then (x, y) else (2 * x, if p.chroma = 2 then y else 2 * y)
  ly / 2 ^ p.ctb * ((p.w + 2 ^ p.ctb - 1) / 2 ^ p.ctb) + lx / 2 ^ p.ctb
def PicShape.ctus (p : PicShape) : Nat := ((p.w + 2 ^ p.ctb - 1) / 2 ^ p.ctb) * ((p.h + 2 ^ p.ctb - 1) / 2 ^ p.ctb)
/-- CTU areas of 64 × 64 (R353). -/
def PicShape.areas (p : PicShape) : Nat := p.ctus * (2 ^ p.ctb / 16) ^ 2 / 16

/-- The address of a sample's code in a buffer: format 3 for 4:2:2, format 4 otherwise (R315). -/
def DecCtx.codeAt (c : DecCtx) (p : PicShape) (buf comp x y : Nat) : Nat :=
  let base := c.base + buf * c.bufBytes
  if p.chroma = 2 then base + y * c.stride + (if comp = 0 then 4 * x else 8 * x + 4 * (comp - 1) + 2)
  else if comp = 0 then base + y * c.stride + 2 * x
  else base + c.stride * ((par c.params 0 111 96 + 7) / 8 * 8) + y * c.stride + 4 * x + 2 * (comp - 1)

/-- The code of a decoded sample (R315, R344): as use `n` of the decoder gives it; in a CTU that damage leaves undecoded the code at that
place of the buffer `ref`, or the mid value. -/
def State.decCode (s : State) (c : DecCtx) (p : PicShape) (n : Nat) (lost : Nat → Bool) (ref : Option Nat) (comp x y : Nat) : Nat :=
  if lost (p.ctuOf comp x y) then
    match ref with
    | some b => s.num (c.codeAt p b comp x y) 2 % 1024
    | none => 512
  else (Config.hevcSample n comp x y % 2 ^ p.depth comp) * 2 ^ (10 - p.depth comp)

/-- The components of a picture as its hash takes them: bit depth and rows. -/
def PicShape.planes (p : PicShape) (code : Nat → Nat → Nat → Nat) : List (Nat × List (List Nat)) :=
  (List.range (if p.chroma = 0 then 1 else 3)).map (fun comp =>
    let (w, h) := p.size comp
    (p.depth comp, (List.range h).map (fun y => (List.range w).map (fun x => code comp x y / 2 ^ (10 - p.depth comp)))))

/-- Store a picture with the codes given in a buffer (R315), with the motion data of use `n`; the chroma of 4:0:0 is 512. -/
def State.storePicture (s : State) (x n : Nat) (c : DecCtx) (buf : Nat) (p : PicShape) (code : Nat → Nat → Nat → Nat) : State :=
  let base := c.base + buf * c.bufBytes
  let s := (List.range p.h).foldl (fun s y =>
    let bs := (List.range p.w).flatMap (fun i =>
      if p.chroma = 2 then leBytes 4 (code 0 i y + 65536 * code (1 + i % 2) (i / 2) y) else leBytes 2 (code 0 i y))
    s.unitStore (0x40 + x) (base + y * c.stride) bs) s
  let s := if p.chroma = 2 then s
    else (List.range ((p.h + 1) / 2)).foldl (fun s y =>
      let bs := (List.range ((p.w + 1) / 2)).flatMap (fun i =>
        if p.chroma = 0 then leBytes 4 (512 + 65536 * 512) else leBytes 4 (code 1 i y + 65536 * code 2 i y))
      s.unitStore (0x40 + x) (c.codeAt p buf 1 0 y) bs) s
  s.unitStore (0x40 + x) (base + c.bufBytes - c.motionBytes) ((Config.hevcBytes n c.motionBytes).take c.motionBytes)

/-- Poison the words of a buffer's picture that use `n` of the decoder draws from poisoned samples (R347, DESIGN CHOICE, log entry 18). -/
def State.poisonPicture (s : State) (n : Nat) (c : DecCtx) (buf : Nat) (p : PicShape) : State :=
  (wordsOf (c.base + buf * c.bufBytes) (c.pictureBytes (p.chroma == 2) p.h)).foldl
    (fun s w => if Config.freeCode n w then s.poisonRange (16 * w) 16 else s) s

/-- Is a word of a buffer's picture poisoned? -/
def State.bufferPoisoned (s : State) (c : DecCtx) (buf : Nat) (p : PicShape) : Bool :=
  s.poisonedAt (c.base + buf * c.bufBytes) (c.pictureBytes (p.chroma == 2) p.h)

/-- Does a picture fit the buffers (R342, R346)? -/
def DecCtx.holds (c : DecCtx) (p : PicShape) : Bool :=
  decide (p.w ≤ par c.params 0 127 112 ∧ p.h ≤ par c.params 0 111 96 ∧ (if p.chroma = 2 then 4 else 2) * p.w ≤ c.stride) &&
  decide (c.pictureBytes (p.chroma == 2) p.h + c.motionBytes ≤ c.bufBytes)

/-- Does the DPB that an SPS needs fit, and its pictures (R342)? -/
def DecCtx.fits (c : DecCtx) (p : Sps) : Bool := decide (p.buffers + 1 ≤ c.buffers) && c.holds p.shape

/-- Does a core support the stream of an SPS (R312, R320): the profiles by their identifiers or compatibility, the range extensions as far
as Main 4:2:2 10 goes; chroma, depths, level and size? -/
def DecCtx.supports (c : DecCtx) (p : Sps) : Bool :=
  let is (k : Nat) : Bool := p.profile == k || p.compat.testBit (31 - k)
  (is 1 || is 2 || is 3 || (is 4 && p.constraints.testBit 42 && p.constraints.testBit 40)) &&
  decide (p.chroma ≤ 2 ∧ p.depthY ≤ 10 ∧ p.depthC ≤ 10 ∧ p.level ≤ (if c.gang then 186 else 183) ∧ p.w * p.h ≤ 35651584 ∧
    8 ≤ p.w ∧ p.w ≤ 16384 ∧ 8 ≤ p.h ∧ p.h ≤ 16384)

/-! The decoded picture buffer (R341). -/

/-- A buffer is in use. -/
def DpbPic.kept (e : DpbPic) : Bool := e.reference || e.held || e.waiting

/-- The buffers that nothing holds. -/
def DecCtx.freeBuffers (c : DecCtx) : List Nat := (List.range c.buffers).filter (fun b => c.dpb.all (fun e => e.buffer != b || !e.kept))

/-- Output a picture: its buffer is the application's. -/
def DecCtx.output (c : DecCtx) (number : Nat) : DecCtx :=
  if c.dpb.any (fun e => e.number == number && e.waiting) then
    { c with dpb := c.dpb.map (fun e => if e.number = number then { e with waiting := false, held := true } else e),
             owed := c.owed ++ [number] }
  else c

/-- Forget pictures whose buffers are free. -/
def DecCtx.tidy (c : DecCtx) : DecCtx := { c with dpb := c.dpb.filter DpbPic.kept }

/-- The picture that waits for output with the lowest picture order count. -/
def DecCtx.nextOut (c : DecCtx) : Option DpbPic :=
  (c.dpb.filter (·.waiting)).foldl (fun (a : Option DpbPic) e =>
    match a with | none => some e | some b => if e.poc < b.poc then some e else a) none

/-- Output pictures, lowest picture order count first, while `more` holds. -/
def DecCtx.outputWhile (more : DecCtx → Bool) : Nat → DecCtx → DecCtx
  | 0, c => c
  | f + 1, c => if more c then (match c.nextOut with | some e => DecCtx.outputWhile more f (c.output e.number) | none => c) else c

/-- Output every picture that waits. -/
def DecCtx.flush (c : DecCtx) : DecCtx := DecCtx.outputWhile (fun _ => true) c.dpb.length c

/-- Must a picture be output (C.5.2.2, C.5.2.3; PRESUMED, log entry 49): more wait than are reordered, one waits too long, or the DPB is full? -/
def DecCtx.mustOutput (p : Sps) (full : Bool) (c : DecCtx) : Bool :=
  let w := c.dpb.filter (·.waiting)
  decide (p.reorder < w.length) || (p.latency != 0 && w.any (fun e => decide (p.reorder + p.latency ≤ e.latency + 1))) ||
  (full && decide (p.buffers ≤ (c.dpb.filter (fun e => e.reference || e.waiting)).length))

/-- A picture that a reference picture set names (8.3.2): its picture order count or the low bits of it, whether it is the whole count,
a long-term picture, used by the picture itself. -/
structure RefName where
  poc : Int
  whole : Bool
  long : Bool
  used : Bool

/-- The pictures that a header's set names, in the order of RefPicList0. -/
def SliceHead.names (h : SliceHead) (p : Sps) (poc : Int) : List RefName :=
  let m : Int := 2 ^ p.pocBits
  (h.rps.before ++ h.rps.after).map (fun d => ⟨poc + d.1, true, false, d.2⟩) ++
  h.lts.map (fun l => match l.2.1 with
    | some cycles => ⟨poc - cycles * m - poc % m + l.1, true, true, l.2.2⟩
    | none => ⟨l.1, false, true, l.2.2⟩)

/-- The reference picture that a name means. -/
def DecCtx.named (c : DecCtx) (p : Sps) (r : RefName) : Option DpbPic :=
  c.dpb.find? (fun e => e.reference && (r.long || !e.long) && (if r.whole then e.poc == r.poc else e.poc % 2 ^ p.pocBits == r.poc))

/-- Pictures that a set does not name are references no more; those it names are short- or long-term as it says. -/
def DecCtx.markRefs (c : DecCtx) (p : Sps) (l : List RefName) : DecCtx :=
  { c with dpb := c.dpb.map (fun e =>
      match l.find? (fun r => (c.named p r).any (fun x => x.number == e.number)) with
      | some r => { e with long := r.long }
      | none => { e with reference := false }) }

/-- The picture order count of a picture from its low bits (8.3.1). -/
def pocOf (bits : Nat) (prev : Int) (lsb : Nat) : Int :=
  let m : Int := 2 ^ bits
  let low := prev % m
  let high := prev - low
  if (lsb : Int) < low ∧ m / 2 ≤ low - lsb then high + m + lsb
  else if low < (lsb : Int) ∧ m / 2 < lsb - low then high - m + lsb
  else high + lsb

/-! Decoding a picture (R342 to R347). -/

def flagBit (b : Bool) (n : Nat) : Nat := if b then 2 ^ (n - 16) else 0

/-- Set flags of a run: those of R351, as bits above 16. -/
def DecRun.mark (d : DecRun) (f : Nat) : DecRun := { d with flags := d.flags ||| f }

/-- A picture to decode: its slice segments, the header that tells of it, the type of its NAL units, its picture order count, whether decoding
starts at it, what its set names, the hash message. -/
structure PicToDo where
  slices : List Nal
  head : SliceHead
  pps : Pps
  sps : Sps
  nal : Nat
  tid : Nat
  fresh : Bool
  poc : Int
  names : List RefName
  hash : Option (List Byte)

def PicToDo.irap (p : PicToDo) : Bool := decide (16 ≤ p.nal ∧ p.nal ≤ 23)

/-- The picture that slice segments belong to, by the first header that can be read; decoding starts at an IDR or BLA picture, and at a CRA
picture at which it begins or resumes. -/
def DecCtx.toDo (c : DecCtx) (slices : List Nal) (hash : Option (List Byte)) : Option PicToDo :=
  (slices.findSome? (fun u => match c.head? u with | some (h, pp, sp) => if h.dependent then none else some (u, h, pp, sp) | none => none)).map
    (fun (u, h, pp, sp) =>
      let irap := decide (16 ≤ u.type ∧ u.type ≤ 23)
      let fresh := irap && (u.type != 21 || c.start || c.skip.isSome)
      let poc := pocOf sp.pocBits (if fresh then 0 else c.prevPoc) h.lsb
      let poc := if fresh then (h.lsb : Int) else poc
      ⟨slices, h, pp, sp, u.type, u.tid, fresh, poc, h.names sp poc, hash⟩)

/-- The DPB before a picture: references marked, prior pictures output or dropped where decoding starts, others output as far as they
must be (C.5.2.2). -/
def DecCtx.before (c : DecCtx) (p : PicToDo) : DecCtx :=
  if p.fresh then
    let c := { c with dpb := c.dpb.map (fun (e : DpbPic) => { e with reference := false }) }
    DecCtx.tidy (if p.nal = 21 || p.head.noOutput then { c with dpb := c.dpb.map (fun (e : DpbPic) => { e with waiting := false }) } else c.flush)
  else
    let c := DecCtx.tidy (c.markRefs p.sps p.names)
    DecCtx.tidy (DecCtx.outputWhile (DecCtx.mustOutput p.sps true) c.dpb.length c)

/-- A number that no picture of the DPB has. -/
def DecCtx.nextNumber (c : DecCtx) : Nat := c.dpb.foldl (fun m e => max m (e.number + 1)) 0

/-- Generate the picture that a name means and the DPB lacks, in buffer `b`, every sample at the mid value (R343). -/
def State.decGenerate (s : State) (x : Nat) (c : DecCtx) (p : Sps) (b : Nat) (r : RefName) : State × DecCtx :=
  let n := s.fresh
  ({ s with fresh := n + 1 }.storePicture x n c b p.shape (fun _ _ _ => 512),
   { c with dpb := c.dpb ++ [⟨c.nextNumber, b, true, r.long, false, false, true, true, r.poc, 0⟩] })

/-- Generate all that are missing, in the buffers given. -/
def State.decGenerates (s : State) (x : Nat) (c : DecCtx) (p : Sps) : List (Nat × RefName) → State × DecCtx
  | [] => (s, c)
  | (b, r) :: t => let g := s.decGenerate x c p b r; g.1.decGenerates x g.2 p t

/-- Is a gang's picture decoded by both cores (R322)? -/
def PicToDo.parallel (p : PicToDo) : Bool :=
  p.pps.tiles || p.pps.wpp || decide (2 ≤ (p.slices.filter (fun u => match u.read (readSlice u.type (fun _ => some p.pps) (fun _ => some p.sps)) with
    | some h => !h.1.dependent | none => false)).length)

/-- The memories of the cores that decode a picture are read, and its areas pass their meters; half of one that both decode, each
(DESIGN CHOICE, log entry 18). -/
def State.decTally (s : State) (x : Nat) (c : DecCtx) (both : Bool) (areas : Nat) : State :=
  let s := s.vcxMemories (0x40 + x)
  if c.gang && both then ((s.vcxMemories (0x40 + vcxPartner x)).tally (0x40 + x) (areas - areas / 2)).tally (0x40 + vcxPartner x) (areas / 2)
  else s.tally (0x40 + x) areas

/-- Decode a picture into buffer `b`, its DPB made ready in `c` and `gens` pictures generated for it (R341 to R347). -/
def State.decPicture (s : State) (x : Nat) (c : DecCtx) (d : DecRun) (p : PicToDo) (gens b : Nat) : State × DecCtx × DecRun :=
  let n := s.fresh
  let s := ({ s with fresh := n + 1 }).decTally x c p.parallel p.sps.shape.areas
  let big := s.variant == .ew9760
  let sh := p.sps.shape
  let refs := (p.names.filter (·.used)).filterMap (c.named p.sps)
  let unread := (p.slices.filter (fun u => u.poisoned || (c.head? u).isNone)).length
  let segments := min p.slices.length (unread + Config.hevcFaults n)
  let damaged := decide (0 < segments)
  let lost (k : Nat) : Bool := damaged && big && Config.hevcLost n k
  let concealed := if damaged && big then ((List.range sh.ctus).filter lost).length else 0
  let code := s.decCode c sh n lost (if p.head.intra then none else (refs.head?).map (·.buffer))
  let poisoned := refs.any (fun e => s.bufferPoisoned c e.buffer sh) && (Config.hevcReadsPoison n || decide (0 < concealed))
  let tainted := big && !p.irap && refs.any (·.tainted)
  let hashed := match p.hash with | some (t :: _) => decide (t.toNat ≤ 2) | _ => false
  let wrong := match p.hash with | some (t :: h) => hashed && decide (h ≠ pictureHash t.toNat (sh.planes code)) | _ => false
  let noHash := c.requireHash && !hashed
  let s := s.storePicture x n c b sh code
  let s := if poisoned then s.poisonPicture n c b sh else s
  let entry : DpbPic :=
    { number := c.nextNumber, buffer := b, reference := true, long := false, held := false, waiting := p.head.output,
      impaired := damaged || tainted || poisoned, tainted := tainted || (big && damaged), poc := p.poc, latency := 0 }
  let later (e : DpbPic) : DpbPic := if p.head.output && e.waiting && decide (p.poc < e.poc) then { e with latency := e.latency + 1 } else e
  let c := { c with
    dpb := c.dpb.map later ++ [entry], pictures := c.pictures + 1, skip := if damaged && !big then some vcxImpaired else none,
    start := false, raslOff := if p.irap then p.fresh else c.raslOff,
    prevPoc := if p.tid = 0 ∧ !(decide (6 ≤ p.nal ∧ p.nal ≤ 9) || (decide (p.nal ≤ 14) && p.nal % 2 == 0)) then p.poc else c.prevPoc }
  let c := DecCtx.outputWhile (DecCtx.mustOutput p.sps false) c.dpb.length c
  let d := { d.mark (flagBit (decide (0 < gens)) 16 ||| flagBit (damaged && big) 17 ||| flagBit damaged 18 ||| flagBit wrong 19 |||
      flagBit noHash 20 ||| flagBit tainted 22 ||| flagBit poisoned 25 ||| flagBit hashed 26) with
    count := d.count + 1, last := some ⟨p.poc, p.nal, b, sh.w, sh.h, sh.chroma, sh.depthY, sh.depthC⟩,
    concealed := d.concealed + concealed, generated := d.generated + gens, damaged := d.damaged + segments }
  let s := if damaged then (s.bump (Reg.vcxDamage x) 31 16 1).fire 185 else s
  let s := if 0 < gens then (s.bump (Reg.vcxDamage x) 15 0 1).fire 186 else s
  let s := if wrong then (s.bump (Reg.vcxHash x) 31 16 1).fire 182 else s
  let s := if noHash then ((s.bump (Reg.vcxHash x) 15 0 1).report (0x40 + x) 0 0x0C d.ctx).fire 193 else s
  let s := if poisoned then s.fire 191 else s
  (s, c, d)

/-- Slice segments of which no header can be read: damage, and nothing is decoded until the next IRAP picture (R344, R345). -/
def State.decUnread (s : State) (x : Nat) (c : DecCtx) (d : DecRun) (slices : List Nal) : State × DecCtx × DecRun :=
  ((s.bump (Reg.vcxDamage x) 31 16 1).fire 185, { c with skip := some (c.skip.getD vcxImpaired) },
   { d.mark (flagBit true 18) with damaged := d.damaged + slices.length })

/-- Decode one picture (R342 to R347); none when it has not the buffers it needs. -/
def State.decOne (s : State) (x : Nat) (c : DecCtx) (d : DecRun) (slices : List Nal) (hash : Option (List Byte)) :
    Option (State × DecCtx × DecRun) :=
  match c.toDo slices hash with
  | none => some (s.decUnread x c d slices)
  | some p =>
    let skip := if p.irap || c.start then
        (if !c.supports p.sps then some vcxUnsupported else if !c.fits p.sps then some vcxDpbTooSmall else none)
      else c.skip
    match skip with
    | some st =>
      some (s, { c with skip := skip }, { (d.mark (flagBit true 21 ||| flagBit (st == vcxUnsupported) 23)) with
        status := if d.status = vcxUnsupported then d.status else if st = vcxImpaired then d.status else st })
    | none =>
      if decide (p.nal = 8 ∨ p.nal = 9) && c.raslOff then some (s, { c with skip := none }, d.mark (flagBit true 24))
      else
        let c1 := c.before p
        let missing := p.names.filter (fun r => (c1.named p.sps r).isNone)
        let free := c1.freeBuffers
        match free.drop missing.length with
        | [] => none
        | b :: _ =>
          let g := s.decGenerates x c1 p.sps (free.zip missing)
          some (g.1.decPicture x g.2 d p missing.length b)

/-- Carry out one item of a range; none when its picture has not the buffers it needs. -/
def State.decItem (s : State) (x : Nat) (c : DecCtx) (d : DecRun) : DecItem → Option (State × DecCtx × DecRun)
  | .set u => some (s, c.putSet u, d)
  | .eos => some (s, { c with start := true }, d)
  | .pic slices hash => s.decOne x c d slices hash

/-- The decode report and the completion (R340, R341, R351, R352); a flush ends the stream, so that decoding starts anew after it. -/
def State.decDone (s : State) (x : Nat) (c : DecCtx) (d : DecRun) (aborted : Bool) : State :=
  let c := if d.flush && !aborted then { c.flush with start := true } else c
  let out := c.owed.take 8
  let entry (i : Nat) : Nat :=
    match out[i]? with
    | none => 0
    | some n =>
      match c.dpb.find? (fun e => e.number == n) with
      | some e => 2 ^ 31 + e.buffer * 2 ^ 26 + e.impaired.toNat * 2 ^ 25 + wrapInt 16 e.poc
      | none => 0
  let status := if aborted then stAborted else if d.status ≠ 0 then d.status
    else if nbits d.flags 9 9 = 1 then stPoisoned else if d.flags % 128 ≠ 0 then vcxImpaired else stSuccess
  let g (f : DecShown → Nat) (none_ : Nat) : Nat := match d.last with | some p => f p | none => none_
  let w0 := c.pictures % 2 ^ 32 * 2 ^ 96 + g (fun p => wrapInt 32 p.poc) 0 * 2 ^ 64 + (s.epoch (13 + x)).toNat * 2 ^ 56 + status * 2 ^ 48 +
    g (·.buffer) 0xFF * 2 ^ 40 + g (·.nal) 0 * 2 ^ 32 + d.flags % 65536 * 65536 + d.count % 65536
  let w1 := g (fun p => p.w * 2 ^ 112 + p.h * 2 ^ 96 + p.chroma * 2 ^ 88 + p.depthY * 2 ^ 84 + p.depthC * 2 ^ 80) 0 +
    min d.concealed 65535 * 2 ^ 64 + min d.generated 65535 * 2 ^ 48 + min d.damaged 65535 * 2 ^ 32 + d.length
  let w (j : Nat) : Nat := ((List.range 4).map (fun q => entry (4 * j + q) * 2 ^ (32 * q))).sum
  let s := s.unitStore (0x40 + x) d.report (leBytes 16 w0 ++ leBytes 16 w1 ++ leBytes 16 (w 0) ++ leBytes 16 (w 1))
  let c := DecCtx.tidy { c with owed := c.owed.drop 8 }
  let s := (s.setCtx x d.ctx (some (.dec c))).mapVcx x (fun v => { v with run := .idle })
  let s := (List.range d.count).foldl (fun s _ => s.count (Reg.vcxPictures x) 1) s
  let s := if status = vcxUnsupported ∨ status = vcxDpbTooSmall then s.fire 187 else s
  let s := s.complete (12 + x) d.tag status (BitVec.ofNat 64 (d.count * 2 ^ 32 + out.length * 65536 + d.flags % 65536))
  (s.fire (176 + x)).vcxShow

/-- Decode what is left of a range, until it ends or waits for a buffer. -/
def State.decGo (x : Nat) : Nat → State → DecCtx → DecRun → State
  | 0, s, c, d => s.decDone x c d false
  | f + 1, s, c, d =>
    match d.items with
    | [] => s.decDone x c d false
    | i :: t =>
      match s.decItem x c d i with
      | some (s, c, d) => State.decGo x f s c { d with items := t, waiting := false, threshMade := false }
      | none =>
        ((s.setCtx x d.ctx (some (.dec c))).mapVcx x (fun v => { v with run := .dec { d with waiting := true } })).vcxShow

/-- A residue check of core `x` fails (R339). -/
def State.vcxResidue (s : State) (x : Nat) (residue : Bool) : State := if residue then (s.report (0x40 + x) 0 0x08 0).fire 190 else s

/-- The status that refuses a DEC_AU on its decode context, none when it passes. -/
def State.decRefused (s : State) (d : DecCtx) (t : Taken) : Option Nat :=
  let len := t.fld 0 81 56
  let report := t.fld 1 79 32
  if d.mirror ∨ !t.zeros [(0, 55, 0), (1, 31, 0)] ∨ report % 64 ≠ 0 then some vcxBadParams
  else if !inMemory s.variant report 64 || (len != 0 && !inMemory s.variant (t.fld 1 127 80) len) then some stBadAddress
  else none

/-- The byte range of a DEC_AU is taken and decoded (R340). -/
def State.decStart (s : State) (x : Nat) (d : DecCtx) (t : Taken) (residue : Bool) : State :=
  let len := t.fld 0 81 56
  let src := t.fld 1 127 80
  let s := (((s.meet src len).vcxResidue x residue).loadCtx x (t.fld 0 87 83))
  let items := rangeItems (s.rangeBytes src len)
  State.decGo x (items.length + 1) s d
    { tag := t.tag, ctx := t.fld 0 87 83, report := t.fld 1 79 32, flush := t.fld 0 82 82 == 1, length := len, items := items,
      flags := 0, count := 0, last := none, concealed := 0, generated := 0, damaged := 0, status := 0, waiting := false,
      threshMade := false }

/-- DEC_AU (R340, R346, R350). -/
def doDecAu (x : Nat) (residue : Bool) (s : State) : State :=
  let q := 12 + x
  s.takeWhen q 0x12 [1] (fun _ => s.vcxIdle x) fun t s =>
    let fin (st : Nat) : State := (s.complete q t.tag st 0).fire (176 + x)
    if s.isPartner x then fin vcxGanged
    else match (s.vcx x).ctx (t.fld 0 87 83) with
    | none => fin vcxNoContext
    | some (.enc _) => fin vcxBadParams
    | some (.dec d) =>
      match s.decRefused d t with
      | some st => fin st
      | none => s.decStart x d t residue

/-- DEC_RELEASE (R341): the hold of a buffer ends, also while a DEC_AU waits for one. -/
def doDecRelease (x : Nat) (s : State) : State :=
  let q := 12 + x
  s.takeAs q 0x13 [0] fun t s =>
    let c := t.fld 0 87 83
    let b := t.fld 0 82 78
    let fin (st : Nat) (s : State) : State := s.complete q t.tag st 0
    if s.isPartner x then fin vcxGanged s
    else match (s.vcx x).ctx c with
    | none => fin vcxNoContext s
    | some (.enc _) => fin vcxBadParams s
    | some (.dec d) =>
      if d.mirror ∨ t.fld 0 77 0 ≠ 0 ∨ !d.dpb.any (fun e => e.buffer == b && e.held && !d.owed.contains e.number) then fin vcxBadParams s
      else
        let d := DecCtx.tidy { d with dpb := d.dpb.map (fun (e : DpbPic) => if e.buffer = b then { e with held := false } else e) }
        fin stSuccess (s.setCtx x c (some (.dec d)))

/-- DECODE_BUFFER_FREE (R342). -/
def doDecodeBufferFree (x : Nat) (residue : Bool) (s : State) : State :=
  match (s.vcx x).run with
  | .dec d =>
    match (s.vcx x).dec? d.ctx with
    | some c =>
      if d.waiting && !s.unitStalled (0x40 + x) then State.decGo x (d.items.length + 1) (s.vcxResidue x residue) c d else s
    | none => s
  | _ => s

/-- CTX_CLEAR (R350): an encode context may append an end-of-sequence NAL unit (PRESUMED, log entry 22). -/
def doCtxClear (x : Nat) (s : State) : State :=
  let q := 12 + x
  let eos : List Byte := [0, 0, 1, 0x48, 1]
  let room (t : Taken) : Bool :=
    t.fld 0 82 82 == 0 || (match (s.vcx x).enc? (t.fld 0 87 83) with | some e => s.nalRoom e 5 | none => true)
  s.takeWhen q 0x14 [0] (fun t => s.vcxIdle x && room t) fun t s =>
    let c := t.fld 0 87 83
    let wantEos := t.fld 0 82 82 == 1
    if t.fld 0 81 0 ≠ 0 then s.complete q t.tag vcxBadParams 0
    else match (s.vcx x).ctx c with
    | none => s.complete q t.tag vcxNoContext 0
    | some (.dec _) => ((s.dropCtx x c).complete q t.tag stSuccess 0).vcxShow
    | some (.enc e) =>
      let s := if wantEos then (s.nalPut x c e (e.pictures - 1) ⟨eos, 0, 0⟩).1 else s
      ((s.dropCtx x c).complete q t.tag stSuccess 0).vcxShow

/-! Mirrors (R337, R338). -/

/-- The attached mirror context of a core whose encoder has a slice it has not decoded. -/
def State.mirrorDue (s : State) (x : Nat) : Option (Nat × DecCtx × EncCtx) :=
  (s.vcx x).ctxs.findSome? (fun p =>
    match p.2 with
    | some (.dec d) =>
      if d.attached then
        match (s.vcx d.mirrorCore).enc? d.mirrorCtx with
        | some e => if d.mirrorNext < e.slices then some (p.1, d, e) else none
        | none => none
      else none
    | _ => none)

/-- `len` bytes of a NAL ring from stream byte `n` on, each with whether it is poisoned (R327). -/
def State.nalBytesAt (s : State) (e : EncCtx) (n len : Nat) : List (Byte × Bool) :=
  (List.range len).map (fun i =>
    let a := e.ringBase + (n + i) % max 1 e.ringBytes
    (s.byte a, s.poisonedAt a 1))

/-- Mirror context `c` of core `x` decodes its encoder's next slice (R337, R338): from an IRAP access unit on it stores each picture in its
own buffers, round and round, and compares its CRC with the hash SEI that the last slice's bytes hold. What the slices decode to, and
whether they are damaged, is free (DESIGN CHOICE, log entry 18). -/
def State.mirrorTake (s : State) (x c : Nat) (d : DecCtx) (e : EncCtx) (residue : Bool) : State :=
  let at_ := e.sliceRing + (d.mirrorNext % e.sliceEntries) * 16
  let s := ((s.loadCtx x c).vcxResidue x residue).meet at_ 16
  let word := s.num at_ 16
  let live := d.mirrorIrap || (nbits word 21 21 == 1 && nbits word 18 18 == 1)
  let last := nbits word 19 19 == 1
  let off := nbits word 127 64
  let len := nbits word 63 40
  let room := e.ringBytes - off % max 1 e.ringBytes
  let s := (s.meet (e.ringBase + off % max 1 e.ringBytes) (min len room)).meet e.ringBase (len - room)
  let units := byteStreamUnits (s.nalBytesAt e off len)
  let n := s.fresh
  let s := { s with fresh := n + 1 }
  let sh := e.shape
  let code := s.decCode d sh n (fun _ => false) none
  let message := units.findSome? (fun u => if u.type = 40 && !u.poisoned then hashMessage u.payload.length u.payload else none)
  let wrong := live && last && decide (message ≠ some (1 :: pictureHash 1 (sh.planes code)))
  let damage := live && (units.any (·.poisoned) || decide (0 < Config.hevcFaults n))
  let pics := d.mirrorPics + (if last then 1 else 0)
  let s := if live && last then
      let s := s.decTally x d e.gang sh.areas
      if d.holds sh then s.storePicture x n d (d.pictures % max 1 d.buffers) sh code else s
    else s
  let d := { d with mirrorNext := d.mirrorNext + 1, mirrorIrap := live, mirrorPics := pics,
                    pictures := d.pictures + (live && last).toNat }
  let s := s.setCtx x c (some (.dec d))
  let s := s.unitStore (0x40 + x) (e.ctrl + 32) (leBytes 16 ((off + len) % 2 ^ 64 * 2 ^ 64 + d.mirrorNext % 2 ^ 32 * 2 ^ 32))
  let s := s.setFld (Reg.vcxMirror x) 15 8 (min (e.pictures - pics) 255)
  let s := if wrong || damage then ((s.bump (Reg.vcxMirror x) 31 16 1).report (0x40 + x) 0 0x0C c).fire 183 else s
  s.vcxShow

/-- MIRROR_SLICE (R337, R338): a core does one thing at a time (R317). -/
def doMirrorSlice (x : Nat) (residue : Bool) (s : State) : State :=
  if !s.isPowered (13 + x) || s.isFenced (13 + x) || s.unitStalled (0x40 + x) || !s.vcxIdle x then s else
  match s.mirrorDue x with
  | none => s
  | some (c, d, e) => s.mirrorTake x c d e residue

/-! Abort and power (R348, R349). -/

/-- ABORT reaches a running descriptor of a core. -/
def State.vcxAbort (s : State) (x tag : Nat) : Option State :=
  match (s.vcx x).run with
  | .enc p =>
    if p.tag ≠ tag then none
    else if p.waiting then some (s.encStop x p stAborted)
    else some (s.mapVcx x (fun v => { v with run := .enc { p with aborted := true, floorActive := true } }))
  | .dec d =>
    if d.tag ≠ tag then none
    else match (s.vcx x).dec? d.ctx with | some c => some (s.decDone x c d true) | none => none
  | .idle => none

/-- A core loses power: contexts, mirrors and gangs end (R320, R337, R349). -/
def State.vcxPowerDown (s : State) (x : Nat) : State :=
  let s := (List.range 32).foldl (fun s c => s.dropCtx x c) s
  let s := s.setVcx x Vcx.empty
  let lead := vcxPartner x
  let s := if x % 2 = 1 then
      (List.range 32).foldl (fun s c =>
        match (s.vcx lead).ctx c with
        | some k =>
          if k.gang then
            let s := match (s.vcx lead).run with
              | .enc p => if p.ctx = c then s.encStop lead p vcxNoContext else s
              | .dec d => if d.ctx = c then
                  ((s.mapVcx lead (fun v => { v with run := .idle })).complete (12 + lead) d.tag vcxNoContext 0) else s
              | .idle => s
            s.dropCtx lead c
          else s
        | none => s) s
    else s
  s.vcxShow

end Sys2Proof.Machine
end

