-- ==== Sys2Proof/Machine/Domains.lean ====
section
/-!
DEFINITION. Power-down and power-up of a domain: its queues, what its units lose, its registers, its epoch and fence (R44 to
R47, R88, R92, R503, R511).
-/
namespace Sys2Proof.Machine

/-- The windows of domain `d` (R574). -/
def windowsOf (d : Nat) : List Nat := (List.range 0x5B).filter (fun w => windowDomain w == some d)

/-- The key of SNAP_0 of a window with snapshot registers. -/
def snapKey (w : Nat) : Option Nat :=
  if 0x20 ≤ w ∧ w ≤ 0x28 then some (w * 65536 + 0x100)
  else if w = 0x2C ∨ w = 0x2D ∨ w = 0x3D ∨ w = 0x04 then some (w * 65536 + 0x200)
  else if (0x40 ≤ w ∧ w ≤ 0x45) ∨ w = 0x58 ∨ w = 0x59 ∨ w = 0x10 ∨ w = 0x08 then some (w * 65536 + 0x100)
  else if w = 0x46 then some (w * 65536 + 0x400)
  else if w = 0x0C then some (w * 65536 + 0x300)
  else none

/-- Is register `k` one of its window's snapshot registers? -/
def isSnap (k : Nat) : Bool := match snapKey (k / 65536) with | some b => decide (b ≤ k ∧ k < b + 16) | none => false

/-- The registers of PD_28's windows that lie in PD_0 or are needed while PD_28 is off: link history, boot status, GPIO,
TW_4's wake settings, PMBus, the flash boundary (DESIGN CHOICE, log entry 29). -/
def keptHci (k : Nat) : Bool :=
  k == Reg.hciPcieStatus || k == Reg.hciBootStatus || k == Reg.tw4Cfg || k == Reg.hciPmbus || k == Reg.flashProt ||
  (k / 65536 == 0x03 && decide (k % 65536 < 0x100))

/-- Does register `k` keep its value when its domain powers down: snapshot registers (R501), a cell's lost count, the
memory's training results (R511)? -/
def keptOff (k : Nat) : Bool :=
  isSnap k || keptHci k || k / 65536 == 0x58 || k / 65536 == 0x59 || (decide (0x50 ≤ k / 65536 ∧ k / 65536 ≤ 0x57))

/-- Return the registers of window `w` to their reset values, but the common block and those of `keep`. -/
def State.clearRegs (s : State) (w : Nat) (keep : Nat → Bool) : State :=
  { s with regs := s.regs.filter (fun p => !(p.1 / 65536 == w && decide (p.1 % 65536 < 0xFC00)) || keep p.1) }

/-- The shadow groups with state in domain `d`. -/
def groupsOf (d : Nat) : List Nat :=
  if d = 10 then [0, 1, 4] else if d = 11 then [2, 4] else if d = 12 then [3, 4] else if d = 8 then [5] else if d = 9 then [6]
  else if d = 6 then [7] else if d = 7 then [8] else []

/-- Generator `g` loses its power: its lanes stop (R263), a locked pair is one no longer. -/
def State.genOff (s : State) (g : Nat) : State :=
  let s := if s.genRuns g then (s.lanesOf g).foldl (fun s l => (s.setWlState l 0).laneKeyLost [l]) s else s
  let s := if s.locked then [0, 1].foldl (fun s k => s.setFld (Reg.wloStatus k) 27 27 0) s else s
  (s.cmpEnd g).setGen g Gen.empty

/-- What the units of domain `d` hold beside registers and tables is lost. -/
def State.loseUnits (s : State) (d : Nat) : State :=
  let s := s.spxLosePartner d
  if 2 ≤ d ∧ d ≤ 5 then { s with ports := sset Port.empty s.ports (d - 2) Port.empty, out := s.out ++ s.pinsRest (d - 2) }
  else if d = 6 ∨ d = 7 then { s with rfes := s.rfes.filter (fun p => p.1 / 2 != d - 6), arbs := sset Arb.empty s.arbs (d - 6) Arb.empty }
  else if d = 8 ∨ d = 9 then
    { s with clrs := s.clrs.filter (fun p => p.1 / 2 != d - 8), clrIn := s.clrIn.filter (fun p => p.1 != d - 8), splits := [] }
  else if d = 10 then { s with cmpOuts := [], cmpRings := [] }
  else if d = 11 ∨ d = 12 then s.genOff (d - 11)
  else if 13 ≤ d ∧ d ≤ 16 then s.vcxPowerDown (d - 13)
  else if d = 17 then { s with lpks := [] }
  else if d = 18 then s.clsPowerDown
  else if d = 19 ∨ d = 20 then s.cellsOff d
  else if d = 21 ∨ d = 22 then (s.enterSelfRefresh (d - 21)).setStackState (d - 21) 0
  else if d = 23 then
    (((s.zero combBase 0x400_0000).setReg (Reg.wloShMap 0) 0).setReg (Reg.wloShMap 1) 0)
  else if d = 25 then
    ({ s with lanes := [], eyeScans := s.eyeScans.filter (fun e => quadDomain (e.1 / 4) != 25) }).laneKeyLost (List.range 24)
  else if d = 26 then (s.dropStreams.casOff).mapCas (fun c => { c with ring := none })
  else if d = 27 then
    let s := s.mapBcn (fun b => { b with txq := [] })
    ((List.range 4).foldl (fun s p => s.setLink p false) s).mapBcn (fun b => { b with eth := [], txq := [], filters := [], ring := none, rtp := [] })
  else if d = 28 then
    (s.mapHci (fun h => { h with tw := [], flashRun := none, staged := [], latched := [], ignoring := false })).setFld
      Reg.hciPcieStatus 31 24 0
  else s

/-- The queues whose epochs are checked against domain `d`. -/
def queuesOf (d : Nat) : List Nat := (List.range 25).filter (fun q => queueDomain q == d)

/-- Every descriptor in queue `q` and those being carried out complete, STALE while the domain is off (R47). -/
def State.drainHeads (q : Nat) : Nat → State → State
  | 0, s => s
  | f + 1, s =>
    match (s.queue q).waiting with
    | [] => s
    | d :: rest => State.drainHeads q f (s.takeHead q d rest [0, 1, 2, 3] (fun t s => s.complete q t.tag stStale 0))

def State.drainQueue (s : State) (q : Nat) : State :=
  let s := (s.queue q).taken.foldl (fun s t => if t.done.isNone then s.complete q t.tag stStale 0 else s) s
  State.drainHeads q (s.queue q).waiting.length s

/-- Domain `d` powers down: its queues first (R47), then what it holds; FGH_PD_CHANGE (R503). A stack that cannot enter
self-refresh keeps its domain powered (R422). -/
def State.powerDown (s : State) (d : Nat) : State :=
  if !s.isPowered d || domainAbsent s.variant d then s
  else if (d = 21 ∨ d = 22) ∧ s.stackState (d - 21) = 1 then s
  else
    let s := { s with doms := { s.doms with powered := s.doms.powered &&& ~~~(dbit d), fenced := s.doms.fenced &&& ~~~(dbit d) } }
    let s := (queuesOf d).foldl State.drainQueue s
    let s := s.loseUnits d
    let s := (windowsOf d).foldl (fun s w => (s.clearRegs w keptOff).clearTables w) s
    let s := if d = 11 ∨ d = 12 then s.cmpShow else s
    let s := (groupsOf d).foldl (fun s g => s.setPend g []) s
    let s := { s with stalled := s.stalled.filter (fun p => windowDomain p.1 != some d),
                      serial := s.serial.filter (fun p => quadDomain (p.1 / 4) != d) }
    s.fire 27

/-- The epoch after one (R44). -/
def nextEpoch (e : BitVec 8) : BitVec 8 := if e = 0xFF then 1 else e + 1

/-- The largest pace that loaded images declare for meter 0 of window `w` (R96, step 7). -/
def State.declared (s : State) (w : Nat) : Nat :=
  ((List.range 8).flatMap (fun n => ((s.cell n).decls.filter (fun x => x.1 == w && x.2.1 == 0)).map (·.2.2))).foldl max 0

/-- The declarations on the meters of a Hive domain stay in force when it restarts (R88). -/
def State.keepDecls (s : State) (d : Nat) : State :=
  if d = 19 ∨ d = 20 then (windowsOf d).foldl (fun s w => s.setFld (Reg.cbPaceDecl w 0) 23 0 (s.declared w)) s else s

/-- Domain `d` has powered up: fenced, under the next epoch, its common blocks at reset; a claimed one tells its owner (R44,
R45, R92, R503, R511). A stack comes back through self-refresh (R414), Comb through its initialisation (R423). -/
def State.powerUp (s : State) (d : Nat) : State :=
  if s.isPowered d || domainAbsent s.variant d then s else
  let s := { s with doms :=
    { powered := s.doms.powered ||| dbit d, fenced := s.doms.fenced ||| dbit d, rising := s.doms.rising &&& ~~~(dbit d),
      epochs := sset 0 s.doms.epochs d (nextEpoch (s.epoch d)) } }
  let s := ((windowsOf d).foldl State.clearBlock s).keepDecls d
  let s := if d = 21 ∨ d = 22 then s.setStackState (d - 21) 3
    else if d = 10 then s.cmpShow
    else if d = 23 then s.mapMem (fun m => { m with combInit := true, combPatrol := 0 })
    else s
  let s := if (s.owner d).isSome then s.fire 76 else s
  let s := s.fire 27
  if d = 19 ∨ d = 20 then s.cellsUp d else s

/-- Domain `d` begins to power up; a later command ends it (R503). -/
def State.startRise (s : State) (d : Nat) : State :=
  if s.isPowered d || domainAbsent s.variant d then s
  else { s with doms := { s.doms with rising := s.doms.rising ||| dbit d } }

/-- The domains of a mask, lowest first. -/
def domList (m : BitVec 30) : List Nat := (List.range 30).filter (fun d => m.getLsbD d)

end Sys2Proof.Machine
end

