-- ==== Sys2Proof/Machine/Flags.lean ====
section
/-!
DEFINITION. The comparisons of the Hive's instructions, which keep no flags: set-less-than and the branch conditions
(spec/02_hive.md R61, R62).
-/
namespace Sys2Proof.Machine

/-- A truth value in a register. -/
def boolWord (b : Bool) : Word := if b then 1 else 0
/-- a < b, signed and unsigned. -/
def ltS (a b : Word) : Bool := a.slt b
def ltU (a b : Word) : Bool := a.ult b
/-- a ≥ b, signed and unsigned. -/
def geS (a b : Word) : Bool := !(a.slt b)
def geU (a b : Word) : Bool := !(a.ult b)

end Sys2Proof.Machine
end

