-- ==== Sys2Proof/Machine/Operands.lean ====
section
/-!
DEFINITION. What a Hive instruction's operands stand for: immediates, the ALU's values, fields of wide registers, branch
targets, the cell's data address space, CSRs (spec/02_hive.md R55, R56, R60 to R63, R83, R85).
-/
namespace Sys2Proof.Machine

/-- sext and zext of a 16-bit immediate (R60). -/
def sext16 (i : BitVec 16) : Word := i.signExtend 32
def zext16 (i : BitVec 16) : Word := i.setWidth 32

/-- The target of a taken branch (R61). -/
def branchTarget (pc : Word) (i : BitVec 16) : Word := pc + 4 + sext16 i * 4
/-- The target of J and JAL (R61). -/
def jumpTarget (pc : Word) (o : BitVec 26) : Word := pc + 4 + o.signExtend 32 * 4

/-- A shift amount in a register (R62). -/
def shiftAmount (v : Word) : Nat := v.toNat % 32

/-- SHI (R61). -/
def shiftBy (d : ShiftDir) (v : Word) (n : Nat) : Word :=
  match d with
  | .left => v <<< n
  | .rightLogical => v >>> n
  | .rightArith => v.sshiftRight n

/-- MULHU (R62). -/
def mulHigh (a b : Word) : Word := BitVec.ofNat 32 (a.toNat * b.toNat / 2 ^ 32)
/-- DIVU (R62). -/
def divu (a b : Word) : Word := if b = 0 then 0xFFFFFFFF else BitVec.ofNat 32 (a.toNat / b.toNat)
/-- REMU (R62). -/
def remu (a b : Word) : Word := if b = 0 then a else BitVec.ofNat 32 (a.toNat % b.toNat)

/-- The mask of a field of `n` bits at `p` of a wide register. -/
def fieldMask (p n : Nat) : Quad := BitVec.ofNat 128 ((2 ^ n - 1) * 2 ^ p)
/-- WDEP: bits [p+n-1:p] become bits [n-1:0] of `v` (R61, R63). -/
def deposit (w : Quad) (p n : Nat) (v : Word) : Quad :=
  (w &&& ~~~(fieldMask p n)) ||| ((v.setWidth 128 <<< p) &&& fieldMask p n)
/-- WEXT (R61). -/
def extract (w : Quad) (p n : Nat) : Word := ((w >>> p).setWidth 32) &&& BitVec.ofNat 32 (2 ^ n - 1)

/-! The data address space of a cell (R55, R56). -/

/-- What a cell address maps to: own data memory, other memory, or registers by their key; none is an access fault. -/
inductive CellTarget where
  | mem (addr : Nat)
  | reg (key : Nat)
  | none
  deriving DecidableEq, Repr

/-- The device address of a cell address (R55, R56). -/
def cellTarget (v : Variant) (n : Nat) (base : Word) (a : Nat) : CellTarget :=
  if a < 0x4_0000 then .mem (dmemBase n + a)
  else if 0x0400_0000 ≤ a ∧ a < 0x0800_0000 then .mem (combBase + (a - 0x0400_0000))
  else if 0x0800_0000 ≤ a ∧ a < 0x0900_0000 then
    let k := a - 0x0800_0000
    if k / 65536 = 0x48 ∨ (0x50 ≤ k / 65536 ∧ k / 65536 ≤ 0x57) then .none else .reg k
  else if 0x8000_0000 ≤ a then
    let b := base.toNat % 32
    if (if v.small then 12 else 24) ≤ b then .none else .mem (b * 2 ^ 31 + (a - 0x8000_0000))
  else .none

/-- The address of a load or store (R61). -/
def cellAddress (base : Word) (i : BitVec 16) : Nat := (base + sext16 i).toNat

/-! CSRs (R83, R85). -/

/-- A number whose bit `i` is set where `p i` holds, below `n`. -/
def maskWord (n : Nat) (p : Nat → Bool) : Word := BitVec.ofNat 32 ((List.range n).foldl (fun a i => a + oneBit (p i) i) 0)
where
  oneBit (b : Bool) (i : Nat) : Nat := if b then 2 ^ i else 0

/-- The value of a CSR of cell `n`; none for an undefined one (R85). -/
def State.csrValue (s : State) (n csr : Nat) : Option Word :=
  let c := s.cell n
  if csr = 0x000 then some (BitVec.ofNat 32 n)
  else if csr = 0x001 then some c.startReason
  else if csr = 0x002 then some c.dramBase
  else if csr = 0x003 then some c.wdog
  else if csr = 0x004 then some 0
  else if csr = 0x005 then some c.framePeriod
  else if csr = 0x006 then some c.alarmTime
  else if csr = 0x007 then some (if c.alarm = .armed then 1 else 0)
  else if csr = 0x008 then some (maskWord 30 (fun d => s.owner d == some n))
  else if csr = 0x009 then some (maskWord 30 (fun d => s.owner d == some n && s.isPowered d && s.isFenced d))
  else if csr = 0x00A then some (maskWord 8 (fun k => !(s.cq (8 * n + k)).isEmpty))
  else if csr = 0x00B then some (BitVec.ofNat 32 c.inbox.length)
  else if 0x010 ≤ csr ∧ csr ≤ 0x017 then some ((c.evmask >>> (32 * (csr - 0x010))).setWidth 32)
  else if 0x018 ≤ csr ∧ csr ≤ 0x01F then some ((c.evpend >>> (32 * (csr - 0x018))).setWidth 32)
  else if csr = 0x020 then some c.icount
  else none

/-- The three operations of CSRW (R83). -/
inductive CsrOp where
  | write | set | clear
  deriving DecidableEq, Repr

def CsrOp.apply (o : CsrOp) (old v : Word) : Word :=
  match o with
  | .write => v
  | .set => old ||| v
  | .clear => old &&& ~~~v

/-- Lane `k` of 32 bits of a 256-bit set of events. -/
def putLane (m : BitVec 256) (k : Nat) (v : Word) : BitVec 256 :=
  (m &&& ~~~(BitVec.ofNat 256 (0xFFFFFFFF * 2 ^ (32 * k)))) ||| (v.setWidth 256 <<< (32 * k))

/-- The effect of a CSR write on the cell; none where the CSR is undefined or read-only (R83, R85). A W1C CSR takes every
operation as a write. -/
def CellSt.csrWrite (c : CellSt) (csr : Nat) (o : CsrOp) (v : Word) : Option CellSt :=
  if csr = 0x002 then some { c with dramBase := o.apply c.dramBase v &&& 0x1F }
  else if csr = 0x003 then some { c with wdog := o.apply c.wdog v }
  else if csr = 0x004 then some c
  else if 0x010 ≤ csr ∧ csr ≤ 0x017 then
    let k := csr - 0x010
    some { c with evmask := putLane c.evmask k (o.apply ((c.evmask >>> (32 * k)).setWidth 32) v) }
  else if 0x018 ≤ csr ∧ csr ≤ 0x01F then
    let k := csr - 0x018
    some { c with evpend := c.evpend &&& ~~~(v.setWidth 256 <<< (32 * k)) }
  else none

end Sys2Proof.Machine
end

