-- ==== Sys2Proof/Machine/Hive.lean ====
section
/-!
DEFINITION. The Hive's instructions that reach no memory, the waits of cells, mailboxes, stops and starts, the loading of
images (spec/02_hive.md R53 to R98).
-/
namespace Sys2Proof.Machine

/-! Instructions (R60 to R63). -/

/-- The 128-bit word that holds the instruction at cell `n`'s pc. -/
def State.fetchWord (s : State) (n : Nat) : Nat := (imemBase n + (s.cell n).pc.toNat) / 16

/-- The fetch of cell `n` meets the flaw of its word: a corrected one is counted in memory 0 of its window (R25, R28). -/
def State.cellFetch (s : State) (n : Nat) : State := s.meetAt (0x50 + n) 0 (s.fetchWord n) (16 * s.fetchWord n)

/-- Cell `n` carries out an instruction: only while it runs; a fetch beyond the instruction memory is an access fault (R56), one of
an uncorrectable word stops the cell (R58). -/
def State.hiveRun (s : State) (n : Nat) (f : State → State) : State :=
  if !s.cellRuns n then s
  else if imemSize ≤ (s.cell n).pc.toNat then s.cellFault n 0x03
  else if s.badWord (s.fetchWord n) then (s.cellFetch n).cellFault n 0x08
  else f (s.cellFetch n)

/-- An instruction that writes g[rd] from the cell's own registers. -/
def State.hiveG (s : State) (n rd : Nat) (v : CellSt → Word) : State :=
  s.hiveRun n (fun s => s.mapCell n (fun c => (c.putG rd (v c)).retire))

/-- An ALU instruction (R62). -/
def State.hiveAlu (s : State) (n rd rs rt : Nat) (op : Word → Word → Word) : State :=
  s.hiveG n rd (fun c => op (c.getG rs) (c.getG rt))

/-- A branch (R61). -/
def State.hiveBranch (s : State) (n rd rs : Nat) (imm : BitVec 16) (cond : Word → Word → Bool) : State :=
  s.hiveRun n (fun s => s.mapCell n (fun c =>
    if cond (c.getG rd) (c.getG rs) then c.goto (branchTarget c.pc imm) else c.retire))

def doAdd (n rd rs rt : Nat) (s : State) : State := s.hiveAlu n rd rs rt (· + ·)
def doSub (n rd rs rt : Nat) (s : State) : State := s.hiveAlu n rd rs rt (· - ·)
def doAnd (n rd rs rt : Nat) (s : State) : State := s.hiveAlu n rd rs rt (· &&& ·)
def doOr (n rd rs rt : Nat) (s : State) : State := s.hiveAlu n rd rs rt (· ||| ·)
def doXor (n rd rs rt : Nat) (s : State) : State := s.hiveAlu n rd rs rt (· ^^^ ·)
def doNor (n rd rs rt : Nat) (s : State) : State := s.hiveAlu n rd rs rt (fun a b => ~~~(a ||| b))
def doSll (n rd rs rt : Nat) (s : State) : State := s.hiveAlu n rd rs rt (fun a b => a <<< shiftAmount b)
def doSrl (n rd rs rt : Nat) (s : State) : State := s.hiveAlu n rd rs rt (fun a b => a >>> shiftAmount b)
def doSra (n rd rs rt : Nat) (s : State) : State := s.hiveAlu n rd rs rt (fun a b => a.sshiftRight (shiftAmount b))
def doSlt (n rd rs rt : Nat) (s : State) : State := s.hiveAlu n rd rs rt (fun a b => boolWord (ltS a b))
def doSltu (n rd rs rt : Nat) (s : State) : State := s.hiveAlu n rd rs rt (fun a b => boolWord (ltU a b))
def doMul (n rd rs rt : Nat) (s : State) : State := s.hiveAlu n rd rs rt (· * ·)
def doMulhu (n rd rs rt : Nat) (s : State) : State := s.hiveAlu n rd rs rt mulHigh
def doDivu (n rd rs rt : Nat) (s : State) : State := s.hiveAlu n rd rs rt divu
def doRemu (n rd rs rt : Nat) (s : State) : State := s.hiveAlu n rd rs rt remu
def doAddi (n rd rs : Nat) (i : BitVec 16) (s : State) : State := s.hiveG n rd (fun c => c.getG rs + sext16 i)
def doAndi (n rd rs : Nat) (i : BitVec 16) (s : State) : State := s.hiveG n rd (fun c => c.getG rs &&& zext16 i)
def doOri (n rd rs : Nat) (i : BitVec 16) (s : State) : State := s.hiveG n rd (fun c => c.getG rs ||| zext16 i)
def doXori (n rd rs : Nat) (i : BitVec 16) (s : State) : State := s.hiveG n rd (fun c => c.getG rs ^^^ zext16 i)
def doSlti (n rd rs : Nat) (i : BitVec 16) (s : State) : State := s.hiveG n rd (fun c => boolWord (ltS (c.getG rs) (sext16 i)))
def doSltiu (n rd rs : Nat) (i : BitVec 16) (s : State) : State := s.hiveG n rd (fun c => boolWord (ltU (c.getG rs) (sext16 i)))
def doShi (n rd rs : Nat) (d : ShiftDir) (a : Nat) (s : State) : State := s.hiveG n rd (fun c => shiftBy d (c.getG rs) a)
def doLui (n rd : Nat) (i : BitVec 16) (s : State) : State := s.hiveG n rd (fun _ => zext16 i <<< 16)
def doBeq (n rd rs : Nat) (i : BitVec 16) (s : State) : State := s.hiveBranch n rd rs i (fun a b => decide (a = b))
def doBne (n rd rs : Nat) (i : BitVec 16) (s : State) : State := s.hiveBranch n rd rs i (fun a b => !decide (a = b))
def doBlt (n rd rs : Nat) (i : BitVec 16) (s : State) : State := s.hiveBranch n rd rs i ltS
def doBge (n rd rs : Nat) (i : BitVec 16) (s : State) : State := s.hiveBranch n rd rs i geS
def doBltu (n rd rs : Nat) (i : BitVec 16) (s : State) : State := s.hiveBranch n rd rs i ltU
def doBgeu (n rd rs : Nat) (i : BitVec 16) (s : State) : State := s.hiveBranch n rd rs i geU

/-- J (R61). -/
def doJ (n : Nat) (o : BitVec 26) (s : State) : State :=
  s.hiveRun n (fun s => s.mapCell n (fun c => c.goto (jumpTarget c.pc o)))
/-- JAL (R59, R61). -/
def doJal (n : Nat) (o : BitVec 26) (s : State) : State :=
  s.hiveRun n (fun s => s.mapCell n (fun c => (c.putG 31 (c.pc + 4)).goto (jumpTarget c.pc o)))
/-- JALR: a target that is not aligned is a misalignment fault (R61). -/
def doJalr (n rd rs : Nat) (s : State) : State :=
  s.hiveRun n (fun s =>
    let t := (s.cell n).getG rs
    if t.toNat % 4 ≠ 0 then s.cellFault n 0x02
    else s.mapCell n (fun c => (c.putG rd (c.pc + 4)).goto t))

/-- WDEP (R61, R63). -/
def doWdep (n rd rs pos lenM1 : Nat) (s : State) : State :=
  s.hiveRun n (fun s =>
    if 128 < pos + lenM1 + 1 then s.cellFault n 0x01
    else s.mapCell n (fun c => (c.putW rd (deposit (c.getW rd) pos (lenM1 + 1) (c.getG rs))).retire))
/-- WEXT (R61, R63). -/
def doWext (n rd rs pos lenM1 : Nat) (s : State) : State :=
  s.hiveRun n (fun s =>
    if 128 < pos + lenM1 + 1 then s.cellFault n 0x01
    else s.mapCell n (fun c => (c.putG rd (extract (c.getW rs) pos (lenM1 + 1))).retire))
/-- WMOV (R61). -/
def doWmov (n rd rs : Nat) (clear : Bool) (s : State) : State :=
  s.hiveRun n (fun s => s.mapCell n (fun c => (c.putW rd (if clear then 0 else c.getW rs)).retire))

/-! Faults of a cell (R53, R58, R61, R86). -/

/-- LOCKSTEP_MISMATCH (R53). -/
def doLockstepMismatch (n : Nat) (s : State) : State :=
  if (s.cell n).live && s.isPowered (cellDomain n) then s.cellFault n 0x06 else s
/-- ILLEGAL_INSTRUCTION (R60, R61). -/
def doIllegalInstruction (n : Nat) (s : State) : State := s.hiveRun n (fun s => s.cellFault n 0x01)
/-- INSTRUCTION_FETCH_UNCORRECTABLE (R26, R58). -/
def doInstructionFetchUncorrectable (n : Nat) (s : State) : State :=
  s.hiveRun n (fun s =>
    ((s.eccUncorrectable (0x50 + n) 0 1).report (0x50 + n) 0 0x02 (imemBase n + (s.cell n).pc.toNat / 16 * 16)).cellFault n 0x08)
/-- CELL_WATCHDOG_EXPIRY (R86). -/
def doCellWatchdogExpiry (n : Nat) (s : State) : State :=
  if (s.cell n).live && (s.cell n).wdog != 0 && s.isPowered (cellDomain n) then s.cellFault n 0x07 else s
/-- STOP (R84). -/
def doStop (n imm : Nat) (s : State) : State := s.hiveRun n (fun s => (s.halt n 4 0 imm).fire 73)

/-! Posting and taking (R64 to R67). -/

/-- Cell `n` posts a descriptor: it enters whole, or the cell waits for room. -/
def State.postWords (s : State) (n q : Nat) (words : List Quad) (flt : DescFault) : State :=
  if s.hasRoom q words.length then (s.mapCell n CellSt.retire).enter q n words flt
  else s.cellWaits n 3 (.post q words flt)

/-- POST (R64, R66). -/
def doPost (n rd q : Nat) (flt : DescFault) (s : State) : State :=
  s.hiveRun n (fun s =>
    let c := s.cell n
    let len := w0Len (c.getW rd)
    if 7 < rd + len then s.cellFault n 0x05
    else s.postWords n q ((List.range (len + 1)).map (fun i => c.getW (rd + i))) flt)

/-- POST_QUEUE_ROOM (R66). -/
def doPostQueueRoom (n : Nat) (s : State) : State :=
  match (s.cell n).wait with
  | .post q words flt => if s.hasRoom q words.length then (s.cellGoes n id).enter q n words flt else s
  | _ => s

/-- TAKE (R34, R40, R67). -/
def doTake (n rd rs q : Nat) (s : State) : State :=
  s.hiveRun n (fun s =>
    if q / 8 ≠ n then s.cellFault n 0x04
    else
    let s := s.meetUnit (0x50 + n) (2 + q % 8)
    match s.cq q with
      | [] => s.mapCell n (fun c => ((c.putW rd 0).putG rs 0).retire)
      | i :: rest =>
        ((s.setCq q rest).endItemTag i).mapCell n
          (fun c => ((c.putW rd i.word).putG rs (BitVec.ofNat 32 (itemStatus i.word))).retire))

/-! Events and time (R68 to R72). -/

/-- The lowest event that is pending and admitted. -/
def CellSt.hit (c : CellSt) : Option Nat := (List.range 256).find? (fun e => (c.evpend &&& c.evmask).getLsbD e)

/-- The cell returns event `e` to g[rd]. -/
def CellSt.takeEvent (c : CellSt) (rd e : Nat) : CellSt :=
  { c with evpend := c.evpend &&& ~~~(BitVec.ofNat 256 (2 ^ e)) }.putG rd (BitVec.ofNat 32 e)

/-- WAIT (R68). -/
def doWait (n rd rs : Nat) (s : State) : State :=
  s.hiveRun n (fun s =>
    match (s.cell n).hit with
    | some e => s.mapCell n (fun c => (c.takeEvent rd e).retire)
    | none => s.cellWaits n 3 (.event rd ((s.cell n).getG rs != 0)))

/-- WAIT_EVENT (R68). -/
def doWaitEvent (n : Nat) (s : State) : State :=
  match (s.cell n).wait, (s.cell n).hit with
  | .event rd _, some e => s.cellGoes n (fun c => c.takeEvent rd e)
  | _, _ => s

/-- WAIT_TIMEOUT (R68): an event that is pending when the timeout expires wins. -/
def doWaitTimeout (n : Nat) (s : State) : State :=
  match (s.cell n).wait, (s.cell n).hit with
  | .event rd true, some e => s.cellGoes n (fun c => c.takeEvent rd e)
  | .event rd true, none => s.cellGoes n (fun c => c.putG rd 0xFFFFFFFF)
  | _, _ => s

/-- Arm the alarm of cell `n`; a time already reached fires it at once (R71). -/
def State.armAlarm (s : State) (n : Nat) (t : Word) : State × Nat :=
  let s := s.mapCell n (fun c => { c with alarm := .armed, alarmTime := t })
  if reached s.bcn.ns t then (s.alarmAct n, 1) else (s, 0)

/-- Does cell `n` claim target `k`: its own alarm, or a trigger of its image (R71)? -/
def State.claims (s : State) (n k : Nat) : Bool := k == 16 || (s.cell n).trigClaims.getLsbD k

/-- ARM (R71). -/
def doArm (n rd rs k : Nat) (s : State) : State :=
  s.hiveRun n (fun s =>
    if !s.claims n k then s.cellFault n 0x03
    else
      let t := (s.cell n).getG rs
      let r := if k = 16 then s.armAlarm n t else s.armTrig k t
      r.1.mapCell n (fun c => (c.putG rd (BitVec.ofNat 32 r.2)).retire))

/-- DISARM (R71). -/
def doDisarm (n rd _rs k : Nat) (s : State) : State :=
  s.hiveRun n (fun s =>
    if !s.claims n k then s.cellFault n 0x03
    else
      let r := if k = 16 then (s.mapCell n (fun c => { c with alarm := .idle }), disarmResult (s.cell n).alarm) else s.disarmTrig k
      r.1.mapCell n (fun c => (c.putG rd (BitVec.ofNat 32 r.2)).retire))

/-- CELL_ALARM_FIRE (R72). -/
def doCellAlarmFire (n : Nat) (s : State) : State :=
  let c := s.cell n
  if c.alarm == .armed && reached s.bcn.ns c.alarmTime && s.isPowered (cellDomain n) then s.alarmAct n else s

/-- TIME (R70). -/
def doTime (n rd : Nat) (s : State) : State := s.hiveG n rd (fun _ => s.bcn.ns)

/-! Commits and snapshots (R73 to R78). -/

/-- COMMIT writes its status to g[rt] and its frame to g[rd]. -/
def State.commitEnds (s : State) (n rd rt st frame : Nat) : State :=
  s.mapCell n (fun c => ((c.putG rt (BitVec.ofNat 32 st)).putG rd (BitVec.ofNat 32 frame)).retire)

/-- COMMIT (R74 to R76). -/
def doCommit (n rd rt g : Nat) (s : State) : State :=
  s.hiveRun n (fun s => let r := s.commitLocal g; r.1.commitEnds n rd rt r.2.1 r.2.2)

/-- Does the requester refuse a swarm commit for frame `f` at once: its latch point comes too soon, or the ring cannot be
asked (R456, step 1)? A generator that does not run has no latch point and is left to the vote. -/
def State.commitTooLate (s : State) (g f : Nat) : Bool :=
  (s.cas.enable && (!s.casAssigned || (!s.holdsRole && s.cas.waggleTerm.isNone))) ||
  (groupGens g).any (fun x => s.genRuns x && decide (s.groupLatch g x f < (((s.now + 2 * s.lead) * 65536 : Nat) : Int)))

/-- The request goes to the role holder (R456). -/
def State.askCommit (s : State) (g f : Nat) : State :=
  if s.holdsRole then s.takeRequest ⟨s.casPos, g, f, s.now⟩
  else
    s.originate 1 ((s.cas.waggleTerm.map (·.2)).getD 0) false false
      (leBytes 1 g ++ leBytes 3 0 ++ leBytes 4 f ++ leBytes 8 s.now)

/-- SWARM_COMMIT (R74, R77, R456). -/
def doSwarmCommit (n rd rs rt g : Nat) (s : State) : State :=
  s.hiveRun n (fun s =>
    let f := ((s.cell n).getG rs).toNat
    if groupReserved g then s.commitEnds n rd rt 0x11 0
    else if groupAbsent s.variant g then s.commitEnds n rd rt 0x02 0
    else if !groupSwarm g then s.commitEnds n rd rt 0x11 0
    else if g = 4 ∧ !s.locked then s.commitEnds n rd rt 0x10 0
    else if s.commitTooLate g f then s.commitEnds n rd rt 0x0D 0
    else (s.cellWaits n 2 (.swarm rd rt g f)).askCommit g f)

/-- SNAP (R78, R501). -/
def doSnap (n rd : Nat) (s : State) : State :=
  s.hiveRun n (fun s =>
    let s := s.latchSnap 0 s.casPos
    s.mapCell n (fun c => (c.putG rd (s.reg Reg.fghSnapSeq)).retire))

/-- SWARM_SNAP (R78, R458): the sequence that the snapshot will carry, if no local one comes between (DEDUCED, log entry 28); bit 31
when the time is later than asked. -/
def doSwarmSnap (n rd rs : Nat) (s : State) : State :=
  s.hiveRun n (fun s =>
    let t := extendNear s.now ((s.cell n).getG rs)
    let r := s.askSwarmSnap t
    let s := r.1
    let ahead := (s.cas.snaps.filter (fun u => decide (u.1 / 1000 ≤ r.2 / 1000))).length
    let seq := ((s.reg Reg.fghSnapSeq).toNat + ahead) % 2 ^ 31
    s.mapCell n (fun c => (c.putG rd (BitVec.ofNat 32 (seq + (if t < r.2 then 2 ^ 31 else 0)))).retire))

/-! Ordering and coordination (R79, R80). -/

/-- FENCE (R79): stores are visible at once in the model, so only imm[1] waits. -/
def doFence (n _rd _rs kinds : Nat) (s : State) : State :=
  s.hiveRun n (fun s =>
    if kinds / 2 = 1 ∧ !s.cellDrained n then s.cellWaits n 2 .fence else s.mapCell n CellSt.retire)

/-- FENCE_RELEASE (R79). -/
def doFenceRelease (n : Nat) (s : State) : State :=
  if (s.cell n).wait == .fence && s.cellDrained n then s.cellGoes n id else s

/-- BAR (R80). -/
def doBar (n rd rs b : Nat) (mask : BitVec 8) (s : State) : State :=
  s.hiveRun n (fun s =>
    let x := s.barrier b
    if !mask.getLsbD n then s.cellFault n 0x01
    else if !x.arrived.isEmpty && x.mask != mask then s.cellFaultApart n b 0x0A
    else
      let arrived := x.arrived ++ [n]
      let s := (s.cellWaits n 3 (.bar b rd ((s.cell n).getG rs != 0))).setBarrier b ⟨mask, arrived⟩
      if (List.range 8).all (fun c => !mask.getLsbD c || arrived.contains c) then s.barLeave b 0 else s)

/-- BAR_TIMEOUT (R80). -/
def doBarTimeout (n : Nat) (s : State) : State :=
  match (s.cell n).wait with
  | .bar _ rd true => ((s.barForget n).cellGoes n (fun c => c.putG rd 1)).fire 78
  | _ => s

/-! Mailboxes (R81, R82, R94). -/

/-- A message from `sender` in the form a mailbox holds it. -/
def withSender (m : Quad) (sender : Nat) : Quad := BitVec.ofNat 128 (m.toNat % 2 ^ 124 + sender * 2 ^ 124)

/-- A message enters cell `n`'s mailbox; none when it is full, or when its domain is off. -/
def State.mailCell (s : State) (n : Nat) (m : Quad) : Option State :=
  if !s.isPowered (cellDomain n) || decide (Config.mailboxDepth ≤ (s.cell n).inbox.length) then none
  else some ((s.mapCell n (fun c => { c with inbox := c.inbox ++ [m] })).fire (64 + n))

/-- A message enters the host mailbox. -/
def State.mailHost (s : State) (m : Quad) : Option State :=
  if Config.mailboxDepth ≤ s.hive.hostBox.length then none
  else some (({ s with hive := { s.hive with hostBox := s.hive.hostBox ++ [m] } }).fire 72)

/-- MBOX_SEND (R81). -/
def doMboxSend (n rd rs dest : Nat) (s : State) : State :=
  s.hiveRun n (fun s =>
    let m := withSender ((s.cell n).getW rd) n
    match (if dest = 8 then s.mailHost m else s.mailCell dest m) with
    | some s => s.mapCell n (fun c => (c.putG rs 0).retire)
    | none => s.mapCell n (fun c => (c.putG rs 1).retire))

/-- MBOX_RECEIVE (R81). -/
def doMboxReceive (n rd rs _sel : Nat) (s : State) : State :=
  s.hiveRun n (fun s => (s.meetUnit (0x50 + n) 10).mapCell n (fun c =>
    match c.inbox with
    | m :: rest => (({ c with inbox := rest }.putW rd m).putG rs 1).retire
    | [] => ((c.putW rd 0).putG rs 0).retire))

/-- H2C_SEND (R94): a write of HIV_H2C_n_SEND. -/
def doH2cSend (m : Master) (n : Nat) (_v : Word) (s : State) : State :=
  s.gateWrite m (Reg.hivH2cSend n) (fun s =>
    let w := (List.range 4).foldl (fun a i => a + (s.reg (Reg.hivH2cData n i)).toNat * 2 ^ (32 * i)) 0
    match s.mailCell n (withSender (BitVec.ofNat 128 w) 8) with
    | some s => s
    | none => s.setFld (Reg.hivH2cStatus n) 31 31 1)

/-- C2H_POP (R94). -/
def doC2hPop (m : Master) (_v : Word) (s : State) : State :=
  s.gateWrite m Reg.hivC2hPop (fun s => { s with hive := { s.hive with hostBox := s.hive.hostBox.drop 1 } })

/-! CSRs (R83, R85). -/

/-- CSRR. -/
def doCsrr (n rd csr : Nat) (s : State) : State :=
  s.hiveRun n (fun s =>
    match s.csrValue n csr with
    | some v => s.mapCell n (fun c => (c.putG rd v).retire)
    | none => s.cellFault n 0x0C)

/-- CSRW: an undefined or read-only CSR stops the cell. -/
def State.csrw (s : State) (n rs csr : Nat) (o : CsrOp) : State :=
  s.hiveRun n (fun s =>
    match (s.cell n).csrWrite csr o ((s.cell n).getG rs) with
    | some c => s.setCell n c.retire
    | none => s.cellFault n 0x0C)

def doCsrwWrite (n rs csr : Nat) (s : State) : State := s.csrw n rs csr .write
def doCsrwSet (n rs csr : Nat) (s : State) : State := s.csrw n rs csr .set
def doCsrwClear (n rs csr : Nat) (s : State) : State := s.csrw n rs csr .clear

/-! Images (R95 to R99). -/

/-- What the header of an image says. -/
structure ImgHead where
  decls : Nat
  length : Nat
  version : Nat
  cell : Nat
  frame : Bool
  auto : Bool
  trigs : Nat
  doms : Nat
  entry : Nat
  code : Nat
  data : Nat
  dataAt : Nat
  period : Nat
  build : Nat
  deriving DecidableEq, Repr

/-- A number in an image. -/
def imgNum (b : List Byte) (i n : Nat) : Nat := ofLe ((b.drop i).take n)

/-- The header in the first bytes of an image. -/
def readHead (b : List Byte) : ImgHead :=
  { decls := imgNum b 0x06 2, length := imgNum b 0x08 4, version := imgNum b 0x0C 4, cell := imgNum b 0x10 1,
    frame := (imgNum b 0x11 1).testBit 0, auto := (imgNum b 0x11 1).testBit 1, trigs := imgNum b 0x12 2, doms := imgNum b 0x14 4,
    entry := imgNum b 0x18 4, code := imgNum b 0x1C 4, data := imgNum b 0x20 4, dataAt := imgNum b 0x24 4,
    period := imgNum b 0x28 4, build := imgNum b 0x30 16 }

/-- The pace declarations of an image: window, meter, pace (R95). -/
def readDecls (b : List Byte) (n : Nat) : List (Nat × Nat × Nat) :=
  (List.range n).map (fun i => (imgNum b (0x40 + 8 * i) 1, imgNum b (0x41 + 8 * i) 1, imgNum b (0x44 + 8 * i) 4))

/-- Are the declarations well formed (R95)? -/
def declsOk (b : List Byte) (n : Nat) : Bool :=
  (List.range n).all (fun i =>
    decide (imgNum b (0x41 + 8 * i) 1 ≤ 15) && imgNum b (0x42 + 8 * i) 2 == 0 && decide (imgNum b (0x44 + 8 * i) 4 ≤ 0xFFFFFF))

/-- The status of step 2 of R96: 0 when every check passes. More than 32 declarations are a wrong length, a malformed declaration a
wrong header (DESIGN CHOICE, log entry 47). -/
def State.checkHead (s : State) (src : Nat) : Nat :=
  if src % 16 ≠ 0 ∨ !inDramComb s.variant src 0x40 then 0x27
  else
    let b := s.bytes src 0x40
    let h := readHead b
    if imgNum b 0 4 ≠ 0x4851564E ∨ imgNum b 4 2 ≠ 1 ∨ 7 < h.cell ∨ 4 ≤ imgNum b 0x11 1 ∨ imgNum b 0x2C 4 ≠ 0 ∨
      (!h.frame ∧ h.period ≠ 0) then 0x20
    else if h.code % 16 ≠ 0 ∨ h.code < 16 ∨ imemSize < h.code ∨ h.data % 16 ≠ 0 ∨ h.dataAt % 16 ≠ 0 ∨
      dmemSize < h.dataAt + h.data ∨ h.entry % 4 ≠ 0 ∨ h.code ≤ h.entry ∨ 32 < h.decls ∨
      h.length ≠ 0x40 + 8 * h.decls + h.code + h.data + 100 ∨ 400 * 1024 < h.length then 0x21
    else if !inDramComb s.variant src h.length then 0x27
    else if !declsOk (s.bytes src (0x40 + 8 * h.decls)) h.decls then 0x20
    else if (List.range 32).any (fun d => h.doms.testBit d && !claimable d) ||
      (List.range 8).any (fun n => n != h.cell &&
        ((s.cell n).domClaims.toNat &&& h.doms != 0 || (s.cell n).trigClaims.toNat &&& h.trigs != 0)) then 0x25
    else 0

def State.mapLoader (s : State) (f : Loader → Loader) : State :=
  { s with hive := { s.hive with loader := f s.hive.loader } }

/-- PACE_DECL of every meter: the largest declaration of the loaded images (R96 step 7, R98). A declaration that rises from
zero starts the meter's participation anew (R17). -/
def State.redeclare (s : State) : State :=
  ((List.range 0x5B).filter (fun w => hasMeter w 0)).foldl (fun s w =>
    let d := s.declared w
    let was := s.fld (Reg.cbPaceDecl w 0) 23 0
    let s := if was = 0 ∧ d ≠ 0 then s.setMeter w 0 { s.meter w 0 with reported := false, early := true } else s
    s.setFld (Reg.cbPaceDecl w 0) 23 0 d) s

/-- A cell stops for a load or an unload (R96, step 3): completions that find its queues full are discarded (R43). The stop fires no
event 73 (DESIGN CHOICE, log entry 47). -/
def State.stopForLoad (s : State) (n : Nat) : State :=
  let s := if (s.cell n).live then s.halt n (s.cell n).restState 0 0 else s
  let s := s.mapCell n (fun c => { c with loadStop := true })
  queueKeys.foldl (fun s q => if s.blocked q then (s.settleQueue q).settleHead q else s) s

/-- Step 4 of R96: claims and declarations are withdrawn, completion queues, mailbox, pending bits and masks cleared. -/
def State.withdraw (s : State) (n : Nat) : State :=
  let s := s.clearCqs n
  let s := s.mapCell n (fun c =>
    { c with trigClaims := 0, domClaims := 0, decls := [], inbox := [], evpend := 0, evmask := 0, loadStop := false })
  s.redeclare

/-- Both memories of a cell are zeroed and it holds no image (R97, R98). -/
def State.wipeCell (s : State) (n : Nat) : State :=
  let s := (s.zero (imemBase n) imemSize).zero (dmemBase n) dmemSize
  s.mapCell n (fun c => { c with state := 0, cause := 0, exitCode := 0, image := false, entry := 0, build := 0, framePeriod := 0 })

/-- A load ends (R96 step 8, R97): HIV_LOAD_STATUS, event 75; boot goes on when the load was its own, and an unload that waited for
its end stops the cell. -/
def State.loadEnds (s : State) (st : Nat) : State :=
  let l := s.hive.loader
  let s := s.mapLoader (fun _ => ⟨.idle, 0, 0, [], false⟩)
  let s := ((s.setFld Reg.hivLoadStatus 31 31 0).setFld Reg.hivLoadStatus 23 16 st).fire 75
  let s := if l.boot then s.bootEntryDone (st == 0x01) else s
  let s := if s.hive.unloads.contains l.cell then s.stopForLoad l.cell else s
  s.kprNext

/-- Steps 2 and 3 of R96: the header is read and checked once its source answers, and the target cell stops. -/
def State.readHeader (s : State) : State :=
  let src := s.hive.loader.src
  if src % 16 = 0 ∧ inDramComb s.variant src 0x40 ∧ !s.rangeThere src 0x40 then s else
  let s := if inDramComb s.variant src 0x40 then s.meet src 0x40 else s
  let s := if inDramComb s.variant src 0x40 then s.setFld Reg.hivLoadStatus 2 0 (imgNum (s.bytes src 0x40) 0x10 1) else s
  let st := s.checkHead src
  if st ≠ 0 then s.loadEnds st
  else
    let n := (readHead (s.bytes src 0x40)).cell
    (s.mapLoader (fun l => { l with step := .draining, cell := n })).stopForLoad n

/-- A load begins (R96, steps 1 to 3): a boot load writes HIV_LOAD_SRC as the host does. -/
def State.beginLoad (s : State) (src : Nat) (boot : Bool) : State :=
  let s := if boot then (s.setFld Reg.hivLoadSrcLo 31 4 (src / 16)).setFld Reg.hivLoadSrcHi 15 0 (src / 2 ^ 32) else s
  let s := s.setFld Reg.hivLoadStatus 31 31 1
  (s.mapLoader (fun _ => ⟨.reading, 8, src, [], boot⟩)).readHeader

/-- IMAGE_LOAD_START (R96, R98): a start while a load is busy is ignored. -/
def doImageLoadStart (m : Master) (v : Word) (s : State) : State :=
  s.gateWrite m Reg.hivLoadCtrl (fun s =>
    if bitsOf v 31 31 = 0 ∨ s.hive.loader.step ≠ .idle then s
    else s.beginLoad (s.fld Reg.hivLoadSrcLo 31 4 * 16 + s.fld Reg.hivLoadSrcHi 15 0 * 2 ^ 32) false)

/-- An unload whose cell is drained ends (R98). -/
def State.unloadEnds (s : State) (n : Nat) : State :=
  ((({ s with hive := { s.hive with unloads := s.hive.unloads.filter (· != n) } }).withdraw n).wipeCell n)

/-- Is cell `n` the target of the load in progress? -/
def State.loads (s : State) (n : Nat) : Bool := s.hive.loader.step != .idle && s.hive.loader.cell == n

/-- IMAGE_LOAD_DRAINED (R96, steps 3 and 4); a load whose source did not answer reads its header first, and an unload of the cell
that a load is replacing waits for that load's end (DESIGN CHOICE, log entry 47). -/
def doImageLoadDrained (s : State) : State :=
  let s := (s.hive.unloads.filter (fun n => !s.loads n && s.cellDrained n)).foldl State.unloadEnds s
  let s := if s.hive.loader.step = .reading then s.readHeader else s
  let l := s.hive.loader
  if l.step == .draining && s.cellDrained l.cell then (s.withdraw l.cell).mapLoader (fun l => { l with step := .copying }) else s

/-- IMAGE_LOAD_BUSY_TAGS (R97): the load, or the unload, stops at step 3. -/
def doImageLoadBusyTags (s : State) : State :=
  let l := s.hive.loader
  let s := (s.hive.unloads.filter (fun n => !s.loads n && !s.cellDrained n)).foldl (fun s n =>
    ({ s with hive := { s.hive with unloads := s.hive.unloads.filter (· != n) } }).mapCell n (fun c => { c with loadStop := false })) s
  if l.step == .draining && !s.cellDrained l.cell then (s.mapCell l.cell (fun c => { c with loadStop := false })).loadEnds 0x26 else s

/-- IMAGE_LOAD_COPY_DONE (R96, step 5): the image is read once and written through the load path; memory beyond it is zeroed.
An image with poisoned words, or whose header no longer passes step 2, is kept as no image at all (DESIGN CHOICE, log entry 39). While
Keeper runs no firmware, or the source does not answer, the load waits here (DESIGN CHOICE, log entry 47). -/
def doImageLoadCopyDone (s : State) : State :=
  let l := s.hive.loader
  if l.step != .copying || !(s.kprState == 2 || s.kprState == 3) || !s.rangeThere l.src 0x40 then s else
  let h := readHead (s.bytes l.src 0x40)
  if inDramComb s.variant l.src h.length ∧ !s.rangeThere l.src h.length then s else
  let s := if inDramComb s.variant l.src h.length then s.meet l.src h.length else s
  let bad := s.poisonedAt l.src h.length || s.checkHead l.src != 0 || h.cell != l.cell
  let img := s.bytes l.src h.length
  let at_ := 0x40 + 8 * h.decls
  let s := (s.zero (imemBase l.cell) imemSize).zero (dmemBase l.cell) dmemSize
  let s := if bad then s else
    (s.store (imemBase l.cell) ((img.drop at_).take h.code)).store (dmemBase l.cell + h.dataAt)
      ((img.drop (at_ + h.code)).take h.data)
  s.mapLoader (fun l => { l with step := .verifying, image := if bad then [] else img })

/-- The status of step 6 of R96: slot and usage, floor, signature, in this order. Lifecycle RETIRED and bytes of the signature block
that are not zero both end with BAD_SIGNATURE (DESIGN CHOICE, log entry 47). -/
def State.verifyImage (s : State) (img : List Byte) : Nat :=
  let h := readHead img
  let sig := img.drop (h.length - 100)
  let slot := imgNum sig 0 1
  if s.kprState ≠ 2 ∨ s.lifecycle = 3 ∨ img.isEmpty then 0x22
  else if !(decide (slot < 8) && s.slotHas slot 0) then 0x23
  else if h.version < sget 0 s.kpr.floors slot then 0x24
  else if imgNum sig 1 3 ≠ 0 then 0x22
  else match sget none s.kpr.slots slot with
    | some k => if Config.ecdsaOk k.pub (img.take (h.length - 100)) (sig.drop 4) then 0 else 0x22
    | none => 0x23

/-- IMAGE_LOAD_VERIFIED (R96, steps 6 to 8; R97). -/
def doImageLoadVerified (s : State) : State :=
  let l := s.hive.loader
  if l.step != .verifying then s else
  let st := s.verifyImage l.image
  if st ≠ 0 then ((s.wipeCell l.cell).fire 44).loadEnds st
  else
    let h := readHead l.image
    let slot := imgNum (l.image.drop (h.length - 100)) 0 1
    let s := s.mapKpr (fun k => { k with highest := sset 0 k.highest slot (max h.version (sget 0 k.highest slot)) })
    let s := s.mapCell l.cell (fun c =>
      { c with state := 1, image := true, entry := h.entry, build := BitVec.ofNat 128 h.build, trigClaims := BitVec.ofNat 16 h.trigs,
               domClaims := BitVec.ofNat 32 h.doms, decls := readDecls l.image h.decls, hostStopped := false,
               framePeriod := BitVec.ofNat 32 (if h.frame then h.period else 0) })
    let s := s.mapCell l.cell (fun c => { c with wdog := c.wdogInit })
    let s := s.redeclare
    let s := if h.auto && s.isPowered (cellDomain l.cell) then s.startCell l.cell 0 else s
    s.loadEnds 0x01

/-! The control register of a cell (R87, R98). -/

/-- A write of HIV_CELL_n_CTRL: stop and start together are ignored; unload goes before either, and waits for the end of a load of the
same cell (DESIGN CHOICE, log entry 47). -/
def State.cellCtrlWrite (s : State) (m : Master) (n : Nat) (v : Word) : State :=
  s.gateWrite m (Reg.hivCellCtrl n) (fun s =>
    let stop := bitsOf v 31 31 = 1
    let start := bitsOf v 30 30 = 1
    let c := s.cell n
    let mine := s.loads n || s.hive.unloads.contains n
    if stop ∧ start then s
    else if bitsOf v 29 29 = 1 then
      if s.hive.unloads.contains n then s
      else if s.loads n then { s with hive := { s.hive with unloads := s.hive.unloads ++ [n] } }
      else
        let s := s.stopForLoad n
        if s.cellDrained n then s.unloadEnds n
        else { s with hive := { s.hive with unloads := s.hive.unloads ++ [n] } }
    else if stop then
      if c.live then (s.halt n c.restState 0 0).mapCell n (fun c => { c with hostStopped := true }) else s
    else if start ∧ c.image ∧ !c.live ∧ !mine ∧ s.isPowered (cellDomain n) then s.startCell n 0
    else s)

/-- CELL_STOP_REQUEST (R87). -/
def doCellStopRequest (m : Master) (n : Nat) (v : Word) (s : State) : State := s.cellCtrlWrite m n v
/-- CELL_START (R87). -/
def doCellStart (m : Master) (n : Nat) (v : Word) (s : State) : State := s.cellCtrlWrite m n v
/-- CELL_UNLOAD (R98). -/
def doCellUnload (m : Master) (n : Nat) (v : Word) (s : State) : State := s.cellCtrlWrite m n v

end Sys2Proof.Machine
end

