-- ==== Sys2Proof/Machine/Kpr.lean ====
section
/-!
DEFINITION. Keeper's commands (spec/15_security.md R524 to R551). The layouts of parameters and data that the spec names
without places are those of log entry 27 (DESIGN CHOICE).
-/
namespace Sys2Proof.Machine

/-! Requests (R546). -/

/-- KPR_CMD (R546). -/
def doKprCmd (s : State) : State :=
  s.takeWhen 24 0x10 [1] (fun _ => s.kpr.serving.isNone && !s.kprLoading && (!s.kpr.hostWait || s.kpr.hostLast)) fun t s =>
    let req := t.fld 1 127 80
    let resp := t.fld 1 79 32
    if !t.zeros [(0, 87, 0), (1, 31, 0)] then s.complete 24 t.tag kprBadRequest 0
    else if req % 16 ≠ 0 ∨ resp % 16 ≠ 0 ∨ inDramComb s.variant req 256 = false ∨ inDramComb s.variant resp 256 = false then
      s.complete 24 t.tag stBadAddress 0
    else
    let s := s.meet req 256
    if s.poisonedAt req 256 then s.complete 24 t.tag stPoisoned 0
    else (s.kprBegin ⟨some t.tag, resp, s.bytes req 256, s.num req 2⟩).kprNext

/-- KPR_MB_GO (R546): a go while busy only sets overrun. -/
def doKprMbGo (m : Master) (v : Word) (s : State) : State :=
  s.gateWrite m Reg.kprMbCtrl (fun s =>
    let s := s.maskedWrite Reg.kprMbCtrl v
    if bitsOf v 31 31 = 0 then s
    else if s.fld Reg.kprMbCtrl 30 30 = 1 then s.setFld Reg.kprMbCtrl 29 29 1
    else ((s.setFld Reg.kprMbCtrl 30 30 1).mapKpr (fun k => { k with hostWait := true })).kprNext)

/-- `n` × 16 bytes from the DRBG: free values. -/
def State.draw (s : State) (n : Nat) : List Byte × State :=
  (List.range n).foldl (fun a _ => let r := a.2.takeFree; (a.1 ++ leBytes 16 r.1.toNat, r.2)) ([], s)

/-- The device identity as bytes, and a text. -/
def uidBytes : List Byte := leBytes 8 Config.deviceUid.toNat
def textEws1 : List Byte := [0x45, 0x57, 0x53, 0x31]
def textEwki : List Byte := [0x45, 0x57, 0x4B, 0x49]
/-- The public half of the device key. -/
def deviceKey : List Byte := (Config.ecPublic 0).take 96

/-- What GET_INFO answers: lifecycle, state, identity, firmware, slots, floors, KPR_STATUS. -/
def State.infoData (s : State) : List Byte :=
  [BitVec.ofNat 8 s.lifecycle, BitVec.ofNat 8 s.kprState] ++ uidBytes ++ leBytes 2 (s.fld Reg.kprFw 31 16) ++
    leBytes 2 (s.fld Reg.kprFw 15 0) ++ (List.range 8).map (fun k => BitVec.ofNat 8 (s.slotState k)) ++
    (List.range 8).flatMap (fun k => leBytes 4 (sget 0 s.kpr.floors k)) ++ leBytes 4 s.kpr.fwFloor ++
    leBytes 4 (s.reg Reg.kprStatus).toNat

/-- GET_INFO (R547). -/
def doGetInfo (s : State) : State := s.kprServe 0x01 fun _ s => s.kprRespond stSuccess s.infoData

/-- GET_IDENTITY (R527, R547). -/
def doGetIdentity (s : State) : State :=
  s.kprServe 0x02 fun _ s => s.kprRespond stSuccess (uidBytes ++ deviceKey ++ Config.deviceSignature.take 96)

/-- GET_RANDOM (R542). -/
def doGetRandom (s : State) : State :=
  s.kprServe 0x03 fun k s =>
    let n := k.parNum 0 1
    if n = 0 ∨ 240 < n then s.kprRespond kprBadRequest []
    else
      let r := s.draw 15
      r.2.kprRespond stSuccess (r.1.take n)

/-! Control sessions (R530 to R533). -/

/-- SESSION_OPEN (R530). -/
def doSessionOpen (s : State) : State :=
  s.kprServe 0x10 fun k s =>
    let slot := k.parNum 96 1
    if 8 ≤ slot then s.kprRespond kprBadRequest []
    else if !s.slotHas slot 1 then s.kprRespond kprSlotState []
    else match [1, 2, 3, 4].find? (fun i => (s.session i).isNone) with
      | none => s.kprRespond kprNoSessionFree []
      | some i =>
        let r := s.draw 2
        let s := r.2
        let s := s.setSession i (some
          { proved := false, slot := slot, client := k.par 0 96, secret := s.fresh, challenge := r.1, scope := 0, idle := 0,
            key := 0, salt := 0, counter := 0, fails := 0 })
        s.kprRespond stSuccess ([BitVec.ofNat 8 i] ++ (Config.ecPublic s.fresh).take 96 ++ r.1)

/-- Keeper's public half of a session's exchange. -/
def Session.pub (x : Session) : List Byte := (Config.ecPublic x.secret).take 96

/-- Does the operator's signature over the exchange hold (R530)? -/
def State.proofOk (s : State) (x : Session) (scope : Nat) (sig : List Byte) : Bool :=
  match sget none s.kpr.slots x.slot with
  | some y => s.slotHas x.slot 1 &&
      Config.ecdsaOk y.pub (x.client ++ x.pub ++ x.challenge ++ uidBytes ++ [BitVec.ofNat 8 scope]) sig
  | none => false

/-- The digest from which a session's key and salt are taken (R530). -/
def Session.digest (x : Session) : List Byte :=
  Config.sha384 (Config.ecdh x.secret x.client ++ x.client ++ x.pub ++ x.challenge ++ textEws1)

/-- The session with its scope, idle time, key and salt, its counter at 0. -/
def Session.prove (x : Session) (scope idle : Nat) : Session :=
  { x with proved := true, scope := scope, idle := idle, key := ofBe (x.digest.take 32),
           salt := ofBe ((x.digest.drop 32).take 4), counter := 0, fails := 0 }

/-- SESSION_PROVE (R530). -/
def doSessionProve (s : State) : State :=
  s.kprServe 0x11 fun k s =>
    let i := k.parNum 0 1
    let scope := k.parNum 1 1
    let idle := k.parNum 2 2
    match (if 1 ≤ i ∧ i ≤ 4 then s.session i else none) with
    | none => s.kprRespond kprNoSession []
    | some x =>
      if x.proved then s.kprRespond kprNoSession []
      else if 8 ≤ scope ∨ idle = 0 ∨ 3600 < idle then s.kprRespond kprBadRequest []
      else if !s.proofOk x scope (k.par 4 96) then
        let s := if 8 ≤ x.fails + 1 then s.setSession i none else s.setSession i (some { x with fails := x.fails + 1 })
        s.kprRespond kprAuthFail []
      else
        let r := s.draw 1
        ((r.2.setSession i (some (x.prove scope idle))).fire 33).kprRespond stSuccess (r.1.take 4)

/-- SESSION_CLOSE (R532): the session of the request's trailer. -/
def doSessionClose (s : State) : State :=
  s.kprServe 0x12 fun k s => (s.closeSession (k.parNum k.len 1)).kprRespond stSuccess []

/-- SESSION_VERIFY (R533). -/
def doSessionVerify (s : State) : State :=
  s.kprServe 0x13 fun k s =>
    if k.parNum 1 7 ≠ 0 then s.kprRespond kprBadRequest []
    else
      let r := s.checkTag (k.parNum 0 1) (k.parNum 8 8) (k.parNum 16 16) (k.par 0 16 ++ k.par 32 (k.len - 32)) none
      if r.2 ≠ stSuccess then r.1.kprRespond r.2 []
      else r.1.kprRespond stSuccess [BitVec.ofNat 8 (match r.1.session (k.parNum 0 1) with | some x => x.scope | none => 0)]

/-- SESSION_PROVE_TIMEOUT (R530): 10 s pass without a proof. -/
def doSessionProveTimeout (id : Nat) (s : State) : State :=
  match s.session (id + 1) with
  | some x => if x.proved then s else s.setSession (id + 1) none
  | none => s

/-- SESSION_IDLE_TIMEOUT (R532). -/
def doSessionIdleTimeout (id : Nat) (s : State) : State :=
  match s.session (id + 1) with
  | some x => if x.proved then s.closeSession (id + 1) else s
  | none => s

/-- SESSION_LIFETIME_EXPIRY (R532). -/
def doSessionLifetimeExpiry (id : Nat) (s : State) : State :=
  match s.session (id + 1) with
  | some x => if x.proved then s.closeSession (id + 1) else s
  | none => s

/-! Link guard keys (R536 to R540). -/

/-- The key that wraps a key install of type `type`, from the ephemeral public half `eph` (R536). -/
def installKek (eph type : List Byte) : Nat :=
  ofBe ((Config.sha384 (Config.ecdh 0 eph ++ uidBytes ++ type ++ textEwki)).take 32)

/-- Does the tag of a key install hold (R536)? -/
def KprServe.installOk (k : KprServe) : Bool :=
  Config.gcmTag (installKek (k.par 8 96) (k.par 0 1)) (ofBe (k.par 4 4) * 2 ^ 64) (aadBlocks (k.par 0 8))
    (aadBlocks (k.par 104 32)) == BitVec.ofNat 128 (k.parNum 136 16)

/-- The key that a key install carries (R536). -/
def KprServe.installed (k : KprServe) : Nat :=
  ofBe ((((aadBlocks (k.par 104 32)).zipIdx).map (fun p =>
    p.1 ^^^ Config.gcmStream (installKek (k.par 8 96) (k.par 0 1)) (ofBe (k.par 4 4) * 2 ^ 64) p.2)).flatMap
      (fun b => leBytes 8 b.toNat))

/-- KEY_INSTALL (R536). -/
def doKeyInstall (s : State) : State :=
  s.kprServe 0x20 fun k s =>
    let type := k.parNum 0 1
    let member := k.parNum 1 1
    let number := k.parNum 4 4
    if (type ≠ 1 ∧ type ≠ 2) ∨ (type = 2 ∧ 16 ≤ member) then s.kprRespond kprBadRequest []
    else if !k.installOk then s.kprRespond kprAuthFail []
    else if number ≤ (if type = 1 then s.kpr.wkNumber else s.kpr.skNumber) then s.kprRespond kprReplay []
    else
      let s := s.mapKpr (fun x =>
        if type = 1 then { x with wk := some k.installed, wkNumber := number }
        else { x with sk := some (k.installed, member), skNumber := number })
      s.kprShow.kprRespond stSuccess []

/-- LANE_KEY (R537): the next generation and a fresh key wait in the lane's management queue, once it has room (R306). -/
def doLaneKey (s : State) : State :=
  s.kprServe 0x21 fun k s =>
    let l := k.parNum 0 1
    if wallAbsent s.variant l then s.kprRespond kprBadRequest []
    else if s.kpr.wk.isNone then s.kprRespond kprNoKey []
    else if !s.laneUp l then s.kprRespond kprLaneDown []
    else if (s.lane l).mode = 2 then s.kprRespond kprBadRequest []
    else if !s.mgmtRoom l then s
    else
      let r := s.draw 3
      let g := sget 0 r.2.kpr.gens l + 1
      (r.2.mapKpr (fun x => { x with gens := sset 0 x.gens l g, lane := some l })).mgmtPut l
        (.keyx (ofBe (r.1.take 32)) (ofBe ((r.1.drop 32).take 4)) g)

/-- The 66-byte message of a KEYX group (R538): generation, eight DRBG bytes, key and salt under WK, tag, zeros. -/
def keyxMessage (wk key salt g : Nat) (rnd : List Byte) : List Byte :=
  let head := leBytes 4 g ++ rnd
  let nonce := ofBe head
  let plain := beBytes 32 key ++ beBytes 4 salt
  let stream := (List.range 5).flatMap (fun i => leBytes 8 (Config.gcmStream wk nonce i).toNat)
  let text := List.zipWith (· ^^^ ·) plain stream
  head ++ text ++ leBytes 16 (Config.gcmTag wk nonce [] (aadBlocks text)).toNat ++ [0, 0]

/-- The eleven blocks of a KEYX group (R538). -/
def keyxBlocks (m : List Byte) : List Block :=
  (List.range 11).map (fun i => ctrlBlock 0xD8 (ofLe ((m.drop (6 * i)).take 6) + i * 2 ^ 48))

/-- KEYX_SENT (R537, R538, R292): the group leaves unguarded; the key holds from the next group on, from seq 0. -/
def doKeyxSent (l : Nat) (s : State) : State :=
  match (s.lane l).mgmt, s.kpr.wk with
  | .keyx key salt g :: rest, some wk =>
    if !s.laneUp l || s.laneScanned l || s.unitStalled 0x3D then s else
    let r := s.draw 1
    let s := r.2.mapLane l (fun w => { w with mgmt := rest })
    let s := s.sendManagement l true (keyxBlocks (keyxMessage wk key salt g (r.1.take 8)))
    let s := (s.mapLane l (fun w => { w with key := some (key, salt), seq := 0 })).setReg (Reg.lnxWlSeq l) 0
    let s := s.setFld Reg.lnxShGuard l l 1
    if s.kpr.lane = some l then (s.kprRespond stSuccess (leBytes 4 g)).fire 36 else s.fire 36
  | _, _ => s

/-- CAS_GUARD (R540): a change takes both Adeoft links down; turning on takes a new key-use count. After an unlock at
level 2 the guarded links stay down (R543). -/
def doCasGuard (s : State) : State :=
  s.kprServe 0x22 fun k s =>
    let on := k.parNum 0 1
    if 2 ≤ on then s.kprRespond kprBadRequest []
    else if s.kpr.sk.isNone then s.kprRespond kprNoKey []
    else if s.fld Reg.kprStatus 17 17 = on then s.kprRespond stSuccess []
    else
      let s := s.setFld Reg.kprStatus 17 17 on
      let s := if on = 1 then
          let b := (s.kpr.useCount + 1) % 2 ^ 32
          let s := s.mapKpr (fun x => { x with useCount := b })
          if s.fld Reg.kprStatus 23 22 = 2 then s else s.mapCas (fun c => { c with guard := some (b, 0) })
        else s.mapCas (fun c => { c with guard := none })
      let s := [0, 1].foldl (fun s d => if s.linkUpNow d then s.linkDown d else s) s
      (s.fire 37).kprRespond stSuccess []

/-! Fuses (R525 to R529). -/

/-- A fuse burn begins; FUSE_BURN_DONE ends it. -/
def State.burn (s : State) (f : FuseOp) : State := s.mapKpr (fun k => { k with burning := some f })

/-- KEY_PROGRAM (R526). -/
def doKeyProgram (s : State) : State :=
  s.kprServe 0x30 fun k s =>
    let slot := k.parNum 0 1
    if 8 ≤ slot ∨ 8 ≤ k.parNum 1 1 then s.kprRespond kprBadRequest []
    else if s.slotState slot ≠ 0 then s.kprRespond kprSlotState []
    else s.burn (.program slot (k.parNum 1 1) (k.par 2 96))

/-- REVOKE (R527): of a programmed slot. -/
def doRevoke (s : State) : State :=
  s.kprServe 0x31 fun k s =>
    let slot := k.parNum 0 1
    if 8 ≤ slot then s.kprRespond kprBadRequest []
    else if s.slotState slot ≠ 1 then s.kprRespond kprSlotState []
    else s.burn (.revoke slot)

/-- ROLLBACK_ADVANCE (R529). -/
def doRollbackAdvance (s : State) : State :=
  s.kprServe 0x32 fun k s =>
    let slot := k.parNum 0 1
    let v := k.parNum 1 4
    if slot = 0xFF then
      if v < s.kpr.fwFloor ∨ s.fld Reg.kprFw 15 0 < v then s.kprRespond kprRollback []
      else if 64 < v then s.kprRespond kprBadRequest []
      else s.burn (.floor v)
    else if 8 ≤ slot then s.kprRespond kprBadRequest []
    else if !s.slotHas slot 0 then s.kprRespond kprSlotState []
    else if v < sget 0 s.kpr.floors slot ∨ sget 0 s.kpr.highest slot < v then s.kprRespond kprRollback []
    else (s.mapKpr (fun x => { x with floors := sset 0 x.floors slot v })).kprRespond stSuccess []

/-- LIFECYCLE (R525): forward only; DEPLOYED needs an image slot and an operator slot. -/
def doLifecycle (s : State) : State :=
  s.kprServe 0x33 fun k s =>
    let v := k.parNum 0 1
    if 4 ≤ v then s.kprRespond kprBadRequest []
    else if v ≤ s.lifecycle then s.kprRespond kprLifecycle []
    else if v = 2 ∧ !((List.range 8).any (fun i => s.slotHas i 0) && (List.range 8).any (fun i => s.slotHas i 1)) then
      s.kprRespond kprSlotState []
    else s.burn (.lifecycle v)

/-- The effect of a verified burn. -/
def State.burnt (s : State) (f : FuseOp) : State :=
  match f with
  | .program slot usage pub =>
    ((s.mapKpr (fun k => { k with slots := sset none k.slots slot (some ⟨pub, usage⟩) })).setFld Reg.kprSlots (24 + slot)
      (24 + slot) 1).kprShow
  | .revoke slot =>
    let s := s.setFld Reg.kprSlots (16 + slot) (16 + slot) 1
    let s := [1, 2, 3, 4].foldl (fun s i =>
      match s.session i with | some x => if x.slot = slot then s.closeSession i else s | none => s) s
    s.kprShow
  | .floor v => s.mapKpr (fun k => { k with fwFloor := v })
  | .lifecycle v =>
    let s := s.setFld Reg.kprStatus 27 26 v
    let s := if v = 3 then ((s.zeroiseKeys).mapKpr (fun k => { k with dkOff := true })).fire 40 else s
    (s.kprShow).fire 46

/-- FUSE_BURN_DONE (R525): a burn that does not verify leaves the fuses as they were and is repeated (DESIGN CHOICE, log entry 27). -/
def doFuseBurnDone (verified : Bool) (s : State) : State :=
  match s.kpr.burning with
  | some f => if verified then ((s.mapKpr (fun k => { k with burning := none })).burnt f).kprRespond stSuccess [] else s
  | none => s

/-! Settings (R535, R544). -/

/-- PROTECT (R535). -/
def doProtect (s : State) : State :=
  s.kprServe 0x34 fun k s =>
    if 2 ≤ k.parNum 0 1 ∨ 2 ^ 20 ≤ k.parNum 65 4 then s.kprRespond kprBadRequest []
    else
      let s := s.setFld Reg.kprStatus 16 16 (k.parNum 0 1)
      let s := (List.range 8).foldl (fun s n =>
        (s.setReg (Reg.kprProt n 0) (BitVec.ofNat 32 (k.parNum (1 + 8 * n) 4))).setReg (Reg.kprProt n 1)
          (BitVec.ofNat 32 (k.parNum (5 + 8 * n) 4))) s
      (s.setFld Reg.flashProt 31 12 (k.parNum 65 4)).kprShow.kprRespond stSuccess []

/-- TAMPER_CONFIG (R544). -/
def doTamperConfig (s : State) : State :=
  s.kprServe 0x35 fun k s =>
    if 4 ≤ k.parNum 0 1 then s.kprRespond kprBadRequest []
    else (s.setFld Reg.kprTamper 31 30 (k.parNum 0 1)).kprShow.kprRespond stSuccess []

/-- TAMPER_CLEAR (R544). -/
def doTamperClear (s : State) : State :=
  s.kprServe 0x36 fun _ s => (s.setFld Reg.kprStatus 24 24 0).kprShow.kprRespond stSuccess []

/-- ZEROISE (R544): action 2 on demand. -/
def doZeroise (s : State) : State :=
  s.kprServe 0x37 fun _ s => (s.zeroiseKeys.fire 40).kprRespond stSuccess []

/-- TAMPER (R544): the flag, the event, the report, the action. -/
def doTamper (s : State) : State :=
  let s := ((s.setFld Reg.kprStatus 24 24 1).kprShow).fire 39
  let s := s.report 0x08 0xFE 0x04 0
  let a := s.fld Reg.kprTamper 31 30
  if a = 0 then s
  else
    let s := (if a = 1 then s.zeroiseVolatile else s.zeroiseKeys).fire 40
    if a = 3 then { s with due := { s.due with hold := true } } else s

/-! Debug (R543). -/

/-- DEBUG_CHALLENGE (R543). -/
def doDebugChallenge (s : State) : State :=
  s.kprServe 0x40 fun _ s =>
    let r := s.draw 2
    (r.2.mapKpr (fun k => { k with nonce := some r.1 })).kprRespond stSuccess r.1

/-- Does a debug slot's signature over a nonce and a level hold (R543)? -/
def State.unlockOk (s : State) (nonce : List Byte) (level : Nat) (sig : List Byte) : Bool :=
  (List.range 8).any (fun i => s.slotHas i 2 &&
    (match sget none s.kpr.slots i with
     | some y => Config.ecdsaOk y.pub (nonce ++ uidBytes ++ [BitVec.ofNat 8 level]) sig
     | none => false))

/-- DEBUG_UNLOCK (R543): one use of the nonce, under any debug slot. -/
def doDebugUnlock (s : State) : State :=
  s.kprServe 0x41 fun k s =>
    let level := k.parNum 0 1
    if level ≠ 1 ∧ level ≠ 2 then s.kprRespond kprBadRequest []
    else match s.kpr.nonce with
      | none => s.kprRespond kprAuthFail []
      | some nonce =>
        let s := s.mapKpr (fun x => { x with nonce := none })
        if !s.unlockOk nonce level (k.par 1 96) then s.kprRespond kprAuthFail []
        else
          let s := if level = 2 then ((s.eraseLaneKeys).eraseCascade).closeSessions else s
          let s := s.setFld Reg.kprStatus 23 22 (max level (s.fld Reg.kprStatus 23 22))
          ((s.startRise 29).kprShow.fire 41).kprRespond stSuccess []

/-- DEBUG_NONCE_EXPIRY (R543). -/
def doDebugNonceExpiry (s : State) : State := s.mapKpr (fun k => { k with nonce := none })

/-! Self-tests and entropy (R542, R545). -/

/-- The known-answer tests end. -/
def State.selfTestEnds (s : State) (passed : Bool) : State :=
  if passed then
    (((s.setFld Reg.kprStatus 20 20 1).setFld Reg.kprStatus 21 21 1).setFld Reg.kprStatus 31 28 2).kprShow
  else
    let s := ((s.setFld Reg.kprStatus 20 20 0).setFld Reg.kprStatus 31 28 3).kprShow
    (s.report 0x08 0 0x0F 0).fire 43

/-- SELF_TEST (R545). -/
def doSelfTest (passed : Bool) (s : State) : State :=
  s.kprServe 0x50 fun _ s => (s.selfTestEnds passed).kprRespond stSuccess [BitVec.ofNat 8 passed.toNat]

/-- TRNG_HEALTH_FAIL (R542). -/
def doTrngHealthFail (s : State) : State :=
  (((s.setFld Reg.kprStatus 21 21 0).kprShow).fire 42).report 0x08 0 0x0F 0

/-- KEEPER_LOCKSTEP_MISMATCH (R491, R524): every service stops. -/
def doKeeperLockstepMismatch (s : State) : State :=
  ((s.setFld Reg.kprStatus 31 28 3).kprShow).report 0x08 0 0x09 0

/-! MRAM's general partition (R547, R549). -/

def nvGeneral : Nat := 0x0D_0000
def nvGeneralSize : Nat := 0x33_0000

/-- Store bytes in MRAM. -/
def State.nvStore (s : State) (a : Nat) (bs : List Byte) : State :=
  { s with nv := bs.zipIdx.foldl (fun m p => sset 0 m (a + p.2) p.1) s.nv }

/-- `n` bytes of MRAM. -/
def State.nvBytes (s : State) (a n : Nat) : List Byte := (List.range n).map (fun i => sget 0 s.nv (a + i))

/-- NV_READ (R547). -/
def doNvRead (s : State) : State :=
  s.kprServe 0x51 fun k s =>
    let off := k.parNum 0 4
    let n := k.parNum 4 2
    if 184 < n ∨ nvGeneralSize < off + n then s.kprRespond kprBadRequest []
    else (s.meetUnit 0x04 1).kprRespond stSuccess (s.nvBytes (nvGeneral + off) n)

/-- NV_WRITE (R547). -/
def doNvWrite (s : State) : State :=
  s.kprServe 0x52 fun k s =>
    let off := k.parNum 0 4
    let n := k.parNum 4 2
    if 184 < n ∨ nvGeneralSize < off + n ∨ k.len ≠ 6 + n then s.kprRespond kprBadRequest []
    else (s.nvStore (nvGeneral + off) (k.par 6 n)).kprRespond stSuccess []

/-! Firmware (R528). -/

/-- The ROM's checks of a firmware image, in order: the status. -/
def State.firmwareCheck (s : State) (img : List Byte) : Nat :=
  let n := imgNum img 8 4
  if imgNum img 0 4 ≠ 0x4B51564E ∨ imgNum img 4 2 ≠ 1 ∨ 256 * 1024 < n ∨ n < 0x10 + 100 ∨ img.length < n then kprBadRequest
  else
    let sig := (img.take n).drop (n - 100)
    if imgNum sig 0 1 ≠ 0xFF ∨ imgNum sig 1 3 ≠ 0 ∨ !Config.ecdsaOk Config.wofarilKey (img.take (n - 100)) (sig.drop 4) then kprAuthFail
    else if imgNum img 0x0C 4 < s.kpr.fwFloor then kprRollback
    else stSuccess

/-- Verified firmware starts: its self-tests run. The place of fw_version in the image is not stated: a free value. -/
def State.firmwareStarts (s : State) (img : List Byte) : State :=
  let r := s.takeFree
  ((r.2.setReg Reg.kprFw (packBits [(r.1.toNat % 65536, 16), (imgNum img 0x0C 4 % 65536, 0)])).setFld Reg.kprStatus 31 28 1).kprShow

/-- FW_LOAD (R528): an image in Comb, in the ROM only. -/
def doFwLoad (s : State) : State :=
  s.kprServe 0x60 fun k s =>
    let a := k.parNum 0 6
    let n := min (256 * 1024) (s.num (a + 8) 4)
    if a < combBase ∨ combTop < a + max n 16 then s.kprRespond stBadAddress []
    else
    let s := s.meet a n
    if s.poisonedAt a n then s.kprRespond stPoisoned []
    else
      let img := s.bytes a n
      let st := if 256 * 1024 < s.num (a + 8) 4 then kprBadRequest else s.firmwareCheck img
      let s := if st = stSuccess then s.firmwareStarts img else s.setFld Reg.kprStatus 31 28 4
      s.kprRespond st []

end Sys2Proof.Machine
end

