-- ==== Sys2Proof/Machine/Hci.lean ====
section
/-!
DEFINITION. The host port and the control buses: two-wire ports, TW_4, boot flash, MSI-X masks, boot
(spec/13_host_control_buses.md R463 to R488).
-/
namespace Sys2Proof.Machine

def hciBadParams : Nat := 0x10
def twAddrNack : Nat := 0x11
def twDataNack : Nat := 0x12
def twArbLost : Nat := 0x13
def twArbSrErr : Nat := 0x14
def twClockLow : Nat := 0x15
def twDataLow : Nat := 0x16
def twGoverned : Nat := 0x17
def twBusHeld : Nat := 0x18
def flashError : Nat := 0x19
def flashProtected : Nat := 0x1A

/-! Two-wire controllers (R472 to R477, R483, R485, R486). -/

def State.twRun (s : State) (p : Nat) : Option TwRun := sget none s.hci.tw p

/-- Is `p` a controller port? -/
def twController (p : Nat) : Bool := p == 5 || decide (p < 4)

/-- Does the governor use the controller of port `p`? -/
def State.govOn (s : State) (p : Nat) : Bool := p == 5 && s.gov.xfer != .none

/-- Is the controller of port `p` at work? -/
def State.twBusy (s : State) (p : Nat) : Bool := (s.twRun p).isSome || s.govOn p

/-- A transfer occupies port `p`, or leaves it; `free` says whether the bus is free afterwards. -/
def State.setTw (s : State) (p : Nat) (r : Option TwRun) (free : Bool) : State :=
  let s := s.mapHci (fun h => { h with tw := sset none h.tw p r })
  (s.setFld (Reg.twStatus p) 31 31 r.isSome.toNat).setFld (Reg.twStatus p) 30 30 free.toNat

/-- A two-wire descriptor completes; HCI_TW_DONE (R488). -/
def State.twDone (s : State) (tag st : Nat) (res : Nat) : State := (s.complete 22 tag st (BitVec.ofNat 64 res)).fire 251

/-- The result of a TW_XFER (R486). -/
def TwRun.result (r : TwRun) (written read : Nat) : Nat :=
  written * 2 ^ 48 + read * 2 ^ 32 + r.lossByte * 2 ^ 24 + r.lossBit * 2 ^ 20 + r.made

/-- A transfer of port `p` ends. -/
def State.twEnds (s : State) (p : Nat) (r : TwRun) (st written read : Nat) (free : Bool) : State :=
  (s.setTw p none free).twDone r.tag st (r.result written read)

/-- A transfer is broken off, by an error, a timeout or a reset: how many bytes had passed is a free value within bounds. The
governor's transfer fails (R18). -/
def State.twBreak (s : State) (p st : Nat) (free : Bool) : State :=
  match s.twRun p with
  | some r =>
    let f := s.takeFree
    f.2.twEnds p r st (f.1.toNat % (r.wr.length + 1)) (f.1.toNat / 2 ^ 64 % (r.rdLen + 1)) free
  | none => if s.govOn p then s.govFailed else s

/-- The status that refuses a TW_XFER before its bytes are read, none when it passes (R485). -/
def State.twRefused (s : State) (t : Taken) : Option Nat :=
  let p := t.fld 0 87 85
  let wl := t.fld 0 71 60
  let rl := t.fld 0 59 48
  let src := t.fld 1 127 80
  let dst := t.fld 1 79 32
  if !twController p || !t.zeros [(0, 47, 0), (1, 31, 0)] || (wl != 0 && !inMemory s.variant src wl) ||
      (rl != 0 && !inMemory s.variant dst rl) then some hciBadParams
  else none

/-- The status that the bytes of a TW_XFER give it, none when they may leave (R26, R483). -/
def State.twBad (s : State) (t : Taken) : Option Nat :=
  let p := t.fld 0 87 85
  let wl := t.fld 0 71 60
  let src := t.fld 1 127 80
  let first := ((s.bytes src wl).headD 0).toNat
  if s.poisonedAt src wl then some stPoisoned
  else if p = 5 ∧ s.fld Reg.govCtrl 31 31 = 1 ∧ t.fld 0 84 78 = s.fld Reg.hciPmbus 6 0 ∧ wl ≠ 0 ∧ (first = 0x20 ∨ first = 0x21) then
    some twGoverned
  else none

/-- The transfer of a TW_XFER (R483). -/
def State.twRunOf (s : State) (t : Taken) : TwRun :=
  { tag := t.tag, retry := t.fld 0 76 76 == 1, attempts := t.fld 0 75 72, address := t.fld 0 84 78,
    wr := s.bytes (t.fld 1 127 80) (t.fld 0 71 60), combined := t.fld 0 77 77 == 1, rdLen := t.fld 0 59 48,
    rdDest := t.fld 1 79 32, made := 1, lossByte := 0, lossBit := 0 }

/-- What a transfer sends from its first START on (R485). -/
def TwRun.sends (r : TwRun) (p : Nat) : Emission := .twoWireXfer p r.address r.wr r.combined r.rdLen

/-- TW_XFER (R483, R485): a descriptor waits while its port is at work. -/
def doTwXfer (s : State) : State :=
  s.takeWhen 22 0x10 [1] (fun t => !s.twBusy (t.fld 0 87 85)) fun t s =>
    match s.twRefused t with
    | some st => s.twDone t.tag st 0
    | none =>
    let s := s.meet (t.fld 1 127 80) (t.fld 0 71 60)
    match s.twBad t with
    | some st => s.twDone t.tag st 0
    | none =>
      (s.setTw (t.fld 0 87 85) (some (s.twRunOf t)) false).emit ((s.twRunOf t).sends (t.fld 0 87 85))

/-- TW_XFER_COMPLETE (R486). -/
def doTwXferComplete (p : Nat) (res : TwResult) (s : State) : State :=
  match s.twRun p with
  | none => s
  | some r =>
    match res with
    | .done bytes =>
      let s := s.unitStore 0x00 r.rdDest ((bytes ++ List.replicate r.rdLen 0xFF).take r.rdLen)
      s.twEnds p r stSuccess r.wr.length r.rdLen true
    | .addressNack => ((s.bump (Reg.twCount p) 15 0 1).twEnds p r twAddrNack 0 0 true)
    | .dataNack i =>
      if i = 0 ∨ r.wr.length < i then s
      else (s.bump (Reg.twCount p) 15 0 1).twEnds p r twDataNack (i - 1) 0 true

/-- TW_ARBITRATION_LOST (R475). -/
def doTwArbitrationLost (p : Nat) (byteIx : BitVec 8) (bitIx : BitVec 4) (s : State) : State :=
  if !s.twBusy p then s else
  let s := ((s.setFld (Reg.twStatus p) 23 16 byteIx.toNat).setFld (Reg.twStatus p) 15 12 bitIx.toNat).setFld (Reg.twStatus p) 27 27 1
  let s := (s.bump (Reg.twCount p) 31 16 1).fire 252
  match s.twRun p with
  | some r =>
    let r := { r with lossByte := byteIx.toNat, lossBit := bitIx.toNat }
    if r.retry ∧ r.made ≤ r.attempts then (s.setTw p (some { r with made := r.made + 1 }) false).emit (r.sends p)
    else s.twEnds p r twArbLost (min (byteIx.toNat - 1) r.wr.length) (min (byteIx.toNat - 1 - r.wr.length) r.rdLen) false
  | none => s.govFailed

/-- TW_SR_ERROR (R476). -/
def doTwSrError (p : Nat) (s : State) : State :=
  if !s.twBusy p then s else ((s.setFld (Reg.twStatus p) 26 26 1).fire 252).twBreak p twArbSrErr false

/-- TW_CLOCK_LOW_TIMEOUT (R474). -/
def doTwClockLowTimeout (p : Nat) (s : State) : State :=
  if !twController p || s.fld (Reg.twTimeout p) 31 16 == 0 || !s.isPowered 28 then s
  else ((s.setFld (Reg.twStatus p) 29 29 1).fire 252).twBreak p twClockLow false

/-- TW_DATA_LOW_TIMEOUT (R474): with auto_clear the bus clear of R477 follows, which has no descriptor. -/
def doTwDataLowTimeout (p : Nat) (s : State) : State :=
  if !s.twBusy p || s.fld (Reg.twTimeout p) 15 0 == 0 then s
  else
    let s := ((s.setFld (Reg.twStatus p) 28 28 1).fire 252).twBreak p twDataLow false
    if s.fld (Reg.twCtrl p) 28 28 = 1 then s.emit (.busClear p) else s

/-- TW_BUS_CLEAR (R477): `freedAt` is the pulse, counted from 0, whose high phase shows SDA high. -/
def doTwBusClear (sclStuck : Bool) (freedAt : Option (Fin 9)) (s : State) : State :=
  s.takeWhen 22 0x11 [0] (fun t => !s.twBusy (t.fld 0 87 85)) fun t s =>
    let p := t.fld 0 87 85
    if !twController p || t.fld 0 84 0 != 0 then s.twDone t.tag hciBadParams 0
    else if sclStuck then s.twDone t.tag twBusHeld 1
    else match freedAt with
      | some k => (s.setTw p none true).twDone t.tag stSuccess ((k.val + 1) * 256)
      | none => (s.setTw p none false).twDone t.tag twBusHeld (9 * 256)

/-- The timing that a mode loads (R473). -/
def twTiming (mode : Nat) : Nat × Nat × Nat :=
  if mode = 1 then (75 * 65536 + 50, 15 * 2 ^ 24 + 35 * 2 ^ 16 + 35 * 256 + 35, 70 * 2 ^ 24)
  else if mode = 2 then (30 * 65536 + 20, 6 * 2 ^ 24 + 15 * 2 ^ 16 + 15 * 256 + 15, 27 * 2 ^ 24)
  else (250 * 65536 + 250, 15 * 2 ^ 24 + 215 * 2 ^ 16 + 250 * 256 + 215, 250 * 2 ^ 24)

/-- A value written to HCI_TW_n_CTRL; the reserved mode 3 is taken as 0 (R10). -/
def twCtrlValue (v : Word) : Word := if bitsOf v 30 29 = 3 then putBits v 30 29 0 else v

/-- A write of HCI_TW_n_CTRL (R472, R477): the mode's timing, then the reset. -/
def State.twCtrlWrite (s : State) (m : Master) (p : Nat) (v : Word) : State :=
  s.gateWrite m (Reg.twCtrl p) (fun s =>
    let s := if p = 4 then s else
      let v := twCtrlValue v
      let t := twTiming (bitsOf v 30 29)
      (((s.maskedWrite (Reg.twCtrl p) v).setReg (Reg.twTiming0 p) (BitVec.ofNat 32 t.1)).setReg (Reg.twTiming1 p)
        (BitVec.ofNat 32 t.2.1)).setReg (Reg.twTiming2 p) (BitVec.ofNat 32 t.2.2)
    if bitsOf v 31 31 = 0 then s
    else if p = 4 then s.mapHci (fun h => { h with staged := [], ignoring := false })
    else s.twBreak p stAbortedByReset true)

/-- TW_CONTROLLER_RESET (R477). -/
def doTwControllerReset (m : Master) (p : Nat) (v : Word) (s : State) : State := s.twCtrlWrite m p v
/-- TW_MODE_WRITE (R472). -/
def doTwModeWrite (m : Master) (p : Nat) (v : Word) (s : State) : State := s.twCtrlWrite m p v

/-! TW_4 (R478, R479). -/

/-- The register pointer after one byte. -/
def nextPointer (p : Nat) : Nat := if p = 0x3F then 0 else (p + 1) % 256

/-- One byte written at the pointer: IN is staged, its last byte delivers the message. -/
def State.tw4Put (s : State) (b : Byte) : State :=
  let p := s.hci.pointer
  let s := s.mapHci (fun h => { h with pointer := nextPointer p })
  if p < 0x10 ∨ 0x20 ≤ p then s
  else
    let s := s.mapHci (fun h => { h with staged := sset 0 h.staged (p - 0x10) b })
    if p ≠ 0x1F then s
    else if s.fld Reg.tw4Status 31 31 = 1 then s.setFld Reg.tw4Status 30 30 1
    else
      let s := (List.range 4).foldl (fun s i => s.setReg (Reg.tw4In i)
        (BitVec.ofNat 32 (ofLe ((List.range 4).map (fun j => sget 0 s.hci.staged (4 * i + j)))))) s
      (s.setFld Reg.tw4Status 31 31 1).fire 253

/-- TW4_WRITE (R478, R480): the pointer, then register bytes. -/
def doTw4Write (bytes : List Byte) (s : State) : State :=
  if !s.isPowered 28 then s
  else if s.hci.ignoring then s.mapHci (fun h => { h with ignoring := false })
  else match bytes with
    | [] => s
    | p :: t => t.foldl State.tw4Put (s.mapHci (fun h => { h with pointer := p.toNat }))

/-- The byte that TW_4 returns at the pointer; the read of 0x20 latches OUT, that of 0x2F clears out_valid. -/
def State.tw4Get (s : State) : Byte × State :=
  let p := s.hci.pointer
  let s := s.mapHci (fun h => { h with pointer := nextPointer p })
  let s := if p = 0x20 then
      let l : List Byte := if s.fld Reg.tw4Status 29 29 = 1 then
          (List.range 4).flatMap (fun i => leBytes 4 (s.reg (Reg.tw4Out i)).toNat) else []
      s.mapHci (fun h => { h with latched := l })
    else s
  let b : Byte :=
    if p < 4 then BitVec.ofNat 8 ((s.reg Reg.hciId).toNat / 256 ^ p)
    else if p = 4 then
      let st := s.fld Reg.fghStatus 31 28
      if st = 4 then 2 else if st = 1 ∨ st = 3 then 1 else 0
    else if p = 5 then BitVec.ofNat 8 (s.fld Reg.fghPinned 31 31 + 2 * (if s.fld Reg.fghPinned 30 27 = 0 then 0 else 1))
    else if 0x20 ≤ p ∧ p < 0x30 then s.hci.latched.getD (p - 0x20) 0
    else 0
  (b, if p = 0x2F then (s.setFld Reg.tw4Status 29 29 0).fire 253 else s)

/-- `n` bytes from TW_4. -/
def State.tw4Gets : Nat → State → List Byte × State
  | 0, s => ([], s)
  | n + 1, s =>
    let r := s.tw4Get
    let t := State.tw4Gets n r.2
    (r.1 :: t.1, t.2)

/-- TW4_READ (R478 to R480). -/
def doTw4Read (n : Nat) (s : State) : State :=
  if !s.isPowered 28 then s
  else if s.hci.ignoring then (s.mapHci (fun h => { h with ignoring := false })).emit (.twoWire 4 (List.replicate n 0xFF))
  else
    let r := State.tw4Gets n s
    r.2.emit (.twoWire 4 r.1)

/-- A write of HCI_TW4_STATUS (R479): W1C flags clear, writing 1 sets out_valid. -/
def State.tw4StatusWrite (s : State) (m : Master) (v : Word) : State :=
  s.gateWrite m Reg.tw4Status (fun s => s.maskedWrite Reg.tw4Status (v ||| (s.reg Reg.tw4Status &&& 0x20000000)))

/-- TW4_OUT_VALID_WRITE (R479). -/
def doTw4OutValidWrite (m : Master) (v : Word) (s : State) : State := s.tw4StatusWrite m v

/-- TW4_STRETCH_TIMEOUT (R480): while the device wakes with wake_nack 0. -/
def doTw4StretchTimeout (s : State) : State :=
  if s.fld Reg.fghStatus 31 28 = 4 ∧ s.fld Reg.tw4Cfg 31 31 = 0 then
    (s.setFld Reg.tw4Status 28 28 1).mapHci (fun h => { h with ignoring := true })
  else s

/-! Boot flash (R470, R471). -/

/-- The capacity of the largest flash (R470). -/
def flashTop : Nat := 2 ^ 28

def State.flashByte (s : State) (a : Nat) : Byte := sget 0xFF s.hci.flash a
def State.flashBytes (s : State) (a n : Nat) : List Byte := (List.range n).map (fun i => s.flashByte (a + i))

/-- FLASH_READ. -/
def doFlashRead (s : State) : State :=
  s.takeWhen 22 0x12 [1] (fun _ => s.hci.flashRun.isNone) fun t s =>
    let off := t.fld 0 87 56
    let n := t.fld 0 55 32
    let dst := t.fld 1 127 80
    if n = 0 ∨ t.zeros [(0, 31, 0), (1, 79, 0)] = false ∨ inMemory s.variant dst n = false ∨ flashTop < off + n then
      s.complete 22 t.tag hciBadParams 0
    else (s.unitStore 0x00 dst (s.flashBytes off n)).complete 22 t.tag stSuccess (BitVec.ofNat 64 n)

/-- The size of the next page program (in bytes) or erase (in sectors) of a run. -/
def FlashRun.nextSize (r : FlashRun) : Nat :=
  if r.erase then (if r.offset % 65536 = 0 ∧ 16 ≤ r.left then 16 else min 1 r.left) else min r.left (256 - r.offset % 256)

/-- A run goes on with its next page or erase, after a Write Enable and with the command of the address width in use (R470), or
completes. -/
def State.flashNext (s : State) (r : FlashRun) : State :=
  let idle (s : State) : State := (s.mapHci (fun h => { h with flashRun := none })).setFld Reg.flashStatus 31 28 0
  if r.stopping && r.left != 0 then (idle s).complete 22 r.tag stAborted (BitVec.ofNat 64 r.done)
  else if r.left = 0 then (idle s).complete 22 r.tag stSuccess (BitVec.ofNat 64 r.done)
  else
    let s := (s.mapHci (fun h => { h with flashRun := some { r with size := r.nextSize } })).setFld Reg.flashStatus 31 28
      (if r.erase then 3 else 2)
    let wide := s.fld Reg.flashStatus 17 17 = 1
    let op := if !r.erase then (if wide then 0x12 else 0x02)
      else if r.nextSize = 16 then (if wide then 0xDC else 0xD8)
      else if wide then 0x21 else 0x20
    (s.emit (.flashOp 0x06 0)).emit (.flashOp op r.offset)

/-- Does a range of the flash lie below the protected boundary? -/
def State.flashLocked (s : State) (off : Nat) : Bool := decide (off < s.fld Reg.flashProt 31 12 * 4096)

/-- FLASH_PROGRAM. -/
def doFlashProgram (s : State) : State :=
  s.takeWhen 22 0x13 [1] (fun _ => s.hci.flashRun.isNone) fun t s =>
    let off := t.fld 0 87 56
    let n := t.fld 0 55 32
    let src := t.fld 1 127 80
    if n = 0 ∨ t.zeros [(0, 31, 0), (1, 79, 0)] = false ∨ inMemory s.variant src n = false ∨ flashTop < off + n then
      s.complete 22 t.tag hciBadParams 0
    else if s.flashLocked off then s.complete 22 t.tag flashProtected 0
    else
    let s := s.meet src n
    if s.poisonedAt src n then s.complete 22 t.tag stPoisoned 0
    else s.flashNext ⟨t.tag, false, off, n, 0, src, 0, false⟩

/-- FLASH_ERASE. -/
def doFlashErase (s : State) : State :=
  s.takeWhen 22 0x14 [0] (fun _ => s.hci.flashRun.isNone) fun t s =>
    let off := t.fld 0 87 56
    let n := t.fld 0 55 40
    if off % 4096 ≠ 0 ∨ t.fld 0 39 0 ≠ 0 ∨ flashTop < off + 4096 * n then s.complete 22 t.tag hciBadParams 0
    else if n ≠ 0 ∧ s.flashLocked off then s.complete 22 t.tag flashProtected 0
    else s.flashNext ⟨t.tag, true, off, n, 0, 0, 0, false⟩

/-- FLASH_PAGE_DONE (R470): a page is programmed, where only 1s turn to 0, or sectors are erased. -/
def doFlashPageDone (s : State) : State :=
  match s.hci.flashRun with
  | none => s
  | some r =>
    let was := s.hci.flash
    let now : Sparse Byte :=
      if r.erase then was.filter (fun p => !(decide (r.offset ≤ p.1) && decide (p.1 < r.offset + 4096 * r.size)))
      else ((s.bytes r.src r.size).zipIdx).foldl
        (fun f p => sset 0xFF f (r.offset + p.2) (sget 0xFF f (r.offset + p.2) &&& p.1)) was
    let s := s.mapHci (fun h => { h with flash := now })
    s.flashNext { r with offset := r.offset + (if r.erase then 4096 else 1) * r.size, left := r.left - r.size,
                         done := r.done + r.size, src := r.src + r.size }

/-- FLASH_POLL_TIMEOUT (R470). -/
def doFlashPollTimeout (s : State) : State :=
  match s.hci.flashRun with
  | none => s
  | some r =>
    ((s.mapHci (fun h => { h with flashRun := none })).setFld Reg.flashStatus 31 28 0).complete 22 r.tag flashError
      (BitVec.ofNat 64 r.done)

/-- ABORT reaches a running descriptor of queue 22 (R485). -/
def State.hciAbort (s : State) (tag : Nat) : Option State :=
  match (List.range 6).find? (fun p => match s.twRun p with | some r => r.tag == tag | none => false) with
  | some p => some (s.twBreak p stAborted true)
  | none =>
    match s.hci.flashRun with
    | some r => if r.tag = tag then some (s.mapHci (fun h => { h with flashRun := some { r with stopping := true } })) else none
    | none => none

/-! The endpoint (R463 to R467). -/

/-- PCIE_LINK_CHANGE: the loss of the link is reported (R495). -/
def doPcieLinkChange (up : Bool) (width : BitVec 4) (speed : BitVec 3) (s : State) : State :=
  if !s.isPowered 28 then s else
  let was := s.fld Reg.hciPcieStatus 31 31
  let s := s.setFld Reg.hciPcieStatus 31 24 (if up then 128 + width.toNat * 8 + speed.toNat else 0)
  let s := (List.range 8).foldl (fun s n => if up && decide (n < width.toNat) then s.setTx n else s) s
  let s := (s.showTx 0).showTx 1
  let s := if was = up.toNat then s else s.fire 250
  if was = 1 ∧ !up then s.report 0x00 0 0x0D 0 else s

/-- The vector control of MSI-X vector `v` is written: a pending message leaves when it is unmasked (R467). -/
def State.msixCtrlWrite (s : State) (v : Nat) (x : Word) : State :=
  let s := s.maskedWrite (Reg.msixTable v 3) (x &&& 1)
  if s.fld (Reg.msixTable v 3) 0 0 = 0 ∧ s.fld (Reg.msixPba (v / 32)) (v % 32) (v % 32) = 1 then
    (s.setFld (Reg.msixPba (v / 32)) (v % 32) (v % 32) 0).emit (.msix v)
  else s

/-- MSIX_UNMASK (R467). -/
def doMsixUnmask (v : Nat) (s : State) : State := s.msixCtrlWrite v (putBits (s.reg (Reg.msixTable v 3)) 0 0 0)

/-- BAR4_BASE_WRITE (R466). -/
def doBar4BaseWrite (m : Master) (v : Word) (s : State) : State :=
  s.gateWrite m Reg.hciBar4Base (fun s => s.maskedWrite Reg.hciBar4Base v)

/-! Boot (R468, R469). -/

/-- An entry of a directory copy. -/
def readEntry (b : List Byte) (i : Nat) : BootEntry :=
  let o := 64 + 32 * i
  ⟨imgNum b o 1, imgNum b (o + 4) 4, imgNum b (o + 8) 4, imgNum b (o + 12) 6⟩

/-- Is entry `i` of a directory copy well formed? -/
def entryOk (v : Variant) (b : List Byte) (i : Nat) : Bool :=
  let o := 64 + 32 * i
  let e := readEntry b i
  decide (1 ≤ e.type ∧ e.type ≤ 3) && imgNum b (o + 1) 3 == 0 && imgNum b (o + 18) 14 == 0 && e.offset % 16 == 0 && e.dest % 16 == 0 &&
  (if e.type = 1 then e.dest == 0 else inDramComb v e.dest e.length)

/-- Is a directory copy valid (R468)? -/
def directoryOk (v : Variant) (b : List Byte) : Bool :=
  let n := imgNum b 6 1
  imgNum b 0 4 == 0x44425745 && imgNum b 4 2 == 1 && decide (1 ≤ n ∧ n ≤ 32) && decide (imgNum b 7 1 ≤ 2) &&
  (imgNum b 8 1 == 3 || imgNum b 8 1 == 4) && decide (imgNum b 9 1 ≤ 15) && decide (25 ≤ imgNum b 10 1 ∧ imgNum b 10 1 ≤ 100) &&
  ((b.drop 11).take 49).all (· == 0) && imgNum b 60 4 == crc32c (b.take 60 ++ (b.drop 64).take (32 * n)) &&
  (List.range n).all (entryOk v b)

/-- Boot begins (R469, step 1). -/
def State.startBoot (s : State) : State :=
  let s := s.setReg Reg.hciBootStatus (packBits [(if s.bootSrc = 1 then 4 else 0, 28), (s.bootSrc, 26), (0xFF, 0)])
  s.mapHci (fun h => { h with entries := [], bootNext := 0, bootWait := false })

/-- BOOT_DIRECTORY_READ_DONE (R468, R469, steps 2 and 3). -/
def doBootDirectoryReadDone (p1 p2 : Bool) (s : State) : State :=
  if 2 ≤ s.bootState then s else
  let a := s.flashBytes 0 1088
  let b := s.flashBytes 0x10000 1088
  let first := !p1 && directoryOk s.variant a
  if !first && !(!p2 && directoryOk s.variant b) then s.setBootState 5
  else
    let d := if first then a else b
    let s := (s.setFld Reg.hciBootStatus 25 25 (!first).toNat).setBootState 2
    let s := s.setFld Reg.flashStatus 27 17 (imgNum d 7 1 * 2 ^ 9 + imgNum d 10 1 * 2 + (if imgNum d 8 1 = 4 then 1 else 0))
    s.mapHci (fun h => { h with entries := (List.range (imgNum d 6 1)).map (readEntry d), bootNext := 0, bootWait := false })

/-- KEEPER_FIRMWARE_VERIFIED (R469, step 4; R528, R545): the ROM's checks, and the self-tests of firmware that passes them,
also of firmware that FW_LOAD has verified. -/
def doKeeperFirmwareVerified (pass : Bool) (s : State) : State :=
  if s.kprState = 1 then s.selfTestEnds pass
  else if s.bootState ≠ 2 ∨ s.kprState ≠ 0 then s
  else match s.hci.entries.find? (fun e => e.type == 1) with
    | none => (s.setFld Reg.kprStatus 31 28 4).setBootState 5
    | some e =>
      let img := s.flashBytes e.offset (min e.length (256 * 1024))
      if s.firmwareCheck img = stSuccess then (((s.firmwareStarts img).selfTestEnds pass).bootSkip).bootSettle
      else (s.setFld Reg.kprStatus 31 28 4).setBootState 5

/-- BOOT_ENTRY_COPY_DONE (R469, step 5). A copy to DRAM waits for training (R413). -/
def doBootEntryCopyDone (poisoned : Bool) (s : State) : State :=
  if s.bootState ≠ 2 ∨ s.hci.bootWait ∨ (s.kprState ≠ 2 ∧ s.kprState ≠ 3) then s
  else match s.hci.entries.drop s.hci.bootNext with
    | [] => s
    | e :: _ =>
      if (e.dest < combBase ∧ !s.memReady) ∨ (combBase ≤ e.dest ∧ s.memx.combInit) then s
      else if e.type = 2 ∧ s.hive.loader.step ≠ .idle then s
      else
        let s := s.storeP e.dest (s.flashBytes e.offset e.length) poisoned
        if e.type = 2 then (s.mapHci (fun h => { h with bootWait := true })).beginLoad e.dest true
        else s.bootEntryDone (!poisoned)

end Sys2Proof.Machine
end

