-- ==== Sys2Proof/Machine/Fgh.lean ====
section
/-!
DEFINITION. Foghorn: records and pinned slots, self-tests, clock monitors, snapshots, power domains, power states, supply and
temperature (spec/14_safety_power_reset.md R489 to R508, R512 to R523).
-/
namespace Sys2Proof.Machine

def State.mapFgh (s : State) (f : Fgh → Fgh) : State := { s with fgh := f s.fgh }

/-- FGH_STATUS.state: 0 Run, 1 Hold, 2 entering Hold, 3 entering Doze and Doze, 4 waking, 5 thermal shutdown. -/
def State.powerState (s : State) : Nat := s.fld Reg.fghStatus 31 28
def State.setPowerState (s : State) (x : Nat) : State := s.setFld Reg.fghStatus 31 28 x

/-! Records (R496 to R500). -/

/-- The two words of a record (R500). -/
def recordWords (e : Entry) (first fatal : Bool) (seq : Nat) : Nat × Nat :=
  (e.first.toNat * 2 ^ 64 + e.last.toNat * 2 ^ 32 + e.count * 2 ^ 16 + e.code * 256 + e.source,
   e.sub * 2 ^ 120 + e.severity * 2 ^ 118 + first.toNat * 2 ^ 117 + fatal.toNat * 2 ^ 116 + e.epoch.toNat * 2 ^ 104 +
     e.detail.toNat * 2 ^ 48 + seq)

/-- A record as its 32 bytes (R520). -/
def recordBytes (e : Entry) (first fatal : Bool) (seq : Nat) : List Byte :=
  let w := recordWords e first fatal seq
  leBytes 16 w.1 ++ leBytes 16 w.2

/-- MRAM addresses of a log slot and of pinned slot `i`, 0 being the first-failure slot (R549). -/
def logAddr (seq : Nat) : Nat := 32 * (seq % Config.logRecords)
def pinAddr (i : Nat) : Nat := 0x8_0000 + 32 * i

/-- Is pinned slot `i` held? -/
def State.pinHeld (s : State) (i : Nat) : Bool :=
  if i = 0 then s.fld Reg.fghPinned 31 31 == 1 else s.fld Reg.fghPinned (26 + i) (26 + i) == 1

/-- A record is written for the first time, to its log slot and its pinned slots (R498, R499). -/
def State.writeRecord (s : State) (e : Entry) : State :=
  let seq := (s.reg Reg.fghLogHead).toNat
  let first := decide (2 ≤ e.severity) && !s.pinHeld 0
  let fatal := e.severity == 3
  let bs := recordBytes e first fatal seq
  let s := (s.nvStore (logAddr seq) bs).setReg Reg.fghLogHead (BitVec.ofNat 32 (seq + 1))
  let s := if fatal then
      ((s.nvStore (pinAddr (1 + s.fgh.fatalNext)) bs).setFld Reg.fghPinned (27 + s.fgh.fatalNext) (27 + s.fgh.fatalNext) 1).mapFgh
        (fun f => { f with fatalNext := (f.fatalNext + 1) % 4 })
    else s
  if first then ((s.nvStore (pinAddr 0) bs).setFld Reg.fghPinned 31 31 1).fire 0 else s

/-- A record is written again, with its merges, wherever it still stands (R498). -/
def State.rewriteRecord (s : State) (e : Entry) (seq : Nat) : State :=
  let old := s.nvBytes (logAddr seq) 32
  let flags := ofLe (old.drop 16)
  let bs := recordBytes e (flags.testBit 117) (flags.testBit 116) seq
  let s := if s.nvBytes (logAddr seq + 16) 4 = leBytes 4 seq then s.nvStore (logAddr seq) bs else s
  (List.range 5).foldl (fun s i =>
    if s.pinHeld i && s.nvBytes (pinAddr i + 16) 4 == leBytes 4 seq then s.nvStore (pinAddr i) bs else s) s

/-- The lost counts, 12 bits each (R497). -/
def State.lostDetail (s : State) : Nat :=
  ((List.range 4).map (fun v => let r := lostReg v; min 4095 (s.fld r.1 (r.2 + 15) r.2) * 2 ^ (12 * v))).sum

/-- The LOST report owed is entered once the intake has a free entry (R497). -/
def State.payLost (s : State) : State :=
  if s.fgh.lostOwed ∧ s.fgh.intake.length < Config.intakeDepth then
    (s.mapFgh (fun f => { f with lostOwed := false })).report 0x04 0 0x17 s.lostDetail
  else s

/-- The next entry to be recorded: immediate ones first (R498). -/
def nextRecord (l : List Entry) : Option Nat :=
  match l.findIdx? (fun e => e.ready && immediate e.severity e.code) with
  | some i => some i
  | none => l.findIdx? Entry.ready

/-- Write the record of intake entry `i`; the entry leaves unless it still gathers merges. -/
def State.recordEntry (s : State) (i : Nat) : State :=
  let s := s.meetUnit 0x04 0
  match s.fgh.intake[i]? with
  | none => s
  | some e =>
    let put (s : State) (l : List Entry) : State := s.mapFgh (fun f => { f with intake := l })
    match e.written with
    | some seq => ((put s (s.fgh.intake.eraseIdx i)).rewriteRecord e seq).payLost
    | none =>
      let seq := (s.reg Reg.fghLogHead).toNat
      let s := if immediate e.severity e.code && e.windowOpen then
          put s (s.fgh.intake.set i { e with written := some seq, again := false })
        else put s (s.fgh.intake.eraseIdx i)
      (s.writeRecord e).payLost

/-- RECORD_WRITE (R498): one record. -/
def doRecordWrite (s : State) : State :=
  if s.fld Reg.fghStatus 20 20 = 1 then s else
  match nextRecord s.fgh.intake with
  | some i => s.recordEntry i
  | none => s

/-- INTAKE_WINDOW_CLOSE (R496): the windows close in the order the entries came. -/
def doIntakeWindowClose (i : Nat) (s : State) : State :=
  match s.fgh.intake[i]? with
  | none => s
  | some e =>
    if !e.windowOpen || (s.fgh.intake.take i).any (·.windowOpen) then s
    else if e.written.isSome && !e.again then (s.mapFgh (fun f => { f with intake := f.intake.eraseIdx i })).payLost
    else s.mapFgh (fun f => { f with intake := f.intake.set i { e with windowOpen := false } })

/-! Checkers and monitors (R492 to R494). -/

/-- SELF_TEST_CYCLE (R492): the checkers that gave the wrong answer, by window and sub. -/
def doSelfTestCycle (failures : List (Nat × Nat)) (s : State) : State :=
  if s.fld Reg.fghCtrl 30 30 = 0 then s else
  let s := s.setFld Reg.fghSelftest 31 16 (s.fld Reg.fghSelftest 31 16 + 1)
  let s := s.bump Reg.fghSelftest 15 0 failures.length
  failures.foldl (fun s f => s.report f.1 f.2 0x0F 0) s

/-- CLOCK_MONITOR_MEASURE (R494): one measurement of clock domain `d`; five outside in a row are reported once. -/
def doClockMonitorMeasure (d : Nat) (outside : Bool) (s : State) : State :=
  if outside then
    let n := min 5 (sget 0 s.fgh.clockBad d + 1)
    let s := s.mapFgh (fun f => { f with clockBad := sset 0 f.clockBad d n })
    if n = 5 ∧ s.fgh.clockReported.contains d = false then
      (s.mapFgh (fun f => { f with clockReported := f.clockReported ++ [d] })).report 0x04 d 0x10 0
    else s
  else s.mapFgh (fun f => { f with clockBad := sset 0 f.clockBad d 0, clockReported := f.clockReported.filter (· != d) })

/-- FOGHORN_MISMATCH (R493): FAULT_N stays asserted, nothing more is recorded. -/
def doFoghornMismatch (s : State) : State :=
  ((s.setFld Reg.fghStatus 20 20 1).mapFgh (fun f => { f with faultStuck := true })).assertFault

/-- A write of FGH_CTRL; clear_fault releases FAULT_N unless it is held (R493). -/
def State.fghCtrlWrite (s : State) (m : Master) (v : Word) : State :=
  s.gateWrite m Reg.fghCtrl (fun s =>
    let s := s.maskedWrite Reg.fghCtrl v
    if bitsOf v 27 27 = 1 ∧ s.fld Reg.fghStatus 22 22 = 1 ∧ s.fgh.faultStuck = false then
      (s.setFld Reg.fghStatus 22 22 0).emit (.pin .faultN true)
    else s)

/-- CLEAR_FAULT (R493). -/
def doClearFault (m : Master) (v : Word) (s : State) : State := s.fghCtrlWrite m v

/-- PIN_CLEAR (R499). -/
def doPinClear (m : Master) (v : Word) (s : State) : State :=
  s.gateWrite m Reg.fghPinClear (fun s =>
    let s := if bitsOf v 31 31 = 1 then s.setFld Reg.fghPinned 31 31 0 else s
    if bitsOf v 30 30 = 1 then (s.setFld Reg.fghPinned 30 27 0).mapFgh (fun f => { f with fatalNext := 0 }) else s)

/-- HOST_SNAP_TRIGGER (R501). -/
def doHostSnapTrigger (m : Master) (v : Word) (s : State) : State :=
  s.gateWrite m Reg.fghSnapTrig (fun s => if bitsOf v 31 31 = 1 then s.latchSnap 3 0 else s)

/-! Descriptors that read and report (R502, R520, R521). -/

def fghBadParams : Nat := 0x10
def fghRefused : Nat := 0x11
def fghSnapTorn : Nat := 0x12
def fghStateBusy : Nat := 0x13

/-- Does the log hold the record of sequence `q`? -/
def State.logHolds (s : State) (q : Nat) : Bool :=
  let head := (s.reg Reg.fghLogHead).toNat
  decide (q < head ∧ head ≤ q + Config.logRecords)

/-- The records that a REC_READ names, oldest first; none where a slot or the log holds none (R520). -/
def State.recordsAsked (s : State) (t : Taken) : List (Option (List Byte)) :=
  if t.fld 0 87 87 = 1 then (List.range 5).map (fun i => if s.pinHeld i then some (s.nvBytes (pinAddr i) 32) else none)
  else (List.range (t.fld 0 54 41 + 1)).map (fun i =>
    let q := t.fld 0 86 55 + i
    if s.logHolds q then some (s.nvBytes (logAddr q) 32) else none)

/-- REC_READ (R520, R521). -/
def doRecRead (s : State) : State :=
  s.takeAs 23 0x12 [1] fun t s =>
    let dst := t.fld 1 127 80
    let recs := s.recordsAsked t
    let n := recs.length
    if t.zeros [(0, 40, 0), (1, 79, 0)] = false ∨ dst % 32 ≠ 0 then s.complete 23 t.tag fghBadParams 0
    else if !inMemory s.variant dst (32 * n) then s.complete 23 t.tag stBadAddress 0
    else
      let s := (s.meetUnit 0x04 1).unitStore 0x04 dst (recs.flatMap (fun r => r.getD (List.replicate 32 0)))
      s.complete 23 t.tag stSuccess (BitVec.ofNat 64 (recs.filter Option.isSome).length)

/-- The latched snapshot as its 4160 bytes (R502). -/
def State.snapBytes (s : State) : List Byte :=
  let r (k : Nat) : List Byte := leBytes 4 (s.reg k).toNat
  let head := r Reg.fghSnapSeq ++ leBytes 4 0 ++ r Reg.fghSnapTimeLo ++ r Reg.fghSnapTimeHi ++ r Reg.fghSnapCause ++
    List.replicate 44 0
  head ++ (List.range 256).flatMap (fun w =>
    match snapKey w with
    | some k => if windowAbsent s.variant w then List.replicate 16 0 else (List.range 4).flatMap (fun i => r (k + 4 * i))
    | none => List.replicate 16 0)

/-- SNAP_COPY (R502): `torn` says that the sequence changed while the copy ran. -/
def doSnapCopy (torn : Bool) (s : State) : State :=
  s.takeAs 23 0x13 [1] fun t s =>
    let dst := t.fld 1 127 80
    if t.zeros [(0, 87, 0), (1, 79, 0)] = false ∨ dst % 64 ≠ 0 then s.complete 23 t.tag fghBadParams 0
    else if !inMemory s.variant dst 4160 then s.complete 23 t.tag stBadAddress 0
    else (s.unitStore 0x04 dst s.snapBytes).complete 23 t.tag (if torn then fghSnapTorn else stSuccess) 0

/-- REPORT (R520): a report of code SOFTWARE from the posting cell. -/
def doReport (s : State) : State :=
  s.takeAs 23 0x14 [1] fun t s =>
    if t.zeros [(0, 77, 0), (1, 79, 0)] = false then s.complete 23 t.tag fghBadParams 0
    else
      (s.reportSev (0x50 + t.cell) (t.fld 0 85 78) 0x18 (t.fld 0 87 86) (t.fld 1 127 80)).complete 23 t.tag stSuccess 0

/-! Power domains (R503). -/

/-- The powered domains as a result (R521). -/
def State.poweredResult (s : State) : BitVec 64 := BitVec.setWidth 64 s.doms.powered

/-- Complete the PD_SET and the STATE whose domains have all risen. -/
def State.risenAll (s : State) : State :=
  let s := (s.fgh.pdTag.filter (fun p => s.doms.rising &&& p.2 == 0)).foldl (fun s p =>
    (s.mapFgh (fun f => { f with pdTag := f.pdTag.erase p })).complete 23 p.1 stSuccess s.poweredResult) s
  match s.fgh.stateTag with
  | some tag =>
    if s.powerState = 0 ∧ s.doms.rising &&& s.fgh.offMask = 0 then
      (s.mapFgh (fun f => { f with stateTag := none })).complete 23 tag stSuccess s.poweredResult
    else s
  | none => s

/-- PD_SET (R503): domains of off_mask go down, those of restart_mask go down and begin to rise, those of on_mask begin to
rise; the descriptor completes when all have risen. -/
def doPdSet (s : State) : State :=
  s.takeWhen 23 0x10 [1] (fun _ => s.fgh.pdTag.isEmpty) fun t s =>
    let on := BitVec.ofNat 30 (t.fld 0 87 58)
    let off := BitVec.ofNat 30 (t.fld 0 57 28)
    let re := BitVec.ofNat 30 (t.fld 1 127 98)
    if t.zeros [(0, 27, 0), (1, 97, 0)] = false ∨ on &&& off ≠ 0 ∨ on &&& re ≠ 0 ∨ off &&& re ≠ 0 then
      s.complete 23 t.tag fghBadParams 0
    else if (on ||| off ||| re) &&& 3#30 ≠ 0 then s.complete 23 t.tag fghRefused 0
    else
      let s := (domList (off ||| re)).foldl State.powerDown s
      let s := (domList (on ||| re)).foldl State.startRise s
      (s.mapFgh (fun f => { f with pdTag := f.pdTag ++ [(t.tag, on ||| re)] })).risenAll

/-- DOMAIN_POWER_UP_DONE (R503). -/
def doDomainPowerUpDone (d : Nat) (s : State) : State :=
  if s.doms.rising.getLsbD d then (s.powerUp d).risenAll else s

/-! Hold (R505, R506). -/

/-- The domains that may be off in Hold. -/
def holdMask : BitVec 30 := 0x2C07FFFC#30

/-- Does any generator retime, run or take HOLD? -/
def State.gensLive (s : State) : Bool := [0, 1].any (fun g => decide (1 ≤ s.genState g ∧ s.genState g ≤ 4))

/-- HOLD is taken on every running generator (R264). -/
def State.holdAll (s : State) : State :=
  ([0, 1].filter (fun g => decide (1 ≤ s.genState g ∧ s.genState g ≤ 3) && !(s.gen g).holdAsked && !(s.locked && g == 1))).foldl
    (fun s g => s.askHold g []) s

/-- STATE (R505, R506). -/
def doState (s : State) : State :=
  s.takeAs 23 0x11 [0] fun t s =>
    let off := BitVec.ofNat 30 (t.fld 0 86 57)
    let fin (s : State) (st : Nat) : State := s.complete 23 t.tag st (if st = stSuccess then s.poweredResult else 0)
    if t.fld 0 56 0 ≠ 0 then fin s fghBadParams
    else if s.fgh.stateTag.isSome ∨ 2 ≤ s.powerState ∨ s.fgh.resetting.isSome then fin s fghStateBusy
    else if t.fld 0 87 87 = 1 then
      if off &&& ~~~holdMask ≠ 0 then fin s fghRefused
      else if s.powerState = 1 then
        fin ((domList off).foldl State.powerDown (s.mapFgh (fun f => { f with offMask := f.offMask ||| off }))) stSuccess
      else ((s.mapFgh (fun f => { f with offMask := off, stateTag := some t.tag })).setPowerState 2).holdAll
    else if s.powerState = 0 then fin s stSuccess
    else
      let s := (domList s.fgh.offMask).foldl State.startRise s
      (((s.setPowerState 0).fire 25).mapFgh (fun f => { f with stateTag := some t.tag })).risenAll

/-- STATE_HOLD_REACHED (R505, steps 2 and 3): every generator is held. -/
def doStateHoldReached (s : State) : State :=
  if s.powerState ≠ 2 ∨ s.gensLive ∨ s.fgh.resetting.isSome then s else
  let s := (domList s.fgh.offMask).foldl State.powerDown s
  let s := (s.setPowerState 1).fire 25
  match s.fgh.stateTag with
  | some tag => (s.mapFgh (fun f => { f with stateTag := none })).complete 23 tag stSuccess s.poweredResult
  | none => s

/-! Doze (R507, R508). -/

/-- DOZE_ENTRY (R507): only the host enters Doze, from Run or Hold. -/
def doDozeEntry (m : Master) (v : Word) (s : State) : State :=
  s.gateWrite m Reg.fghPower (fun s =>
    if m ≠ .host ∨ bitsOf v 31 31 = 0 ∨ 2 ≤ s.powerState ∨ s.fgh.stateTag.isSome ∨ s.fgh.resetting.isSome then s
    else ((s.mapFgh (fun f => { f with dozeStep := 1, wakeHeld := none })).setPowerState 3).holdAll)

/-- doze_mv, held inside 650 mV to 800 mV. -/
def State.dozeMv (s : State) : Nat := max 650 (min 800 (s.fld Reg.fghSupplyCfg 9 0))

/-- The cause bit of a wake source in FGH_WAKE_CFG and FGH_WAKE_CAUSE. -/
def wakeBit : WakeSrc → Nat
  | .tw4 => 31
  | .gpio => 30
  | .pcie => 29
  | .alarm => 28

/-- A wake begins: the cause, state waking, exit step 1. -/
def State.beginWake (s : State) (src : WakeSrc) : State :=
  let s := s.setReg Reg.fghWakeCause (packBits [(1, wakeBit src)])
  ((s.setPowerState 4).fire 25).mapFgh (fun f => { f with dozeStep := 8, wakeHeld := none })

/-- An enabled wake source is seen in Doze, or during its entry, where it is held (R508). -/
def State.wake (s : State) (src : WakeSrc) : State :=
  if s.fld Reg.fghWakeCfg (wakeBit src) (wakeBit src) = 0 then s
  else if s.fgh.dozeStep = 7 then s.beginWake src
  else if 1 ≤ s.fgh.dozeStep ∧ s.fgh.dozeStep ≤ 6 ∧ s.fgh.wakeHeld.isNone then s.mapFgh (fun f => { f with wakeHeld := some src })
  else s

/-- DOZE_STEP_DONE (R507): the step in progress ends with its effect. -/
def doDozeStepDone (s : State) : State :=
  let next (s : State) : State := s.mapFgh (fun f => { f with dozeStep := f.dozeStep + 1 })
  match s.fgh.dozeStep with
  | 1 => if s.gensLive then s else next ((domList holdMask).foldl State.powerDown s)
  | 2 =>
    let s := (List.range 8).foldl (fun s n => if (s.cell n).live then s.halt n (s.cell n).restState 0 0 else s) s
    next (((s.eraseLaneKeys).eraseCascade).closeSessions)
  | 3 => if (stackList s.variant).any (fun x => s.stackState x == 1) then s else next ((stackList s.variant).foldl State.enterSelfRefresh s)
  | 4 => next ([19, 20, 21, 22, 23, 24, 25, 28].foldl State.powerDown s)
  | 5 =>
    let held := s.gov.heldSetpoint.getD s.setpoint
    next ((s.mapGov (fun g => { g with heldSetpoint := some held })).sendVout s.dozeMv 1)
  | 6 =>
    let s := next (s.setFld Reg.bcnStatus 31 31 1)
    let s := s.fire 25
    match s.fgh.wakeHeld with | some src => s.beginWake src | none => s
  | _ => s

/-- DOZE_WAKE (R508): PCIe or the alarm, whose time must have been reached; TW_4 and GPIO have commands of their own too. -/
def doDozeWake (src : WakeSrc) (s : State) : State :=
  if src = .alarm ∧ s.now < (s.reg Reg.fghWakeTimeLo).toNat + 2 ^ 32 * (s.reg Reg.fghWakeTimeHi).toNat then s else s.wake src

/-- TW4_WAKE_MATCH (R480, R488). -/
def doTw4WakeMatch (s : State) : State := if 1 ≤ s.fgh.dozeStep ∧ s.fgh.dozeStep ≤ 7 then (s.fire 253).wake .tw4 else s

/-- The guard starts again under a new key-use count after a wake (R540). -/
def State.guardAgain (s : State) : State :=
  if s.fld Reg.kprStatus 17 17 = 1 ∧ s.kpr.sk.isSome ∧ s.fld Reg.kprStatus 23 22 ≠ 2 ∧ s.cas.guard.isNone then
    let b := (s.kpr.useCount + 1) % 2 ^ 32
    (s.mapKpr (fun x => { x with useCount := b })).mapCas (fun c => { c with guard := some (b, 0) })
  else s

/-- DOZE_EXIT_STEP_DONE (R508). -/
def doDozeExitStepDone (s : State) : State :=
  let next (s : State) : State := s.mapFgh (fun f => { f with dozeStep := f.dozeStep + 1 })
  let up (l : List Nat) (s : State) : State := l.foldl State.powerUp s
  match s.fgh.dozeStep with
  | 8 =>
    let mv := s.gov.heldSetpoint.getD s.setpoint
    next ((s.mapGov (fun g => { g with heldSetpoint := none })).sendVout mv 1)
  | 9 => next (up [28, 24] s)
  | 10 => next (up [21, 22] s)
  | 11 => next ((up (domList (BitVec.setWidth 30 (s.reg Reg.fghDozeRestore) &&& ~~~3#30)) (up [23, 19, 20] s)).guardAgain)
  | 12 => next (s.fire 242)
  | 13 => ((s.setPowerState 0).mapFgh (fun f => { f with dozeStep := 0, offMask := 0 })).fire 25 |>.fire 26
  | _ => s

/-- GPIO_EDGE (R484): the board drives a ball; an enabled edge on a wake pin wakes the device. -/
def doGpioEdge (p : Nat) (level : Bool) (s : State) : State :=
  let changed := s.hci.balls.getLsbD p != level
  let mask : BitVec 16 := BitVec.ofNat 16 (2 ^ p)
  let s := (s.mapHci (fun h => { h with balls := if level then h.balls ||| mask else h.balls &&& ~~~mask })).gpioShow
  let e := if level then 16 + p else p
  if changed && s.fld Reg.gpioEdge e e == 1 && s.fld Reg.gpioWake p p == 1 then s.wake .gpio else s

/-! Supply (R512 to R514, R553). -/

/-- margin_mv, held inside 10 to 150. -/
def State.marginMv (s : State) : Nat := max 10 (min 150 (s.fld Reg.fghSupplyCfg 31 24))

/-- The warning level W of VCORE: from the lower setpoint while one settles. -/
def State.warnLevel (s : State) : Nat :=
  (if s.gov.settling then min s.gov.prevSetpoint s.setpoint else s.setpoint) - s.marginMv

/-- SUPPLY_WARNING (R512). -/
def doSupplyWarning (mv : Nat) (s : State) : State :=
  let w := s.warnLevel
  if w ≤ mv then s
  else if s.supplyWarn then s.setFld Reg.fghSupplyStatus 25 16 (min mv (s.fld Reg.fghSupplyStatus 25 16))
  else
    let s := ((s.setFld Reg.fghSupplyStatus 31 31 1).setFld Reg.fghSupplyStatus 25 16 (min 1023 mv)).fire 16
    let s := (s.mapGov (fun g => { g with warnSeen := true })).mapFgh (fun f => { f with dwellTaken := false })
    s.report 0x04 0 0x12 (w * 2 ^ 32 + mv * 2 ^ 16)

/-- SUPPLY_RECOVERY (R512): with the minimum captured and the dip's duration in µs. -/
def doSupplyRecovery (minMv duration : Nat) (s : State) : State :=
  if !s.supplyWarn then s else
  let low := min minMv (s.fld Reg.fghSupplyStatus 25 16)
  let s := ((s.setFld Reg.fghSupplyStatus 31 31 0).setFld Reg.fghSupplyStatus 25 16 low).bump Reg.fghSupplyStatus 15 0 1
  ((s.mapFgh (fun f => { f with dwellTaken := false })).fire 17).report 0x04 0 0x13 (low * 2 ^ 32 + duration)

/-- SUPPLY_DWELL_EXPIRY (R513): the protective Hold, once for a warning. -/
def doSupplyDwellExpiry (s : State) : State :=
  if !s.supplyWarn || s.fld Reg.fghSupplyCfg 23 16 == 0 || s.fgh.dwellTaken then s
  else
    let s := (s.mapFgh (fun f => { f with dwellTaken := true })).fire 18
    { s with due := { s.due with hold := true } }

/-- The warning level of rail `r` in mV (R553). -/
def railLevel (st : Straps) (r : Nat) : Nat :=
  match r with
  | 1 => 760
  | 2 => 800
  | 3 => 1130
  | 4 => 1130
  | 5 => 1040
  | 6 => 375
  | 7 => 1700
  | 8 => 1650
  | 9 => 1650
  | 10 => if st.twRail33 then 3000 else 1650
  | _ => 0

/-- OTHER_RAIL_WARNING (R514). -/
def doOtherRailWarning (r mv : Nat) (s : State) : State :=
  let w := railLevel s.straps r
  if w ≤ mv then s
  else if s.fgh.railWarn.contains r then
    s.mapFgh (fun f => { f with railMin := sset 0 f.railMin r (min mv (sget 0 f.railMin r)) })
  else
    let s := s.mapFgh (fun f => { f with railWarn := f.railWarn ++ [r], railMin := sset 0 f.railMin r mv })
    ((s.setFld Reg.fghSupplyStatus 30 30 1).fire 19).report 0x04 r 0x12 (w * 2 ^ 32 + mv * 2 ^ 16)

/-- OTHER_RAIL_RECOVERY (R514). -/
def doOtherRailRecovery (r minMv duration : Nat) (s : State) : State :=
  if !s.fgh.railWarn.contains r then s else
  let low := min minMv (sget 0 s.fgh.railMin r)
  let s := s.mapFgh (fun f => { f with railWarn := f.railWarn.filter (· != r), railMin := sset 0 f.railMin r 0 })
  let s := s.setFld Reg.fghSupplyStatus 30 30 (!s.fgh.railWarn.isEmpty).toNat
  (s.fire 17).report 0x04 r 0x13 (low * 2 ^ 32 + duration)

/-! Temperature (R515 to R519). -/

/-- The orthogonal neighbours of sensor `n` in the 4 × 4 grid. -/
def sensorNeighbours (n : Nat) : List Nat :=
  (if 4 ≤ n then [n - 4] else []) ++ (if n % 4 ≠ 0 then [n - 1] else []) ++ (if n % 4 ≠ 3 then [n + 1] else []) ++
  (if n < 12 then [n + 4] else [])

/-- A sensor's reading in 0.25 °C. -/
def State.sensor (s : State) (n : Nat) : Int := signed 16 (s.fld (Reg.fghTs n) 15 0)
def State.suspect (s : State) (n : Nat) : Bool := s.fld Reg.fghThermStatus n n == 1

/-- Insert into a rising list. -/
def insertInt (a : Int) : List Int → List Int
  | [] => [a]
  | b :: t => if a ≤ b then a :: b :: t else b :: insertInt a t

/-- Twice the median of some readings (R516); none with fewer than two. -/
def median2 (l : List Int) : Option Int :=
  let x := l.foldl (fun x a => insertInt a x) []
  let n := x.length
  if n < 2 then none else some (x.getD ((n - 1) / 2) 0 + x.getD (n / 2) 0)

/-- Twice the median of the non-suspect neighbours of sensor `n`. -/
def State.neighbourMedian2 (s : State) (n : Nat) : Option Int :=
  median2 (((sensorNeighbours n).filter (fun k => !s.suspect k)).map s.sensor)

/-- The cross-check of sensor `n` against the state `s0` before any of this read's verdicts (R516). -/
def State.checkSensor (s0 : State) (s : State) (n : Nat) : State :=
  if s0.suspect n then s else
  let dev (k : Nat) (s : State) : State := s.mapFgh (fun f => { f with deviations := sset 0 f.deviations n k })
  match s0.neighbourMedian2 n with
  | none => dev 0 (s.setFld (Reg.fghTs n) 30 30 1)
  | some m =>
    let s := s.setFld (Reg.fghTs n) 30 30 0
    if (2 * s0.sensor n - m).natAbs ≤ 48 then dev 0 s
    else if sget 0 s.fgh.deviations n < 7 then dev (sget 0 s.fgh.deviations n + 1) s
    else (((dev 0 s).setFld Reg.fghThermStatus n n 1).report 0x04 n 0x14 (s0.fld (Reg.fghTs n) 15 0)).fire 23

/-- The sub of reports about the die temperature. -/
def dieSub : Nat := 16

/-- The thresholds of T_die (R517). -/
def State.checkDie (s : State) (t : Int) : State :=
  let raw := wrapInt 48 t
  let warn := signed 8 (s.fld Reg.fghThermCfg 31 24) * 4
  let crit := signed 8 (s.fld Reg.fghThermCfg 23 16) * 4
  let w0 := s.fld Reg.fghThermStatus 31 31 == 1
  let c0 := s.fld Reg.fghThermStatus 30 30 == 1
  let s := if !w0 && decide (warn ≤ t) then (((s.setFld Reg.fghThermStatus 31 31 1).report 0x04 dieSub 0x14 raw)).fire 20
    else if w0 && decide (t ≤ warn - 12) then s.setFld Reg.fghThermStatus 31 31 0 else s
  let s := if !c0 && decide (crit ≤ t) then
      let s := ((s.setFld Reg.fghThermStatus 30 30 1).report 0x04 dieSub 0x15 raw).fire 21
      if s.fld Reg.fghCtrl 28 28 = 1 then { s with due := { s.due with hold := true } } else s
    else if c0 && decide (t ≤ crit - 12) then s.setFld Reg.fghThermStatus 30 30 0 else s
  if (w0 || c0) && s.fld Reg.fghThermStatus 31 30 == 0 then s.fire 22 else s

/-- Do the readings call for a thermal shutdown (R518)? -/
def State.tooHot (s : State) : Bool :=
  let hot := (List.range 16).filter (fun n => !s.suspect n && decide (540 ≤ s.sensor n))
  decide (2 ≤ hot.length) || hot.any (fun n => match s.neighbourMedian2 n with | some m => decide (2 * 516 ≤ m) | none => false)

/-- Eight sensors from `n` on as signed 8-bit °C, the lowest in the lowest byte. -/
def State.sensorBytes (s : State) (n : Nat) : Nat :=
  ofLe ((List.range 8).map (fun i => BitVec.ofInt 8 (clampI (-128) 127 (s.sensor (n + i) / 4))))

/-- Thermal shutdown (R518): three records, FAULT_N, every domain but PD_0 off, DRAM lost. After a mismatch of
its halves Foghorn records nothing (R493). -/
def State.shutdown (s : State) : State :=
  let e : Entry := { resetEntry with code := 0x15, severity := 3, last := s.bcn.ns, windowOpen := false }
  let t := s.now % 2 ^ 48
  let put (s : State) (sub first : Nat) (detail : BitVec 48) : State :=
    if s.fld Reg.fghStatus 20 20 = 1 then s
    else s.writeRecord { e with sub := sub, first := BitVec.ofNat 64 first, detail := detail }
  let s := put s 0xFF s.now (BitVec.setWidth 48 (s.reg Reg.fghTdie))
  let s := put s 0xFE (s.sensorBytes 0) (BitVec.ofNat 48 t)
  let s := put s 0xFD (s.sensorBytes 8) (BitVec.ofNat 48 t)
  let s := ((s.mapFgh (fun f => { f with faultStuck := true })).assertFault).setPowerState 5
  let s := (List.range 28).foldl (fun s d => s.powerDown (d + 2)) s
  let s := { s with doms := { s.doms with powered := s.doms.powered &&& 1#30, fenced := s.doms.fenced &&& 1#30, rising := 0 } }
  ({ s with inert := true }).zero 0 (dramTop s.variant)

/-- The readings of the first `n` sensors stand in FGH_TS_0 to FGH_TS_15 (R515). -/
def State.takeReadings (s : State) (n : Nat) (readings : List (BitVec 16)) : State :=
  ((readings.take n).zipIdx).foldl (fun s p => s.setFld (Reg.fghTs p.2) 15 0 p.1.toNat) s

/-- The hottest of the first `n` sensors that are not suspect (R517). -/
def State.hottest (s : State) (n : Nat) : Option Int := (((List.range n).filter (fun n => !s.suspect n)).map s.sensor).max?

/-- T_die takes its value, its thresholds and the shutdown follow (R517, R518). -/
def State.judgeDie (s : State) (t : Int) : State :=
  let s := (s.setFld Reg.fghTdie 15 0 (wrapInt 16 t)).checkDie t
  if s.tooHot then s.shutdown else s

/-- SENSOR_READ (R515 to R518): in Doze and in shutdown only TS_0's reading is taken. -/
def doSensorRead (readings : List (BitVec 16)) (s : State) : State :=
  let only := s.inert || s.fgh.dozeStep == 7
  if s.inert ∧ s.powerState ≠ 5 then s else
  let n := if only then 1 else 16
  let s := s.takeReadings n readings
  if s.inert then s else
  let s := if only then s else (List.range 16).foldl (State.checkSensor s) s
  match s.hottest n with
  | none => s
  | some t => s.judgeDie t

/-- OSCILLATOR_TRIM (R519): the trims lie in the oscillator and the monitors, and nothing reads them. -/
def doOscillatorTrim (s : State) : State := s.mapFgh (fun f => { f with trims := f.trims + 1 })

end Sys2Proof.Machine
end

