-- ==== Sys2Proof/Machine/Reset.lean ====
section
/-!
DEFINITION. Device-wide resets, the watchdog, power-on and RESET_N (spec/14_safety_power_reset.md R509 to R511,
spec/16_electrical_package.md R557, spec/13_host_control_buses.md R467).
-/
namespace Sys2Proof.Machine

/-- The code of a reset kind in reset_cause. -/
def ResetKind.code : ResetKind → Nat
  | .powerOn => 0
  | .resetN => 1
  | .watchdog => 2
  | .soft => 3
  | .hot => 4
  | .flr => 5

/-- Is the kind one that leaves the always-on state standing? -/
def ResetKind.warm : ResetKind → Bool
  | .powerOn => false
  | .resetN => false
  | _ => true

/-! What a reset keeps (R511). -/

/-- The bits of register `k` that come from fuses and MRAM. -/
def nvMask (k : Nat) : Word :=
  if k = Reg.kprStatus then 0x0D0D0000#32
  else if k = Reg.kprSlots ∨ k = Reg.kprTamper ∨ k = Reg.flashProt ∨ k = Reg.fghLogHead ∨ k = Reg.fghPinned ∨
    (0x80040 ≤ k ∧ k < 0x80080) then 0xFFFFFFFF#32
  else 0

/-- The bits of register `k` that a watchdog, SOFT, hot reset or FLR keeps beside those. -/
def warmMask (kind : ResetKind) (k : Nat) : Word :=
  if k = Reg.bcnInc ∨ k = Reg.memMap ∨ k = Reg.memRepaired 0 ∨ k = Reg.memRepaired 1 ∨ k = Reg.memPcFailed 0 ∨
    k = Reg.memPcFailed 1 ∨ k = Reg.fghLost0 ∨ k = Reg.fghLost1 ∨ k = Reg.fghWakeCfg ∨ k = Reg.fghWakeCause ∨
    k = Reg.fghWakeTimeLo ∨ k = Reg.fghWakeTimeHi ∨ k = Reg.fghDozeRestore ∨ k = Reg.gpioWake then 0xFFFFFFFF#32
  else if k = Reg.memStatus 0 ∨ k = Reg.memStatus 1 then 0xF0FF0000#32
  else if k = Reg.fghSupplyStatus then 0x83FF0000#32
  else if k = Reg.bcnStatus then 0x80000000#32
  else if k = Reg.fghStatus then 0x0F700000#32
  else if k = Reg.hciPcieStatus ∧ kind.pcie then 0xFFC00000#32
  else 0

/-- The registers after a reset: kept bits stand, every other bit takes its reset value. -/
def keepRegs (v : Variant) (st : Straps) (mask : Nat → Word) (regs : Sparse Word) : Sparse Word :=
  regs.filterMap (fun p =>
    let x := (p.2 &&& mask p.1) ||| (regInit v st p.1 &&& ~~~(mask p.1))
    if x = regInit v st p.1 then none else some (p.1, x))

/-- Keeper after a reset: OTP and MRAM stand. -/
def Kpr.afterReset (k : Kpr) : Kpr :=
  { Kpr.empty with slots := k.slots, fwFloor := k.fwFloor, dkOff := k.dkOff, wk := k.wk, wkNumber := k.wkNumber, sk := k.sk,
                   skNumber := k.skNumber, floors := k.floors, gens := k.gens, useCount := k.useCount }

/-- What every reset leaves: a blank device with its MRAM, fuses, flash and pins, the free values and the commands that
wait. -/
def State.afterAny (s : State) (mask : Nat → Word) : State :=
  { State.blank s.variant s.straps with
    regs := keepRegs s.variant s.straps mask s.regs, nv := s.nv, kpr := s.kpr.afterReset,
    hci := { Hci.empty with flash := s.hci.flash, balls := s.hci.balls },
    fgh := { Fgh.empty with fatalNext := s.fgh.fatalNext },
    out := s.out ++ (List.range 4).flatMap s.pinsRest, fresh := s.fresh, pending := s.pending }

/-- Beacon time and BCN_PTP_BASE after a warm reset. -/
def Beacon.afterWarm (b : Beacon) : Beacon :=
  { ns := b.ns, frac := b.frac, wrap := b.wrap, latFrac := 0, latWrap := 0, ptpLo := 0, ptpBase := b.ptpBase, trigs := [],
    eth := [], txq := [], filters := [], ring := none, rtp := [] }

/-- What a watchdog, SOFT, hot reset or FLR leaves: also Beacon time, epochs, DRAM in self-refresh, the lost report owed, an
active supply warning, a held FAULT_N. -/
def State.afterWarm (s : State) (kind : ResetKind) : State :=
  let r := s.afterAny (fun k => nvMask k ||| warmMask kind k)
  { r with
    mem := s.mem.filter (fun c => decide (c.1 < dramTop s.variant))
    poison := s.poison.filter (fun p => decide (p.1 * 16 < dramTop s.variant))
    flaws := s.flaws.filter (fun p => decide (p.1 * 16 < dramTop s.variant))
    bcn := s.bcn.afterWarm
    doms := { Doms.reset s.variant with epochs := s.doms.epochs }
    memx := { MemSt.reset with entryTemp := s.memx.entryTemp }
    fgh := { r.fgh with lostOwed := s.fgh.lostOwed, faultStuck := s.fgh.faultStuck, dwellTaken := s.fgh.dwellTaken } }

/-- The end of every reset: the RESET report, FGH_RESET_CAUSE, the read of VOUT_MODE, boot (R510, R481, R469). -/
def State.resetEnds (s : State) : State :=
  let s := (s.report 0x04 0 0x16 (s.fld Reg.fghStatus 27 24)).fire 14
  ((s.emit (modeRead (s.fld Reg.hciPmbus 6 0))).gpioShow.payLost).startBoot

/-! The sequence of R510. -/

/-- The stacks enter self-refresh; DRAM is lost with a stack that cannot (step 3). -/
def State.parkStacks (s : State) : State :=
  let s := (stackList s.variant).foldl State.enterSelfRefresh s
  let s := (stackList s.variant).foldl (fun s x => if s.stackState x = 0 then s.setStackState x 3 else s) s
  if (stackList s.variant).any (fun x => s.stackState x == 1) then (s.setFld Reg.fghStatus 21 21 1).zero 0 (dramTop s.variant) else s

/-- Immediate entries are written, every other one is counted in its lost count (step 4). -/
def State.drainIntake (s : State) : State :=
  let now := s.fgh.intake.filter (fun e => immediate e.severity e.code && (e.written.isNone || e.again))
  let rest := s.fgh.intake.filter (fun e => !immediate e.severity e.code)
  let s := s.mapFgh (fun f => { f with intake := [] })
  let s := if s.fld Reg.fghStatus 20 20 = 1 then s else
    now.foldl (fun s e => match e.written with | none => s.writeRecord e | some q => s.rewriteRecord e q) s
  rest.foldl (fun s e => s.loseReports e.severity e.count) s

/-- Steps 3 to 6 of R510. -/
def State.finishReset (s : State) (kind : ResetKind) : State :=
  let s := ((s.parkStacks).drainIntake).afterWarm kind
  let s := if kind = .flr then s.setFld Reg.hciPcieStatus 23 23 1 else if kind = .hot then s.setFld Reg.hciPcieStatus 22 22 1 else s
  s.resetEnds

/-- A watchdog, SOFT, hot reset or FLR: steps 1 and 2 of R510. One that arrives while another runs is merged into it. -/
def State.beginReset (s : State) (kind : ResetKind) : State :=
  let s := if kind.pcie then s.fire 250 else s
  if s.fgh.resetting.isSome then s else
  let s := (s.setFld Reg.fghStatus 27 24 kind.code).mapFgh (fun f => { f with resetting := some kind })
  if kind = .watchdog then s.finishReset kind
  else
    let s := s.holdAll
    if s.gensLive then s else s.finishReset kind

/-- RESET_HOLD_WINDOW_END (R510, step 2): the Hold is complete, or 50 ms have passed. -/
def doResetHoldWindowEnd (s : State) : State :=
  match s.fgh.resetting with
  | some kind => s.finishReset kind
  | none => s

/-- SOFT_RESET (R509): only the value 0x5EED_0001 acts. -/
def doSoftReset (m : Master) (v : Word) (s : State) : State :=
  s.gateWrite m Reg.fghReset (fun s => if v = 0x5EED0001 then s.beginReset .soft else s)

/-- HOT_RESET (R467, R510). -/
def doHotReset (s : State) : State := s.beginReset .hot

/-- FLR (R467, R510). -/
def doFlr (s : State) : State := s.beginReset .flr

/-! The watchdog (R509). -/

/-- WDOG_WRITE: the count starts with a timeout that is not zero. -/
def doWdogWrite (m : Master) (v : Word) (s : State) : State :=
  s.gateWrite m Reg.fghWdog (fun s => (s.maskedWrite Reg.fghWdog v).mapFgh (fun f => { f with wdogRunning := bitsOf v 15 0 != 0 }))

/-- WDOG_KICK: the count starts again; the model holds no count (DESIGN CHOICE, log entry 10). -/
def doWdogKick (m : Master) (_v : Word) (s : State) : State := s.gateWrite m Reg.fghKick id

/-- WDOG_EXPIRY. -/
def doWdogExpiry (s : State) : State :=
  if s.fgh.wdogRunning = false ∨ s.fld Reg.fghWdog 15 0 = 0 then s else
  let s := s.fire 11
  if s.fld Reg.fghWdog 31 31 = 1 then s.beginReset .watchdog else s.reportSev 0x04 0 0x18 3 0

/-! Power-on reset and RESET_N (R509, R511, R557). -/

/-- The registers of pseudo-channels marked failed: only a power-on reset or MEM_RETRAIN clears them (R421; DEDUCED, log
entry 24). -/
def isPcFailed (k : Nat) : Bool := k == Reg.memPcFailed 0 || k == Reg.memPcFailed 1

/-- The device stands in reset: inert, nothing but MRAM, fuses and the board kept, and FAULT_N as R493 has it. RESET_N
held low during a power-on reset only prolongs it (R557). -/
def State.enterReset (s : State) (kind : ResetKind) : State :=
  if kind = .resetN ∧ s.inert ∧ s.fld Reg.fghStatus 27 24 = 0 then s else
  let fault := kind == .resetN && s.fld Reg.fghStatus 22 22 == 1 && !s.fgh.faultStuck
  let drop := s.fld Reg.fghStatus 22 22 == 1 && !fault
  let r := s.afterAny (fun k => nvMask k ||| (if kind = .resetN ∧ isPcFailed k then 0xFFFFFFFF#32 else 0))
  let r := (r.setFld Reg.fghStatus 27 24 kind.code).setFld Reg.fghStatus 22 22 fault.toNat
  let r := { r with inert := true }
  if drop then r.emit (.pin .faultN true) else r

/-- POWER_ON_RESET. -/
def doPowerOnReset (s : State) : State := s.enterReset .powerOn

/-- RESET_N_ASSERT: in thermal shutdown only while TS_0 reads below 110 °C (R518). -/
def doResetNAssert (s : State) : State :=
  if s.powerState = 5 ∧ 440 ≤ s.sensor 0 then s else s.enterReset .resetN

/-- The straps sampled by a release: the level of VDDIO_TW stands from the reset that follows power-up (R553, R566). -/
def State.sampled (s : State) (st : Straps) : Straps :=
  if s.fld Reg.fghStatus 27 24 = 0 then st else { st with twRail33 := s.straps.twRail33 }

/-- RESET_RELEASE (R557, R504, R413): straps are sampled and boot begins, but not while TEST_EN is high: the device then stays in
reset and asserts FAULT_N (R571). -/
def doResetRelease (st : Straps) (s : State) : State :=
  if !s.inert || s.powerState == 5 then s
  else if st.testEn then
    if s.fld Reg.fghStatus 22 22 = 1 then s else (s.setFld Reg.fghStatus 22 22 1).emit (.pin .faultN false)
  else
    let st := s.sampled st
    let r := { State.blank s.variant st with
      regs := keepRegs s.variant st (fun k => nvMask k |||
        (if k = Reg.fghStatus then 0x0F400000#32 else if isPcFailed k then 0xFFFFFFFF#32 else 0)) s.regs,
      nv := s.nv, kpr := s.kpr, hci := s.hci, fgh := s.fgh, out := s.out, fresh := s.fresh, pending := s.pending }
    r.resetEnds

end Sys2Proof.Machine
end

