-- ==== Sys2Proof/Machine/Common.lean ====
section
/-!
DEFINITION. The commands of every queue: RESUME, ABORT, NOP, room in a completion queue (spec/01_fabric.md R37, R41 to R45,
R576).
-/
namespace Sys2Proof.Machine

/-- A common opcode is taken at the head of a command queue, or by the clip store from a host pair (R386). -/
def State.commonTake (s : State) (q op : Nat) (run : Taken → State → State) : State :=
  if q < 60 then s.takeAs q op [0] (fun t s => run t (s.lapse q op)) else s.clsTake (.hostPair (Fin.ofNat 4 (q - 60))) op [0] run

/-- RESUME (R45): lifts the fence of the queue's domain under a matching epoch; entries of host pairs carry epoch 0 (R386). -/
def doResume (q : Nat) (s : State) : State :=
  s.commonTake q 0x01 fun t s =>
    let d := queueDomain q
    if BitVec.ofNat 8 (t.fld 0 119 112) = s.epoch d then
      ({ s with doms := { s.doms with fenced := s.doms.fenced &&& ~~~(dbit d) } }).complete q t.tag stSuccess 0
    else s.complete q t.tag stStale 0

/-- What the unit of queue `q` does with a running descriptor that ABORT reaches; none where its chapter states no aborted
effect (R42). -/
def State.unitAbort (s : State) (q tag : Nat) : Option State :=
  if q ≤ 3 then s.abortFrame q tag
  else if q ≤ 5 then s.rfeAbort (q - 4) tag
  else if q ≤ 7 then s.clrAbort (q - 6) tag
  else if q = 8 then s.cmpAbort tag
  else if q ≤ 10 then s.wloAbort (q - 9) tag
  else if 12 ≤ q ∧ q ≤ 15 then s.vcxAbort (q - 12) tag
  else if q = 16 ∨ q = 17 then s.lpkAbort (q - 16) tag
  else if q = 18 ∨ 60 ≤ q then s.clsAbort q tag
  else if q = 21 then s.pktAbort tag
  else if q = 22 then s.hciAbort tag
  else none

/-- The ABORT of tag `own` acts on `target` (R42): the state and the status; none where it waits for the target's completion,
after which it completes ALREADY_DONE. -/
def State.abortTarget (s : State) (q own target cq cell : Nat) : State × Option Nat :=
  let c := s.queue q
  if target = own then (s, some stNoTag)
  else match c.waiting.find? (fun d => w0Tag d.w0 == target && !d.dup) with
    | some d =>
      let t := { d.taken (s.epoch (queueDomain q)) with done := some (stAborted, 0) }
      (s.setQueue q { c with waiting := c.waiting.erase d, taken := c.taken ++ [t] }, some stSuccess)
    | none =>
      match c.taken.find? (fun t => t.tag == target && t.endsTag) with
      | some t =>
        match (if t.done.isNone then s.unitAbort q target else none) with
        | some s' => (s', some stSuccess)
        | none =>
          (s.setQueue q { c with taken := c.taken.map (fun x =>
            if x.tag == target && x.endsTag then { x with aborts := x.aborts ++ [⟨own, cq, cell⟩] } else x) }, none)
      | none => (s, some (if c.tags.contains target then stAlreadyDone else stNoTag))

/-- ABORT of a command queue (R42): it overtakes the descriptors that wait, and is checked as they are. -/
def State.abortQueue (s : State) (q : Nat) : State :=
  let c := s.queue q
  match c.waiting.find? (fun d => w0Opcode d.w0 == 0x02 && !d.flt.lost) with
  | none => s
  | some d =>
    let own := w0Tag d.w0
    let s := if d.flt = .corrected then s.eccCorrected (queueWindow q) 0 else s
    let s := s.setQueue q { c with waiting := c.waiting.erase d }
    let r := match s.commonCheck q d with
      | some st => (s.lapse q 0x02, some st)
      | none =>
        let s := s.lapse q 0x02
        if w0Len d.w0 ≠ 0 then (s, some stBadLength) else s.abortTarget q own (qbits d.w0 87 72) (w0Cq d.w0) d.cell
    let s := r.1
    let s := match r.2 with
      | some st =>
        let c := s.queue q
        s.setQueue q { c with urgent := c.urgent ++ [(⟨w0Cq d.w0, ⟨completionItem (s.itemEpoch q st) own st q 0, !d.dup⟩, d.cell⟩ : Owed)] }
      | none => s
    (s.settleQueue q).settleHead q

/-- ABORT (R42). -/
def doAbort (q : Nat) (s : State) : State :=
  if s.blocked q then s
  else if q < 60 then s.abortQueue q
  else s.commonTake q 0x02 fun t s =>
    let r := s.abortTarget q t.tag (t.fld 0 87 72) 0 t.cell
    r.1.complete q t.tag (r.2.getD stAlreadyDone) 0

/-- NOP (R37): completes at once when nothing taken before it is still running. -/
def doNop (q : Nat) (s : State) : State :=
  s.commonTake q 0x03 fun t s => if (s.queue q).taken.length ≤ 1 then s.complete q t.tag stSuccess 0 else s

/-- NOP_RELEASE (R37): every descriptor taken before the waiting NOP has completed. -/
def doNopRelease (q : Nat) (s : State) : State :=
  match (s.queue q).taken with
  | t :: _ => if w0Opcode (t.word 0) = 0x03 ∧ t.done.isNone then (s.complete q t.tag stSuccess 0).settleHead q else s
  | [] => s

/-- The completion queue that the unit of queue `q` waits to post to (R43). -/
def State.waitsFor (s : State) (q : Nat) : Option Nat :=
  let c := s.queue q
  match c.urgent with
  | o :: _ => some o.cq
  | [] => match c.taken with | e :: _ => if e.done.isSome then some e.cq else none | [] => none

/-- COMPLETION_QUEUE_ROOM (R43): units that wait to post to completion queue `k` go on. -/
def doCompletionQueueRoom (k : Nat) (s : State) : State :=
  queueKeys.foldl (fun s q => if s.waitsFor q = some k then (s.settleQueue q).settleHead q else s) s

/-- ABSENT_ACCESS (R4): a register access in the window of an absent unit or a reserved window. -/
def doAbsentAccess (_m : Master) (addr : Nat) (write : Bool) (s : State) : State :=
  if decide (regsBase ≤ addr ∧ addr < regsTop) && windowAbsent s.variant ((addr - regsBase) / 65536) then
    let s := s.absentAccess
    if write then s else s.emit (.regData 0)
  else s

end Sys2Proof.Machine
end

