-- ==== Sys2Proof/Machine/RegFile.lean ====
section
/-!
DEFINITION. Register accesses by any master (spec/01_fabric.md R4, R50, R51; spec/15_security.md R535): every register whose
write or read has an act of its own, and the plain ones.
-/
namespace Sys2Proof.Machine

/-- Registers of the EW9730's absent compositor layers and output, which read zero and ignore writes (R207). -/
def regHidden (v : Variant) (k : Nat) : Bool :=
  v == .ew9730 && (decide (0x290400 ≤ k ∧ k < 0x290800) ||
    [Reg.cmpOut0 1, Reg.cmpOut1 1, Reg.cmpOutAct0 1, Reg.cmpOutAct1 1].contains k)

/-- The age of the oldest outstanding command of host pair `n`, in µs (CLS_HQ_n_OLDEST). -/
def State.hqOldest (s : State) (n : Nat) : Nat :=
  match ((s.cls.ages.filter (fun a => a.q == 60 + n)).map (·.since)).min? with
  | some t => (s.now - t) / 1000
  | none => 0

/-- The age of the oldest NVMe command outstanding on root port `r`, in ms (CLS_RP_r_OUTSTANDING). -/
def State.rpOldest (s : State) (r : Nat) : Nat :=
  match ((s.cls.nvme.filter (fun c => c.port == r)).map (·.time)).min? with
  | some t => min 65535 ((s.now - t) / 1000000)
  | none => 0

/-- The value of a register and what its read does: BCN_NOW_NS latches (R429), the Waggle stamps hold (R461), an elastic queue's fill is a
free value (R23). -/
def State.readWord (s : State) (m : Master) (k : Nat) : Word × State :=
  let keep (r : State) : State := { r with out := s.out }
  if regHidden s.variant k then (0, s)
  else if k = Reg.bcnNowNs then (s.bcn.ns, keep (doBcnNowNsRead m s))
  else if Reg.casWaggle 0 ≤ k ∧ k < Reg.casWaggle 6 ∧ k % 4 = 0 then (s.reg k, keep (doCasWaggleStampRead m ((k - Reg.casWaggle 0) / 4) s))
  else if Reg.clsHqOldest 0 ≤ k ∧ k ≤ Reg.clsHqOldest 3 ∧ (k - Reg.clsHqOldest 0) % 64 = 0 then
    (BitVec.ofNat 32 (s.hqOldest ((k - Reg.clsHqOldest 0) / 64)), s)
  else if k = Reg.clsRpOutstanding 0 then (putBits (s.reg k) 31 16 (s.rpOldest 0), s)
  else if k = Reg.clsRpOutstanding 1 then (putBits (s.reg k) 31 16 (s.rpOldest 1), s)
  else if isEq k then s.eqWord k
  else if 0x30 ≤ k / 65536 ∧ k / 65536 ≤ 0x3C ∧ 0x10 ≤ k % 65536 ∧ k % 65536 < 0x50 ∧ k % 16 = 0 then
    (s.txWord (4 * (k / 65536 - 0x30) + (k % 65536 - 0x10) / 16), s)
  else (s.regView k, s)

/-- An aligned 32-bit read of the register at offset `k` by master `m` (R4, R50). -/
def State.readReg (s : State) (m : Master) (k : Nat) : Word × State :=
  if windowAbsent s.variant (k / 65536) then (0, s.absentAccess)
  else if windowZero (k / 65536) || (regRowOf k).isNone then (0, s)
  else s.readWord m k

/-- A write of the common block (R51). -/
def State.writeCommon (s : State) (m : Master) (w o : Nat) (v : Word) : State :=
  let k := w * 65536 + o
  if o = 0xFC04 then doEccThreshWrite m w v s
  else if 0xFE00 ≤ o ∧ o < 0xFF00 ∧ o % 16 = 0 then s.paceCtrlWrite m w ((o - 0xFE00) / 16) v
  else if 0xFF00 ≤ o then doEccCountClear m w ((o - 0xFF00) / 4) v s
  else s.gateWrite m k (fun s => s.maskedWrite k v)

/-- A write in HCI's windows. -/
def State.writeHci (s : State) (m : Master) (w o : Nat) (v : Word) : State :=
  let k := w * 65536 + o
  let plain (s : State) : State := s.gateWrite m k (fun s => s.maskedWrite k v)
  if w = 1 ∧ o < 0x1000 ∧ o % 16 = 12 then s.gateWrite m k (fun s => s.msixCtrlWrite (o / 16) v)
  else if w = 2 ∧ o < 0x180 ∧ o % 64 = 0 then s.twCtrlWrite m (o / 64) v
  else if k = Reg.tw4Status then s.tw4StatusWrite m v
  else if w = 2 ∧ 0x1A0 ≤ o ∧ o < 0x1B0 then if s.fld Reg.tw4Status 29 29 = 1 then s else plain s
  else if k = Reg.gpioDir ∨ k = Reg.gpioOut then (plain s).gpioShow
  else plain s

/-- A write in Foghorn's window. -/
def State.writeFgh (s : State) (m : Master) (k : Nat) (v : Word) : State :=
  if k = Reg.fghCtrl then s.fghCtrlWrite m v
  else if k = Reg.fghReset then doSoftReset m v s
  else if k = Reg.fghPower then doDozeEntry m v s
  else if k = Reg.fghWdog then doWdogWrite m v s
  else if k = Reg.fghKick then doWdogKick m v s
  else if k = Reg.fghPinClear then doPinClear m v s
  else if k = Reg.fghSnapTrig then doHostSnapTrigger m v s
  else if k = Reg.govStatus then doPmbusErrorClear m v s
  else if k = Reg.govLimits then doGovLimitsWrite m v s
  else s.gateWrite m k (fun s => s.maskedWrite k v)

/-- A write in the Beacon's time window; the time of a claimed trigger takes none (R434). -/
def State.writeBcn (s : State) (m : Master) (k : Nat) (v : Word) : State :=
  let o := k % 65536
  if k = Reg.bcnInc then doBcnIncWrite m v s
  else if k = Reg.bcnStepHi then doBcnStep m v s
  else if k = Reg.bcnPtpBaseLo then s.gateWrite m k (fun s => s.mapBcn (fun b => { b with ptpLo := v }))
  else if k = Reg.bcnPtpBaseHi then doPtpBaseWrite m v s
  else if 0x100 ≤ o ∧ o < 0x200 ∧ o % 16 = 12 then s.trigArmWrite m ((o - 0x100) / 16) v
  else if 0x100 ≤ o ∧ o < 0x200 ∧ o % 16 = 4 then
    s.gateWrite m k (fun s =>
      if (s.trigOwner ((o - 0x100) / 16)).isSome then s.accessFault m true (regsBase + k) else s.maskedWrite k v)
  else s.gateWrite m k (fun s => s.maskedWrite k v)

/-- A write of CLS_CTRL: its bits act one by one (R389 to R391). -/
def State.clsCtrlWrite (s : State) (m : Master) (v : Word) : State := doClsResume m v (doClsActivate m v (doClsReset m v s))

/-- A write in the windows of the clip store. -/
def State.writeCls (s : State) (m : Master) (k : Nat) (v : Word) : State :=
  let o := k % 65536
  if k = Reg.clsCtrl then s.clsCtrlWrite m v
  else if k / 65536 = 0x46 ∧ 0x100 ≤ o ∧ o < 0x200 then
    let n := (o - 0x100) / 64
    if o % 64 = 0 then doHqEnable m n v s
    else if o % 64 = 0x1C then doSqTailDoorbell m n v s
    else if o % 64 = 0x24 then doCqHeadDoorbell m n v s
    else s.gateWrite m k (fun s => s.maskedWrite k v)
  else s.gateWrite m k (fun s => s.maskedWrite k v)

/-- A write in the Hive's windows. -/
def State.writeHive (s : State) (m : Master) (k : Nat) (v : Word) : State :=
  let w := k / 65536
  let o := k % 65536
  if 0x50 ≤ w ∧ w ≤ 0x57 ∧ o = 0 then s.cellCtrlWrite m (w - 0x50) v
  else if k = Reg.hivLoadCtrl then doImageLoadStart m v s
  else if k = Reg.hivC2hPop then doC2hPop m v s
  else if w = 0x48 ∧ 0x100 ≤ o ∧ o < 0x200 ∧ o % 32 = 0x10 then doH2cSend m ((o - 0x100) / 32) v s
  else s.gateWrite m k (fun s => s.maskedWrite k v)

/-- An aligned 32-bit write of the register at offset `k` by master `m` (R50). One where no register is listed does nothing but pass
the gate, content_lock among it (DESIGN CHOICE, log entry 45). -/
def State.writeReg (s : State) (m : Master) (k : Nat) (v : Word) : State :=
  let w := k / 65536
  let o := k % 65536
  let plain : State := s.gateWrite m k (fun s => s.maskedWrite k v)
  if windowAbsent s.variant w || windowZero w || (regRowOf k).isNone || regHidden s.variant k then s.gateWrite m k id
  else if 0xFC00 ≤ o then s.writeCommon m w o v
  else if w ≤ 0x03 then s.writeHci m w o v
  else if w = 0x04 then s.writeFgh m k v
  else if k = Reg.kprMbCtrl then doKprMbGo m v s
  else if w = 0x0C then s.writeBcn m k v
  else if (w = 0x24 ∨ w = 0x25) ∧ o = 0x3C then doRfeTblData3Write m (w - 0x24) v s
  else if (w = 0x26 ∨ w = 0x27) ∧ o = 0x3C then doClrTblData3Write m (w - 0x26) v s
  else if w = 0x2A ∧ o = 0x3C then doCmpTblData3Write m v s
  else if w = 0x46 ∨ w = 0x47 then s.writeCls m k v
  else if w = 0x48 ∨ (0x50 ≤ w ∧ w ≤ 0x57) then s.writeHive m k v
  else if k = Reg.memMap then doMemMapWrite m v s
  else plain

/-- The registers that an access of `n` bytes at offset `o` touches, in order, as (register, first byte in it, bytes): an access
wider than 32 bits is split into accesses of 32 bits, lowest address first (R465), and one that is not aligned into its two partial
accesses (R50). -/
def regParts (o n : Nat) : List (Nat × Nat × Nat) :=
  (List.range ((n + 3) / 4)).flatMap (fun i =>
    let a := o + 4 * i
    let k := min 4 (n - 4 * i)
    if a % 4 + k ≤ 4 then [(a / 4 * 4, a % 4, k)] else [(a / 4 * 4, a % 4, 4 - a % 4), (a / 4 * 4 + 4, 0, a % 4 + k - 4)])

/-- A read of `n` bytes of the register region at offset `o` (R50): each register touched is read and gives its addressed bytes. -/
def State.readRegs (s : State) (m : Master) (o n : Nat) : List Byte × State :=
  (regParts o n).foldl (fun (r : List Byte × State) p =>
    let w := r.2.readReg m p.1
    (r.1 ++ ((leBytes 4 w.1.toNat).drop p.2.1).take p.2.2, w.2)) ([], s)

/-- A write of bytes to the register region at offset `o` (R50): whole registers are written, partial writes are ignored, though
content_lock and absent windows see them. -/
def State.writeRegs (s : State) (m : Master) (o : Nat) (bs : List Byte) : State :=
  ((regParts o bs.length).foldl (fun (r : State × List Byte) p =>
    (if p.2.2 = 4 then r.1.writeReg m p.1 (BitVec.ofNat 32 (ofLe (r.2.take 4))) else r.1.gateWrite m p.1 id,
     r.2.drop p.2.2)) (s, bs)).1

/-- REGISTER_WRITE (R50, R465, R535). -/
def doRegisterWrite (m : Master) (addr size : Nat) (v : BitVec 64) (s : State) : State :=
  if addr < regsBase ∨ regsTop ≤ addr then s else s.writeRegs m (addr - regsBase) (leBytes size v.toNat)

/-- MEM_REQUEST (R48, R49, R406, R407, R423): a request of any master to a device address, by what the address maps to: a DRAM
burst, a word of Comb, registers, the memories of a cell; anything else reads zero, ignores the write and is an access fault. -/
def doMemRequest (r : MemReq) (s : State) : State :=
  let a := r.addr
  let bs := r.bytes.take (32 - a % 32)
  let answer (s : State) : State := s.emit (.memData r.master (s.bytes a bs.length) (s.poisonedAt a bs.length))
  let fault (s : State) : State :=
    let s := s.accessFault r.master r.write a
    if r.write then s else s.emit (.memData r.master (bs.map (fun _ => 0)) false)
  if r.master = .host ∧ s.hostOut then (if r.write then s else s.emit (.hostData []))
  else match regionOf s.variant a with
  | .dram => s.dramRequest r bs
  | .comb =>
    if !s.isPowered 23 then fault s
    else if s.memx.combInit then s
    else if r.write then s.masterStore r.master a bs
    else answer ((s.combRead a r.err.lower).1.meet a bs.length)
  | .regs =>
    if r.write then s.writeRegs r.master (a - regsBase) bs
    else
      let d := s.readRegs r.master (a - regsBase) bs.length
      d.2.emit (.memData r.master d.1 false)
  | .imem _ => if r.write then s.accessFault r.master true a else answer (s.meet a bs.length)
  | .dmem _ => if r.write then s.masterStore r.master a bs else answer (s.meet a bs.length)
  | .none => fault s

/-! Memory accesses by cells and the host. -/

/-- A load of `len` bytes by cell `n` from a cell address (R55 to R58): a memory that does not answer leaves the instruction
waiting, that is, not carried out. -/
def State.cellLoad (s : State) (n a len : Nat) (run : Nat → State → State) : State :=
  if a % len ≠ 0 then s.cellFault n 0x02
  else match cellTarget s.variant n (s.cell n).dramBase a with
    | .none => s.cellFault n 0x03
    | .mem addr =>
      if !s.rangeThere addr len then s
      else
        let s := (s.goneAccess (.cell (Fin.ofNat 8 n)) false addr).meet addr len
        if s.poisonedAt addr len then s.cellFault n 0x09 else run (s.num addr len) s
    | .reg k =>
      if len ≠ 4 then s.cellFault n 0x03
      else
        let r := s.readReg (.cell (Fin.ofNat 8 n)) k
        run r.1.toNat r.2

/-- A store of `len` bytes by cell `n`. -/
def State.cellStore (s : State) (n a len v : Nat) : State :=
  if a % len ≠ 0 then s.cellFault n 0x02
  else match cellTarget s.variant n (s.cell n).dramBase a with
    | .none => s.cellFault n 0x03
    | .mem addr =>
      if !s.rangeThere addr len then s
      else (s.mapCell n CellSt.retire).masterStore (.cell (Fin.ofNat 8 n)) addr (leBytes len v)
    | .reg k =>
      if len ≠ 4 then s.cellFault n 0x03
      else (s.mapCell n CellSt.retire).writeReg (.cell (Fin.ofNat 8 n)) k (BitVec.ofNat 32 v)

/-- LW (R57, R58). -/
def doLw (n rd rs : Nat) (imm : BitVec 16) (s : State) : State :=
  s.hiveRun n (fun s => s.cellLoad n (cellAddress ((s.cell n).getG rs) imm) 4 (fun v s =>
    s.mapCell n (fun c => (c.putG rd (BitVec.ofNat 32 v)).retire)))

/-- SW (R57). -/
def doSw (n rd rs : Nat) (imm : BitVec 16) (s : State) : State :=
  s.hiveRun n (fun s => s.cellStore n (cellAddress ((s.cell n).getG rs) imm) 4 ((s.cell n).getG rd).toNat)

/-- LQ (R57, R58). -/
def doLq (n rd rs : Nat) (imm : BitVec 16) (s : State) : State :=
  s.hiveRun n (fun s => s.cellLoad n (cellAddress ((s.cell n).getG rs) imm) 16 (fun v s =>
    s.mapCell n (fun c => (c.putW rd (BitVec.ofNat 128 v)).retire)))

/-- SQ (R57). -/
def doSq (n rd rs : Nat) (imm : BitVec 16) (s : State) : State :=
  s.hiveRun n (fun s => s.cellStore n (cellAddress ((s.cell n).getG rs) imm) 16 ((s.cell n).getW rd).toNat)

/-- POSTM (R65, R66): every word of the descriptor is read before the first enters the queue. -/
def doPostm (n rs q : Nat) (flt : DescFault) (s : State) : State :=
  s.hiveRun n (fun s =>
    let a := ((s.cell n).getG rs).toNat
    let at_ (i : Nat) : Option Nat := match cellTarget s.variant n (s.cell n).dramBase (a + 16 * i) with | .mem x => some x | _ => none
    if a % 16 ≠ 0 then s.cellFault n 0x02
    else match at_ 0 with
      | none => s.cellFault n 0x03
      | some x =>
        if !s.rangeThere x 16 then s
        else
        let s := s.meet x 16
        if s.poisonedAt x 16 then s.cellFault n 0x09
        else
          let addrs := (List.range (w0Len (s.quadAt x) + 1)).map at_
          if addrs.any Option.isNone then s.cellFault n 0x03
          else
            let xs := addrs.filterMap id
            if xs.any (fun x => !s.rangeThere x 16) then s
            else
            let s := (xs.drop 1).foldl (fun s x => s.meet x 16) s
            if xs.any (fun x => s.poisonedAt x 16) then s.cellFault n 0x09
            else s.postWords n q (xs.map s.quadAt) flt)

/-- The device address of a host access through BAR2 or BAR4 (R465, R466). -/
def State.barAddr (s : State) (bar4 : Bool) (off : Nat) : Nat :=
  if bar4 then s.fld Reg.hciBar4Base 5 0 * 2 ^ 30 + off else combBase + off

/-- Does a host access lie inside its BAR? -/
def barFits (bar4 : Bool) (off len : Nat) : Bool := decide (off + len ≤ (if bar4 then 2 ^ 32 else 0x400_0000))

/-- HOST_MEMORY_WRITE (R465, R466, R535): the bytes inside DRAM or Comb are written, those above DRAM ignored and reported. -/
def doHostMemoryWrite (bar4 : Bool) (off : Nat) (bytes : List Byte) (s : State) : State :=
  let a := s.barAddr bar4 off
  let len := bytes.length
  if !s.isPowered 28 || s.hostOut || !barFits bar4 off len || (bar4 && !s.memReady) then s
  else if s.contentLock && s.protectedRange a len then s.protectedWrite a
  else
    let n := if bar4 then dramTop s.variant - a else len
    if !s.rangeThere a (min n len) then s
    else
      let s := s.masterStore .host a (bytes.take n)
      if n < len then s.accessFault .host true (a + n) else s

/-- HOST_MEMORY_READ (R465, R466): an Unsupported Request answers no bytes. -/
def doHostMemoryRead (bar4 : Bool) (off len : Nat) (s : State) : State :=
  let a := s.barAddr bar4 off
  if !s.isPowered 28 || !barFits bar4 off len then s
  else if s.hostOut || (bar4 && !s.memReady) then s.emit (.hostData [])
  else
    let n := if bar4 then min len (dramTop s.variant - a) else len
    if !s.rangeThere a n then s
    else
      let s := (s.goneAccess .host false a).meet a n
      let s := s.emit (.hostData (s.bytes a n ++ List.replicate (len - n) 0))
      if n < len then s.accessFault .host false (a + n) else s

end Sys2Proof.Machine
end

