-- ==== Sys2Proof/Machine/Settle.lean ====
section
/-!
DEFINITION. The end of a command: the restarts, the protective Hold and the swarm snapshot that it asked for (R504, R513,
R458), and `act`, which every meaning goes through: a device that stands in reset answers nothing.
-/
namespace Sys2Proof.Machine

/-- The span in which a domain is restarted at most four times: 60 s in ns (R504). -/
def restartSpan : Nat := 60000000000

/-- Foghorn restarts domain `d` (R504): it goes down and begins to rise; counted in FGH_PD_RESTARTS, FGH_DOMAIN_RESTART. -/
def State.restartDomain (s : State) (d : Nat) : State :=
  let live := s.fgh.restarts.filter (fun p => decide (s.now < p.2 + restartSpan))
  if !s.isPowered d || decide (4 ≤ (live.filter (fun p => p.1 == d)).length) then s
  else
    let s := { s with fgh := { s.fgh with restarts := live ++ [(d, s.now)] } }
    (((s.bump Reg.fghPdRestarts 15 0 1).powerDown d).startRise d).fire 10

/-- The protective Hold (R506, R513): each running generator enters Hold, the device enters Hold with an empty off_mask. -/
def State.takeProtectiveHold (s : State) : State :=
  let s := if s.powerState = 0 then (s.mapFgh (fun f => { f with offMask := 0 })).setPowerState 2 else s
  s.protectHold

/-- Carry out what is due. -/
def State.settleOnce (s : State) : State :=
  let d := s.due
  let s := d.restart.foldl State.restartDomain { s with due := Due.none }
  let s := if d.hold then s.takeProtectiveHold else s
  if d.swarmSnap then (s.askSwarmSnap s.now).1 else s

/-- Carry out what is due until nothing is, `n` rounds at most. -/
def State.settles : Nat → State → State
  | 0, s => { s with due := Due.none }
  | n + 1, s => if s.due = Due.none then s else State.settles n s.settleOnce

/-- The end of a command. A round asks for another one only by a restart, of which there are at most four a domain, or
by a route to a swarm snapshot, so the bound is never met. -/
def State.settle (s : State) : State := s.settles 256

/-- How every command ends: what it asked for is carried out; no command changes the variant (R2), nor the queue of commands. -/
def State.ends (s t : State) : State := { t.settle with variant := s.variant, pending := s.pending }

/-- A command whose effect is `f`, on a device that does not stand in reset (R557). -/
def act (s : State) (f : State → State) : Host.Outcome State Fault Refusal :=
  if s.inert then .next s else .next (s.ends (f s))

/-- A command whose effect `f` holds of a device in reset too. -/
def actAlways (s : State) (f : State → State) : Host.Outcome State Fault Refusal := .next (s.ends (f s))

end Sys2Proof.Machine
end

