-- ==== Sys2Proof/Machine/ExecCodec.lean ====
section
/-!
DEFINITION. The meanings of the commands of the codec and the light packer (spec/09_codec.md), one definition for each.
-/
namespace Sys2Proof.Machine

/-- CTX_SETUP (R316). -/
def execCtxSetup (x : Fin 4) (s : State) : Host.Outcome State Fault Refusal :=
  act s (doCtxSetup x.val)

/-- ENC_FRAME (R323). -/
def execEncFrame (x : Fin 4) (s : State) : Host.Outcome State Fault Refusal :=
  act s (doEncFrame x.val)

/-- ENC_SOURCE_FRAME_OPEN (R324). -/
def execEncSourceFrameOpen (x : Fin 4) (s : State) : Host.Outcome State Fault Refusal :=
  act s (doEncSourceFrameOpen x.val)

/-- ENC_ROW (R331). -/
def execEncRow (x : Fin 4) (row : EncRow) (s : State) : Host.Outcome State Fault Refusal :=
  act s (doEncRow x.val row)

/-- NAL_RING_ROOM (R328). -/
def execNalRingRoom (x : Fin 4) (s : State) : Host.Outcome State Fault Refusal :=
  act s (doNalRingRoom x.val)

/-- VCX_WAIT_THRESHOLD (R328). -/
def execVcxWaitThreshold (x : Fin 4) (s : State) : Host.Outcome State Fault Refusal :=
  act s (doVcxWaitThreshold x.val)

/-- DEC_AU (R340). -/
def execDecAu (x : CoreRun) (s : State) : Host.Outcome State Fault Refusal :=
  act s (doDecAu x.core.val x.residue)

/-- DEC_RELEASE (R341). -/
def execDecRelease (x : Fin 4) (s : State) : Host.Outcome State Fault Refusal :=
  act s (doDecRelease x.val)

/-- DECODE_BUFFER_FREE (R342). -/
def execDecodeBufferFree (x : CoreRun) (s : State) : Host.Outcome State Fault Refusal :=
  act s (doDecodeBufferFree x.core.val x.residue)

/-- CTX_CLEAR (R350). -/
def execCtxClear (x : Fin 4) (s : State) : Host.Outcome State Fault Refusal :=
  act s (doCtxClear x.val)

/-- MIRROR_SLICE (R337). -/
def execMirrorSlice (x : CoreRun) (s : State) : Host.Outcome State Fault Refusal :=
  act s (doMirrorSlice x.core.val x.residue)

end Sys2Proof.Machine
end

