-- ==== Sys2Proof/Machine/ExecColour.lean ====
section
/-!
DEFINITION. The meanings of the commands of the colour engine (spec/05_colour_engine.md), one definition for each.
-/
namespace Sys2Proof.Machine

/-- CLR_FRAME (R193). -/
def execClrFrame (x : Fin 2) (s : State) : Host.Outcome State Fault Refusal :=
  act s (doClrFrame x.val)

/-- CLR_TABLE_LOAD (R202). -/
def execClrTableLoad (x : Fin 2) (s : State) : Host.Outcome State Fault Refusal :=
  act s (doClrTableLoad x.val)

/-- CLR_LINE (R169). -/
def execClrLine (x : Fin 2) (residue : Bool) (s : State) : Host.Outcome State Fault Refusal :=
  act s (doClrLine x.val residue)

/-- CLR_FRAME_START_MARK (R193). -/
def execClrFrameStartMark (x : Fin 2) (slot : Fin 2) (s : State) : Host.Outcome State Fault Refusal :=
  act s (doClrFrameStartMark x.val slot.val)

/-- CLR_FRAME_END_MARK (R194). -/
def execClrFrameEndMark (x : Fin 2) (slot : Fin 2) (s : State) : Host.Outcome State Fault Refusal :=
  act s (doClrFrameEndMark x.val slot.val)

/-- CLR_RING_ROOM (R187). -/
def execClrRingRoom (x : Fin 2) (slot : Fin 2) (s : State) : Host.Outcome State Fault Refusal :=
  act s (doClrRingRoom x.val slot.val)

/-- CLR_RING_WAIT_THRESHOLD (R187). -/
def execClrRingWaitThreshold (x : Fin 2) (slot : Fin 2) (s : State) : Host.Outcome State Fault Refusal :=
  act s (doClrRingWaitThreshold x.val slot.val)

/-- CLR_TBL_DATA3_WRITE (R199). -/
def execClrTblData3Write (m : Master) (x : Fin 2) (value : BitVec 32) (s : State) : Host.Outcome State Fault Refusal :=
  act s (doClrTblData3Write m x.val value)

end Sys2Proof.Machine
end

