-- ==== Sys2Proof/Machine/ExecCompositor.lean ====
section
/-!
DEFINITION. The meanings of the commands of the compositor (spec/06_compositor.md), one definition for each.
-/
namespace Sys2Proof.Machine

/-- CMP_WRITEBACK (R229). -/
def execCmpWriteback (s : State) : Host.Outcome State Fault Refusal :=
  act s doCmpWriteback

/-- CMP_COMPOSE (R232). -/
def execCmpCompose (s : State) : Host.Outcome State Fault Refusal :=
  act s doCmpCompose

/-- CMP_REPORT (R237). -/
def execCmpReport (s : State) : Host.Outcome State Fault Refusal :=
  act s doCmpReport

/-- CMP_TABLE_LOAD (R233). -/
def execCmpTableLoad (s : State) : Host.Outcome State Fault Refusal :=
  act s doCmpTableLoad

/-- CMP_TBL_DATA3_WRITE (R162). -/
def execCmpTblData3Write (m : Master) (value : BitVec 32) (s : State) : Host.Outcome State Fault Refusal :=
  act s (doCmpTblData3Write m value)

/-- CMP_LINE_COMPOSE (R225). -/
def execCmpLineCompose (o : Fin 2) (residue : Bool) (wbFull : Bool) (s : State) : Host.Outcome State Fault Refusal :=
  act s (doCmpLineCompose o.val residue wbFull)

/-- CMP_LATE_THRESHOLD (R226). -/
def execCmpLateThreshold (o : Fin 2) (line : LateLine) (s : State) : Host.Outcome State Fault Refusal :=
  act s (doCmpLateThreshold o.val line.missing line.residue line.wbFull)

end Sys2Proof.Machine
end

