-- ==== Sys2Proof/Machine/ExecFabric.lean ====
section
/-!
DEFINITION. The meanings of the commands of the common code, registers, meters and the governor (spec/01_fabric.md), one definition for each.
-/
namespace Sys2Proof.Machine

/-- ABSENT_ACCESS (R4). -/
def execAbsentAccess (m : Master) (addr : Nat) (isWrite : Bool) (s : State) : Host.Outcome State Fault Refusal :=
  act s (doAbsentAccess m addr isWrite)

/-- REGISTER_WRITE (R50). -/
def execRegisterWrite (m : Master) (addr : Nat) (size : Nat) (value : BitVec 64) (s : State) : Host.Outcome State Fault Refusal :=
  act s (doRegisterWrite m addr size value)

/-- RESUME (R45). -/
def execResume (q : Fin 64) (s : State) : Host.Outcome State Fault Refusal :=
  act s (doResume q.val)

/-- ABORT (R42). -/
def execAbort (q : Fin 64) (s : State) : Host.Outcome State Fault Refusal :=
  act s (doAbort q.val)

/-- NOP (R37). -/
def execNop (q : Fin 64) (s : State) : Host.Outcome State Fault Refusal :=
  act s (doNop q.val)

/-- NOP_RELEASE (R37). -/
def execNopRelease (q : Fin 64) (s : State) : Host.Outcome State Fault Refusal :=
  act s (doNopRelease q.val)

/-- COMPLETION_QUEUE_ROOM (R43). -/
def execCompletionQueueRoom (q : Fin 64) (s : State) : Host.Outcome State Fault Refusal :=
  act s (doCompletionQueueRoom q.val)

/-- INVALID_CODE (R12). -/
def execInvalidCode (window : Fin 256) (stage : BitVec 8) (s : State) : Host.Outcome State Fault Refusal :=
  act s (doInvalidCode window.val stage.toNat)

/-- STALL_WATCHDOG_EXPIRY (R13). -/
def execStallWatchdogExpiry (window : Fin 256) (stage : BitVec 8) (s : State) : Host.Outcome State Fault Refusal :=
  act s (doStallWatchdogExpiry window.val stage.toNat)

/-- PACE_WINDOW_END (R15). -/
def execPaceWindowEnd (window : Fin 256) (meter : Fin 16) (items : Nat) (busy : Nat) (s : State) : Host.Outcome State Fault Refusal :=
  act s (doPaceWindowEnd window.val meter.val items busy)

/-- PACE_CLEAR_MIN (R51). -/
def execPaceClearMin (m : Master) (window : Fin 256) (meter : Fin 16) (value : BitVec 32) (s : State) : Host.Outcome State Fault Refusal :=
  act s (doPaceClearMin m window.val meter.val value)

/-- GOVERNOR_EVALUATION (R17). -/
def execGovernorEvaluation (s : State) : Host.Outcome State Fault Refusal :=
  act s doGovernorEvaluation

/-- GOVERNOR_SETTLE_END (R17). -/
def execGovernorSettleEnd (s : State) : Host.Outcome State Fault Refusal :=
  act s doGovernorSettleEnd

/-- VOUT_COMMAND_TRANSFER_DONE (R18). -/
def execVoutCommandTransferDone (ack : Bool) (s : State) : Host.Outcome State Fault Refusal :=
  act s (doVoutCommandTransferDone ack)

/-- VOUT_MODE_READ_DONE (R18). -/
def execVoutModeReadDone (ack : Bool) (mode : Byte) (s : State) : Host.Outcome State Fault Refusal :=
  act s (doVoutModeReadDone ack mode)

/-- PMBUS_ERROR_CLEAR (R18). -/
def execPmbusErrorClear (m : Master) (value : BitVec 32) (s : State) : Host.Outcome State Fault Refusal :=
  act s (doPmbusErrorClear m value)

/-- GOV_LIMITS_WRITE (R21). -/
def execGovLimitsWrite (m : Master) (value : BitVec 32) (s : State) : Host.Outcome State Fault Refusal :=
  act s (doGovLimitsWrite m value)

/-- ECC_THRESH_WRITE (R29). -/
def execEccThreshWrite (m : Master) (window : Fin 256) (value : BitVec 32) (s : State) : Host.Outcome State Fault Refusal :=
  act s (doEccThreshWrite m window.val value)

/-- ECC_COUNT_CLEAR (R29). -/
def execEccCountClear (m : Master) (window : Fin 256) (n : Fin 64) (value : BitVec 32) (s : State) : Host.Outcome State Fault Refusal :=
  act s (doEccCountClear m window.val n.val value)

end Sys2Proof.Machine
end

