-- ==== Sys2Proof/Machine/ExecHive.lean ====
section
/-!
DEFINITION. The meanings of the commands of the cells of the Hive and its host registers (spec/02_hive.md), one definition for each.
-/
namespace Sys2Proof.Machine

/-- LOCKSTEP_MISMATCH (R53). -/
def execLockstepMismatch (c : Cell) (s : State) : Host.Outcome State Fault Refusal :=
  act s (doLockstepMismatch c.val)

/-- ILLEGAL_INSTRUCTION (R61). -/
def execIllegalInstruction (c : Cell) (s : State) : Host.Outcome State Fault Refusal :=
  act s (doIllegalInstruction c.val)

/-- INSTRUCTION_FETCH_UNCORRECTABLE (R58). -/
def execInstructionFetchUncorrectable (c : Cell) (s : State) : Host.Outcome State Fault Refusal :=
  act s (doInstructionFetchUncorrectable c.val)

/-- ADD (R62). -/
def execAdd (c : Cell) (rd : Gr) (rs : Gr) (rt : Gr) (s : State) : Host.Outcome State Fault Refusal :=
  act s (doAdd c.val rd.val rs.val rt.val)

/-- SUB (R62). -/
def execSub (c : Cell) (rd : Gr) (rs : Gr) (rt : Gr) (s : State) : Host.Outcome State Fault Refusal :=
  act s (doSub c.val rd.val rs.val rt.val)

/-- AND (R62). -/
def execAnd (c : Cell) (rd : Gr) (rs : Gr) (rt : Gr) (s : State) : Host.Outcome State Fault Refusal :=
  act s (doAnd c.val rd.val rs.val rt.val)

/-- OR (R62). -/
def execOr (c : Cell) (rd : Gr) (rs : Gr) (rt : Gr) (s : State) : Host.Outcome State Fault Refusal :=
  act s (doOr c.val rd.val rs.val rt.val)

/-- XOR (R62). -/
def execXor (c : Cell) (rd : Gr) (rs : Gr) (rt : Gr) (s : State) : Host.Outcome State Fault Refusal :=
  act s (doXor c.val rd.val rs.val rt.val)

/-- NOR (R62). -/
def execNor (c : Cell) (rd : Gr) (rs : Gr) (rt : Gr) (s : State) : Host.Outcome State Fault Refusal :=
  act s (doNor c.val rd.val rs.val rt.val)

/-- SLL (R62). -/
def execSll (c : Cell) (rd : Gr) (rs : Gr) (rt : Gr) (s : State) : Host.Outcome State Fault Refusal :=
  act s (doSll c.val rd.val rs.val rt.val)

/-- SRL (R62). -/
def execSrl (c : Cell) (rd : Gr) (rs : Gr) (rt : Gr) (s : State) : Host.Outcome State Fault Refusal :=
  act s (doSrl c.val rd.val rs.val rt.val)

/-- SRA (R62). -/
def execSra (c : Cell) (rd : Gr) (rs : Gr) (rt : Gr) (s : State) : Host.Outcome State Fault Refusal :=
  act s (doSra c.val rd.val rs.val rt.val)

/-- SLT (R62). -/
def execSlt (c : Cell) (rd : Gr) (rs : Gr) (rt : Gr) (s : State) : Host.Outcome State Fault Refusal :=
  act s (doSlt c.val rd.val rs.val rt.val)

/-- SLTU (R62). -/
def execSltu (c : Cell) (rd : Gr) (rs : Gr) (rt : Gr) (s : State) : Host.Outcome State Fault Refusal :=
  act s (doSltu c.val rd.val rs.val rt.val)

/-- MUL (R62). -/
def execMul (c : Cell) (rd : Gr) (rs : Gr) (rt : Gr) (s : State) : Host.Outcome State Fault Refusal :=
  act s (doMul c.val rd.val rs.val rt.val)

/-- MULHU (R62). -/
def execMulhu (c : Cell) (rd : Gr) (rs : Gr) (rt : Gr) (s : State) : Host.Outcome State Fault Refusal :=
  act s (doMulhu c.val rd.val rs.val rt.val)

/-- DIVU (R62). -/
def execDivu (c : Cell) (rd : Gr) (rs : Gr) (rt : Gr) (s : State) : Host.Outcome State Fault Refusal :=
  act s (doDivu c.val rd.val rs.val rt.val)

/-- REMU (R62). -/
def execRemu (c : Cell) (rd : Gr) (rs : Gr) (rt : Gr) (s : State) : Host.Outcome State Fault Refusal :=
  act s (doRemu c.val rd.val rs.val rt.val)

/-- ADDI (R61). -/
def execAddi (c : Cell) (rd : Gr) (rs : Gr) (imm : BitVec 16) (s : State) : Host.Outcome State Fault Refusal :=
  act s (doAddi c.val rd.val rs.val imm)

/-- ANDI (R61). -/
def execAndi (c : Cell) (rd : Gr) (rs : Gr) (imm : BitVec 16) (s : State) : Host.Outcome State Fault Refusal :=
  act s (doAndi c.val rd.val rs.val imm)

/-- ORI (R61). -/
def execOri (c : Cell) (rd : Gr) (rs : Gr) (imm : BitVec 16) (s : State) : Host.Outcome State Fault Refusal :=
  act s (doOri c.val rd.val rs.val imm)

/-- XORI (R61). -/
def execXori (c : Cell) (rd : Gr) (rs : Gr) (imm : BitVec 16) (s : State) : Host.Outcome State Fault Refusal :=
  act s (doXori c.val rd.val rs.val imm)

/-- SLTI (R61). -/
def execSlti (c : Cell) (rd : Gr) (rs : Gr) (imm : BitVec 16) (s : State) : Host.Outcome State Fault Refusal :=
  act s (doSlti c.val rd.val rs.val imm)

/-- SLTIU (R61). -/
def execSltiu (c : Cell) (rd : Gr) (rs : Gr) (imm : BitVec 16) (s : State) : Host.Outcome State Fault Refusal :=
  act s (doSltiu c.val rd.val rs.val imm)

/-- SHI (R61). -/
def execShi (c : Cell) (rd : Gr) (rs : Gr) (dir : ShiftDir) (amount : BitVec 5) (s : State) : Host.Outcome State Fault Refusal :=
  act s (doShi c.val rd.val rs.val dir amount.toNat)

/-- LUI (R61). -/
def execLui (c : Cell) (rd : Gr) (imm : BitVec 16) (s : State) : Host.Outcome State Fault Refusal :=
  act s (doLui c.val rd.val imm)

/-- LW (R57). -/
def execLw (c : Cell) (rd : Gr) (rs : Gr) (imm : BitVec 16) (s : State) : Host.Outcome State Fault Refusal :=
  act s (doLw c.val rd.val rs.val imm)

/-- SW (R57). -/
def execSw (c : Cell) (rd : Gr) (rs : Gr) (imm : BitVec 16) (s : State) : Host.Outcome State Fault Refusal :=
  act s (doSw c.val rd.val rs.val imm)

/-- LQ (R57). -/
def execLq (c : Cell) (rd : Wr) (rs : Gr) (imm : BitVec 16) (s : State) : Host.Outcome State Fault Refusal :=
  act s (doLq c.val rd.val rs.val imm)

/-- SQ (R57). -/
def execSq (c : Cell) (rd : Wr) (rs : Gr) (imm : BitVec 16) (s : State) : Host.Outcome State Fault Refusal :=
  act s (doSq c.val rd.val rs.val imm)

/-- WDEP (R63). -/
def execWdep (c : Cell) (rd : Wr) (rs : Gr) (pos : BitVec 7) (lenM1 : BitVec 5) (s : State) : Host.Outcome State Fault Refusal :=
  act s (doWdep c.val rd.val rs.val pos.toNat lenM1.toNat)

/-- WEXT (R63). -/
def execWext (c : Cell) (rd : Gr) (rs : Wr) (pos : BitVec 7) (lenM1 : BitVec 5) (s : State) : Host.Outcome State Fault Refusal :=
  act s (doWext c.val rd.val rs.val pos.toNat lenM1.toNat)

/-- WMOV (R61). -/
def execWmov (c : Cell) (rd : Wr) (rs : Wr) (clear : Bool) (s : State) : Host.Outcome State Fault Refusal :=
  act s (doWmov c.val rd.val rs.val clear)

/-- BEQ (R61). -/
def execBeq (c : Cell) (rd : Gr) (rs : Gr) (imm : BitVec 16) (s : State) : Host.Outcome State Fault Refusal :=
  act s (doBeq c.val rd.val rs.val imm)

/-- BNE (R61). -/
def execBne (c : Cell) (rd : Gr) (rs : Gr) (imm : BitVec 16) (s : State) : Host.Outcome State Fault Refusal :=
  act s (doBne c.val rd.val rs.val imm)

/-- BLT (R61). -/
def execBlt (c : Cell) (rd : Gr) (rs : Gr) (imm : BitVec 16) (s : State) : Host.Outcome State Fault Refusal :=
  act s (doBlt c.val rd.val rs.val imm)

/-- BGE (R61). -/
def execBge (c : Cell) (rd : Gr) (rs : Gr) (imm : BitVec 16) (s : State) : Host.Outcome State Fault Refusal :=
  act s (doBge c.val rd.val rs.val imm)

/-- BLTU (R61). -/
def execBltu (c : Cell) (rd : Gr) (rs : Gr) (imm : BitVec 16) (s : State) : Host.Outcome State Fault Refusal :=
  act s (doBltu c.val rd.val rs.val imm)

/-- BGEU (R61). -/
def execBgeu (c : Cell) (rd : Gr) (rs : Gr) (imm : BitVec 16) (s : State) : Host.Outcome State Fault Refusal :=
  act s (doBgeu c.val rd.val rs.val imm)

/-- J (R61). -/
def execJ (c : Cell) (offset : BitVec 26) (s : State) : Host.Outcome State Fault Refusal :=
  act s (doJ c.val offset)

/-- JAL (R61). -/
def execJal (c : Cell) (offset : BitVec 26) (s : State) : Host.Outcome State Fault Refusal :=
  act s (doJal c.val offset)

/-- JALR (R61). -/
def execJalr (c : Cell) (rd : Gr) (rs : Gr) (s : State) : Host.Outcome State Fault Refusal :=
  act s (doJalr c.val rd.val rs.val)

/-- POST (R64). -/
def execPost (c : Cell) (rd : Wr) (q : Fin 64) (flt : DescFault) (s : State) : Host.Outcome State Fault Refusal :=
  act s (doPost c.val rd.val q.val flt)

/-- POSTM (R65). -/
def execPostm (c : Cell) (rs : Gr) (q : Fin 64) (flt : DescFault) (s : State) : Host.Outcome State Fault Refusal :=
  act s (doPostm c.val rs.val q.val flt)

/-- POST_QUEUE_ROOM (R66). -/
def execPostQueueRoom (c : Cell) (s : State) : Host.Outcome State Fault Refusal :=
  act s (doPostQueueRoom c.val)

/-- TAKE (R67). -/
def execTake (c : Cell) (rd : Wr) (rs : Gr) (q : Fin 64) (s : State) : Host.Outcome State Fault Refusal :=
  act s (doTake c.val rd.val rs.val q.val)

/-- WAIT (R68). -/
def execWait (c : Cell) (rd : Gr) (rs : Gr) (s : State) : Host.Outcome State Fault Refusal :=
  act s (doWait c.val rd.val rs.val)

/-- WAIT_EVENT (R68). -/
def execWaitEvent (c : Cell) (s : State) : Host.Outcome State Fault Refusal :=
  act s (doWaitEvent c.val)

/-- WAIT_TIMEOUT (R68). -/
def execWaitTimeout (c : Cell) (s : State) : Host.Outcome State Fault Refusal :=
  act s (doWaitTimeout c.val)

/-- ARM (R71). -/
def execArm (c : Cell) (rd : Gr) (rs : Gr) (target : Fin 17) (s : State) : Host.Outcome State Fault Refusal :=
  act s (doArm c.val rd.val rs.val target.val)

/-- DISARM (R71). -/
def execDisarm (c : Cell) (rd : Gr) (rs : Gr) (target : Fin 17) (s : State) : Host.Outcome State Fault Refusal :=
  act s (doDisarm c.val rd.val rs.val target.val)

/-- TIME (R70). -/
def execTime (c : Cell) (rd : Gr) (s : State) : Host.Outcome State Fault Refusal :=
  act s (doTime c.val rd.val)

/-- COMMIT (R75). -/
def execCommit (c : Cell) (rd : Gr) (rt : Gr) (group : Fin 16) (s : State) : Host.Outcome State Fault Refusal :=
  act s (doCommit c.val rd.val rt.val group.val)

/-- SWARM_COMMIT (R77). -/
def execSwarmCommit (c : Cell) (rd : Gr) (rs : Gr) (rt : Gr) (group : Fin 16) (s : State) : Host.Outcome State Fault Refusal :=
  act s (doSwarmCommit c.val rd.val rs.val rt.val group.val)

/-- SNAP (R78). -/
def execSnap (c : Cell) (rd : Gr) (s : State) : Host.Outcome State Fault Refusal :=
  act s (doSnap c.val rd.val)

/-- SWARM_SNAP (R78). -/
def execSwarmSnap (c : Cell) (rd : Gr) (rs : Gr) (s : State) : Host.Outcome State Fault Refusal :=
  act s (doSwarmSnap c.val rd.val rs.val)

/-- FENCE (R79). -/
def execFence (c : Cell) (rd : Gr) (rs : Gr) (kinds : BitVec 2) (s : State) : Host.Outcome State Fault Refusal :=
  act s (doFence c.val rd.val rs.val kinds.toNat)

/-- FENCE_RELEASE (R79). -/
def execFenceRelease (c : Cell) (s : State) : Host.Outcome State Fault Refusal :=
  act s (doFenceRelease c.val)

/-- BAR (R80). -/
def execBar (c : Cell) (rd : Gr) (rs : Gr) (barrier : Fin 4) (mask : BitVec 8) (s : State) : Host.Outcome State Fault Refusal :=
  act s (doBar c.val rd.val rs.val barrier.val mask)

/-- BAR_TIMEOUT (R80). -/
def execBarTimeout (c : Cell) (s : State) : Host.Outcome State Fault Refusal :=
  act s (doBarTimeout c.val)

/-- MBOX_SEND (R81). -/
def execMboxSend (c : Cell) (rd : Wr) (rs : Gr) (dest : Fin 9) (s : State) : Host.Outcome State Fault Refusal :=
  act s (doMboxSend c.val rd.val rs.val dest.val)

/-- MBOX_RECEIVE (R81). -/
def execMboxReceive (c : Cell) (rd : Wr) (rs : Gr) (sel : BitVec 4) (s : State) : Host.Outcome State Fault Refusal :=
  act s (doMboxReceive c.val rd.val rs.val sel.toNat)

/-- CSRR (R85). -/
def execCsrr (c : Cell) (rd : Gr) (csr : BitVec 12) (s : State) : Host.Outcome State Fault Refusal :=
  act s (doCsrr c.val rd.val csr.toNat)

/-- CSRW_WRITE (R83). -/
def execCsrwWrite (c : Cell) (rs : Gr) (csr : BitVec 12) (s : State) : Host.Outcome State Fault Refusal :=
  act s (doCsrwWrite c.val rs.val csr.toNat)

/-- CSRW_SET (R83). -/
def execCsrwSet (c : Cell) (rs : Gr) (csr : BitVec 12) (s : State) : Host.Outcome State Fault Refusal :=
  act s (doCsrwSet c.val rs.val csr.toNat)

/-- CSRW_CLEAR (R83). -/
def execCsrwClear (c : Cell) (rs : Gr) (csr : BitVec 12) (s : State) : Host.Outcome State Fault Refusal :=
  act s (doCsrwClear c.val rs.val csr.toNat)

/-- STOP (R84). -/
def execStop (c : Cell) (imm : BitVec 16) (s : State) : Host.Outcome State Fault Refusal :=
  act s (doStop c.val imm.toNat)

/-- CELL_ALARM_FIRE (R72). -/
def execCellAlarmFire (c : Cell) (s : State) : Host.Outcome State Fault Refusal :=
  act s (doCellAlarmFire c.val)

/-- CELL_WATCHDOG_EXPIRY (R86). -/
def execCellWatchdogExpiry (c : Cell) (s : State) : Host.Outcome State Fault Refusal :=
  act s (doCellWatchdogExpiry c.val)

/-- CELL_STOP_REQUEST (R87). -/
def execCellStopRequest (m : Master) (c : Cell) (value : BitVec 32) (s : State) : Host.Outcome State Fault Refusal :=
  act s (doCellStopRequest m c.val value)

/-- CELL_START (R87). -/
def execCellStart (m : Master) (c : Cell) (value : BitVec 32) (s : State) : Host.Outcome State Fault Refusal :=
  act s (doCellStart m c.val value)

/-- CELL_UNLOAD (R98). -/
def execCellUnload (m : Master) (c : Cell) (value : BitVec 32) (s : State) : Host.Outcome State Fault Refusal :=
  act s (doCellUnload m c.val value)

/-- H2C_SEND (R94). -/
def execH2cSend (m : Master) (c : Cell) (value : BitVec 32) (s : State) : Host.Outcome State Fault Refusal :=
  act s (doH2cSend m c.val value)

/-- C2H_POP (R94). -/
def execC2hPop (m : Master) (value : BitVec 32) (s : State) : Host.Outcome State Fault Refusal :=
  act s (doC2hPop m value)

/-- IMAGE_LOAD_START (R96). -/
def execImageLoadStart (m : Master) (value : BitVec 32) (s : State) : Host.Outcome State Fault Refusal :=
  act s (doImageLoadStart m value)

/-- IMAGE_LOAD_DRAINED (R96). -/
def execImageLoadDrained (s : State) : Host.Outcome State Fault Refusal :=
  act s doImageLoadDrained

/-- IMAGE_LOAD_BUSY_TAGS (R97). -/
def execImageLoadBusyTags (s : State) : Host.Outcome State Fault Refusal :=
  act s doImageLoadBusyTags

/-- IMAGE_LOAD_COPY_DONE (R96). -/
def execImageLoadCopyDone (s : State) : Host.Outcome State Fault Refusal :=
  act s doImageLoadCopyDone

/-- IMAGE_LOAD_VERIFIED (R96). -/
def execImageLoadVerified (s : State) : Host.Outcome State Fault Refusal :=
  act s doImageLoadVerified

end Sys2Proof.Machine
end

