-- ==== Sys2Proof/Machine/ExecHost.lean ====
section
/-!
DEFINITION. The meanings of the commands of the host and the control buses (spec/13_host_control_buses.md), one definition for each.
-/
namespace Sys2Proof.Machine

/-- HOST_MEMORY_WRITE (R465). -/
def execHostMemoryWrite (bar4 : Bool) (offset : Nat) (bytes : List Byte) (s : State) : Host.Outcome State Fault Refusal :=
  act s (doHostMemoryWrite bar4 offset bytes)

/-- HOST_MEMORY_READ (R465). -/
def execHostMemoryRead (bar4 : Bool) (offset : Nat) (len : Nat) (s : State) : Host.Outcome State Fault Refusal :=
  act s (doHostMemoryRead bar4 offset len)

/-- TW_XFER (R485). -/
def execTwXfer (s : State) : Host.Outcome State Fault Refusal :=
  act s doTwXfer

/-- TW_XFER_COMPLETE (R486). -/
def execTwXferComplete (port : Fin 6) (res : TwResult) (s : State) : Host.Outcome State Fault Refusal :=
  act s (doTwXferComplete port.val res)

/-- TW_ARBITRATION_LOST (R475). -/
def execTwArbitrationLost (port : Fin 6) (byteIx : BitVec 8) (bitIx : BitVec 4) (s : State) : Host.Outcome State Fault Refusal :=
  act s (doTwArbitrationLost port.val byteIx bitIx)

/-- TW_SR_ERROR (R476). -/
def execTwSrError (port : Fin 6) (s : State) : Host.Outcome State Fault Refusal :=
  act s (doTwSrError port.val)

/-- TW_CLOCK_LOW_TIMEOUT (R474). -/
def execTwClockLowTimeout (port : Fin 6) (s : State) : Host.Outcome State Fault Refusal :=
  act s (doTwClockLowTimeout port.val)

/-- TW_DATA_LOW_TIMEOUT (R474). -/
def execTwDataLowTimeout (port : Fin 6) (s : State) : Host.Outcome State Fault Refusal :=
  act s (doTwDataLowTimeout port.val)

/-- TW_BUS_CLEAR (R477). -/
def execTwBusClear (sclStuck : Bool) (freedAt : Option (Fin 9)) (s : State) : Host.Outcome State Fault Refusal :=
  act s (doTwBusClear sclStuck freedAt)

/-- TW_CONTROLLER_RESET (R477). -/
def execTwControllerReset (m : Master) (port : Fin 6) (value : BitVec 32) (s : State) : Host.Outcome State Fault Refusal :=
  act s (doTwControllerReset m port.val value)

/-- TW_MODE_WRITE (R472). -/
def execTwModeWrite (m : Master) (port : Fin 6) (value : BitVec 32) (s : State) : Host.Outcome State Fault Refusal :=
  act s (doTwModeWrite m port.val value)

/-- TW4_WRITE (R479). -/
def execTw4Write (bytes : List Byte) (s : State) : Host.Outcome State Fault Refusal :=
  act s (doTw4Write bytes)

/-- TW4_READ (R479). -/
def execTw4Read (count : Nat) (s : State) : Host.Outcome State Fault Refusal :=
  act s (doTw4Read count)

/-- TW4_OUT_VALID_WRITE (R479). -/
def execTw4OutValidWrite (m : Master) (value : BitVec 32) (s : State) : Host.Outcome State Fault Refusal :=
  act s (doTw4OutValidWrite m value)

/-- TW4_WAKE_MATCH (R480). -/
def execTw4WakeMatch (s : State) : Host.Outcome State Fault Refusal :=
  act s doTw4WakeMatch

/-- TW4_STRETCH_TIMEOUT (R480). -/
def execTw4StretchTimeout (s : State) : Host.Outcome State Fault Refusal :=
  act s doTw4StretchTimeout

/-- FLASH_READ (R485). -/
def execFlashRead (s : State) : Host.Outcome State Fault Refusal :=
  act s doFlashRead

/-- FLASH_PROGRAM (R470). -/
def execFlashProgram (s : State) : Host.Outcome State Fault Refusal :=
  act s doFlashProgram

/-- FLASH_ERASE (R471). -/
def execFlashErase (s : State) : Host.Outcome State Fault Refusal :=
  act s doFlashErase

/-- FLASH_PAGE_DONE (R470). -/
def execFlashPageDone (s : State) : Host.Outcome State Fault Refusal :=
  act s doFlashPageDone

/-- FLASH_POLL_TIMEOUT (R470). -/
def execFlashPollTimeout (s : State) : Host.Outcome State Fault Refusal :=
  act s doFlashPollTimeout

/-- GPIO_EDGE (R484). -/
def execGpioEdge (pin : Fin 16) (level : Bool) (s : State) : Host.Outcome State Fault Refusal :=
  act s (doGpioEdge pin.val level)

/-- PCIE_LINK_CHANGE (R463). -/
def execPcieLinkChange (up : Bool) (width : BitVec 4) (speed : BitVec 3) (s : State) : Host.Outcome State Fault Refusal :=
  act s (doPcieLinkChange up width speed)

/-- HOT_RESET (R510). -/
def execHotReset (s : State) : Host.Outcome State Fault Refusal :=
  act s doHotReset

/-- FLR (R467). -/
def execFlr (s : State) : Host.Outcome State Fault Refusal :=
  act s doFlr

/-- MSIX_UNMASK (R467). -/
def execMsixUnmask (v : Fin 256) (s : State) : Host.Outcome State Fault Refusal :=
  act s (doMsixUnmask v.val)

/-- BAR4_BASE_WRITE (R466). -/
def execBar4BaseWrite (m : Master) (value : BitVec 32) (s : State) : Host.Outcome State Fault Refusal :=
  act s (doBar4BaseWrite m value)

/-- BOOT_DIRECTORY_READ_DONE (R469). -/
def execBootDirectoryReadDone (primaryPoisoned : Bool) (backupPoisoned : Bool) (s : State) : Host.Outcome State Fault Refusal :=
  act s (doBootDirectoryReadDone primaryPoisoned backupPoisoned)

/-- BOOT_ENTRY_COPY_DONE (R469). -/
def execBootEntryCopyDone (poisoned : Bool) (s : State) : Host.Outcome State Fault Refusal :=
  act s (doBootEntryCopyDone poisoned)

end Sys2Proof.Machine
end

