-- ==== Sys2Proof/Machine/ExecIntake.lean ====
section
/-!
DEFINITION. The meanings of the commands of the sensor ports (spec/03_sensor_intake.md), one definition for each.
-/
namespace Sys2Proof.Machine

/-- PORT_SETUP (R127). -/
def execPortSetup (n : Fin 4) (s : State) : Host.Outcome State Fault Refusal :=
  act s (doPortSetup n.val)

/-- GANG_MAP (R128). -/
def execGangMap (n : Fin 4) (s : State) : Host.Outcome State Fault Refusal :=
  act s (doGangMap n.val)

/-- FRAME (R116). -/
def execFrame (n : Fin 4) (s : State) : Host.Outcome State Fault Refusal :=
  act s (doFrame n.val)

/-- XTRIG_SETUP (R114). -/
def execXtrigSetup (n : Fin 4) (s : State) : Host.Outcome State Fault Refusal :=
  act s (doXtrigSetup n.val)

/-- MCLK_SETUP (R113). -/
def execMclkSetup (n : Fin 4) (s : State) : Host.Outcome State Fault Refusal :=
  act s (doMclkSetup n.val)

/-- PORT_STOP (R127). -/
def execPortStop (n : Fin 4) (s : State) : Host.Outcome State Fault Refusal :=
  act s (doPortStop n.val)

/-- SLVS_LINE (R118). -/
def execSlvsLine (n : Fin 4) (line : SlvsLine) (s : State) : Host.Outcome State Fault Refusal :=
  act s (doSlvsLine n.val line)

/-- CSI2_SHORT_PACKET (R102). -/
def execCsi2ShortPacket (n : Fin 4) (pkt : Csi2Short) (s : State) : Host.Outcome State Fault Refusal :=
  act s (doCsi2ShortPacket n.val pkt)

/-- CSI2_LONG_PACKET (R103). -/
def execCsi2LongPacket (n : Fin 4) (pkt : Csi2Long) (s : State) : Host.Outcome State Fault Refusal :=
  act s (doCsi2LongPacket n.val pkt)

/-- LANE_LOCK_TIMEOUT (R105). -/
def execLaneLockTimeout (n : Fin 4) (lane : Fin 16) (s : State) : Host.Outcome State Fault Refusal :=
  act s (doLaneLockTimeout n.val lane.val)

/-- SOF_TIMEOUT (R117). -/
def execSofTimeout (n : Fin 4) (s : State) : Host.Outcome State Fault Refusal :=
  act s (doSofTimeout n.val)

/-- LINE_TIMEOUT (R120). -/
def execLineTimeout (n : Fin 4) (s : State) : Host.Outcome State Fault Refusal :=
  act s (doLineTimeout n.val)

/-- XTRIG_PULSE_END (R115). -/
def execXtrigPulseEnd (n : Fin 4) (s : State) : Host.Outcome State Fault Refusal :=
  act s (doXtrigPulseEnd n.val)

end Sys2Proof.Machine
end

