-- ==== Sys2Proof/Machine/ExecLanes.lean ====
section
/-!
DEFINITION. The meanings of the commands of lanes and the tile link (spec/08_lanes_tile_link.md), one definition for each.
-/
namespace Sys2Proof.Machine

/-- LANE_SETUP (R305). -/
def execLaneSetup (s : State) : Host.Outcome State Fault Refusal :=
  act s doLaneSetup

/-- ENUMERATE (R306). -/
def execEnumerate (s : State) : Host.Outcome State Fault Refusal :=
  act s doEnumerate

/-- TILE_WRITE (R306). -/
def execTileWrite (s : State) : Host.Outcome State Fault Refusal :=
  act s doTileWrite

/-- TILE_READ (R307). -/
def execTileRead (s : State) : Host.Outcome State Fault Refusal :=
  act s doTileRead

/-- EYE_SCAN (R281). -/
def execEyeScan (s : State) : Host.Outcome State Fault Refusal :=
  act s doEyeScan

/-- EYE_SCAN_DONE (R281). -/
def execEyeScanDone (lane : Fin 52) (counts : List (BitVec 32)) (s : State) : Host.Outcome State Fault Refusal :=
  act s (doEyeScanDone lane.val counts)

/-- MANAGEMENT_GROUP_SEND (R286). -/
def execManagementGroupSend (lane : Fin 24) (s : State) : Host.Outcome State Fault Refusal :=
  act s (doManagementGroupSend lane.val)

/-- TILE_STATUS_REPORT (R304). -/
def execTileStatusReport (lane : Fin 24) (f : BitVec 56) (full : Bool) (s : State) : Host.Outcome State Fault Refusal :=
  act s (doTileStatusReport lane.val f full)

/-- TILE_DAYMARK_REPORT (R267). -/
def execTileDaymarkReport (lane : Fin 24) (f : BitVec 56) (full : Bool) (s : State) : Host.Outcome State Fault Refusal :=
  act s (doTileDaymarkReport lane.val f full)

/-- TILE_HELD_REPORT (R264). -/
def execTileHeldReport (lane : Fin 24) (f : BitVec 56) (full : Bool) (s : State) : Host.Outcome State Fault Refusal :=
  act s (doTileHeldReport lane.val f full)

/-- TILE_ENUM_REPLY (R295). -/
def execTileEnumReply (lane : Fin 24) (f : BitVec 56) (full : Bool) (s : State) : Host.Outcome State Fault Refusal :=
  act s (doTileEnumReply lane.val f full)

/-- TILE_READ_REPLY (R307). -/
def execTileReadReply (lane : Fin 24) (f : BitVec 56) (full : Bool) (s : State) : Host.Outcome State Fault Refusal :=
  act s (doTileReadReply lane.val f full)

/-- TILE_READ_TIMEOUT (R307). -/
def execTileReadTimeout (lane : Fin 24) (position : BitVec 8) (s : State) : Host.Outcome State Fault Refusal :=
  act s (doTileReadTimeout lane.val position.toNat)

/-- ENUMERATE_TIMEOUT (R306). -/
def execEnumerateTimeout (lane : Fin 24) (s : State) : Host.Outcome State Fault Refusal :=
  act s (doEnumerateTimeout lane.val)

/-- RX_LOCK_GAINED (R283). -/
def execRxLockGained (rx : LaneBits) (s : State) : Host.Outcome State Fault Refusal :=
  act s (fun s => (doRxLockGained rx.lane.val rx.bits s).casFollow)

/-- RX_LOCK_LOST (R283). -/
def execRxLockLost (rx : LaneBits) (s : State) : Host.Outcome State Fault Refusal :=
  act s (fun s => (doRxLockLost rx.lane.val rx.bits s).casFollow)

/-- CTLE_ADAPTED (R280). -/
def execCtleAdapted (lane : Fin 52) (code : BitVec 4) (s : State) : Host.Outcome State Fault Refusal :=
  act s (doCtleAdapted lane.val code)

/-- QUAD_PLL_UNLOCK (R278). -/
def execQuadPllUnlock (q : Fin 13) (s : State) : Host.Outcome State Fault Refusal :=
  act s (fun s => (doQuadPllUnlock q.val s).casFollow)

/-- QUAD_PLL_RELOCK (R278). -/
def execQuadPllRelock (q : Fin 13) (s : State) : Host.Outcome State Fault Refusal :=
  act s (doQuadPllRelock q.val)

/-- LEGACY_RETRAIN (R284). -/
def execLegacyRetrain (lane : Fin 24) (s : State) : Host.Outcome State Fault Refusal :=
  act s (doLegacyRetrain lane.val)

/-- DFE_TAP_AT_RAIL (R280). -/
def execDfeTapAtRail (lane : Fin 52) (tap : Fin 8) (value : BitVec 8) (s : State) : Host.Outcome State Fault Refusal :=
  act s (doDfeTapAtRail lane.val tap.val value)

/-- TILE_UNKNOWN_REPORT (R304). -/
def execTileUnknownReport (lane : Fin 24) (block : BitVec 64) (s : State) : Host.Outcome State Fault Refusal :=
  act s (doTileUnknownReport lane.val block)

end Sys2Proof.Machine
end

