-- ==== Sys2Proof/Machine/ExecMemory.lean ====
section
/-!
DEFINITION. The meanings of the commands of the memory (spec/11_memory.md), one definition for each.
-/
namespace Sys2Proof.Machine

/-- MEM_FILL (R424). -/
def execMemFill (s : State) : Host.Outcome State Fault Refusal :=
  act s doMemFill

/-- MEM_SCRUB (R424). -/
def execMemScrub (errs : List (Nat × BurstErr × BurstErr)) (s : State) : Host.Outcome State Fault Refusal :=
  act s (doMemScrub errs)

/-- MEM_RETRAIN (R424). -/
def execMemRetrain (passed : BitVec 32) (repaired : BitVec 32) (s : State) : Host.Outcome State Fault Refusal :=
  act s (doMemRetrain passed.toNat repaired.toNat)

/-- MEM_TRAINING_DONE (R413). -/
def execMemTrainingDone (failed0 : BitVec 32) (failed1 : BitVec 32) (repaired0 : BitVec 32) (repaired1 : BitVec 32) (s : State) :
    Host.Outcome State Fault Refusal :=
  act s (doMemTrainingDone failed0.toNat failed1.toNat repaired0.toNat repaired1.toNat)

/-- MEM_REQUEST (R408). -/
def execMemRequest (req : MemReq) (s : State) : Host.Outcome State Fault Refusal :=
  act s (doMemRequest req)

/-- AGE_CAP_EXPIRY (R408). -/
def execAgeCapExpiry (stack : Fin 2) (pc : Fin 32) (s : State) : Host.Outcome State Fault Refusal :=
  act s (doAgeCapExpiry stack.val pc.val)

/-- REFRESH_DUE (R412). -/
def execRefreshDue (stack : Fin 2) (pc : Fin 32) (slot : RefreshSlot) (s : State) : Host.Outcome State Fault Refusal :=
  act s (doRefreshDue stack.val pc.val slot.waiting slot.ahead.val)

/-- STACK_TEMPERATURE_READ (R411). -/
def execStackTemperatureRead (stack : Fin 2) (t : BitVec 8) (s : State) : Host.Outcome State Fault Refusal :=
  act s (doStackTemperatureRead stack.val t.toNat)

/-- PARITY_ALERT (R417). -/
def execParityAlert (stack : Fin 2) (pc : Fin 32) (replay : ReplayEnd) (s : State) : Host.Outcome State Fault Refusal :=
  act s (doParityAlert stack.val pc.val replay.again replay.trained replay.repaired)

/-- PERIODIC_RETRAIN (R415). -/
def execPeriodicRetrain (stack : Fin 2) (pc : Fin 32) (ok : Bool) (retrained : Bool) (repaired : Bool) (s : State) :
    Host.Outcome State Fault Refusal :=
  act s (doPeriodicRetrain stack.val pc.val ok retrained repaired)

/-- PATROL_SCRUB (R420). -/
def execPatrolScrub (stack : Fin 2) (err : BurstErr) (retryErr : BurstErr) (s : State) : Host.Outcome State Fault Refusal :=
  act s (doPatrolScrub stack.val err retryErr)

/-- COMB_SCRUB (R423). -/
def execCombScrub (err : WordErr) (s : State) : Host.Outcome State Fault Refusal :=
  act s (doCombScrub err)

/-- SELF_REFRESH_EXIT_DONE (R414). -/
def execSelfRefreshExitDone (exit : StackExit) (s : State) : Host.Outcome State Fault Refusal :=
  act s (doSelfRefreshExitDone exit.stack.val exit.failed.toNat exit.repaired.toNat)

/-- COMB_INIT_DONE (R423). -/
def execCombInitDone (s : State) : Host.Outcome State Fault Refusal :=
  act s doCombInitDone

/-- MEM_MAP_WRITE (R405). -/
def execMemMapWrite (m : Master) (value : BitVec 32) (s : State) : Host.Outcome State Fault Refusal :=
  act s (doMemMapWrite m value)

end Sys2Proof.Machine
end

