-- ==== Sys2Proof/Machine/ExecRawFrontEnd.lean ====
section
/-!
DEFINITION. The meanings of the commands of the raw front end (spec/04_raw_front_end.md), one definition for each.
-/
namespace Sys2Proof.Machine

/-- RFE_FRAME (R152). -/
def execRfeFrame (x : Fin 2) (s : State) : Host.Outcome State Fault Refusal :=
  act s (doRfeFrame x.val)

/-- RFE_TABLE_LOAD (R161). -/
def execRfeTableLoad (x : Fin 2) (s : State) : Host.Outcome State Fault Refusal :=
  act s (doRfeTableLoad x.val)

/-- RFE_LINE_SET (R135). -/
def execRfeLineSet (x : Fin 2) (residue : Bool) (s : State) : Host.Outcome State Fault Refusal :=
  act s (doRfeLineSet x.val residue)

/-- RFE_MEMORY_LINE_FETCH (R154). -/
def execRfeMemoryLineFetch (x : Fin 2) (slot : Fin 2) (s : State) : Host.Outcome State Fault Refusal :=
  act s (doRfeMemoryLineFetch x.val slot.val)

/-- RFE_FRAME_START_MARK (R153). -/
def execRfeFrameStartMark (x : Fin 2) (slot : Fin 2) (s : State) : Host.Outcome State Fault Refusal :=
  act s (doRfeFrameStartMark x.val slot.val)

/-- RFE_FRAME_END_MARK (R155). -/
def execRfeFrameEndMark (x : Fin 2) (slot : Fin 2) (s : State) : Host.Outcome State Fault Refusal :=
  act s (doRfeFrameEndMark x.val slot.val)

/-- RFE_TBL_DATA3_WRITE (R162). -/
def execRfeTblData3Write (m : Master) (x : Fin 2) (value : BitVec 32) (s : State) : Host.Outcome State Fault Refusal :=
  act s (doRfeTblData3Write m x.val value)

end Sys2Proof.Machine
end

