-- ==== Sys2Proof/Machine/ExecRecording.lean ====
section
/-!
DEFINITION. The meanings of the commands of recording and replay (spec/10_recording_replay.md), one definition for each.
-/
namespace Sys2Proof.Machine

/-- LPK_PACK (R367). -/
def execLpkPack (n : Fin 2) (s : State) : Host.Outcome State Fault Refusal :=
  act s (doLpkPack n.val)

/-- LPK_UNPACK (R368). -/
def execLpkUnpack (n : Fin 2) (s : State) : Host.Outcome State Fault Refusal :=
  act s (doLpkUnpack n.val)

/-- LPK_BLOCK_CODED (R367). -/
def execLpkBlockCoded (n : Fin 2) (mismatch : Bool) (s : State) : Host.Outcome State Fault Refusal :=
  act s (doLpkBlockCoded n.val mismatch)

/-- STORE_SETUP (R394). -/
def execStoreSetup (src : ClsSrc) (s : State) : Host.Outcome State Fault Refusal :=
  act s (doStoreSetup src)

/-- SSD_BRINGUP_STEP_DONE (R394). -/
def execSsdBringupStepDone (r : Fin 2) (result : BringUp) (s : State) : Host.Outcome State Fault Refusal :=
  act s (doSsdBringupStepDone r.val result)

/-- CLIP_OPEN (R377). -/
def execClipOpen (src : ClsSrc) (s : State) : Host.Outcome State Fault Refusal :=
  act s (doClipOpen src)

/-- CLIP_WRITE (R378). -/
def execClipWrite (src : ClsSrc) (s : State) : Host.Outcome State Fault Refusal :=
  act s (doClipWrite src)

/-- WRITE_BUFFER_ROOM (R382). -/
def execWriteBufferRoom (s : State) : Host.Outcome State Fault Refusal :=
  act s doWriteBufferRoom

/-- CLIP_READ (R380). -/
def execClipRead (src : ClsSrc) (s : State) : Host.Outcome State Fault Refusal :=
  act s (doClipRead src)

/-- INDEX_READ (R381). -/
def execIndexRead (src : ClsSrc) (s : State) : Host.Outcome State Fault Refusal :=
  act s (doIndexRead src)

/-- FLUSH (R385). -/
def execFlush (src : ClsSrc) (s : State) : Host.Outcome State Fault Refusal :=
  act s (doFlush src)

/-- CLIP_CLOSE (R399). -/
def execClipClose (src : ClsSrc) (s : State) : Host.Outcome State Fault Refusal :=
  act s (doClipClose src)

/-- CLIP_DROP (R399). -/
def execClipDrop (src : ClsSrc) (s : State) : Host.Outcome State Fault Refusal :=
  act s (doClipDrop src)

/-- CLIP_QUERY (R399). -/
def execClipQuery (src : ClsSrc) (s : State) : Host.Outcome State Fault Refusal :=
  act s (doClipQuery src)

/-- AGE (R388). -/
def execAge (src : ClsSrc) (s : State) : Host.Outcome State Fault Refusal :=
  act s (doAge src)

/-- SQ_TAIL_DOORBELL (R386). -/
def execSqTailDoorbell (m : Master) (n : Fin 4) (value : BitVec 32) (s : State) : Host.Outcome State Fault Refusal :=
  act s (doSqTailDoorbell m n.val value)

/-- CQ_HEAD_DOORBELL (R386). -/
def execCqHeadDoorbell (m : Master) (n : Fin 4) (value : BitVec 32) (s : State) : Host.Outcome State Fault Refusal :=
  act s (doCqHeadDoorbell m n.val value)

/-- HQ_ENABLE (R401). -/
def execHqEnable (m : Master) (n : Fin 4) (value : BitVec 32) (s : State) : Host.Outcome State Fault Refusal :=
  act s (doHqEnable m n.val value)

/-- CLS_RESET (R390). -/
def execClsReset (m : Master) (value : BitVec 32) (s : State) : Host.Outcome State Fault Refusal :=
  act s (doClsReset m value)

/-- CLS_RESET_FLUSH_DONE (R390). -/
def execClsResetFlushDone (s : State) : Host.Outcome State Fault Refusal :=
  act s doClsResetFlushDone

/-- CLS_ACTIVATE (R391). -/
def execClsActivate (m : Master) (value : BitVec 32) (s : State) : Host.Outcome State Fault Refusal :=
  act s (doClsActivate m value)

/-- ACTIVATION_READY (R391). -/
def execActivationReady (s : State) : Host.Outcome State Fault Refusal :=
  act s doActivationReady

/-- CLS_RESUME (R391). -/
def execClsResume (m : Master) (value : BitVec 32) (s : State) : Host.Outcome State Fault Refusal :=
  act s (doClsResume m value)

/-- PAGE_FLUSH_DUE (R382). -/
def execPageFlushDue (clip : Nat) (page : Nat) (s : State) : Host.Outcome State Fault Refusal :=
  act s (doPageFlushDue clip page)

/-- NVME_COMPLETION (R383). -/
def execNvmeCompletion (r : Fin 2) (cid : Nat) (ok : Bool) (data : List Byte) (s : State) : Host.Outcome State Fault Refusal :=
  act s (doNvmeCompletion r.val cid ok data)

/-- SSD_TIMEOUT (R395). -/
def execSsdTimeout (r : Fin 2) (cid : Nat) (s : State) : Host.Outcome State Fault Refusal :=
  act s (doSsdTimeout r.val cid)

/-- SSD_FAILURE (R395). -/
def execSsdFailure (r : Fin 2) (s : State) : Host.Outcome State Fault Refusal :=
  act s (doSsdFailure r.val)

/-- HEALTH_LOG_POLL (R393). -/
def execHealthLogPoll (r : Fin 2) (temperature : BitVec 16) (warning : Byte) (s : State) : Host.Outcome State Fault Refusal :=
  act s (doHealthLogPoll r.val temperature warning)

/-- CLS_AGE_THRESHOLD (R388). -/
def execClsAgeThreshold (src : ClsSrc) (tag : BitVec 16) (s : State) : Host.Outcome State Fault Refusal :=
  act s (doClsAgeThreshold src tag)

end Sys2Proof.Machine
end

