-- ==== Sys2Proof/Machine/ExecSafety.lean ====
section
/-!
DEFINITION. The meanings of the commands of safety, power and reset (spec/14_safety_power_reset.md), one definition for each.
-/
namespace Sys2Proof.Machine

/-- PD_SET (R503). -/
def execPdSet (s : State) : Host.Outcome State Fault Refusal :=
  act s doPdSet

/-- DOMAIN_POWER_UP_DONE (R503). -/
def execDomainPowerUpDone (d : Fin 30) (s : State) : Host.Outcome State Fault Refusal :=
  act s (doDomainPowerUpDone d.val)

/-- STATE (R505). -/
def execState (s : State) : Host.Outcome State Fault Refusal :=
  act s doState

/-- STATE_HOLD_REACHED (R505). -/
def execStateHoldReached (s : State) : Host.Outcome State Fault Refusal :=
  act s doStateHoldReached

/-- REC_READ (R520). -/
def execRecRead (s : State) : Host.Outcome State Fault Refusal :=
  act s doRecRead

/-- SNAP_COPY (R502). -/
def execSnapCopy (torn : Bool) (s : State) : Host.Outcome State Fault Refusal :=
  act s (doSnapCopy torn)

/-- REPORT (R520). -/
def execReport (s : State) : Host.Outcome State Fault Refusal :=
  act s doReport

/-- INTAKE_WINDOW_CLOSE (R496). -/
def execIntakeWindowClose (idx : Nat) (s : State) : Host.Outcome State Fault Refusal :=
  act s (doIntakeWindowClose idx)

/-- RECORD_WRITE (R498). -/
def execRecordWrite (s : State) : Host.Outcome State Fault Refusal :=
  act s doRecordWrite

/-- SELF_TEST_CYCLE (R492). -/
def execSelfTestCycle (failures : List (Fin 256 × BitVec 8)) (s : State) : Host.Outcome State Fault Refusal :=
  act s (doSelfTestCycle (failures.map (fun p => (p.1.val, p.2.toNat))))

/-- CLOCK_MONITOR_MEASURE (R494). -/
def execClockMonitorMeasure (domain : Fin 60) (outside : Bool) (s : State) : Host.Outcome State Fault Refusal :=
  act s (doClockMonitorMeasure domain.val outside)

/-- FOGHORN_MISMATCH (R493). -/
def execFoghornMismatch (s : State) : Host.Outcome State Fault Refusal :=
  act s doFoghornMismatch

/-- CLEAR_FAULT (R493). -/
def execClearFault (m : Master) (value : BitVec 32) (s : State) : Host.Outcome State Fault Refusal :=
  act s (doClearFault m value)

/-- PIN_CLEAR (R499). -/
def execPinClear (m : Master) (value : BitVec 32) (s : State) : Host.Outcome State Fault Refusal :=
  act s (doPinClear m value)

/-- HOST_SNAP_TRIGGER (R501). -/
def execHostSnapTrigger (m : Master) (value : BitVec 32) (s : State) : Host.Outcome State Fault Refusal :=
  act s (doHostSnapTrigger m value)

/-- SOFT_RESET (R509). -/
def execSoftReset (m : Master) (value : BitVec 32) (s : State) : Host.Outcome State Fault Refusal :=
  act s (doSoftReset m value)

/-- WDOG_WRITE (R509). -/
def execWdogWrite (m : Master) (value : BitVec 32) (s : State) : Host.Outcome State Fault Refusal :=
  act s (doWdogWrite m value)

/-- WDOG_KICK (R509). -/
def execWdogKick (m : Master) (value : BitVec 32) (s : State) : Host.Outcome State Fault Refusal :=
  act s (doWdogKick m value)

/-- WDOG_EXPIRY (R509). -/
def execWdogExpiry (s : State) : Host.Outcome State Fault Refusal :=
  act s doWdogExpiry

/-- RESET_HOLD_WINDOW_END (R510). -/
def execResetHoldWindowEnd (s : State) : Host.Outcome State Fault Refusal :=
  act s doResetHoldWindowEnd

/-- DOZE_ENTRY (R507). -/
def execDozeEntry (m : Master) (value : BitVec 32) (s : State) : Host.Outcome State Fault Refusal :=
  act s (doDozeEntry m value)

/-- DOZE_STEP_DONE (R507). -/
def execDozeStepDone (s : State) : Host.Outcome State Fault Refusal :=
  act s doDozeStepDone

/-- DOZE_WAKE (R508). -/
def execDozeWake (src : WakeSrc) (s : State) : Host.Outcome State Fault Refusal :=
  act s (doDozeWake src)

/-- DOZE_EXIT_STEP_DONE (R508). -/
def execDozeExitStepDone (s : State) : Host.Outcome State Fault Refusal :=
  act s doDozeExitStepDone

/-- POWER_ON_RESET (R509). -/
def execPowerOnReset (s : State) : Host.Outcome State Fault Refusal :=
  actAlways s doPowerOnReset

/-- RESET_N_ASSERT (R509). -/
def execResetNAssert (s : State) : Host.Outcome State Fault Refusal :=
  actAlways s doResetNAssert

/-- RESET_RELEASE (R557). -/
def execResetRelease (straps : Straps) (s : State) : Host.Outcome State Fault Refusal :=
  actAlways s (doResetRelease straps)

/-- SUPPLY_WARNING (R512). -/
def execSupplyWarning (mv : BitVec 16) (s : State) : Host.Outcome State Fault Refusal :=
  act s (doSupplyWarning mv.toNat)

/-- SUPPLY_RECOVERY (R512). -/
def execSupplyRecovery (minMv : BitVec 16) (duration : BitVec 32) (s : State) : Host.Outcome State Fault Refusal :=
  act s (doSupplyRecovery minMv.toNat duration.toNat)

/-- SUPPLY_DWELL_EXPIRY (R513). -/
def execSupplyDwellExpiry (s : State) : Host.Outcome State Fault Refusal :=
  act s doSupplyDwellExpiry

/-- OTHER_RAIL_WARNING (R514). -/
def execOtherRailWarning (rail : Fin 11) (mv : BitVec 16) (s : State) : Host.Outcome State Fault Refusal :=
  act s (doOtherRailWarning rail.val mv.toNat)

/-- OTHER_RAIL_RECOVERY (R514). -/
def execOtherRailRecovery (rail : Fin 11) (minMv : BitVec 16) (duration : BitVec 32) (s : State) : Host.Outcome State Fault Refusal :=
  act s (doOtherRailRecovery rail.val minMv.toNat duration.toNat)

/-- SENSOR_READ (R515). -/
def execSensorRead (readings : List (BitVec 16)) (s : State) : Host.Outcome State Fault Refusal :=
  actAlways s (doSensorRead readings)

/-- OSCILLATOR_TRIM (R519). -/
def execOscillatorTrim (s : State) : Host.Outcome State Fault Refusal :=
  act s doOscillatorTrim

end Sys2Proof.Machine
end

