-- ==== Sys2Proof/Machine/ExecSecurity.lean ====
section
/-!
DEFINITION. The meanings of the commands of the Keeper (spec/15_security.md), one definition for each.
-/
namespace Sys2Proof.Machine

/-- KEEPER_FIRMWARE_VERIFIED (R528). -/
def execKeeperFirmwareVerified (selfTestsPass : Bool) (s : State) : Host.Outcome State Fault Refusal :=
  act s (doKeeperFirmwareVerified selfTestsPass)

/-- KPR_CMD (R546). -/
def execKprCmd (s : State) : Host.Outcome State Fault Refusal :=
  act s doKprCmd

/-- KPR_MB_GO (R546). -/
def execKprMbGo (m : Master) (value : BitVec 32) (s : State) : Host.Outcome State Fault Refusal :=
  act s (doKprMbGo m value)

/-- GET_INFO (R547). -/
def execGetInfo (s : State) : Host.Outcome State Fault Refusal :=
  act s doGetInfo

/-- GET_IDENTITY (R547). -/
def execGetIdentity (s : State) : Host.Outcome State Fault Refusal :=
  act s doGetIdentity

/-- GET_RANDOM (R542). -/
def execGetRandom (s : State) : Host.Outcome State Fault Refusal :=
  act s doGetRandom

/-- SESSION_OPEN (R530). -/
def execSessionOpen (s : State) : Host.Outcome State Fault Refusal :=
  act s doSessionOpen

/-- SESSION_PROVE (R530). -/
def execSessionProve (s : State) : Host.Outcome State Fault Refusal :=
  act s doSessionProve

/-- SESSION_CLOSE (R532). -/
def execSessionClose (s : State) : Host.Outcome State Fault Refusal :=
  act s doSessionClose

/-- SESSION_VERIFY (R533). -/
def execSessionVerify (s : State) : Host.Outcome State Fault Refusal :=
  act s doSessionVerify

/-- KEY_INSTALL (R536). -/
def execKeyInstall (s : State) : Host.Outcome State Fault Refusal :=
  act s doKeyInstall

/-- LANE_KEY (R537). -/
def execLaneKey (s : State) : Host.Outcome State Fault Refusal :=
  act s doLaneKey

/-- KEYX_SENT (R537). -/
def execKeyxSent (lane : Fin 24) (s : State) : Host.Outcome State Fault Refusal :=
  act s (doKeyxSent lane.val)

/-- CAS_GUARD (R540). -/
def execCasGuard (s : State) : Host.Outcome State Fault Refusal :=
  act s doCasGuard

/-- KEY_PROGRAM (R526). -/
def execKeyProgram (s : State) : Host.Outcome State Fault Refusal :=
  act s doKeyProgram

/-- REVOKE (R527). -/
def execRevoke (s : State) : Host.Outcome State Fault Refusal :=
  act s doRevoke

/-- ROLLBACK_ADVANCE (R529). -/
def execRollbackAdvance (s : State) : Host.Outcome State Fault Refusal :=
  act s doRollbackAdvance

/-- LIFECYCLE (R525). -/
def execLifecycle (s : State) : Host.Outcome State Fault Refusal :=
  act s doLifecycle

/-- FUSE_BURN_DONE (R525). -/
def execFuseBurnDone (verified : Bool) (s : State) : Host.Outcome State Fault Refusal :=
  act s (doFuseBurnDone verified)

/-- PROTECT (R535). -/
def execProtect (s : State) : Host.Outcome State Fault Refusal :=
  act s doProtect

/-- TAMPER_CONFIG (R544). -/
def execTamperConfig (s : State) : Host.Outcome State Fault Refusal :=
  act s doTamperConfig

/-- TAMPER_CLEAR (R544). -/
def execTamperClear (s : State) : Host.Outcome State Fault Refusal :=
  act s doTamperClear

/-- ZEROISE (R544). -/
def execZeroise (s : State) : Host.Outcome State Fault Refusal :=
  act s doZeroise

/-- DEBUG_CHALLENGE (R543). -/
def execDebugChallenge (s : State) : Host.Outcome State Fault Refusal :=
  act s doDebugChallenge

/-- DEBUG_UNLOCK (R543). -/
def execDebugUnlock (s : State) : Host.Outcome State Fault Refusal :=
  act s doDebugUnlock

/-- DEBUG_NONCE_EXPIRY (R543). -/
def execDebugNonceExpiry (s : State) : Host.Outcome State Fault Refusal :=
  act s doDebugNonceExpiry

/-- SELF_TEST (R545). -/
def execSelfTest (passed : Bool) (s : State) : Host.Outcome State Fault Refusal :=
  act s (doSelfTest passed)

/-- NV_READ (R547). -/
def execNvRead (s : State) : Host.Outcome State Fault Refusal :=
  act s doNvRead

/-- NV_WRITE (R547). -/
def execNvWrite (s : State) : Host.Outcome State Fault Refusal :=
  act s doNvWrite

/-- FW_LOAD (R528). -/
def execFwLoad (s : State) : Host.Outcome State Fault Refusal :=
  act s doFwLoad

/-- SESSION_PROVE_TIMEOUT (R530). -/
def execSessionProveTimeout (id : Fin 4) (s : State) : Host.Outcome State Fault Refusal :=
  act s (doSessionProveTimeout id.val)

/-- SESSION_IDLE_TIMEOUT (R532). -/
def execSessionIdleTimeout (id : Fin 4) (s : State) : Host.Outcome State Fault Refusal :=
  act s (doSessionIdleTimeout id.val)

/-- SESSION_LIFETIME_EXPIRY (R532). -/
def execSessionLifetimeExpiry (id : Fin 4) (s : State) : Host.Outcome State Fault Refusal :=
  act s (doSessionLifetimeExpiry id.val)

/-- TAMPER (R544). -/
def execTamper (s : State) : Host.Outcome State Fault Refusal :=
  act s doTamper

/-- TRNG_HEALTH_FAIL (R542). -/
def execTrngHealthFail (s : State) : Host.Outcome State Fault Refusal :=
  act s doTrngHealthFail

/-- KEEPER_LOCKSTEP_MISMATCH (R491). -/
def execKeeperLockstepMismatch (s : State) : Host.Outcome State Fault Refusal :=
  act s doKeeperLockstepMismatch

end Sys2Proof.Machine
end

