-- ==== Sys2Proof/Machine/ExecTime.lean ====
section
/-!
DEFINITION. The meanings of the commands of time, Ethernet and the cascade (spec/12_time_cascade.md), one definition for each.
-/
namespace Sys2Proof.Machine

/-- BEACON_TRIGGER_ACT (R433). -/
def execBeaconTriggerAct (n : Fin 16) (s : State) : Host.Outcome State Fault Refusal :=
  act s (doBeaconTriggerAct n.val)

/-- BEACON_WRAP (R429). -/
def execBeaconWrap (s : State) : Host.Outcome State Fault Refusal :=
  act s doBeaconWrap

/-- BCN_NOW_NS_READ (R429). -/
def execBcnNowNsRead (m : Master) (s : State) : Host.Outcome State Fault Refusal :=
  act s (doBcnNowNsRead m)

/-- BCN_INC_WRITE (R430). -/
def execBcnIncWrite (m : Master) (value : BitVec 32) (s : State) : Host.Outcome State Fault Refusal :=
  act s (doBcnIncWrite m value)

/-- BCN_STEP (R431). -/
def execBcnStep (m : Master) (value : BitVec 32) (s : State) : Host.Outcome State Fault Refusal :=
  act s (doBcnStep m value)

/-- PTP_BASE_WRITE (R432). -/
def execPtpBaseWrite (m : Master) (value : BitVec 32) (s : State) : Host.Outcome State Fault Refusal :=
  act s (doPtpBaseWrite m value)

/-- HOST_TRIGGER_ARM (R434). -/
def execHostTriggerArm (m : Master) (n : Fin 16) (value : BitVec 32) (s : State) : Host.Outcome State Fault Refusal :=
  act s (doHostTriggerArm m n.val value)

/-- HOST_TRIGGER_DISARM (R434). -/
def execHostTriggerDisarm (m : Master) (n : Fin 16) (value : BitVec 32) (s : State) : Host.Outcome State Fault Refusal :=
  act s (doHostTriggerDisarm m n.val value)

/-- TRIGGER_PULSE_END (R484). -/
def execTriggerPulseEnd (n : Fin 16) (s : State) : Host.Outcome State Fault Refusal :=
  act s (doTriggerPulseEnd n.val)

/-- ETH_SETUP (R435). -/
def execEthSetup (s : State) : Host.Outcome State Fault Refusal :=
  act s doEthSetup

/-- RX_FILTER (R439). -/
def execRxFilter (s : State) : Host.Outcome State Fault Refusal :=
  act s doRxFilter

/-- RX_RING (R439). -/
def execRxRing (s : State) : Host.Outcome State Fault Refusal :=
  act s doRxRing

/-- PKT_SEND (R440). -/
def execPktSend (s : State) : Host.Outcome State Fault Refusal :=
  act s doPktSend

/-- PKT_DEPARTURE (R440). -/
def execPktDeparture (p : Fin 4) (s : State) : Host.Outcome State Fault Refusal :=
  act s (doPktDeparture p.val)

/-- RTP_SETUP (R441). -/
def execRtpSetup (s : State) : Host.Outcome State Fault Refusal :=
  act s doRtpSetup

/-- RTP_SEND (R442). -/
def execRtpSend (s : State) : Host.Outcome State Fault Refusal :=
  act s doRtpSend

/-- ETH_FRAME_RECEIVED (R439). -/
def execEthFrameReceived (p : Fin 4) (bytes : List Byte) (fcsOk : Bool) (stamp : Nat) (s : State) : Host.Outcome State Fault Refusal :=
  act s (doEthFrameReceived p.val bytes fcsOk stamp)

/-- ETH_LINK_CHANGE (R435). -/
def execEthLinkChange (p : Fin 4) (up : Bool) (s : State) : Host.Outcome State Fault Refusal :=
  act s (doEthLinkChange p.val up)

/-- CAS_SETUP (R448). -/
def execCasSetup (s : State) : Host.Outcome State Fault Refusal :=
  act s doCasSetup

/-- CAS_EXPORT (R452). -/
def execCasExport (s : State) : Host.Outcome State Fault Refusal :=
  act s doCasExport

/-- CAS_IMPORT (R452). -/
def execCasImport (s : State) : Host.Outcome State Fault Refusal :=
  act s doCasImport

/-- CAS_STOP (R459). -/
def execCasStop (s : State) : Host.Outcome State Fault Refusal :=
  act s doCasStop

/-- CAS_MSG (R459). -/
def execCasMsg (s : State) : Host.Outcome State Fault Refusal :=
  act s doCasMsg

/-- CAS_EXPORT_LINE (R452). -/
def execCasExportLine (stream : Fin 64) (s : State) : Host.Outcome State Fault Refusal :=
  act s (doCasExportLine stream.val)

/-- WAGGLE_RECEIVED (R449). -/
def execWaggleReceived (link : Fin 2) (pkt : AdeoftPkt) (s : State) : Host.Outcome State Fault Refusal :=
  act s (doWaggleReceived link.val pkt)

/-- WAGGLE_SEND (R449). -/
def execWaggleSend (s : State) : Host.Outcome State Fault Refusal :=
  act s doWaggleSend

/-- WAGGLE_MISS (R449). -/
def execWaggleMiss (s : State) : Host.Outcome State Fault Refusal :=
  act s doWaggleMiss

/-- COMMIT_REQ_RECEIVED (R456). -/
def execCommitReqReceived (link : Fin 2) (pkt : AdeoftPkt) (s : State) : Host.Outcome State Fault Refusal :=
  act s (doCommitReqReceived link.val pkt)

/-- PREPARE_RECEIVED (R456). -/
def execPrepareReceived (link : Fin 2) (pkt : AdeoftPkt) (s : State) : Host.Outcome State Fault Refusal :=
  act s (doPrepareReceived link.val pkt)

/-- PREPARE_TIMEOUT (R456). -/
def execPrepareTimeout (s : State) : Host.Outcome State Fault Refusal :=
  act s doPrepareTimeout

/-- DECIDE_RECEIVED (R456). -/
def execDecideReceived (link : Fin 2) (pkt : AdeoftPkt) (s : State) : Host.Outcome State Fault Refusal :=
  act s (doDecideReceived link.val pkt)

/-- SNAP_PACKET_RECEIVED (R458). -/
def execSnapPacketReceived (link : Fin 2) (pkt : AdeoftPkt) (s : State) : Host.Outcome State Fault Refusal :=
  act s (doSnapPacketReceived link.val pkt)

/-- SWARM_SNAPSHOT_LATCH (R458). -/
def execSwarmSnapshotLatch (s : State) : Host.Outcome State Fault Refusal :=
  act s doSwarmSnapshotLatch

/-- ADEOFT_MSG_RECEIVED (R459). -/
def execAdeoftMsgReceived (link : Fin 2) (pkt : AdeoftPkt) (s : State) : Host.Outcome State Fault Refusal :=
  act s (doAdeoftMsgReceived link.val pkt)

/-- DELAY_REQ_RECEIVED (R450). -/
def execDelayReqReceived (link : Fin 2) (pkt : AdeoftPkt) (s : State) : Host.Outcome State Fault Refusal :=
  act s (doDelayReqReceived link.val pkt)

/-- DELAY_RESP_RECEIVED (R450). -/
def execDelayRespReceived (link : Fin 2) (pkt : AdeoftPkt) (s : State) : Host.Outcome State Fault Refusal :=
  act s (doDelayRespReceived link.val pkt)

/-- LINK_DELAY_MEASURE (R450). -/
def execLinkDelayMeasure (s : State) : Host.Outcome State Fault Refusal :=
  act s doLinkDelayMeasure

/-- ADEOFT_ENUM_RECEIVED (R448). -/
def execAdeoftEnumReceived (link : Fin 2) (pkt : AdeoftPkt) (s : State) : Host.Outcome State Fault Refusal :=
  act s (doAdeoftEnumReceived link.val pkt)

/-- FRAME_OPEN_RECEIVED (R452). -/
def execFrameOpenReceived (link : Fin 2) (pkt : AdeoftPkt) (s : State) : Host.Outcome State Fault Refusal :=
  act s (doFrameOpenReceived link.val pkt)

/-- LINE_PACKET_RECEIVED (R452). -/
def execLinePacketReceived (link : Fin 2) (pkt : AdeoftPkt) (s : State) : Host.Outcome State Fault Refusal :=
  act s (doLinePacketReceived link.val pkt)

/-- FRAME_CLOSE_RECEIVED (R452). -/
def execFrameCloseReceived (link : Fin 2) (pkt : AdeoftPkt) (s : State) : Host.Outcome State Fault Refusal :=
  act s (doFrameCloseReceived link.val pkt)

/-- ADEOFT_LINK_DOWN (R447). -/
def execAdeoftLinkDown (link : Fin 2) (s : State) : Host.Outcome State Fault Refusal :=
  act s (doAdeoftLinkDown link.val)

/-- ADEOFT_LINK_UP (R443). -/
def execAdeoftLinkUp (link : Fin 2) (s : State) : Host.Outcome State Fault Refusal :=
  act s (doAdeoftLinkUp link.val)

/-- ADEOFT_TX_RESTART (R443). -/
def execAdeoftTxRestart (link : Fin 2) (s : State) : Host.Outcome State Fault Refusal :=
  act s (doAdeoftTxRestart link.val)

/-- ADEOFT_LINK_REUSE (R447). -/
def execAdeoftLinkReuse (link : Fin 2) (s : State) : Host.Outcome State Fault Refusal :=
  act s (doAdeoftLinkReuse link.val)

/-- ADEOFT_BAD_PACKET (R445). -/
def execAdeoftBadPacket (link : Fin 2) (reason : BadPacket) (s : State) : Host.Outcome State Fault Refusal :=
  act s (doAdeoftBadPacket link.val reason)

/-- CAS_WAGGLE_STAMP_READ (R461). -/
def execCasWaggleStampRead (m : Master) (k : Fin 6) (s : State) : Host.Outcome State Fault Refusal :=
  act s (doCasWaggleStampRead m k.val)

end Sys2Proof.Machine
end

