-- ==== Sys2Proof/Machine/ExecWall.lean ====
section
/-!
DEFINITION. The meanings of the commands of the wall output (spec/07_wall_output.md), one definition for each.
-/
namespace Sys2Proof.Machine

/-- MAP_LOAD (R256). -/
def execMapLoad (g : Fin 2) (s : State) : Host.Outcome State Fault Refusal :=
  act s (doMapLoad g.val)

/-- CAL_LOAD (R261). -/
def execCalLoad (g : Fin 2) (s : State) : Host.Outcome State Fault Refusal :=
  act s (doCalLoad g.val)

/-- START (R247). -/
def execStart (g : Fin 2) (s : State) : Host.Outcome State Fault Refusal :=
  act s (doStart g.val)

/-- HOLD (R264). -/
def execHold (g : Fin 2) (s : State) : Host.Outcome State Fault Refusal :=
  act s (doHold g.val)

/-- WLO_REPORT (R272). -/
def execWloReport (g : Fin 2) (s : State) : Host.Outcome State Fault Refusal :=
  act s (doWloReport g.val)

/-- WLO_LATCH_POINT (R242). -/
def execWloLatchPoint (g : Fin 2) (s : State) : Host.Outcome State Fault Refusal :=
  act s (doWloLatchPoint g.val)

/-- GENERATOR_RETIMED (R251). -/
def execGeneratorRetimed (g : Fin 2) (s : State) : Host.Outcome State Fault Refusal :=
  act s (doGeneratorRetimed g.val)

/-- RASTER_RESTART (R251). -/
def execRasterRestart (g : Fin 2) (s : State) : Host.Outcome State Fault Refusal :=
  act s (doRasterRestart g.val)

/-- FRAME_INSTANT (R245). -/
def execFrameInstant (g : Fin 2) (actual : Nat) (s : State) : Host.Outcome State Fault Refusal :=
  act s (doFrameInstant g.val actual)

/-- WLO_LINE_SCAN (R259). -/
def execWloLineScan (g : Fin 2) (missing : List (Nat × Nat)) (residue : Bool) (s : State) : Host.Outcome State Fault Refusal :=
  act s (doWloLineScan g.val missing residue)

/-- FREF_EDGE (R246). -/
def execFrefEdge (stamp : Nat) (s : State) : Host.Outcome State Fault Refusal :=
  act s (doFrefEdge stamp)

/-- FREF_LOST_TIMEOUT (R246). -/
def execFrefLostTimeout (g : Fin 2) (s : State) : Host.Outcome State Fault Refusal :=
  act s (doFrefLostTimeout g.val)

/-- HOLD_ACK_TIMEOUT (R264). -/
def execHoldAckTimeout (g : Fin 2) (s : State) : Host.Outcome State Fault Refusal :=
  act s (doHoldAckTimeout g.val)

/-- DAYMARK_DEADLINE (R267). -/
def execDaymarkDeadline (g : Fin 2) (s : State) : Host.Outcome State Fault Refusal :=
  act s (doDaymarkDeadline g.val)

end Sys2Proof.Machine
end

