-- ==== Sys2Proof/Machine/Dispatch.lean ====
section
/-!
DEFINITION. Which meaning each command has: one arm per constructor of `Instr`.
-/
namespace Sys2Proof.Machine

def exec (i : Instr) (s : State) : Host.Outcome State Fault Refusal :=
  match i with
  | .absentAccess m addr isWrite => Sys2Proof.Machine.execAbsentAccess m addr isWrite s
  | .registerWrite m addr size value => Sys2Proof.Machine.execRegisterWrite m addr size value s
  | .hostMemoryWrite bar4 offset bytes => Sys2Proof.Machine.execHostMemoryWrite bar4 offset bytes s
  | .hostMemoryRead bar4 offset len => Sys2Proof.Machine.execHostMemoryRead bar4 offset len s
  | .resume q => Sys2Proof.Machine.execResume q s
  | .abort q => Sys2Proof.Machine.execAbort q s
  | .nop q => Sys2Proof.Machine.execNop q s
  | .nopRelease q => Sys2Proof.Machine.execNopRelease q s
  | .completionQueueRoom q => Sys2Proof.Machine.execCompletionQueueRoom q s
  | .invalidCode window stage => Sys2Proof.Machine.execInvalidCode window stage s
  | .stallWatchdogExpiry window stage => Sys2Proof.Machine.execStallWatchdogExpiry window stage s
  | .paceWindowEnd window meter items busy => Sys2Proof.Machine.execPaceWindowEnd window meter items busy s
  | .paceClearMin m window meter value => Sys2Proof.Machine.execPaceClearMin m window meter value s
  | .governorEvaluation => Sys2Proof.Machine.execGovernorEvaluation s
  | .governorSettleEnd => Sys2Proof.Machine.execGovernorSettleEnd s
  | .voutCommandTransferDone ack => Sys2Proof.Machine.execVoutCommandTransferDone ack s
  | .voutModeReadDone ack mode => Sys2Proof.Machine.execVoutModeReadDone ack mode s
  | .pmbusErrorClear m value => Sys2Proof.Machine.execPmbusErrorClear m value s
  | .govLimitsWrite m value => Sys2Proof.Machine.execGovLimitsWrite m value s
  | .eccThreshWrite m window value => Sys2Proof.Machine.execEccThreshWrite m window value s
  | .eccCountClear m window n value => Sys2Proof.Machine.execEccCountClear m window n value s
  | .lockstepMismatch c => Sys2Proof.Machine.execLockstepMismatch c s
  | .illegalInstruction c => Sys2Proof.Machine.execIllegalInstruction c s
  | .instructionFetchUncorrectable c => Sys2Proof.Machine.execInstructionFetchUncorrectable c s
  | .add c rd rs rt => Sys2Proof.Machine.execAdd c rd rs rt s
  | .sub c rd rs rt => Sys2Proof.Machine.execSub c rd rs rt s
  | .and c rd rs rt => Sys2Proof.Machine.execAnd c rd rs rt s
  | .or c rd rs rt => Sys2Proof.Machine.execOr c rd rs rt s
  | .xor c rd rs rt => Sys2Proof.Machine.execXor c rd rs rt s
  | .nor c rd rs rt => Sys2Proof.Machine.execNor c rd rs rt s
  | .sll c rd rs rt => Sys2Proof.Machine.execSll c rd rs rt s
  | .srl c rd rs rt => Sys2Proof.Machine.execSrl c rd rs rt s
  | .sra c rd rs rt => Sys2Proof.Machine.execSra c rd rs rt s
  | .slt c rd rs rt => Sys2Proof.Machine.execSlt c rd rs rt s
  | .sltu c rd rs rt => Sys2Proof.Machine.execSltu c rd rs rt s
  | .mul c rd rs rt => Sys2Proof.Machine.execMul c rd rs rt s
  | .mulhu c rd rs rt => Sys2Proof.Machine.execMulhu c rd rs rt s
  | .divu c rd rs rt => Sys2Proof.Machine.execDivu c rd rs rt s
  | .remu c rd rs rt => Sys2Proof.Machine.execRemu c rd rs rt s
  | .addi c rd rs imm => Sys2Proof.Machine.execAddi c rd rs imm s
  | .andi c rd rs imm => Sys2Proof.Machine.execAndi c rd rs imm s
  | .ori c rd rs imm => Sys2Proof.Machine.execOri c rd rs imm s
  | .xori c rd rs imm => Sys2Proof.Machine.execXori c rd rs imm s
  | .slti c rd rs imm => Sys2Proof.Machine.execSlti c rd rs imm s
  | .sltiu c rd rs imm => Sys2Proof.Machine.execSltiu c rd rs imm s
  | .shi c rd rs dir amount => Sys2Proof.Machine.execShi c rd rs dir amount s
  | .lui c rd imm => Sys2Proof.Machine.execLui c rd imm s
  | .lw c rd rs imm => Sys2Proof.Machine.execLw c rd rs imm s
  | .sw c rd rs imm => Sys2Proof.Machine.execSw c rd rs imm s
  | .lq c rd rs imm => Sys2Proof.Machine.execLq c rd rs imm s
  | .sq c rd rs imm => Sys2Proof.Machine.execSq c rd rs imm s
  | .wdep c rd rs pos lenM1 => Sys2Proof.Machine.execWdep c rd rs pos lenM1 s
  | .wext c rd rs pos lenM1 => Sys2Proof.Machine.execWext c rd rs pos lenM1 s
  | .wmov c rd rs clear => Sys2Proof.Machine.execWmov c rd rs clear s
  | .beq c rd rs imm => Sys2Proof.Machine.execBeq c rd rs imm s
  | .bne c rd rs imm => Sys2Proof.Machine.execBne c rd rs imm s
  | .blt c rd rs imm => Sys2Proof.Machine.execBlt c rd rs imm s
  | .bge c rd rs imm => Sys2Proof.Machine.execBge c rd rs imm s
  | .bltu c rd rs imm => Sys2Proof.Machine.execBltu c rd rs imm s
  | .bgeu c rd rs imm => Sys2Proof.Machine.execBgeu c rd rs imm s
  | .j c offset => Sys2Proof.Machine.execJ c offset s
  | .jal c offset => Sys2Proof.Machine.execJal c offset s
  | .jalr c rd rs => Sys2Proof.Machine.execJalr c rd rs s
  | .post c rd q flt => Sys2Proof.Machine.execPost c rd q flt s
  | .postm c rs q flt => Sys2Proof.Machine.execPostm c rs q flt s
  | .postQueueRoom c => Sys2Proof.Machine.execPostQueueRoom c s
  | .take c rd rs q => Sys2Proof.Machine.execTake c rd rs q s
  | .wait c rd rs => Sys2Proof.Machine.execWait c rd rs s
  | .waitEvent c => Sys2Proof.Machine.execWaitEvent c s
  | .waitTimeout c => Sys2Proof.Machine.execWaitTimeout c s
  | .arm c rd rs target => Sys2Proof.Machine.execArm c rd rs target s
  | .disarm c rd rs target => Sys2Proof.Machine.execDisarm c rd rs target s
  | .time c rd => Sys2Proof.Machine.execTime c rd s
  | .commit c rd rt group => Sys2Proof.Machine.execCommit c rd rt group s
  | .swarmCommit c rd rs rt group => Sys2Proof.Machine.execSwarmCommit c rd rs rt group s
  | .snap c rd => Sys2Proof.Machine.execSnap c rd s
  | .swarmSnap c rd rs => Sys2Proof.Machine.execSwarmSnap c rd rs s
  | .fence c rd rs kinds => Sys2Proof.Machine.execFence c rd rs kinds s
  | .fenceRelease c => Sys2Proof.Machine.execFenceRelease c s
  | .bar c rd rs barrier mask => Sys2Proof.Machine.execBar c rd rs barrier mask s
  | .barTimeout c => Sys2Proof.Machine.execBarTimeout c s
  | .mboxSend c rd rs dest => Sys2Proof.Machine.execMboxSend c rd rs dest s
  | .mboxReceive c rd rs sel => Sys2Proof.Machine.execMboxReceive c rd rs sel s
  | .csrr c rd csr => Sys2Proof.Machine.execCsrr c rd csr s
  | .csrwWrite c rs csr => Sys2Proof.Machine.execCsrwWrite c rs csr s
  | .csrwSet c rs csr => Sys2Proof.Machine.execCsrwSet c rs csr s
  | .csrwClear c rs csr => Sys2Proof.Machine.execCsrwClear c rs csr s
  | .stop c imm => Sys2Proof.Machine.execStop c imm s
  | .cellAlarmFire c => Sys2Proof.Machine.execCellAlarmFire c s
  | .cellWatchdogExpiry c => Sys2Proof.Machine.execCellWatchdogExpiry c s
  | .cellStopRequest m c value => Sys2Proof.Machine.execCellStopRequest m c value s
  | .cellStart m c value => Sys2Proof.Machine.execCellStart m c value s
  | .cellUnload m c value => Sys2Proof.Machine.execCellUnload m c value s
  | .h2cSend m c value => Sys2Proof.Machine.execH2cSend m c value s
  | .c2hPop m value => Sys2Proof.Machine.execC2hPop m value s
  | .imageLoadStart m value => Sys2Proof.Machine.execImageLoadStart m value s
  | .imageLoadDrained => Sys2Proof.Machine.execImageLoadDrained s
  | .imageLoadBusyTags => Sys2Proof.Machine.execImageLoadBusyTags s
  | .imageLoadCopyDone => Sys2Proof.Machine.execImageLoadCopyDone s
  | .imageLoadVerified => Sys2Proof.Machine.execImageLoadVerified s
  | .portSetup n => Sys2Proof.Machine.execPortSetup n s
  | .gangMap n => Sys2Proof.Machine.execGangMap n s
  | .frame n => Sys2Proof.Machine.execFrame n s
  | .xtrigSetup n => Sys2Proof.Machine.execXtrigSetup n s
  | .mclkSetup n => Sys2Proof.Machine.execMclkSetup n s
  | .portStop n => Sys2Proof.Machine.execPortStop n s
  | .slvsLine n line => Sys2Proof.Machine.execSlvsLine n line s
  | .csi2ShortPacket n pkt => Sys2Proof.Machine.execCsi2ShortPacket n pkt s
  | .csi2LongPacket n pkt => Sys2Proof.Machine.execCsi2LongPacket n pkt s
  | .laneLockTimeout n lane => Sys2Proof.Machine.execLaneLockTimeout n lane s
  | .sofTimeout n => Sys2Proof.Machine.execSofTimeout n s
  | .lineTimeout n => Sys2Proof.Machine.execLineTimeout n s
  | .beaconTriggerAct n => Sys2Proof.Machine.execBeaconTriggerAct n s
  | .xtrigPulseEnd n => Sys2Proof.Machine.execXtrigPulseEnd n s
  | .rfeFrame x => Sys2Proof.Machine.execRfeFrame x s
  | .rfeTableLoad x => Sys2Proof.Machine.execRfeTableLoad x s
  | .rfeLineSet x residue => Sys2Proof.Machine.execRfeLineSet x residue s
  | .rfeMemoryLineFetch x slot => Sys2Proof.Machine.execRfeMemoryLineFetch x slot s
  | .rfeFrameStartMark x slot => Sys2Proof.Machine.execRfeFrameStartMark x slot s
  | .rfeFrameEndMark x slot => Sys2Proof.Machine.execRfeFrameEndMark x slot s
  | .rfeTblData3Write m x value => Sys2Proof.Machine.execRfeTblData3Write m x value s
  | .clrFrame x => Sys2Proof.Machine.execClrFrame x s
  | .clrTableLoad x => Sys2Proof.Machine.execClrTableLoad x s
  | .clrLine x residue => Sys2Proof.Machine.execClrLine x residue s
  | .clrFrameStartMark x slot => Sys2Proof.Machine.execClrFrameStartMark x slot s
  | .clrFrameEndMark x slot => Sys2Proof.Machine.execClrFrameEndMark x slot s
  | .clrRingRoom x slot => Sys2Proof.Machine.execClrRingRoom x slot s
  | .clrRingWaitThreshold x slot => Sys2Proof.Machine.execClrRingWaitThreshold x slot s
  | .clrTblData3Write m x value => Sys2Proof.Machine.execClrTblData3Write m x value s
  | .cmpWriteback => Sys2Proof.Machine.execCmpWriteback s
  | .cmpCompose => Sys2Proof.Machine.execCmpCompose s
  | .cmpReport => Sys2Proof.Machine.execCmpReport s
  | .cmpTableLoad => Sys2Proof.Machine.execCmpTableLoad s
  | .cmpTblData3Write m value => Sys2Proof.Machine.execCmpTblData3Write m value s
  | .cmpLineCompose o residue wbFull => Sys2Proof.Machine.execCmpLineCompose o residue wbFull s
  | .cmpLateThreshold o line => Sys2Proof.Machine.execCmpLateThreshold o line s
  | .mapLoad g => Sys2Proof.Machine.execMapLoad g s
  | .calLoad g => Sys2Proof.Machine.execCalLoad g s
  | .start g => Sys2Proof.Machine.execStart g s
  | .hold g => Sys2Proof.Machine.execHold g s
  | .wloReport g => Sys2Proof.Machine.execWloReport g s
  | .wloLatchPoint g => Sys2Proof.Machine.execWloLatchPoint g s
  | .generatorRetimed g => Sys2Proof.Machine.execGeneratorRetimed g s
  | .rasterRestart g => Sys2Proof.Machine.execRasterRestart g s
  | .frameInstant g actual => Sys2Proof.Machine.execFrameInstant g actual s
  | .wloLineScan g missing residue => Sys2Proof.Machine.execWloLineScan g missing residue s
  | .frefEdge stamp => Sys2Proof.Machine.execFrefEdge stamp s
  | .frefLostTimeout g => Sys2Proof.Machine.execFrefLostTimeout g s
  | .holdAckTimeout g => Sys2Proof.Machine.execHoldAckTimeout g s
  | .daymarkDeadline g => Sys2Proof.Machine.execDaymarkDeadline g s
  | .laneSetup => Sys2Proof.Machine.execLaneSetup s
  | .enumerate => Sys2Proof.Machine.execEnumerate s
  | .tileWrite => Sys2Proof.Machine.execTileWrite s
  | .tileRead => Sys2Proof.Machine.execTileRead s
  | .eyeScan => Sys2Proof.Machine.execEyeScan s
  | .eyeScanDone lane counts => Sys2Proof.Machine.execEyeScanDone lane counts s
  | .managementGroupSend lane => Sys2Proof.Machine.execManagementGroupSend lane s
  | .tileStatusReport lane f full => Sys2Proof.Machine.execTileStatusReport lane f full s
  | .tileDaymarkReport lane f full => Sys2Proof.Machine.execTileDaymarkReport lane f full s
  | .tileHeldReport lane f full => Sys2Proof.Machine.execTileHeldReport lane f full s
  | .tileEnumReply lane f full => Sys2Proof.Machine.execTileEnumReply lane f full s
  | .tileReadReply lane f full => Sys2Proof.Machine.execTileReadReply lane f full s
  | .tileReadTimeout lane position => Sys2Proof.Machine.execTileReadTimeout lane position s
  | .enumerateTimeout lane => Sys2Proof.Machine.execEnumerateTimeout lane s
  | .rxLockGained rx => Sys2Proof.Machine.execRxLockGained rx s
  | .rxLockLost rx => Sys2Proof.Machine.execRxLockLost rx s
  | .ctleAdapted lane code => Sys2Proof.Machine.execCtleAdapted lane code s
  | .quadPllUnlock q => Sys2Proof.Machine.execQuadPllUnlock q s
  | .quadPllRelock q => Sys2Proof.Machine.execQuadPllRelock q s
  | .legacyRetrain lane => Sys2Proof.Machine.execLegacyRetrain lane s
  | .ctxSetup x => Sys2Proof.Machine.execCtxSetup x s
  | .encFrame x => Sys2Proof.Machine.execEncFrame x s
  | .encSourceFrameOpen x => Sys2Proof.Machine.execEncSourceFrameOpen x s
  | .encRow x row => Sys2Proof.Machine.execEncRow x row s
  | .nalRingRoom x => Sys2Proof.Machine.execNalRingRoom x s
  | .vcxWaitThreshold x => Sys2Proof.Machine.execVcxWaitThreshold x s
  | .decAu x => Sys2Proof.Machine.execDecAu x s
  | .decRelease x => Sys2Proof.Machine.execDecRelease x s
  | .decodeBufferFree x => Sys2Proof.Machine.execDecodeBufferFree x s
  | .ctxClear x => Sys2Proof.Machine.execCtxClear x s
  | .mirrorSlice x => Sys2Proof.Machine.execMirrorSlice x s
  | .lpkPack n => Sys2Proof.Machine.execLpkPack n s
  | .lpkUnpack n => Sys2Proof.Machine.execLpkUnpack n s
  | .lpkBlockCoded n mismatch => Sys2Proof.Machine.execLpkBlockCoded n mismatch s
  | .storeSetup src => Sys2Proof.Machine.execStoreSetup src s
  | .ssdBringupStepDone r result => Sys2Proof.Machine.execSsdBringupStepDone r result s
  | .clipOpen src => Sys2Proof.Machine.execClipOpen src s
  | .clipWrite src => Sys2Proof.Machine.execClipWrite src s
  | .writeBufferRoom => Sys2Proof.Machine.execWriteBufferRoom s
  | .clipRead src => Sys2Proof.Machine.execClipRead src s
  | .indexRead src => Sys2Proof.Machine.execIndexRead src s
  | .flush src => Sys2Proof.Machine.execFlush src s
  | .clipClose src => Sys2Proof.Machine.execClipClose src s
  | .clipDrop src => Sys2Proof.Machine.execClipDrop src s
  | .clipQuery src => Sys2Proof.Machine.execClipQuery src s
  | .age src => Sys2Proof.Machine.execAge src s
  | .sqTailDoorbell m n value => Sys2Proof.Machine.execSqTailDoorbell m n value s
  | .cqHeadDoorbell m n value => Sys2Proof.Machine.execCqHeadDoorbell m n value s
  | .hqEnable m n value => Sys2Proof.Machine.execHqEnable m n value s
  | .clsReset m value => Sys2Proof.Machine.execClsReset m value s
  | .clsResetFlushDone => Sys2Proof.Machine.execClsResetFlushDone s
  | .clsActivate m value => Sys2Proof.Machine.execClsActivate m value s
  | .activationReady => Sys2Proof.Machine.execActivationReady s
  | .clsResume m value => Sys2Proof.Machine.execClsResume m value s
  | .pageFlushDue clip page => Sys2Proof.Machine.execPageFlushDue clip page s
  | .nvmeCompletion r cid ok data => Sys2Proof.Machine.execNvmeCompletion r cid ok data s
  | .ssdTimeout r cid => Sys2Proof.Machine.execSsdTimeout r cid s
  | .ssdFailure r => Sys2Proof.Machine.execSsdFailure r s
  | .healthLogPoll r temperature warning => Sys2Proof.Machine.execHealthLogPoll r temperature warning s
  | .clsAgeThreshold src tag => Sys2Proof.Machine.execClsAgeThreshold src tag s
  | .memFill => Sys2Proof.Machine.execMemFill s
  | .memScrub errs => Sys2Proof.Machine.execMemScrub errs s
  | .memRetrain passed repaired => Sys2Proof.Machine.execMemRetrain passed repaired s
  | .memTrainingDone failed0 failed1 repaired0 repaired1 => Sys2Proof.Machine.execMemTrainingDone failed0 failed1 repaired0 repaired1 s
  | .memRequest req => Sys2Proof.Machine.execMemRequest req s
  | .ageCapExpiry stack pc => Sys2Proof.Machine.execAgeCapExpiry stack pc s
  | .refreshDue stack pc slot => Sys2Proof.Machine.execRefreshDue stack pc slot s
  | .stackTemperatureRead stack t => Sys2Proof.Machine.execStackTemperatureRead stack t s
  | .parityAlert stack pc replay => Sys2Proof.Machine.execParityAlert stack pc replay s
  | .periodicRetrain stack pc ok retrained repaired => Sys2Proof.Machine.execPeriodicRetrain stack pc ok retrained repaired s
  | .patrolScrub stack err retryErr => Sys2Proof.Machine.execPatrolScrub stack err retryErr s
  | .combScrub err => Sys2Proof.Machine.execCombScrub err s
  | .selfRefreshExitDone exit => Sys2Proof.Machine.execSelfRefreshExitDone exit s
  | .combInitDone => Sys2Proof.Machine.execCombInitDone s
  | .memMapWrite m value => Sys2Proof.Machine.execMemMapWrite m value s
  | .beaconWrap => Sys2Proof.Machine.execBeaconWrap s
  | .bcnNowNsRead m => Sys2Proof.Machine.execBcnNowNsRead m s
  | .bcnIncWrite m value => Sys2Proof.Machine.execBcnIncWrite m value s
  | .bcnStep m value => Sys2Proof.Machine.execBcnStep m value s
  | .ptpBaseWrite m value => Sys2Proof.Machine.execPtpBaseWrite m value s
  | .hostTriggerArm m n value => Sys2Proof.Machine.execHostTriggerArm m n value s
  | .hostTriggerDisarm m n value => Sys2Proof.Machine.execHostTriggerDisarm m n value s
  | .triggerPulseEnd n => Sys2Proof.Machine.execTriggerPulseEnd n s
  | .ethSetup => Sys2Proof.Machine.execEthSetup s
  | .rxFilter => Sys2Proof.Machine.execRxFilter s
  | .rxRing => Sys2Proof.Machine.execRxRing s
  | .pktSend => Sys2Proof.Machine.execPktSend s
  | .pktDeparture p => Sys2Proof.Machine.execPktDeparture p s
  | .rtpSetup => Sys2Proof.Machine.execRtpSetup s
  | .rtpSend => Sys2Proof.Machine.execRtpSend s
  | .ethFrameReceived p bytes fcsOk stamp => Sys2Proof.Machine.execEthFrameReceived p bytes fcsOk stamp s
  | .ethLinkChange p up => Sys2Proof.Machine.execEthLinkChange p up s
  | .casSetup => Sys2Proof.Machine.execCasSetup s
  | .casExport => Sys2Proof.Machine.execCasExport s
  | .casImport => Sys2Proof.Machine.execCasImport s
  | .casStop => Sys2Proof.Machine.execCasStop s
  | .casMsg => Sys2Proof.Machine.execCasMsg s
  | .casExportLine stream => Sys2Proof.Machine.execCasExportLine stream s
  | .waggleReceived link pkt => Sys2Proof.Machine.execWaggleReceived link pkt s
  | .waggleSend => Sys2Proof.Machine.execWaggleSend s
  | .waggleMiss => Sys2Proof.Machine.execWaggleMiss s
  | .commitReqReceived link pkt => Sys2Proof.Machine.execCommitReqReceived link pkt s
  | .prepareReceived link pkt => Sys2Proof.Machine.execPrepareReceived link pkt s
  | .prepareTimeout => Sys2Proof.Machine.execPrepareTimeout s
  | .decideReceived link pkt => Sys2Proof.Machine.execDecideReceived link pkt s
  | .snapPacketReceived link pkt => Sys2Proof.Machine.execSnapPacketReceived link pkt s
  | .swarmSnapshotLatch => Sys2Proof.Machine.execSwarmSnapshotLatch s
  | .adeoftMsgReceived link pkt => Sys2Proof.Machine.execAdeoftMsgReceived link pkt s
  | .delayReqReceived link pkt => Sys2Proof.Machine.execDelayReqReceived link pkt s
  | .delayRespReceived link pkt => Sys2Proof.Machine.execDelayRespReceived link pkt s
  | .linkDelayMeasure => Sys2Proof.Machine.execLinkDelayMeasure s
  | .adeoftEnumReceived link pkt => Sys2Proof.Machine.execAdeoftEnumReceived link pkt s
  | .frameOpenReceived link pkt => Sys2Proof.Machine.execFrameOpenReceived link pkt s
  | .linePacketReceived link pkt => Sys2Proof.Machine.execLinePacketReceived link pkt s
  | .frameCloseReceived link pkt => Sys2Proof.Machine.execFrameCloseReceived link pkt s
  | .adeoftLinkDown link => Sys2Proof.Machine.execAdeoftLinkDown link s
  | .adeoftLinkUp link => Sys2Proof.Machine.execAdeoftLinkUp link s
  | .adeoftTxRestart link => Sys2Proof.Machine.execAdeoftTxRestart link s
  | .adeoftLinkReuse link => Sys2Proof.Machine.execAdeoftLinkReuse link s
  | .twXfer => Sys2Proof.Machine.execTwXfer s
  | .twXferComplete port res => Sys2Proof.Machine.execTwXferComplete port res s
  | .twArbitrationLost port byteIx bitIx => Sys2Proof.Machine.execTwArbitrationLost port byteIx bitIx s
  | .twSrError port => Sys2Proof.Machine.execTwSrError port s
  | .twClockLowTimeout port => Sys2Proof.Machine.execTwClockLowTimeout port s
  | .twDataLowTimeout port => Sys2Proof.Machine.execTwDataLowTimeout port s
  | .twBusClear sclStuck freedAt => Sys2Proof.Machine.execTwBusClear sclStuck freedAt s
  | .twControllerReset m port value => Sys2Proof.Machine.execTwControllerReset m port value s
  | .twModeWrite m port value => Sys2Proof.Machine.execTwModeWrite m port value s
  | .tw4Write bytes => Sys2Proof.Machine.execTw4Write bytes s
  | .tw4Read count => Sys2Proof.Machine.execTw4Read count s
  | .tw4OutValidWrite m value => Sys2Proof.Machine.execTw4OutValidWrite m value s
  | .tw4WakeMatch => Sys2Proof.Machine.execTw4WakeMatch s
  | .tw4StretchTimeout => Sys2Proof.Machine.execTw4StretchTimeout s
  | .flashRead => Sys2Proof.Machine.execFlashRead s
  | .flashProgram => Sys2Proof.Machine.execFlashProgram s
  | .flashErase => Sys2Proof.Machine.execFlashErase s
  | .flashPageDone => Sys2Proof.Machine.execFlashPageDone s
  | .flashPollTimeout => Sys2Proof.Machine.execFlashPollTimeout s
  | .gpioEdge pin level => Sys2Proof.Machine.execGpioEdge pin level s
  | .pcieLinkChange up width speed => Sys2Proof.Machine.execPcieLinkChange up width speed s
  | .hotReset => Sys2Proof.Machine.execHotReset s
  | .flr => Sys2Proof.Machine.execFlr s
  | .msixUnmask v => Sys2Proof.Machine.execMsixUnmask v s
  | .bar4BaseWrite m value => Sys2Proof.Machine.execBar4BaseWrite m value s
  | .bootDirectoryReadDone primaryPoisoned backupPoisoned => Sys2Proof.Machine.execBootDirectoryReadDone primaryPoisoned backupPoisoned s
  | .keeperFirmwareVerified selfTestsPass => Sys2Proof.Machine.execKeeperFirmwareVerified selfTestsPass s
  | .bootEntryCopyDone poisoned => Sys2Proof.Machine.execBootEntryCopyDone poisoned s
  | .pdSet => Sys2Proof.Machine.execPdSet s
  | .domainPowerUpDone d => Sys2Proof.Machine.execDomainPowerUpDone d s
  | .state => Sys2Proof.Machine.execState s
  | .stateHoldReached => Sys2Proof.Machine.execStateHoldReached s
  | .recRead => Sys2Proof.Machine.execRecRead s
  | .snapCopy torn => Sys2Proof.Machine.execSnapCopy torn s
  | .report => Sys2Proof.Machine.execReport s
  | .intakeWindowClose idx => Sys2Proof.Machine.execIntakeWindowClose idx s
  | .recordWrite => Sys2Proof.Machine.execRecordWrite s
  | .selfTestCycle failures => Sys2Proof.Machine.execSelfTestCycle failures s
  | .clockMonitorMeasure domain outside => Sys2Proof.Machine.execClockMonitorMeasure domain outside s
  | .foghornMismatch => Sys2Proof.Machine.execFoghornMismatch s
  | .clearFault m value => Sys2Proof.Machine.execClearFault m value s
  | .pinClear m value => Sys2Proof.Machine.execPinClear m value s
  | .hostSnapTrigger m value => Sys2Proof.Machine.execHostSnapTrigger m value s
  | .softReset m value => Sys2Proof.Machine.execSoftReset m value s
  | .wdogWrite m value => Sys2Proof.Machine.execWdogWrite m value s
  | .wdogKick m value => Sys2Proof.Machine.execWdogKick m value s
  | .wdogExpiry => Sys2Proof.Machine.execWdogExpiry s
  | .resetHoldWindowEnd => Sys2Proof.Machine.execResetHoldWindowEnd s
  | .dozeEntry m value => Sys2Proof.Machine.execDozeEntry m value s
  | .dozeStepDone => Sys2Proof.Machine.execDozeStepDone s
  | .dozeWake src => Sys2Proof.Machine.execDozeWake src s
  | .dozeExitStepDone => Sys2Proof.Machine.execDozeExitStepDone s
  | .powerOnReset => Sys2Proof.Machine.execPowerOnReset s
  | .resetNAssert => Sys2Proof.Machine.execResetNAssert s
  | .resetRelease straps => Sys2Proof.Machine.execResetRelease straps s
  | .supplyWarning mv => Sys2Proof.Machine.execSupplyWarning mv s
  | .supplyRecovery minMv duration => Sys2Proof.Machine.execSupplyRecovery minMv duration s
  | .supplyDwellExpiry => Sys2Proof.Machine.execSupplyDwellExpiry s
  | .otherRailWarning rail mv => Sys2Proof.Machine.execOtherRailWarning rail mv s
  | .otherRailRecovery rail minMv duration => Sys2Proof.Machine.execOtherRailRecovery rail minMv duration s
  | .sensorRead readings => Sys2Proof.Machine.execSensorRead readings s
  | .oscillatorTrim => Sys2Proof.Machine.execOscillatorTrim s
  | .kprCmd => Sys2Proof.Machine.execKprCmd s
  | .kprMbGo m value => Sys2Proof.Machine.execKprMbGo m value s
  | .getInfo => Sys2Proof.Machine.execGetInfo s
  | .getIdentity => Sys2Proof.Machine.execGetIdentity s
  | .getRandom => Sys2Proof.Machine.execGetRandom s
  | .sessionOpen => Sys2Proof.Machine.execSessionOpen s
  | .sessionProve => Sys2Proof.Machine.execSessionProve s
  | .sessionClose => Sys2Proof.Machine.execSessionClose s
  | .sessionVerify => Sys2Proof.Machine.execSessionVerify s
  | .keyInstall => Sys2Proof.Machine.execKeyInstall s
  | .laneKey => Sys2Proof.Machine.execLaneKey s
  | .keyxSent lane => Sys2Proof.Machine.execKeyxSent lane s
  | .casGuard => Sys2Proof.Machine.execCasGuard s
  | .keyProgram => Sys2Proof.Machine.execKeyProgram s
  | .revoke => Sys2Proof.Machine.execRevoke s
  | .rollbackAdvance => Sys2Proof.Machine.execRollbackAdvance s
  | .lifecycle => Sys2Proof.Machine.execLifecycle s
  | .fuseBurnDone verified => Sys2Proof.Machine.execFuseBurnDone verified s
  | .protect => Sys2Proof.Machine.execProtect s
  | .tamperConfig => Sys2Proof.Machine.execTamperConfig s
  | .tamperClear => Sys2Proof.Machine.execTamperClear s
  | .zeroise => Sys2Proof.Machine.execZeroise s
  | .debugChallenge => Sys2Proof.Machine.execDebugChallenge s
  | .debugUnlock => Sys2Proof.Machine.execDebugUnlock s
  | .debugNonceExpiry => Sys2Proof.Machine.execDebugNonceExpiry s
  | .selfTest passed => Sys2Proof.Machine.execSelfTest passed s
  | .nvRead => Sys2Proof.Machine.execNvRead s
  | .nvWrite => Sys2Proof.Machine.execNvWrite s
  | .fwLoad => Sys2Proof.Machine.execFwLoad s
  | .sessionProveTimeout id => Sys2Proof.Machine.execSessionProveTimeout id s
  | .sessionIdleTimeout id => Sys2Proof.Machine.execSessionIdleTimeout id s
  | .sessionLifetimeExpiry id => Sys2Proof.Machine.execSessionLifetimeExpiry id s
  | .tamper => Sys2Proof.Machine.execTamper s
  | .trngHealthFail => Sys2Proof.Machine.execTrngHealthFail s
  | .dfeTapAtRail lane tap value => Sys2Proof.Machine.execDfeTapAtRail lane tap value s
  | .tileUnknownReport lane block => Sys2Proof.Machine.execTileUnknownReport lane block s
  | .adeoftBadPacket link reason => Sys2Proof.Machine.execAdeoftBadPacket link reason s
  | .casWaggleStampRead m k => Sys2Proof.Machine.execCasWaggleStampRead m k s
  | .keeperLockstepMismatch => Sys2Proof.Machine.execKeeperLockstepMismatch s

end Sys2Proof.Machine
end

