-- ==== Sys2Proof/Machine/Step.lean ====
section
/-!
DEFINITION. One step: the command at the front of the queue is carried out; an empty queue lets the Beacon tick.
-/
namespace Sys2Proof.Machine

/-- One step. With no command waiting the Beacon counter ticks once, and what is due at the tick happens (DESIGN CHOICE, log
entry 2); a device that stands in reset only waits. -/
def step (s : State) : Host.Outcome State Fault Refusal :=
  match s.pending with
  | [] => act s State.tick
  | c :: rest => exec c { s with pending := rest }

/-- `s` with the command that the table word spells at the front of its queue; the table gives no row bits (DESIGN CHOICE, log entry 16). -/
def State.withFetchWord (s : State) (nbits w : Nat) : State :=
  match decodeTableWord nbits w with
  | some c => { s with pending := c :: s.pending }
  | none => s

end Sys2Proof.Machine
end

