-- ==== Sys2Proof/Safety.lean ====
section
/-!
DEFINITION. The terms in which claims speak of good states and good answers: a step that answers a next state, a state between
two commands, a calm state, the canonical forms, a cell command that its memory holds.
-/
namespace Sys2Proof.Machine

/-- The answer is a next state: no fault and no refusal. -/
def Answers (o : Host.Outcome State Fault Refusal) : Prop := ∃ t, o = .next t

/-- The command answers a next state of which `P` holds. -/
def Completes (i : Instr) (s : State) (P : State → Prop) : Prop := ∃ t, exec i s = .next t ∧ P t

/-- The command answers the state `t`, and what `t` asks for carried out (`State.ends`). -/
def Gives (i : Instr) (s t : State) : Prop := exec i s = .next (s.ends t)

/-- The state stands between two commands: nothing that a command asked for is still due (DESIGN CHOICE, log entry 13). -/
abbrev State.Settled (s : State) : Prop := s.due = Due.none

/-- The device runs between two commands: it does not stand in reset, and nothing is due. -/
abbrev State.Live (s : State) : Prop := s.inert = false ∧ s.Settled

/-- Cell `n` carries out an instruction: it runs, and its pc lies at a word of its instruction memory that can be read (R54, R56,
R58). -/
abbrev State.Runs (s : State) (n : Nat) : Prop :=
  s.Live ∧ s.cellRuns n = true ∧ (s.cell n).pc.toNat < imemSize ∧ s.badWord (s.fetchWord n) = false

/-- Cell `n` writes `v` to g[rd] and goes on to the next instruction; nothing else of the device changes. -/
def State.wrote (s : State) (n rd : Nat) (v : Word) : State := s.mapCell n (fun x => (x.putG rd v).retire)

/-- Queue `q` is ready for its command `op`: no completion waits for room, and the descriptor `d` at its head, which `rest`
follows, passes the common checks (R576) with a length the opcode allows. -/
abbrev State.Ready (s : State) (q op : Nat) (lens : List Nat) (d : Desc) (rest : List Desc) : Prop :=
  s.Live ∧ s.blocked q = false ∧ (s.queue q).waiting = d :: rest ∧ w0Opcode d.w0 = op ∧ d.flt = .ok ∧
    s.commonCheck q d = none ∧ w0Len d.w0 ∈ lens

/-- What the unit of queue `q` carries out for `d`. -/
def State.run (s : State) (q : Nat) (d : Desc) : Taken := d.taken (s.epoch (queueDomain q))

/-- `s` with the head `d` of queue `q` taken by the unit, `rest` still waiting. -/
def State.taken (s : State) (q : Nat) (d : Desc) (rest : List Desc) : State :=
  s.setQueue q { s.queue q with waiting := rest, taken := (s.queue q).taken ++ [s.run q d] }

/-- The descriptor `d` of queue `q` finishes with a status and a result (R38, R41); a head that no unit takes is finished too. -/
def State.done (s : State) (q : Nat) (d : Desc) (st : Nat) (res : BitVec 64) : State :=
  (s.complete q (w0Tag d.w0) st res).settleHead q

/-- Master `m` may write register `k`: its window is present, content_lock does not forbid it, and no hot reset or FLR discards it
(R4, R467, R535). -/
abbrev State.Open (s : State) (m : Master) (k : Nat) : Prop :=
  s.Live ∧ windowAbsent s.variant (k / 65536) = false ∧ (m == .host && s.contentLock && lockedWindow (k / 65536)) = false ∧
    (m == .host && s.hostOut) = false

/-- The store takes a command of opcode `op`, read as `t`, from its source, and stands at `s0` then: from the head of queue 18, or
from the entry at the head of a host pair's ring that passes its checks (R386, R387, R397). -/
def State.StoreTakes (s : State) (src : ClsSrc) (op : Nat) (lens : List Nat) (t : Taken) (s0 : State) : Prop :=
  s.clsFetches = true ∧
  match src with
  | .device => ∃ d rest, s.Ready 18 op lens d rest ∧ t = s.run 18 d ∧ s0 = s.taken 18 d rest
  | .hostPair n => s.Live ∧ ∃ a ws, s.hostEntry n.val = some (a, ws) ∧ w0Opcode (ws.headD 0) = op ∧ op ≠ 0 ∧
      (s.hostRead n.val a).hostCheck n.val a ws lens = none ∧ t = s.hostTaken n.val ws ∧
        s0 = (s.hostRead n.val a).hostPush n.val t

/-- The end of a command of the store: what stands at the head of its source and is for no command goes by. -/
def State.storeEnd (s : State) : ClsSrc → State
  | .device => s.settleHead 18
  | .hostPair n => State.hostSkip n.val 4096 s

/-- The instruction word at cell `n`'s pc. -/
def State.wordAtPc (s : State) (n : Nat) : Nat := s.num (imemBase n + (s.cell n).pc.toNat) 4

/-- Does the command carry out the instruction that its cell's memory holds at pc? The order in which a program's commands
come is the sender's (DESIGN CHOICE, log entry 11); a run in which each cell command satisfies this is a run of the loaded programs. -/
def State.holds (s : State) (c : Cell) (i : Instr) : Prop := hiveDecode c (s.wordAtPc c.val) = some i


/-- Keeper serves the request `k` of code `code`, and nothing of it waits for a lane or a fuse (R546). -/
abbrev State.Serves (s : State) (k : KprServe) (code : Nat) : Prop :=
  s.Live ∧ s.kpr.serving = some k ∧ k.code = code ∧ s.kpr.lane = none ∧ s.kpr.burning = none

end Sys2Proof.Machine
end

