-- ==== Sys2Proof/Certificates/Slice0/Obligations.lean ====
section
/-!
DEFINITION. The statements for the provers.
-/
open Sys2Proof Sys2Proof.Machine

/-! The machine as a whole. -/

/-- O: a step takes the command at the front of the queue and carries it out with the queue's rest; with no command waiting the
Beacon ticks (the model's choice, log entry 2). -/
def Obligations.StepRunsTheFrontCommand : Prop :=
  (∀ (s : State) (c : Instr) (rest : List Instr), s.pending = c :: rest → step s = exec c { s with pending := rest }) ∧
  (∀ (s : State), s.Live → s.pending = [] → step s = .next (s.ends s.tick))

/-- R2, O: every step of every state answers a next state; it consumes exactly the command at the front, leaves the variant as it
was, and leaves nothing due where nothing was. Every command of every state answers a next state. -/
def Obligations.EveryStepAnswersAndKeepsTheDevice : Prop :=
  (∀ (s : State), ∃ t, step s = .next t ∧ t.variant = s.variant ∧ t.pending = s.pending.tail ∧ (s.Settled → t.Settled)) ∧
  (∀ (i : Instr) (s : State), ∃ t, exec i s = .next t ∧ t.variant = s.variant ∧ t.pending = s.pending)

/-- R504, R510, R469, O: the state after reset holds the invariants of the steps, its queue is empty; the domains that are powered
after reset are powered and no other, every stack is in training, boot and Keeper are at their start, the power state is Run, the RESET
report is entered; no cell runs. -/
def Obligations.ResetHoldsWhatTheSpecStates : Prop :=
  State.reset.Live ∧ State.reset.pending = [] ∧ Memory.wf State.reset.mem = true ∧
  (∀ d : Fin 30, State.reset.isPowered d = decide (d.val ∈ [0, 1, 19, 20, 21, 22, 23, 24, 28])) ∧
  State.reset.stackState 0 = 1 ∧ State.reset.stackState 1 = 1 ∧ State.reset.memReady = false ∧ State.reset.bootState = 0 ∧
  State.reset.kprState = 0 ∧ State.reset.powerState = 0 ∧ State.reset.fgh.intake = [resetEntry] ∧
  (∀ n : Fin 8, (State.reset.cell n).live = false)

/-- R60 to R84, O: an instruction word and the command that carries it out determine each other: the word of a well-formed command
decodes to it; a word that decodes is the one word of what it decodes to, so that every reserved bit and every unlisted opcode is
refused. -/
def Obligations.CellInstructionsEncodeBothWays : Prop :=
  (∀ (i : Instr) (c : Cell) (w : Nat), i.wf = true → hiveEncode i = some (c, w) → w < 2 ^ 32 ∧ hiveDecode c w = some i) ∧
  (∀ (i : Instr) (c : Cell) (w : Nat), w < 2 ^ 32 → hiveDecode c w = some i → hiveEncode i = some (c, w))

/-- R60, R61, O: words written out from the encodings decode to their instructions; the all-zero word is illegal. -/
def Obligations.SampleWordsDecode : Prop :=
  hiveDecode 0 0x25800131 = some (.lui 0 12 0x0131) ∧ hiveDecode 0 0x118C2D00 = some (.ori 0 12 12 0x2D00) ∧
  hiveDecode 3 0x90ED0000 = some (.arm 3 7 13 0) ∧ hiveDecode 0 0x99004804 = some (.commit 0 8 9 4) ∧
  hiveDecode 5 0x00000000 = none

/-- R404: an address is placed as the rule's pseudocode states, on one burst, and every burst of the capacity holds exactly the 32
addresses of one unit of 32 bytes. -/
def Obligations.DramAddressesAndBurstsMatch : Prop :=
  ∀ (b g : Nat), (b = 5 ∨ b = 6) → 8 ≤ g → g ≤ 12 →
    let top := 3 * 2 ^ 28 * 2 ^ b
    (∀ a, a < top →
      let unit := a / 2 ^ g
      let hi := unit / 2 ^ b
      let o := hi * 2 ^ g + a % 2 ^ g
      placeOf b g a = ((unit % 2 ^ b) ^^^ (hi % 2 ^ b) ^^^ (hi / 2 ^ b % 2 ^ b), o) ∧
      addrOf b g (placeOf b g a).1 o = a ∧
      burstOf b g a = ⟨(placeOf b g a).1, o / 2 ^ 28, o / 2 ^ 14 % 2 ^ 14, o / 2 ^ 5 % 2 ^ 5,
        (o / 2 ^ 10 % 4) ^^^ (o / 2 ^ 14 % 4), (o / 2 ^ 12 % 4) ^^^ (o / 2 ^ 16 % 4)⟩) ∧
    (∀ a a', a < top → a' < top → (burstOf b g a = burstOf b g a' ↔ a / 32 = a' / 32)) ∧
    (∀ x : Burst, x.pc < 2 ^ b → x.sid < 3 → x.row < 2 ^ 14 → x.col < 32 → x.bg < 4 → x.ba < 4 →
      ∃ a, a < top ∧ burstOf b g a = x)

/-- R26, R27, R406, R421, R423, O: bytes stored to memory that takes them are read back, every other byte stands, and memory stays in
its canonical form; poisoned data marks every word it touches; bytes stored to memory that discards them all change no byte. -/
def Obligations.StoredBytesAreReadBack : Prop :=
  (∀ (s : State) (a : Nat) (bs : List Byte) (bad : Bool), (wordsOf a bs.length).any (fun w => s.discards (w * 16)) = false →
    (s.storeP a bs bad).bytes a bs.length = bs ∧
    (∀ x, x < a ∨ a + bs.length ≤ x → (s.storeP a bs bad).byte x = s.byte x) ∧
    (Memory.wf s.mem = true → Memory.wf (s.storeP a bs bad).mem = true) ∧
    (bad = true → ∀ w ∈ wordsOf a bs.length, sget false (s.storeP a bs bad).poison w = true)) ∧
  (∀ (s : State) (a : Nat) (bs : List Byte) (bad : Bool), (wordsOf a bs.length).all (fun w => s.discards (w * 16)) = true →
    ∀ x, (s.storeP a bs bad).byte x = s.byte x)

/-- R511, R557, O: a device that stands in reset is inert: no command but power-on, RESET_N, the release and a reading of the
sensors changes it. -/
def Obligations.InertDeviceIgnoresCommands : Prop :=
  ∀ (s : State) (i : Instr), s.inert = true → i ≠ .powerOnReset → i ≠ .resetNAssert → (∀ st, i ≠ .resetRelease st) →
    (∀ l, i ≠ .sensorRead l) → exec i s = .next s

/-- R535, O: under content_lock a host write to a locked register window or to a protected range is ignored, reported, counted, and
fires its event; nothing else happens. -/
def Obligations.ContentLockStopsTheHost : Prop :=
  (∀ (s : State) (k : Nat) (v : Word), s.Live → s.contentLock = true → s.hostOut = false → k % 4 = 0 →
    lockedWindow (k / 65536) = true → windowAbsent s.variant (k / 65536) = false →
    Gives (.registerWrite .host (regsBase + k) 4 (v.setWidth 64)) s (s.protectedWrite (regsBase + k))) ∧
  (∀ (s : State) (bar4 : Bool) (off : Nat) (bs : List Byte), s.Live → s.contentLock = true → s.hostOut = false → s.isPowered 28 = true →
    (bar4 = true → s.memReady = true) → off + bs.length ≤ (if bar4 then 2 ^ 32 else 0x400_0000) →
    s.protectedRange (s.barAddr bar4 off) bs.length = true →
    Gives (.hostMemoryWrite bar4 off bs) s (s.protectedWrite (s.barAddr bar4 off)))

/-! Registers, queues and meters (spec/01_fabric.md). -/

/-- R50, R465 (O): a whole write of any register does what a write of that register does, and a 64-bit write does it for two
registers, the lower address first. A whole write of a register with no act of its own, in a window of a sensor port, the
compositor, a codec or the cascade: the RW bits take the value, the W1C bits that it names clear, every other bit of it and
everything else stands; a narrower write changes nothing. The windows are those in which every listed register is of that kind. -/
def Obligations.RegisterWriteSetsRwAndClearsW1c : Prop :=
  (∀ (s : State) (m : Master) (k : Nat) (v : Word), s.Live → k % 4 = 0 → regsBase + k < regsTop →
    Gives (.registerWrite m (regsBase + k) 4 (v.setWidth 64)) s (s.writeReg m k v)) ∧
  (∀ (s : State) (m : Master) (k : Nat) (v w : Word), s.Live → k % 4 = 0 → regsBase + k < regsTop →
    Gives (.registerWrite m (regsBase + k) 8 (w ++ v)) s ((s.writeReg m k v).writeReg m (k + 4) w)) ∧
  (∀ (s : State) (m : Master) (k : Nat) (v : Word), s.Open m k →
    k / 65536 ∈ [0x10, 0x20, 0x21, 0x22, 0x23, 0x28, 0x2C, 0x2D, 0x40, 0x41, 0x42, 0x43] → k % 65536 < 0xFC00 → k % 4 = 0 →
    (∀ r, regRow k = some r →
      Completes (.registerWrite m (regsBase + k) 4 (v.setWidth 64)) s (fun t =>
        t = s.setReg k (t.reg k) ∧
        t.reg k = (s.reg k &&& ~~~(BitVec.ofNat 32 r.rw) &&& ~~~(BitVec.ofNat 32 r.w1c &&& v)) ||| (v &&& BitVec.ofNat 32 r.rw))) ∧
    (regRow k = none → exec (.registerWrite m (regsBase + k) 4 (v.setWidth 64)) s = .next s) ∧
    exec (.registerWrite m (regsBase + k) 2 (v.setWidth 64)) s = .next s)

/-- R4, R465, R466 (O): an access in an absent or reserved window fires HCI_ABSENT_ACCESS, a read answers zero; a host write
through BAR2 or BAR4 stores its bytes, a host read answers the bytes that stand there. A store to memory that is there, unguarded
and without flaws is the bytes stored and nothing else, and a read of it changes nothing. -/
def Obligations.HostAccessesComplete : Prop :=
  (∀ (s : State) (m : Master) (a : Nat), s.Live → regsBase ≤ a → a < regsTop → windowAbsent s.variant ((a - regsBase) / 65536) = true →
    Gives (.absentAccess m a true) s (s.fire 255) ∧
    Gives (.absentAccess m a false) s ((s.fire 255).emit (.regData 0))) ∧
  (∀ (s : State) (off : Nat) (bs : List Byte), s.Live → s.isPowered 28 = true → s.contentLock = false → s.hostOut = false →
    off + bs.length ≤ 0x400_0000 → s.rangeThere (combBase + off) bs.length = true →
    Gives (.hostMemoryWrite false off bs) s (s.masterStore .host (combBase + off) bs)) ∧
  (∀ (s : State) (off : Nat) (bs : List Byte), s.Live → s.isPowered 28 = true → s.contentLock = false → s.hostOut = false →
    s.memReady = true → off + bs.length ≤ 2 ^ 32 → s.barAddr true off + bs.length ≤ dramTop s.variant →
    s.rangeThere (s.barAddr true off) bs.length = true →
    Gives (.hostMemoryWrite true off bs) s (s.masterStore .host (s.barAddr true off) bs)) ∧
  (∀ (s : State) (off len : Nat), s.Live → s.isPowered 28 = true → s.hostOut = false → off + len ≤ 0x400_0000 →
    s.rangeThere (combBase + off) len = true →
    let s1 := (s.goneAccess .host false (combBase + off)).meet (combBase + off) len
    Gives (.hostMemoryRead false off len) s (s1.emit (.hostData (s1.bytes (combBase + off) len)))) ∧
  (∀ (s : State) (off len : Nat), s.Live → s.isPowered 28 = true → s.hostOut = false → s.memReady = true → off + len ≤ 2 ^ 32 →
    s.barAddr true off + len ≤ dramTop s.variant → s.rangeThere (s.barAddr true off) len = true →
    let s1 := (s.goneAccess .host false (s.barAddr true off)).meet (s.barAddr true off) len
    Gives (.hostMemoryRead true off len) s (s1.emit (.hostData (s1.bytes (s.barAddr true off) len)))) ∧
  (∀ (s : State) (m : Master) (a : Nat) (bs : List Byte), s.flaws = [] → s.memGone a = false →
    s.reg (Reg.memPcFailed 0) = 0 → s.reg (Reg.memPcFailed 1) = 0 →
    (inImem s.variant a = false → guardHit a bs.length = none → s.masterStore m a bs = s.store a bs) ∧
    (s.goneAccess m false a).meet a bs.length = s)

/-- R37, R41 to R43, R45 (O): RESUME under the domain's epoch lifts the fence and completes SUCCESS; NOP with nothing taken
before it completes SUCCESS at once, and otherwise waits for NOP_RELEASE, which completes it once it is the oldest; ABORT
of a waiting descriptor finishes the target with ABORTED and itself with SUCCESS; room in a completion queue lets every unit
that waits for it go on, in the order of the queues. -/
def Obligations.CommonCommandsComplete : Prop :=
  (∀ (s : State) (q : Fin 64) (d : Desc) (rest : List Desc), q.val < 25 → s.Ready q 0x01 [0] d rest →
    (q.val ≤ 3 → (s.port q).awaitMap = false) →
    (BitVec.ofNat 8 (qbits d.w0 119 112) = s.epoch (queueDomain q) →
      Gives (.resume q) s (State.done
        { (s.taken q d rest) with doms := { s.doms with fenced := s.doms.fenced &&& ~~~(dbit (queueDomain q)) } } q d stSuccess 0))) ∧
  (∀ (s : State) (q : Fin 64) (d : Desc) (rest : List Desc), q.val < 25 → s.Ready q 0x03 [0] d rest →
    (q.val ≤ 3 → (s.port q).awaitMap = false) →
    ((s.queue q).taken = [] → Gives (.nop q) s ((s.taken q d rest).done q d stSuccess 0)) ∧
    ((s.queue q).taken ≠ [] → Gives (.nop q) s ((s.taken q d rest).settleHead q))) ∧
  (∀ (s : State) (q : Fin 64) (t : Taken) (l : List Taken), s.Live → (s.queue q).taken = t :: l → w0Opcode (t.word 0) = 0x03 →
    t.done = none → Gives (.nopRelease q) s ((s.complete q t.tag stSuccess 0).settleHead q)) ∧
  (∀ (s : State) (q : Fin 64) (a d : Desc), q.val < 25 → s.Live → s.blocked q = false →
    (q.val ≤ 3 → (s.port q).awaitMap = false) → (s.queue q).waiting = [d, a] →
    w0Opcode a.w0 = 0x02 → a.flt = .ok → s.commonCheck q a = none → w0Len a.w0 = 0 →
    w0Opcode d.w0 ≠ 0x02 → d.dup = false → qbits a.w0 87 72 = w0Tag d.w0 → w0Tag d.w0 ≠ w0Tag a.w0 →
    Gives (.abort q) s
      (((s.setQueue q { s.queue q with
          waiting := []
          taken := (s.queue q).taken ++ [{ s.run q d with done := some (stAborted, 0) }]
          urgent := (s.queue q).urgent ++
            [⟨w0Cq a.w0, ⟨completionItem (s.itemEpoch q stSuccess) (w0Tag a.w0) stSuccess q 0, !a.dup⟩, a.cell⟩] }).settleQueue
              q).settleHead q)) ∧
  (∀ (s : State) (k : Fin 64), s.Live →
    Gives (.completionQueueRoom k) s (queueKeys.foldl (fun s q =>
      if s.waitsFor q = some k.val then (s.settleQueue q).settleHead q else s) s))

/-- R12 to R17, R51 (O): an invalid code stalls its stage and is reported once; a watchdog reports the stall it names; a pace
window that was busy gives its pace, the lowest pace and a new window; a write of clear_min returns the lowest pace to its
reset value. -/
def Obligations.StagesAndMetersComplete : Prop :=
  (∀ (s : State) (w : Fin 256) (g : BitVec 8), s.Live → s.unitRuns w = true → (w.val, g.toNat) ∉ s.stalled →
    Gives (.invalidCode w g) s ({ s with stalled := s.stalled ++ [(w.val, g.toNat)] }.report w g.toNat 0x06 g.toNat)) ∧
  (∀ (s : State) (w : Fin 256) (g : BitVec 8), s.Live → s.unitRuns w = true → windowStall w = true →
    Gives (.stallWatchdogExpiry w g) s (s.report w g.toNat 0x07 g.toNat)) ∧
  (∀ (s : State) (w : Fin 256) (n : Fin 16) (given busy : Nat), s.Live → s.unitRuns w = true → hasMeter w n = true →
    let m := s.meter w n
    let busy' := min busy m.window
    let pace := if busy' = 0 then s.fld (Reg.cbPaceNow w n) 23 0 else min (2 ^ 24 - 1) (s.metered w n given * 16 / busy')
    let s1 := s.setFld (Reg.cbPaceNow w n) 23 0 pace
    let s2 := if busy' = 0 then s1 else s1.setFld (Reg.cbPaceMin w n) 23 0 (min pace (s1.fld (Reg.cbPaceMin w n) 23 0))
    let s3 := if 0x50 ≤ w.val ∧ w.val < 0x58 then s2.mapCell (w - 0x50) (fun c => { c with paced := 0 }) else s2
    Gives (.paceWindowEnd w n given busy) s (s3.setMeter w n
      { reported := m.reported || (busy' != 0 && !m.early), early := false, items := 0, low := some (min (m.low.getD pace) pace),
        window := paceWindow (s.reg (Reg.cbPaceCtrl w n)) })) ∧
  (∀ (s : State) (m : Master) (w : Fin 256) (n : Fin 16) (v : Word), s.Open m (Reg.cbPaceCtrl w n) → hasMeter w n = true →
    bitsOf v 31 31 = 1 →
    Gives (.paceClearMin m w n v) s ((s.maskedWrite (Reg.cbPaceCtrl w n) v).setFld (Reg.cbPaceMin w n) 23 0 0xFFFFFF))

/-- R17 to R21, R28, R29, R482 (O): an evaluation of a governor that is on, calm and judges its limits good raises the setpoint by
20 mV where a meter is below its declared pace, by 5 mV where one is within 10 % of it, lowers it after enough calm
periods above it, and else keeps it inside the limits; with bad limits it steps nothing; the end of settling starts a new period;
an acknowledged transfer sets the setpoint, three that fail report; VOUT_MODE sets the kind, and the setpoint is written; clearing
pmbus_error writes it again; limits are judged as they are written; a threshold write judges each count, a count written to zero
may be reported anew. -/
def Obligations.GovernorAndCountsComplete : Prop :=
  (∀ (s : State), s.Live → s.fld Reg.govCtrl 31 31 = 1 → s.gov.settling = false → s.gov.xfer = .none →
    s.fld Reg.govStatus 29 29 = 0 → s.gov.heldSetpoint = none →
    let s1 := (s.judgeLimits).setFld Reg.govStatus 30 30 0
    let ms := s1.partMeters
    let s2 := ({ s1 with gov := { s1.gov with count := 0 } } : State).newPeriod
    (s1.fld Reg.govStatus 28 28 ≠ 0 → Gives .governorEvaluation s (s2.setFld Reg.govStatus 31 31 0)) ∧
    (s1.fld Reg.govStatus 28 28 = 0 →
    (ms = [] → Gives .governorEvaluation s (s2.setFld Reg.govStatus 31 31 0).keepRange) ∧
    (ms.any (fun p => decide (p.2 < p.1)) = true → Gives .governorEvaluation s (s2.raise 20)) ∧
    (ms.any (fun p => decide (p.2 < p.1)) = false → ms.any (fun p => decide (10 * p.2 < 11 * p.1)) = true →
      Gives .governorEvaluation s (s2.raise 5)) ∧
    (ms ≠ [] → ms.all (fun p => decide (1155 * p.1 < 1000 * p.2)) = true → s1.gov.warnSeen = false → s1.supplyWarn = false →
      let s3 := ({ s1 with gov := { s1.gov with count := s1.gov.count + 1 } } : State).newPeriod
      (max 1 (s1.fld Reg.govCtrl 23 16) ≤ s1.gov.count + 1 → Gives .governorEvaluation s s3.lower) ∧
      (s1.gov.count + 1 < s1.fld Reg.govCtrl 23 16 →
        Gives .governorEvaluation s (s3.setFld Reg.govStatus 31 31 0).keepRange)) ∧
    (ms.all (fun p => decide (11 * p.1 ≤ 10 * p.2)) = true → ms.any (fun p => decide (1000 * p.2 ≤ 1155 * p.1)) = true →
      Gives .governorEvaluation s (s2.setFld Reg.govStatus 31 31 0).keepRange))) ∧
  (∀ (s : State), s.Live → s.gov.settling = true →
    Gives .governorSettleEnd s ({ s with gov := { s.gov with settling := false, count := 0 } } : State).newPeriod) ∧
  (∀ (s : State) (mv n : Nat), s.Live → s.gov.xfer = .vout mv n →
    Gives (.voutCommandTransferDone true) s
      { (s.setFld Reg.govStatus 9 0 mv) with gov := { s.gov with
          xfer := .none, acked := true, settling := true, prevSetpoint := s.setpoint, count := 0 } } ∧
    (n < 3 → Gives (.voutCommandTransferDone false) s (s.sendVout mv (n + 1))) ∧
    (3 ≤ n → Gives (.voutCommandTransferDone false) s
      ((({ s with gov := { s.gov with xfer := .none } } : State).setFld Reg.govStatus 29 29 1).govReport 1))) ∧
  (∀ (s : State) (n : Nat) (mode : Byte), s.Live → s.gov.xfer = .mode n →
    let kind := if mode.toNat / 32 = 0 then 0 else if mode.toNat / 32 = 3 then 1 else 2
    let s1 := (s.setFld Reg.hciPmbus 31 30 kind).setFld Reg.hciPmbus 29 25 mode.toNat
    let s2 : State := { s1 with gov := { s.gov with xfer := .none } }
    (kind ≠ 2 → Gives (.voutModeReadDone true mode) s (s2.sendVout s2.firstSetpoint 1)) ∧
    (kind = 2 → Gives (.voutModeReadDone true mode) s ((s2.setFld Reg.govStatus 29 29 1).fire 24)) ∧
    (n < 3 → Gives (.voutModeReadDone false mode) s (s.sendMode (n + 1)))) ∧
  (∀ (s : State) (m : Master) (v : Word), s.Open m Reg.govStatus → s.fld Reg.govStatus 29 29 = 1 →
    let s1 := s.maskedWrite Reg.govStatus v
    s1.fld Reg.govStatus 29 29 = 0 →
    Gives (.pmbusErrorClear m v) s (if s1.pmbusKind = 3 then s1.sendMode 1 else s1.sendVout s1.firstSetpoint 1)) ∧
  (∀ (s : State) (m : Master) (v : Word), s.Open m Reg.govLimits →
    Gives (.govLimitsWrite m v) s (s.maskedWrite Reg.govLimits v).judgeLimits) ∧
  (∀ (s : State) (m : Master) (w : Fin 256) (v : Word), s.Open m (Reg.cbEccThresh w) →
    Gives (.eccThreshWrite m w v) s
      ((List.range (blockEcc w)).foldl (fun s n => s.rateCheck w n) (s.maskedWrite (Reg.cbEccThresh w) v))) ∧
  (∀ (s : State) (m : Master) (w : Fin 256) (n : Fin 64) (v : Word), s.Open m (Reg.cbEcc w n) →
    let s1 := s.maskedWrite (Reg.cbEcc w n) v
    (s1.fld (Reg.cbEcc w n) 15 0 = 0 → Gives (.eccCountClear m w n v) s
      { s1 with rateMade := s.rateMade.filter (· != Reg.cbEcc w n) }) ∧
    (s1.fld (Reg.cbEcc w n) 15 0 ≠ 0 → Gives (.eccCountClear m w n v) s s1))

/-! The cells of the Hive (spec/02_hive.md). -/

/-- R62: a word of major opcode 0x01 is the ALU instruction that its func names, and none for a func of 0x0F and more or with a bit
of func[10:6] set; the result of every ALU function, for every register and every value, shifts by g[rt][4:0]; the equation is the
frame as well. -/
def Obligations.AluFunctionsWriteTheirResult : Prop :=
  (∀ (c : Cell) (rd rs rt : Gr) (func : Nat), func < 2 ^ 11 →
    hiveDecode c (0x01 * 2 ^ 26 + rd.val * 2 ^ 21 + rs.val * 2 ^ 16 + rt.val * 2 ^ 11 + func) =
      ([Instr.add, .sub, .and, .or, .xor, .nor, .sll, .srl, .sra, .slt, .sltu, .mul, .mulhu, .divu, .remu].map
        (fun k => k c rd rs rt))[func]?) ∧
  (∀ (s : State) (c : Cell) (rd rs rt : Gr), s.Runs c →
    let s0 := s.cellFetch c
    let a := (s0.cell c).getG rs
    let b := (s0.cell c).getG rt
    let ends (v : Word) : Host.Outcome State Fault Refusal := .next (s.ends (s0.wrote c rd v))
    exec (.add c rd rs rt) s = ends (a + b) ∧
    exec (.sub c rd rs rt) s = ends (a - b) ∧
    exec (.and c rd rs rt) s = ends (a &&& b) ∧
    exec (.or c rd rs rt) s = ends (a ||| b) ∧
    exec (.xor c rd rs rt) s = ends (a ^^^ b) ∧
    exec (.nor c rd rs rt) s = ends (~~~(a ||| b)) ∧
    exec (.sll c rd rs rt) s = ends (BitVec.ofNat 32 (a.toNat * 2 ^ (b.toNat % 32))) ∧
    exec (.srl c rd rs rt) s = ends (BitVec.ofNat 32 (a.toNat / 2 ^ (b.toNat % 32))) ∧
    exec (.sra c rd rs rt) s = ends (BitVec.ofInt 32 (a.toInt / 2 ^ (b.toNat % 32))) ∧
    exec (.slt c rd rs rt) s = ends (if a.toInt < b.toInt then 1 else 0) ∧
    exec (.sltu c rd rs rt) s = ends (if a.toNat < b.toNat then 1 else 0) ∧
    exec (.mul c rd rs rt) s = ends (BitVec.ofNat 32 (a.toNat * b.toNat)) ∧
    exec (.mulhu c rd rs rt) s = ends (BitVec.ofNat 32 (a.toNat * b.toNat / 2 ^ 32)) ∧
    exec (.divu c rd rs rt) s = ends (if b = 0 then 0xFFFFFFFF else BitVec.ofNat 32 (a.toNat / b.toNat)) ∧
    exec (.remu c rd rs rt) s = ends (if b = 0 then a else BitVec.ofNat 32 (a.toNat % b.toNat)))

/-- R61, R63: the instructions with an immediate, and those of the wide registers. -/
def Obligations.ImmediateAndWideInstructionsWriteTheirResult : Prop :=
  (∀ (s : State) (c : Cell) (rd rs : Gr) (i : BitVec 16), s.Runs c →
    let s0 := s.cellFetch c
    let a := (s0.cell c).getG rs
    let ends (v : Word) : Host.Outcome State Fault Refusal := .next (s.ends (s0.wrote c rd v))
    exec (.addi c rd rs i) s = ends (BitVec.ofInt 32 (a.toInt + i.toInt)) ∧
    exec (.andi c rd rs i) s = ends (a &&& BitVec.ofNat 32 i.toNat) ∧
    exec (.ori c rd rs i) s = ends (a ||| BitVec.ofNat 32 i.toNat) ∧
    exec (.xori c rd rs i) s = ends (a ^^^ BitVec.ofNat 32 i.toNat) ∧
    exec (.slti c rd rs i) s = ends (if a.toInt < i.toInt then 1 else 0) ∧
    exec (.sltiu c rd rs i) s = ends (if a.toNat < (BitVec.ofInt 32 i.toInt).toNat then 1 else 0) ∧
    exec (.lui c rd i) s = ends (BitVec.ofNat 32 (i.toNat * 65536)) ∧
    ∀ n : BitVec 5,
      exec (.shi c rd rs .left n) s = ends (BitVec.ofNat 32 (a.toNat * 2 ^ n.toNat)) ∧
      exec (.shi c rd rs .rightLogical n) s = ends (BitVec.ofNat 32 (a.toNat / 2 ^ n.toNat)) ∧
      exec (.shi c rd rs .rightArith n) s = ends (BitVec.ofInt 32 (a.toInt / 2 ^ n.toNat))) ∧
  (∀ (s : State) (c : Cell) (rd : Wr) (rs : Gr) (p : BitVec 7) (l : BitVec 5), s.Runs c →
    let s0 := s.cellFetch c
    fieldFits p l = true →
    Gives (.wdep c rd rs p l) s (s0.mapCell c (fun x =>
      (x.putW rd (deposit (x.getW rd) p.toNat (l.toNat + 1) (x.getG rs))).retire))) ∧
  (∀ (s : State) (c : Cell) (rd : Gr) (rs : Wr) (p : BitVec 7) (l : BitVec 5), s.Runs c →
    let s0 := s.cellFetch c
    fieldFits p l = true →
    Gives (.wext c rd rs p l) s
      (s0.wrote c rd (BitVec.ofNat 32 (((s0.cell c).getW rs).toNat / 2 ^ p.toNat % 2 ^ (l.toNat + 1))))) ∧
  (∀ (s : State) (c : Cell) (rd rs : Wr), s.Runs c →
    let s0 := s.cellFetch c
    Gives (.wmov c rd rs false) s (s0.mapCell c (fun x => (x.putW rd (x.getW rs)).retire)) ∧
    Gives (.wmov c rd rs true) s (s0.mapCell c (fun x => (x.putW rd 0).retire)))

/-- R63: a field of WDEP or WEXT with p + n > 128 is illegal; WDEP leaves every bit of w[rd] outside its field as it was, and puts the
low bits of the register into it. -/
def Obligations.FieldsLieInsideTheirRegister : Prop :=
  (∀ (c : Cell) (w : Nat), wMajor w = 0x0E ∨ wMajor w = 0x0F →
    128 < wImm w % 128 + (wImm w / 128 % 32 + 1) → hiveDecode c w = none) ∧
  (∀ (s : State) (c : Cell) (rd : Wr) (rs : Gr) (p : BitVec 7) (l : BitVec 5), s.Runs c →
    let s0 := s.cellFetch c
    fieldFits p l = true →
    ∃ t, Gives (.wdep c rd rs p l) s t ∧ ∀ k, k < 128 →
      ((t.cell c).getW rd).getLsbD k =
        if p.toNat ≤ k ∧ k < p.toNat + (l.toNat + 1) then ((s0.cell c).getG rs).getLsbD (k - p.toNat)
        else ((s0.cell c).getW rd).getLsbD k)

/-- R61: branches and jumps set pc to pc + 4 + 4 × offset when they are taken, to pc + 4 when not; JAL and JALR write
pc + 4. -/
def Obligations.BranchesAndJumpsSetPc : Prop :=
  (∀ (s : State) (c : Cell) (rd rs : Gr) (i : BitVec 16), s.Runs c →
    let s0 := s.cellFetch c
    let a := (s0.cell c).getG rd
    let b := (s0.cell c).getG rs
    let pc := (s0.cell c).pc
    let goes (taken : Prop) [Decidable taken] : Host.Outcome State Fault Refusal :=
      .next (s.ends (s0.mapCell c (fun x => x.goto (if taken then BitVec.ofInt 32 (pc.toInt + 4 + 4 * i.toInt) else pc + 4))))
    exec (.beq c rd rs i) s = goes (a = b) ∧ exec (.bne c rd rs i) s = goes (a ≠ b) ∧
    exec (.blt c rd rs i) s = goes (a.toInt < b.toInt) ∧ exec (.bge c rd rs i) s = goes (b.toInt ≤ a.toInt) ∧
    exec (.bltu c rd rs i) s = goes (a.toNat < b.toNat) ∧ exec (.bgeu c rd rs i) s = goes (b.toNat ≤ a.toNat)) ∧
  (∀ (s : State) (c : Cell) (o : BitVec 26), s.Runs c →
    let s0 := s.cellFetch c
    let pc := (s0.cell c).pc
    let target := BitVec.ofInt 32 (pc.toInt + 4 + 4 * o.toInt)
    Gives (.j c o) s (s0.mapCell c (fun x => x.goto target)) ∧
    Gives (.jal c o) s (s0.mapCell c (fun x => (x.putG 31 (pc + 4)).goto target))) ∧
  (∀ (s : State) (c : Cell) (rd rs : Gr), s.Runs c →
    let s0 := s.cellFetch c
    let t := (s0.cell c).getG rs
    (t.toNat % 4 = 0 → Gives (.jalr c rd rs) s (s0.mapCell c (fun x => (x.putG rd ((s0.cell c).pc + 4)).goto t))) ∧
    (t.toNat % 4 ≠ 0 → Gives (.jalr c rd rs) s (s0.cellFault c 0x02)))

/-- R55 to R58: an aligned load from memory that answers and is not poisoned writes the little-endian word there and, beside what
the fetch and the read met, changes nothing else; an aligned store writes the register's bytes; a load or store of a unit's register
reaches the register; a
misaligned access, an address outside the cell's space and a poisoned word stop the cell and load nothing. -/
def Obligations.LoadsAndStoresReachMemory : Prop :=
  (∀ (s : State) (c : Cell) (rs : Gr) (i : BitVec 16), s.Runs c →
    let s0 := s.cellFetch c
    let a := cellAddress ((s0.cell c).getG rs) i
    let at_ := cellTarget s.variant c (s0.cell c).dramBase a
    (∀ x, at_ = .mem x → s0.rangeThere x 4 = true → a % 4 = 0 →
      let s1 := (s0.goneAccess (.cell c) false x).meet x 4
      (∀ rd : Gr, (s1.poisonedAt x 4 = false →
        Gives (.lw c rd rs i) s (s1.wrote c rd (BitVec.ofNat 32 (ofLe (s1.bytes x 4))))) ∧
        (s1.poisonedAt x 4 = true → Gives (.lw c rd rs i) s (s1.cellFault c 0x09)) ∧
        Gives (.sw c rd rs i) s
          ((s0.mapCell c CellSt.retire).masterStore (.cell c) x (leBytes 4 ((s0.cell c).getG rd).toNat)))) ∧
    (∀ x, at_ = .mem x → s0.rangeThere x 16 = true → a % 16 = 0 →
      let s1 := (s0.goneAccess (.cell c) false x).meet x 16
      (∀ rd : Wr, (s1.poisonedAt x 16 = false →
        Gives (.lq c rd rs i) s (s1.mapCell c (fun y => (y.putW rd (BitVec.ofNat 128 (ofLe (s1.bytes x 16)))).retire))) ∧
        (s1.poisonedAt x 16 = true → Gives (.lq c rd rs i) s (s1.cellFault c 0x09)) ∧
        Gives (.sq c rd rs i) s
          ((s0.mapCell c CellSt.retire).masterStore (.cell c) x (leBytes 16 ((s0.cell c).getW rd).toNat)))) ∧
    (∀ k, at_ = .reg k → a % 4 = 0 → ∀ rd : Gr,
      Gives (.lw c rd rs i) s ((s0.readReg (.cell c) k).2.wrote c rd (s0.readReg (.cell c) k).1) ∧
      Gives (.sw c rd rs i) s ((s0.mapCell c CellSt.retire).writeReg (.cell c) k ((s0.cell c).getG rd))) ∧
    (∀ rd : Gr, a % 4 ≠ 0 → Gives (.lw c rd rs i) s (s0.cellFault c 0x02) ∧ Gives (.sw c rd rs i) s (s0.cellFault c 0x02)) ∧
    (∀ rd : Wr, a % 16 ≠ 0 → Gives (.lq c rd rs i) s (s0.cellFault c 0x02) ∧ Gives (.sq c rd rs i) s (s0.cellFault c 0x02)) ∧
    (∀ rd : Gr, a % 4 = 0 → at_ = .none →
      Gives (.lw c rd rs i) s (s0.cellFault c 0x03) ∧ Gives (.sw c rd rs i) s (s0.cellFault c 0x03)) ∧
    (∀ rd : Wr, a % 16 = 0 → (at_ = .none ∨ ∃ k, at_ = .reg k) →
      Gives (.lq c rd rs i) s (s0.cellFault c 0x03) ∧ Gives (.sq c rd rs i) s (s0.cellFault c 0x03)))

/-- R64 to R67: a POST with room enters the descriptor of w[rd] and the words after it, one without room waits at its pc; a POSTM
with room enters the descriptor it reads from memory; room lets a waiting POST enter its descriptor; TAKE answers the oldest
item of the cell's own queue, or the buoy. -/
def Obligations.PostAndTakeComplete : Prop :=
  (∀ (s : State) (c : Cell) (rd : Wr) (q : Fin 64) (flt : DescFault), s.Runs c →
    let s0 := s.cellFetch c
    let len := w0Len ((s0.cell c).getW rd)
    let words := (List.range (len + 1)).map (fun i => (s0.cell c).getW (rd + i))
    rd.val + len ≤ 7 →
    (s0.hasRoom q (len + 1) = true → Gives (.post c rd q flt) s ((s0.mapCell c CellSt.retire).enter q c words flt)) ∧
    (s0.hasRoom q (len + 1) = false → Gives (.post c rd q flt) s (s0.cellWaits c 3 (.post q words flt)))) ∧
  (∀ (s : State) (c : Cell) (rs : Gr) (q : Fin 64) (flt : DescFault), s.Runs c →
    let s0 := s.cellFetch c
    let a := ((s0.cell c).getG rs).toNat
    let x := dmemBase c + a
    let s1 := s0.meet x 16
    let len := w0Len (s1.quadAt x)
    let s2 := (List.range len).foldl (fun s i => s.meet (x + 16 * (i + 1)) 16) s1
    a % 16 = 0 → a < 0x3_0000 → s1.poisonedAt x 16 = false → s2.poisonedAt x (16 * (len + 1)) = false →
    (s2.hasRoom q (len + 1) = true →
      Gives (.postm c rs q flt) s
        ((s2.mapCell c CellSt.retire).enter q c ((List.range (len + 1)).map (fun i => s2.quadAt (x + 16 * i))) flt)) ∧
    (s2.hasRoom q (len + 1) = false →
      Gives (.postm c rs q flt) s
        (s2.cellWaits c 3 (.post q ((List.range (len + 1)).map (fun i => s2.quadAt (x + 16 * i))) flt)))) ∧
  (∀ (s : State) (c : Cell) (q : Nat) (words : List Quad) (flt : DescFault), s.Live → (s.cell c).wait = .post q words flt →
    s.hasRoom q words.length = true → Gives (.postQueueRoom c) s ((s.cellGoes c id).enter q c words flt)) ∧
  (∀ (s : State) (c : Cell) (rd : Wr) (rs : Gr) (q : Fin 64), s.Runs c →
    (q.val / 8 = c →
      let s1 := (s.cellFetch c).meetUnit (0x50 + c) (2 + q % 8)
      (∀ i rest, s1.cq q = i :: rest →
        Gives (.take c rd rs q) s (((s1.setCq q rest).endItemTag i).mapCell c (fun x =>
          ((x.putW rd i.word).putG rs (BitVec.ofNat 32 (itemStatus i.word))).retire))) ∧
      (s1.cq q = [] → Gives (.take c rd rs q) s (s1.mapCell c (fun x => ((x.putW rd 0).putG rs 0).retire)))) ∧
    (q.val / 8 ≠ c → Gives (.take c rd rs q) s ((s.cellFetch c).cellFault c 0x04)))

/-- R68 to R72: WAIT answers the lowest admitted event and clears it, or waits; an event or the timeout ends the wait; TIME reads
the counter; arming and disarming the cell's own alarm answer the results of R71; an armed alarm whose time is reached acts. -/
def Obligations.WaitsAndAlarmsComplete : Prop :=
  (∀ (s : State) (c : Cell) (rd rs : Gr), s.Runs c →
    let s0 := s.cellFetch c
    (∀ e, (s0.cell c).hit = some e → Gives (.wait c rd rs) s (s0.mapCell c (fun x => (x.takeEvent rd e).retire))) ∧
    ((s0.cell c).hit = none →
      Gives (.wait c rd rs) s (s0.cellWaits c 3 (.event rd ((s0.cell c).getG rs != 0))))) ∧
  (∀ (s : State) (c : Cell) (rd : Nat) (b : Bool) (e : Nat), s.Live → (s.cell c).wait = .event rd b → (s.cell c).hit = some e →
    exec (.waitEvent c) s = .next (s.cellGoes c (fun x => x.takeEvent rd e))) ∧
  (∀ (s : State) (c : Cell) (rd : Nat), s.Live → (s.cell c).wait = .event rd true → (s.cell c).hit = none →
    exec (.waitTimeout c) s = .next (s.cellGoes c (fun x => x.putG rd 0xFFFFFFFF))) ∧
  (∀ (s : State) (c : Cell) (rd : Gr), s.Runs c →
    let s0 := s.cellFetch c
    Gives (.time c rd) s (s0.wrote c rd s0.bcn.ns)) ∧
  (∀ (s : State) (c : Cell) (rd rs : Gr), s.Runs c →
    let s0 := s.cellFetch c
    reached s0.bcn.ns ((s0.cell c).getG rs) = false →
    Gives (.arm c rd rs 16) s
      ((s0.mapCell c (fun x => { x with alarm := .armed, alarmTime := (s0.cell c).getG rs })).mapCell c
        (fun x => (x.putG rd 0).retire))) ∧
  (∀ (s : State) (c : Cell) (rd rs : Gr), s.Runs c →
    let s0 := s.cellFetch c
    Gives (.disarm c rd rs 16) s
      ((s0.mapCell c (fun x => { x with alarm := .idle })).mapCell c
        (fun x => (x.putG rd (match (s0.cell c).alarm with | .armed => 2 | .acted => 0 | .idle => 3)).retire))) ∧
  (∀ (s : State) (c : Cell), s.Live → (s.cell c).alarm = .armed → reached s.bcn.ns (s.cell c).alarmTime = true →
    s.isPowered (cellDomain c) = true → Gives (.cellAlarmFire c) s (s.alarmAct c))

/-- R73 to R78: a local COMMIT of a group that is present takes the staged values for the next frame and answers SUCCESS with
that frame, and the statuses of R74 otherwise with frame 0; a swarm COMMIT that cannot be met answers LATE, and otherwise waits
while the request goes to the role; SNAP latches the snapshot registers and answers the sequence; a swarm SNAP asks the ring. -/
def Obligations.CommitsAndSnapshotsComplete : Prop :=
  (∀ (s : State) (c : Cell) (rd rt : Gr) (g : Fin 16), s.Runs c →
    let s0 := s.cellFetch c
    let answers (t : State) (st frame : Nat) : Prop := Gives (.commit c rd rt g) s (t.mapCell c (fun x =>
      ((x.putG rt (BitVec.ofNat 32 st)).putG rd (BitVec.ofNat 32 frame)).retire))
    (9 ≤ g.val → answers s0 0x11 0) ∧
    (g.val < 9 → groupAbsent s0.variant g = true → answers s0 0x02 0) ∧
    (g.val = 4 → groupAbsent s0.variant g = false → s0.locked = false → answers s0 0x10 0) ∧
    (g.val < 9 → groupAbsent s0.variant g = false → (g.val = 4 → s0.locked = true) →
      answers (s0.acceptSet g (((s0.reg (groupFrames g)).toNat + 1) % 2 ^ 32) (s0.stagedCopy g)) 0x01
        (((s0.reg (groupFrames g)).toNat + 1) % 2 ^ 32))) ∧
  (∀ (s : State) (c : Cell) (rd rs rt : Gr) (g : Fin 16), s.Runs c →
    let s0 := s.cellFetch c
    g.val ≤ 4 → groupAbsent s0.variant g = false →
    (g.val = 4 → s0.locked = true) →
    let f := ((s0.cell c).getG rs).toNat
    (s0.commitTooLate g f = true → Gives (.swarmCommit c rd rs rt g) s (s0.mapCell c (fun x =>
      ((x.putG rt 0x0D).putG rd 0).retire))) ∧
    (s0.commitTooLate g f = false →
      Gives (.swarmCommit c rd rs rt g) s ((s0.cellWaits c 2 (.swarm rd rt g f)).askCommit g f))) ∧
  (∀ (s : State) (c : Cell) (rd : Gr), s.Runs c →
    let s0 := s.cellFetch c
    let t := s0.latchSnap 0 s0.casPos
    Gives (.snap c rd) s (t.wrote c rd (t.reg Reg.fghSnapSeq))) ∧
  (∀ (s : State) (c : Cell) (rd rs : Gr), s.Runs c →
    let s0 := s.cellFetch c
    let want := extendNear s0.now ((s0.cell c).getG rs)
    let r := s0.askSwarmSnap want
    Completes (.swarmSnap c rd rs) s (fun t => ∃ v : Word, (want < r.2 ↔ v.getLsbD 31 = true) ∧
      t = s.ends (r.1.wrote c rd v)))

/-- R79 to R82, R94: FENCE goes on at once, or waits for the cell's completions, and FENCE_RELEASE lets it go on; a BAR that is
not the last to arrive waits, the last frees every cell; its timeout leaves with 1; a message enters the mailbox of its
destination with its sender, or g[rs] is 1 while it is full; the oldest message is received; the host sends and pops. -/
def Obligations.OrderingAndMailboxesComplete : Prop :=
  (∀ (s : State) (c : Cell) (rd rs : Gr) (k : BitVec 2), s.Runs c →
    let s0 := s.cellFetch c
    (k.getLsbD 1 = false ∨ s0.cellDrained c = true → Gives (.fence c rd rs k) s (s0.mapCell c CellSt.retire)) ∧
    (k.getLsbD 1 = true → s0.cellDrained c = false → Gives (.fence c rd rs k) s (s0.cellWaits c 2 .fence))) ∧
  (∀ (s : State) (c : Cell), s.Live → (s.cell c).wait = .fence → s.cellDrained c = true →
    exec (.fenceRelease c) s = .next (s.cellGoes c id)) ∧
  (∀ (s : State) (c : Cell) (rd rs : Gr) (b : Fin 4) (mask : BitVec 8), s.Runs c →
    let s0 := s.cellFetch c
    mask.getLsbD c = true →
    ((s0.barrier b).arrived = [] ∨ (s0.barrier b).mask = mask) →
    let arrived := (s0.barrier b).arrived ++ [c.val]
    let t := (s0.cellWaits c 3 (.bar b rd ((s0.cell c).getG rs != 0))).setBarrier b ⟨mask, arrived⟩
    ((∀ n, n < 8 → mask.getLsbD n = true → n ∈ arrived) → Gives (.bar c rd rs b mask) s (t.barLeave b 0)) ∧
    ((∃ n, n < 8 ∧ mask.getLsbD n = true ∧ n ∉ arrived) → Gives (.bar c rd rs b mask) s t)) ∧
  (∀ (s : State) (c : Cell) (b rd : Nat), s.Live → (s.cell c).wait = .bar b rd true →
    Gives (.barTimeout c) s (((s.barForget c).cellGoes c (fun x => x.putG rd 1)).fire 78)) ∧
  (∀ (s : State) (c : Cell) (rd : Wr) (rs : Gr) (dest : Fin 9), s.Runs c →
    let s0 := s.cellFetch c
    let msg := BitVec.ofNat 128 (((s0.cell c).getW rd).toNat % 2 ^ 124 + c.val * 2 ^ 124)
    (dest.val = 8 → s0.hive.hostBox.length < 16 → Gives (.mboxSend c rd rs dest) s
      ((({ s0 with hive := { s0.hive with hostBox := s0.hive.hostBox ++ [msg] } }).fire 72).mapCell c
        (fun x => (x.putG rs 0).retire))) ∧
    (dest.val < 8 → s0.isPowered (cellDomain dest) = true → (s0.cell dest).inbox.length < 16 →
      Gives (.mboxSend c rd rs dest) s
        (((s0.mapCell dest (fun x => { x with inbox := x.inbox ++ [msg] })).fire (64 + dest)).mapCell c
          (fun x => (x.putG rs 0).retire))) ∧
    (dest.val < 8 → 16 ≤ (s0.cell dest).inbox.length →
      Gives (.mboxSend c rd rs dest) s (s0.mapCell c (fun x => (x.putG rs 1).retire)))) ∧
  (∀ (s : State) (c : Cell) (rd : Wr) (rs : Gr) (sel : BitVec 4), s.Runs c →
    let s1 := (s.cellFetch c).meetUnit (0x50 + c) 10
    (∀ m rest, (s1.cell c).inbox = m :: rest → Gives (.mboxReceive c rd rs sel) s
      (s1.mapCell c (fun x => (({ x with inbox := rest }.putW rd m).putG rs 1).retire))) ∧
    ((s1.cell c).inbox = [] → Gives (.mboxReceive c rd rs sel) s
      (s1.mapCell c (fun x => ((x.putW rd 0).putG rs 0).retire)))) ∧
  (∀ (s : State) (m : Master) (c : Cell) (v : Word), s.Open m (Reg.hivH2cSend c) → s.isPowered (cellDomain c) = true →
    (s.cell c).inbox.length < 16 →
    let word (i : Nat) : Nat := (s.reg (Reg.hivH2cData c i)).toNat * 2 ^ (32 * i)
    let msg := BitVec.ofNat 128 ((word 0 + word 1 + word 2 + word 3) % 2 ^ 124 + 8 * 2 ^ 124)
    Gives (.h2cSend m c v) s ((s.mapCell c (fun x => { x with inbox := x.inbox ++ [msg] })).fire (64 + c))) ∧
  (∀ (s : State) (m : Master) (v : Word), s.Open m Reg.hivC2hPop →
    exec (.c2hPop m v) s = .next { s with hive := { s.hive with hostBox := s.hive.hostBox.drop 1 } })

/-- R53, R58, R60, R61, R83 to R88: a CSR read writes the CSR's value, the three CSR writes their result, an undefined CSR stops
the cell with cause 0x0C; STOP stops it with its exit code. A lockstep mismatch, a word that is no instruction, an instruction word
that cannot be corrected and the watchdog of the cell have one effect, which is these events' own: the cell stops with the cause of
the event, no register of it changes and the stop is reported. The host's stop, start and unload have the effect of R87 and R98. -/
def Obligations.CsrsStopsAndFaultsComplete : Prop :=
  (∀ (s : State) (c : Cell) (rd : Gr) (csr : BitVec 12), s.Runs c →
    let s0 := s.cellFetch c
    (∀ v, s0.csrValue c csr.toNat = some v → Gives (.csrr c rd csr) s (s0.wrote c rd v)) ∧
    (s0.csrValue c csr.toNat = none → Gives (.csrr c rd csr) s (s0.cellFault c 0x0C))) ∧
  (∀ (s : State) (c : Cell) (rs : Gr) (csr : BitVec 12), s.Runs c →
    let s0 := s.cellFetch c
    let v := (s0.cell c).getG rs
    (∀ x, (s0.cell c).csrWrite csr.toNat .write v = some x → Gives (.csrwWrite c rs csr) s (s0.setCell c x.retire)) ∧
    (∀ x, (s0.cell c).csrWrite csr.toNat .set v = some x → Gives (.csrwSet c rs csr) s (s0.setCell c x.retire)) ∧
    (∀ x, (s0.cell c).csrWrite csr.toNat .clear v = some x → Gives (.csrwClear c rs csr) s (s0.setCell c x.retire))) ∧
  (∀ (s : State) (c : Cell) (i : BitVec 16), s.Runs c →
    let s0 := s.cellFetch c
    Gives (.stop c i) s ((s0.halt c 4 0 i.toNat).fire 73)) ∧
  (∀ (s : State) (c : Cell), s.Runs c →
    let s0 := s.cellFetch c
    Gives (.illegalInstruction c) s (s0.cellFault c 0x01) ∧
    Gives (.instructionFetchUncorrectable c) s
      (((s0.eccUncorrectable (0x50 + c) 0 1).report (0x50 + c) 0 0x02 (imemBase c + (s0.cell c).pc.toNat / 16 * 16)).cellFault c 0x08)) ∧
  (∀ (s : State) (c : Cell), s.Live → (s.cell c).live = true → s.isPowered (cellDomain c) = true →
    Gives (.lockstepMismatch c) s (s.cellFault c 0x06) ∧
    ((s.cell c).wdog ≠ 0 → Gives (.cellWatchdogExpiry c) s (s.cellFault c 0x07))) ∧
  (∀ (s : State) (m : Master) (c : Cell), s.Open m (Reg.hivCellCtrl c) →
    ((s.cell c).live = true → Gives (.cellStopRequest m c 0x80000000) s
      ((s.halt c (if (s.cell c).image then 1 else 0) 0 0).mapCell c (fun x => { x with hostStopped := true }))) ∧
    ((s.cell c).image = true → (s.cell c).live = false → s.loads c = false → c.val ∉ s.hive.unloads →
      s.isPowered (cellDomain c) = true → exec (.cellStart m c 0x40000000) s = .next (s.startCell c 0)) ∧
    (s.loads c = false → c.val ∉ s.hive.unloads →
      ((s.stopForLoad c).cellDrained c = true → Gives (.cellUnload m c 0x20000000) s ((s.stopForLoad c).unloadEnds c)) ∧
      ((s.stopForLoad c).cellDrained c = false → Gives (.cellUnload m c 0x20000000) s
        { s.stopForLoad c with hive := { (s.stopForLoad c).hive with unloads := (s.stopForLoad c).hive.unloads ++ [c.val] } })))

/-- R84: STOP stops the cell with state 4 and exit code imm, its claims, declarations and the rest of it stay, event 73 fires; a word
of STOP whose rd or rs is not zero is no STOP. -/
def Obligations.StopEndsTheCell : Prop :=
  (∀ (s : State) (c : Cell) (imm : BitVec 16), s.Runs c →
    let s0 := s.cellFetch c
    let h := s0.halt c 4 0 imm.toNat
    Gives (.stop c imm) s (h.fire 73) ∧
    (h.cell c).state = 4 ∧ (h.cell c).exitCode = imm.toNat ∧ (h.cell c).trigClaims = (s0.cell c).trigClaims ∧
    (h.cell c).domClaims = (s0.cell c).domClaims ∧ (h.cell c).g = (s0.cell c).g ∧ (h.cell c).w = (s0.cell c).w ∧
    (h.cell c).pc = (s0.cell c).pc ∧ (h.cell c).image = (s0.cell c).image ∧ h.regs = s0.regs ∧ h.mem = s0.mem) ∧
  (∀ (c : Cell) (w : Nat), wMajor w = 0x2D →
    hiveDecode c w = if wRd w = 0 ∧ wRs w = 0 then some (.stop c (imm16 w)) else none)

/-- R95 to R98: the five commands of a load: a header that passes step 2 stops the target and drains it; the drained target gives
up its claims; a target that is not drained in time ends the load with BUSY_TAGS; the image is copied into the target's memories,
one with poisoned words is none; a verified image is installed, a refused one wiped. -/
def Obligations.ImageLoadCompletes : Prop :=
  (∀ (s : State) (m : Master), s.Open m Reg.hivLoadCtrl → s.hive.loader.step = .idle →
    let src := s.fld Reg.hivLoadSrcLo 31 4 * 16 + s.fld Reg.hivLoadSrcHi 15 0 * 2 ^ 32
    Gives (.imageLoadStart m 0x80000000) s (s.beginLoad src false)) ∧
  (∀ (s : State), s.Live → s.hive.unloads = [] → s.hive.loader.step = .draining → s.cellDrained s.hive.loader.cell = true →
    Gives .imageLoadDrained s ((s.withdraw s.hive.loader.cell).mapLoader (fun l => { l with step := .copying }))) ∧
  (∀ (s : State), s.Live → s.hive.unloads = [] → s.hive.loader.step = .draining → s.cellDrained s.hive.loader.cell = false →
    Gives .imageLoadBusyTags s
      ((s.mapCell s.hive.loader.cell (fun c => { c with loadStop := false })).loadEnds 0x26)) ∧
  (∀ (s : State), s.Live → s.hive.loader.step = .copying → (s.kprState = 2 ∨ s.kprState = 3) →
    let l := s.hive.loader
    let h := readHead (s.bytes l.src 0x40)
    s.rangeThere l.src 0x40 = true → inDramComb s.variant l.src h.length = true → s.rangeThere l.src h.length = true →
    let s1 := s.meet l.src h.length
    let img := s1.bytes l.src h.length
    let at_ := 0x40 + 8 * h.decls
    let s2 := (s1.zero (imemBase l.cell) imemSize).zero (dmemBase l.cell) dmemSize
    (s1.poisonedAt l.src h.length = false → s1.checkHead l.src = 0 → h.cell = l.cell →
      Gives .imageLoadCopyDone s
        (((s2.store (imemBase l.cell) ((img.drop at_).take h.code)).store (dmemBase l.cell + h.dataAt)
          ((img.drop (at_ + h.code)).take h.data)).mapLoader (fun l => { l with step := .verifying, image := img }))) ∧
    (s1.poisonedAt l.src h.length = true → Gives .imageLoadCopyDone s
      (s2.mapLoader (fun l => { l with step := .verifying, image := [] })))) ∧
  (∀ (s : State), s.Live → s.hive.loader.step = .verifying →
    let l := s.hive.loader
    (s.verifyImage l.image ≠ 0 →
      Gives .imageLoadVerified s (((s.wipeCell l.cell).fire 44).loadEnds (s.verifyImage l.image))) ∧
    (s.verifyImage l.image = 0 →
      ∃ t : State, Gives .imageLoadVerified s (t.loadEnds 0x01) ∧ (t.cell l.cell).image = true ∧
        (t.cell l.cell).entry = (readHead l.image).entry ∧
        (t.cell l.cell).domClaims = BitVec.ofNat 32 (readHead l.image).doms ∧ t.mem = s.mem ∧
        ((readHead l.image).auto = false → (t.cell l.cell).state = 1) ∧
        ((readHead l.image).auto = true → s.isPowered (cellDomain l.cell) = true → (t.cell l.cell).state = 2)))

/-! The sensor ports (spec/03_sensor_intake.md). -/

/-- R113, R114, R116, R127, R128 (O): the descriptors of a sensor port. A setup that passes every check replaces the one before
it; a GANG_MAP completes the gang's setup; a FRAME is armed and stays outstanding; XTRIG_SETUP and MCLK_SETUP take effect, the
first after a pulse that runs; PORT_STOP clears the setup, after the frame if one is armed or open. -/
def Obligations.SensorDescriptorsComplete : Prop :=
  (∀ (s : State) (n : Fin 4) (d : Desc) (rest : List Desc), s.Ready n 0x10 [3] d rest → (s.port n).armed = none →
    (s.port n).frame = none → (s.port n).awaitMap = false → s.gangPartner n = false → (2 ≤ n.val → s.splitOn = false) →
    let t := s.run n d
    let v := decodeSetup t
    let u : PortSetup := { v with split := v.gang && n.val == 0 && !s.variant.small && (v.split || overSix v) }
    setupOk n s.variant t v = true → s.bufferOverlaps n u = false →
    (u.gang = true → (s.port (n.val + 1)).setup = none ∧ s.isPowered (n.val + 3) = true) →
    (u.split = true → (s.port 2).setup = none ∧ (s.port 3).setup = none ∧ s.isPowered 7 = true ∧ s.isPowered 9 = true) →
    let s0 := s.taken n d rest
    Gives (.portSetup n) s (((if (s.port n).setup.isSome then s0.clearSetup n else s0).applySetup n u).done n d stSuccess 0)) ∧
  (∀ (s : State) (n : Fin 4) (d : Desc) (rest : List Desc) (u : PortSetup), s.Ready n 0x15 [1] d rest →
    s.gangPartner n = false → (s.port n).setup = some u → (s.port n).awaitMap = true →
    let t := s.run n d
    laneMapOk u.mode u.lanes (t.fld 1 127 64) = true → t.zeros [(0, 87, 0), (1, 47, 0)] = true →
    Gives (.gangMap n) s (((s.taken n d rest).mapPort n (fun p =>
      { p with awaitMap := false, setup := some { u with partner := some (t.fld 1 127 64, t.fld 1 63 48) } })).done n d stSuccess 0)) ∧
  (∀ (s : State) (n : Fin 4) (d : Desc) (rest : List Desc) (u : PortSetup), s.Ready n 0x11 [1] d rest → (s.port n).armed = none →
    (s.port n).frame = none → (s.port n).awaitMap = false → s.gangPartner n = false → (2 ≤ n.val → s.splitOn = false) →
    (s.port n).setup = some u →
    let t := s.run n d
    let report := t.fld 1 127 80
    let embed := t.fld 1 79 32
    t.zeros [(0, 23, 0), (1, 31, 0)] = true → report % 64 = 0 → inMemory s.variant report 64 = true →
    (u.embedded ≠ 0 → embed % 64 = 0 ∧ inMemory s.variant embed (u.embedded * u.w * 2) = true) →
    let cmd : FrameCmd :=
      { tag := w0Tag d.w0, padLineBlack := t.fld 0 87 87 == 1, padFrameBlack := t.fld 0 86 86 == 1, padValue := t.fld 0 85 70,
        lineBound := if t.fld 0 69 58 = 0 then 64 else t.fld 0 69 58, sofTimeout := t.fld 0 57 40,
        lineTimeout := if t.fld 0 39 24 = 0 then 1000 else t.fld 0 39 24, report := report, embed := embed }
    Gives (.frame n) s
      ((((s.taken n d rest).mapPort n (fun p => { p with armed := some cmd })).setFld (Reg.spStatus n) 24 24 1).settleHead n)) ∧
  (∀ (s : State) (n : Fin 4) (d : Desc) (rest : List Desc), s.Ready n 0x12 [0] d rest → (s.port n).awaitMap = false →
    let t := s.run n d
    t.fld 0 80 57 ≠ 0 → t.fld 0 56 0 = 0 →
    let x : Xtrig := ⟨t.fld 0 87 84, t.fld 0 83 83 == 1, t.fld 0 82 82 == 1, t.fld 0 81 81 == 1, t.fld 0 80 57⟩
    let p := s.port n
    let s0 := s.taken n d rest
    (p.pulse = true → Gives (.xtrigSetup n) s ((s0.setPort n { p with xtrigNext := some x }).done n d stSuccess 0)) ∧
    (p.pulse = false → p.xtrigRest = x.low →
      Gives (.xtrigSetup n) s ((s0.setPort n { p with xtrig := some x }).done n d stSuccess 0)) ∧
    (p.pulse = false → p.xtrigRest ≠ x.low → Gives (.xtrigSetup n) s
      (((s0.setPort n { p with xtrig := some x }).emit (.pin (.xtrig n) x.low)).done n d stSuccess 0))) ∧
  (∀ (s : State) (n : Fin 4) (d : Desc) (rest : List Desc), s.Ready n 0x13 [0] d rest → (s.port n).awaitMap = false →
    let t := s.run n d
    let f := t.fld 0 85 69
    6000 ≤ f → f ≤ 74250 → t.fld 0 68 0 = 0 →
    Gives (.mclkSetup n) s ((((s.taken n d rest).mapPort n (fun p =>
      { p with mclk := f, mclkOn := t.fld 0 87 87 == 1, mclkLock := t.fld 0 86 86 == 1 })).driveMclk n).done n d stSuccess 0)) ∧
  (∀ (s : State) (n : Fin 4) (d : Desc) (rest : List Desc), s.Ready n 0x14 [0] d rest → (s.port n).awaitMap = false →
    (s.run n d).fld 0 87 0 = 0 →
    ((s.port n).armed = none → (s.port n).frame = none →
      let s0 := s.taken n d rest
      Gives (.portStop n) s ((if (s.port n).setup.isSome then s0.clearSetup n else s0).done n d stSuccess 0)) ∧
    (((s.port n).armed.isSome ∨ (s.port n).frame.isSome) →
      Gives (.portStop n) s (((s.taken n d rest).mapPort n (fun p =>
        { p with stopTags := p.stopTags ++ [w0Tag d.w0] })).settleHead n)))

/-- R102 to R107, R116 to R120 (O): a line on a port that is set up. The sequence at an SLVS line's start moves the lock of each lane,
the one at its end once the line is done; while a lane is not locked nothing more happens; once all are, within 32 words of skew, a
pixel line of the open frame is taken. A CSI-2 Frame Start starts a frame, a Frame End marks its end, a Line Start notes the line
number, and a long packet of the port's width is checked and gives its line. R105, R115, R117, R120, R433 (O): a locked lane that times
out unlocks; a FRAME that claims nothing in time completes NO_FRAME with a report of reason 7; a frame whose lines stop closes with
reason 3; the end of a trigger pulse releases the pin and lets a setup that waited take effect; an armed Beacon trigger whose time is
reached acts. -/
def Obligations.SensorEventsComplete : Prop :=
  ((∀ (s : State) (n : Fin 4) (line : SlvsLine) (u : PortSetup), s.Live → (s.port n).setup = some u → u.mode = 0 →
    (s.port n).awaitMap = false → s.isPowered (n.val + 2) = true → s.isFenced (n.val + 2) = false →
    s.unitStalled (0x20 + n) = false →
    let ls := (List.range (if u.gang then 2 * u.lanes else u.lanes)).map (logicalLane u line.lanes)
    let s1 := (s.intake n line.cut).lockLanes n u ls (fun l => hasSequence u l.pre l.code)
    let finish (t : State) : State :=
      if (t.port n).setup = some u then t.lockLanes n u ls (fun l => hasSequence u l.endPre l.endCode) else t
    (ls.all (fun p => (sget LaneSt.empty (s1.port n).lanes p.2).locked) = false → Gives (.slvsLine n line) s (finish s1)) ∧
    (ls.all (fun p => (sget LaneSt.empty (s1.port n).lanes p.2).locked) = true →
      let skews := ls.map (fun p => p.1.skew)
      let skew := skews.foldl max 0 - skews.foldl min (skews.headD 0)
      let s2 := s1.setFld (Reg.spLaneLock n) 31 16 (min skew 65535)
      let s3 := (s2.mapPort n (fun p => { p with aligned := false, lanes := [] })).spLanes n n 0
      (32 < skew → Gives (.slvsLine n line) s
        (finish (((if u.gang then s3.spLanes (n.val + 1) n 16 else s3).spState n 3).fire (80 + n)))) ∧
      (∀ (code e : Nat), skew ≤ 32 → (s2.port n).aligned = true → startCode u ls = some (code, e) → code ≤ 4 → e < u.exposures →
        Gives (.slvsLine n line) s (finish (s2.takeSlvs n u ls line.cut code e))))) ∧
  (∀ (s : State) (n : Fin 4) (u : PortSetup) (ls : List (LaneLine × Nat)) (cut : Bool) (e : Nat) (fr : OpenFrame),
    (s.port n).live = some fr → u.lineCrc = false → ¬(e = 0 ∧ fr.counts.embedded < u.embedded) → endCode u ls = none →
    s.takeSlvs n u ls cut 4 e = (s.tallyLanes n u ls).takeLine n e (interleave (ls.map (·.1.words))) cut none false) ∧
  (∀ (s : State) (n : Fin 4) (u : PortSetup) (vc num e : Nat) (h : CsiHeader), s.Live → s.csiSetup n = some u → h = .ok →
    s.unitStalled (0x20 + n) = false → vcExposure u vc = some e →
    let s1 := if (s.port n).starts e then s.frameStart n else s
    Gives (.csi2ShortPacket n ⟨0, vc, 0x00, num, h⟩) s (s1.mapFrame n (fun fr => { fr with started := fr.started ++ [e] })) ∧
    Gives (.csi2ShortPacket n ⟨0, vc, 0x01, num, h⟩) s (s.endMarker n e u.exposures) ∧
    exec (.csi2ShortPacket n ⟨0, vc, 0x02, num, h⟩) s =
      .next (s.mapPort n (fun p => { p with lineNo := sset 0 p.lineNo e num }))) ∧
  (∀ (s : State) (n : Fin 4) (u : PortSetup) (pkt : Csi2Long) (e : Nat) (fr : OpenFrame), s.Live → s.csiSetup n = some u →
    (u.mode = 1 → pkt.link = 0) → pkt.header = .ok → s.unitStalled (0x20 + n) = false → vcExposure u pkt.vc = some e →
    rawWidth pkt.dt = some u.width →
    let s1 := (s.intake n pkt.cut).tally (0x20 + n) (csiPixels pkt.dt pkt.payload).length
    (s1.port n).live = some fr → Gives (.csi2LongPacket n pkt) s ((s1.csiCheck n pkt).takePacket n u fr e pkt)) ∧
  (∀ (s : State) (n : Fin 4) (u : PortSetup) (pkt : Csi2Long) (e : Nat) (fr : OpenFrame), u.mode = 1 →
    let key := pkt.link.val * 4 + e
    let num := sget 0 (s.port n).lineNo key
    s.takePacket n u fr e pkt = (s.mapPort n (fun p => { p with lineNo := sset 0 p.lineNo key 0 })).takeLine n e
      (csiPixels pkt.dt pkt.payload) pkt.cut (if num = 0 then none else some (num - 1)) false)) ∧
  ((∀ (s : State) (n : Fin 4) (k : Fin 16), s.Live → s.gangPartner n = false →
    (sget LaneSt.empty (s.port n).lanes k).locked = true →
    Gives (.laneLockTimeout n k) s
      (((s.mapPort n (fun p => { p with lanes := sset LaneSt.empty p.lanes k LaneSt.empty })).spLanes n n 0).lockLost n)) ∧
  (∀ (s : State) (n : Fin 4) (cmd : FrameCmd), s.Live → (s.port n).armed = some cmd → cmd.sofTimeout ≠ 0 →
    let s1 := (s.mapPort n (fun p => { p with armed := none, orphans := 0 })).setFld (Reg.spStatus n) 24 24 0
    let frames := (s1.reg (Reg.spFrames n)).toNat
    let report := frameReport frames 0 s.bcn.ns.toNat (s.epoch (n.val + 2)).toNat spNoFrame 7 0 0xFFFF (s1.port n).xtrigTime
      { FrameCounts.zero with orphans := (s.port n).orphans }
    Gives (.sofTimeout n) s ((((s1.unitStore (0x20 + n) cmd.report report).complete n cmd.tag spNoFrame
      (BitVec.ofNat 64 (frames * 2 ^ 32 + 0xFFFF))).fire 90).stopEnds n)) ∧
  (∀ (s : State) (n : Fin 4), s.Live → Gives (.lineTimeout n) s (s.closeFrame n 3)) ∧
  (∀ (s : State) (n : Fin 4) (x : Xtrig), s.Live → (s.port n).pulse = true →
    ((s.port n).xtrig = some x → (s.port n).xtrigNext = none →
      exec (.xtrigPulseEnd n) s = .next ((s.setPort n { s.port n with pulse := false }).emit (.pin (.xtrig n) x.low))) ∧
    ((s.port n).xtrigNext = some x → exec (.xtrigPulseEnd n) s =
      .next ((s.setPort n { s.port n with pulse := false, xtrig := some x, xtrigNext := none }).emit (.pin (.xtrig n) x.low)))) ∧
  (∀ (s : State) (n : Fin 16), s.Live → (s.trig n).st = .armed → reached s.bcn.ns (s.trig n).time = true →
    Gives (.beaconTriggerAct n) s (s.trigAct n false)))

/-! The raw front end and the colour engine (spec/04_raw_front_end.md, spec/05_colour_engine.md). -/

/-- R152 to R164 (O): an RFE_FRAME that passes its checks opens a frame from memory at once or waits, armed, for the frame of its
port; a table load writes the words it names, the last data register writes one word; a fetched line set of the memory source
waits in the slot. -/
def Obligations.FrontEndCommandsComplete : Prop :=
  (∀ (s : State) (x : Fin 2) (d : Desc) (rest : List Desc) (c : RfeCmd), s.Ready (4 + x.val) 0x10 [2, 3] d rest →
    let t := s.run (4 + x.val) d
    let sl := t.fld 0 87 87
    let s0 := s.taken (4 + x.val) d rest
    (s.rfeSlot x sl).armed = none → (t.fld 0 86 86 = 1 → (s.rfeSlot x sl).frame = none) → s0.rfeParse x t = .ok c →
    let s1 := s0.meet (t.fld 1 127 80) 96
    (c.memory = true → Gives (.rfeFrame x) s
      ((s1.rfeOpen x sl c c.w c.h c.exposures c.width 0 s.bcn.ns.toNat false).settleHead (4 + x.val))) ∧
    (c.memory = false → Gives (.rfeFrame x) s
      (((s1.mapRfeSlot x sl (fun r => { r with armed := some c })).rfeShow x sl).settleHead (4 + x.val)))) ∧
  (∀ (s : State) (x : Fin 2) (d : Desc) (rest : List Desc), s.Ready (4 + x.val) 0x11 [0] d rest →
    let t := s.run (4 + x.val) d
    let tab := t.fld 0 87 86
    let sl := t.fld 0 85 85
    let b := t.fld 0 84 84
    let first := t.fld 0 83 70
    let count := t.fld 0 69 56 + 1
    let src := t.fld 0 55 8
    let s0 := s.taken (4 + x.val) d rest
    tab ≠ 3 → t.fld 0 7 0 = 0 → t.fld 0 11 8 = 0 → first + count ≤ rfeTblSize tab → inMemory s.variant src (16 * count) = true →
    s0.rfeInUse x sl tab b = false →
    let s1 := s0.meet src (16 * count)
    (s1.poisonedAt src (16 * count) = false → Gives (.rfeTableLoad x) s (((List.range count).foldl
      (fun s i => s.setTbl (0x24 + x) (4 * sl + tab) b (first + i) (s.quadAt (src + 16 * i))) s1).done (4 + x.val) d stSuccess
        (BitVec.ofNat 64 count))) ∧
    (s1.poisonedAt src (16 * count) = true → Gives (.rfeTableLoad x) s (s1.done (4 + x.val) d stPoisoned 0))) ∧
  (∀ (s : State) (m : Master) (x : Fin 2) (v : Word), s.Open m (Reg.rfeTblData x 3) →
    let a := s.reg (Reg.rfeTblAddr x)
    let tab := bitsOf a 31 30
    let s1 := s.setReg (Reg.rfeTblData x 0 + 12) v
    let lane (i : Nat) : Nat := (s1.reg (Reg.rfeTblData x 0 + 4 * i)).toNat * 2 ^ (32 * i)
    bitsOf a 13 0 < rfeTblSize tab → s.rfeInUse x (bitsOf a 29 29) tab (bitsOf a 28 28) = false →
    Gives (.rfeTblData3Write m x v) s ((s1.setTbl (0x24 + x) (4 * bitsOf a 29 29 + tab) (bitsOf a 28 28) (bitsOf a 13 0)
      (BitVec.ofNat 128 (lane 0 + lane 1 + lane 2 + lane 3))).setFld (Reg.rfeTblAddr x) 13 0 (bitsOf a 13 0 + 1))) ∧
  (∀ (s : State) (x sl : Fin 2) (f : RfeOpen), s.Live → (s.rfeSlot x sl).frame = some f → s.rfeRuns x = true →
    f.cmd.memory = true → (s.rfeSlot x sl).fetched < f.h →
    let y := (s.rfeSlot x sl).fetched
    let line (k : Nat) : Nat := f.cmd.srcAddr + (y * f.exposures + k) * f.cmd.srcStride * 64
    (∀ k, k < f.exposures → s.rangeThere (line k) (2 * f.w) = true) →
    Gives (.rfeMemoryLineFetch x sl) s
      (((List.range f.exposures).foldl (fun s k => s.meet (line k) (2 * f.w)) s).setRfeSlot x sl { s.rfeSlot x sl with
        feed := (s.rfeSlot x sl).feed ++ ([.set y ((List.range f.exposures).map (fun k => s.samplesAt (line k) f.w))] ++
          (if y + 1 = f.h then [.finish false] else []))
        fetched := y + 1 }))

/-- R124, R135, R153 to R155, R157 (O): the arbitration's slot takes its line set, from its port's slots in Comb or from its memory
source, a residue error of a stage is reported; the start
of a frame opens it on an armed slot and counts it unclaimed otherwise; its end closes it. -/
def Obligations.FrontEndFramesComplete : Prop :=
  (∀ (s : State) (x : Fin 2) (sl : Nat) (a : Arb) (f : RfeOpen) (residue : Bool), s.Live →
    s.rfeRuns x = true → s.rfeArbitrate x = some (sl, a) → (s.rfeSlot x sl).frame = some f →
    let s1 : State := { s with arbs := sset Arb.empty s.arbs x a }
    let noted (t : State) : State := if residue then (t.report (0x24 + x) 0 0x08 0).fire 108 else t
    (∀ y slots k, f.cmd.memory = false → s1.rfeHead x sl = some (.held y slots k) →
      Gives (.rfeLineSet x residue) s (noted (((slots.foldl (fun s a => s.meet a (2 * k)) s1).rfePop x sl).rfeTake x sl f
        (slots.map (fun a => s1.samplesAt a k))))) ∧
    (∀ y exps rest, f.cmd.memory = true → (s.rfeSlot x sl).feed = .set y exps :: rest →
      (f.cmd.toClr = true → s1.clrAccepts x sl = true) →
      Gives (.rfeLineSet x residue) s (noted ((s1.setRfeSlot x sl { s.rfeSlot x sl with feed := rest }).rfeTake x sl f exps)))) ∧
  (∀ (s : State) (x sl : Fin 2) (w h e width number sof : Nat) (split : Bool), s.Live → s.rfeRuns x = true →
    s.rfeHead x sl = some (.start w h e width number sof split) →
    (∀ c, (s.rfeSlot x sl).armed = some c → (s.rfeSlot x sl).frame = none →
      Gives (.rfeFrameStartMark x sl) s ((s.rfePop x sl).rfeOpen x sl c w h e width number sof split)) ∧
    ((s.rfeSlot x sl).armed = none ∨ (s.rfeSlot x sl).frame ≠ none → Gives (.rfeFrameStartMark x sl) s
      ((((s.rfePop x sl).mapRfeSlot x sl (fun r => { r with unclaimed := true })).bump (Reg.rfeUnclaimed x) 15 0 1).fire (100 + x)))) ∧
  (∀ (s : State) (x sl : Fin 2) (f : RfeOpen) (dropped : Bool), s.Live → s.rfeRuns x = true → (s.rfeSlot x sl).frame = some f →
    f.cmd.memory = false → (s.rfeSlot x sl).unclaimed = false → s.rfeHead x sl = some (.finish dropped) →
    Gives (.rfeFrameEndMark x sl) s ((s.rfePop x sl).rfeClose x sl (if dropped then rfeInputDropped else stSuccess))) ∧
  (∀ (s : State) (x sl : Fin 2) (f : RfeOpen) (b : Bool) (rest : List BufItem), s.Live → s.rfeRuns x = true →
    (s.rfeSlot x sl).frame = some f → f.cmd.memory = true → (s.rfeSlot x sl).feed = .finish b :: rest →
    Gives (.rfeFrameEndMark x sl) s (s.rfeClose x sl stSuccess))


/-- R187 to R202 (O): a CLR_FRAME that passes its checks is armed; a table load and the last data register write the tables; the
start of a frame opens it on an armed slot that it fits and is counted unclaimed else; a line is balanced and goes through the engine; the end finishes the
frame; room in a ring lets a waiting frame go on; a long wait is counted once. -/
def Obligations.ColourEngineCommandsComplete : Prop :=
  (∀ (s : State) (x : Fin 2) (d : Desc) (rest : List Desc) (c : ClrCmd), s.Ready (6 + x.val) 0x10 [1] d rest →
    let t := s.run (6 + x.val) d
    let sl := t.fld 0 87 87
    let s0 := s.taken (6 + x.val) d rest
    (s.clrSlot x sl).armed = none → s0.clrParse t = .ok c →
    Gives (.clrFrame x) s
      ((((s0.meet (t.fld 1 127 80) 448).mapClrSlot x sl (fun r => { r with armed := some c })).clrShow x sl).settleHead
        (6 + x.val))) ∧
  (∀ (s : State) (x : Fin 2) (d : Desc) (rest : List Desc), s.Ready (6 + x.val) 0x11 [0] d rest →
    let t := s.run (6 + x.val) d
    let id := t.fld 0 87 84
    let b := t.fld 0 83 83
    let first := t.fld 0 82 65
    let count := t.fld 0 64 47 + 1
    let src := t.fld 0 46 3 * 16
    let s0 := s.taken (6 + x.val) d rest
    id % 4 ≠ 3 → t.fld 0 2 0 = 0 → first + count ≤ clrTblSize (id % 4) → inMemory s.variant src (16 * count) = true →
    s0.clrInUse x (id / 4) (id % 4) b = false →
    let s1 := s0.meet src (16 * count)
    (s1.poisonedAt src (16 * count) = false → Gives (.clrTableLoad x) s (((List.range count).foldl
      (fun s i => s.setTbl (0x26 + x) id b (first + i) (s.quadAt (src + 16 * i))) s1).done (6 + x.val) d stSuccess
        (BitVec.ofNat 64 count))) ∧
    (s1.poisonedAt src (16 * count) = true → Gives (.clrTableLoad x) s (s1.done (6 + x.val) d stPoisoned 0))) ∧
  (∀ (s : State) (m : Master) (x : Fin 2) (v : Word), s.Open m (Reg.clrTblData x 3) →
    let a := s.reg (Reg.clrTblAddr x)
    let id := bitsOf a 31 28
    let s1 := s.setReg (Reg.clrTblData x 0 + 12) v
    let lane (i : Nat) : Nat := (s1.reg (Reg.clrTblData x 0 + 4 * i)).toNat * 2 ^ (32 * i)
    bitsOf a 17 0 < clrTblSize (id % 4) → s.clrInUse x (id / 4) (id % 4) (bitsOf a 27 27) = false →
    Gives (.clrTblData3Write m x v) s ((s1.setTbl (0x26 + x) id (bitsOf a 27 27) (bitsOf a 17 0)
      (BitVec.ofNat 128 (lane 0 + lane 1 + lane 2 + lane 3))).setFld (Reg.clrTblAddr x) 17 0 (bitsOf a 17 0 + 1))) ∧
  (∀ (s : State) (x sl : Fin 2) (w h first ownFirst ownCols port : Nat) (split : Bool), s.Live → s.clrRuns x = true →
    s.clrWaits x sl = false → s.clrHead x sl = some (.start w h first ownFirst ownCols split port) →
    (∀ c, (s.clrSlot x sl).armed = some c → (s.clrSlot x sl).frame = none → (s.clrPop x sl).clrFits c w h split = 0 →
      Gives (.clrFrameStartMark x sl) s ((s.clrPop x sl).clrOpen x sl c w h first ownFirst ownCols split port)) ∧
    ((s.clrSlot x sl).armed = none ∨ (s.clrSlot x sl).frame ≠ none →
      Gives (.clrFrameStartMark x sl) s ((s.clrPop x sl).clrUnclaimed x sl split port))) ∧
  (∀ (s : State) (x sl : Fin 2) (f : ClrOpen), s.Live → s.clrRuns x = true → s.clrWaits x sl = false →
    (s.clrSlot x sl).frame = some f →
    (s.clrHead x sl = some (.finish true) →
      Gives (.clrFrameEndMark x sl) s ((s.clrPop x sl).clrClose x sl f clrInputDropped)) ∧
    (s.clrHead x sl = some (.finish false) →
      Gives (.clrFrameEndMark x sl) s ((s.clrPop x sl).clrGo x sl { f with ended := true }))) ∧
  (∀ (s : State) (x sl : Fin 2) (y : Nat) (row : List Smp) (rest : List (Nat × ClrItem)) (f : ClrOpen), s.Live →
    s.clrRuns x = true → s.clrWaits x sl = false → s.clrQueue x = (sl.val, .line y row) :: rest →
    (s.clrSlot x sl).frame = some f →
    let bal := row.zipIdx.map (fun p =>
      let g : Int := (f.cmd.wb.getD (cfaPhase f.cmd.cfa (f.first + p.2) y) 0 : Nat)
      { p.1 with v := clampS (ashr (p.1.v * g + 2048) 12) })
    let s1 := ((s.clrPop x sl).tally (0x26 + x) row.length).clrGo x sl { f with taken := y + 1, win := f.win ++ [(y, bal)] }
    Gives (.clrLine x false) s s1 ∧ Gives (.clrLine x true) s ((s1.report (0x26 + x) 0 0x08 0).fire 118)) ∧
  (∀ (s : State) (x sl : Fin 2) (f : ClrOpen), s.Live → s.clrRuns x = true → (s.clrSlot x sl).frame = some f → f.waiting = true →
    Gives (.clrRingRoom x sl) s (s.clrGo x sl f)) ∧
  (∀ (s : State) (x sl : Fin 2), s.Live → s.clrWaits x sl = true → (s.clrSlot x sl).threshMade = false →
    s.fld (Reg.clrRingThresh x) 15 0 ≠ 0 →
    Gives (.clrRingWaitThreshold x sl) s
      (((s.setClrSlot x sl { s.clrSlot x sl with threshMade := true }).bump (Reg.clrRingThresh x) 31 16 1).fire 119))

/-! The compositor and the wall output (spec/06_compositor.md, spec/07_wall_output.md). -/

/-- R225 to R238 (O): a CMP_WRITEBACK that passes its checks on a running output is armed, a CMP_REPORT too; a CMP_COMPOSE on
an output that does not run ends what stands there and begins a frame in memory; a table load and the last data register write
the tables; a line is composed once every layer has its pixels, and at the late threshold without those that lack them. -/
def Obligations.CompositorCommandsComplete : Prop :=
  (∀ (s : State) (d : Desc) (rest : List Desc), s.Ready 8 0x10 [2] d rest →
    let t := s.run 8 d
    let o := t.fld 0 87 87
    let s0 := s.taken 8 d rest
    (s.cmpOut o).wbArmed = none → s.wbCheck t false = none → s.genRuns o = true →
    Gives .cmpWriteback s ((s0.mapCmpOut o (fun c => { c with wbArmed := some (wbCmdOf t) })).settleHead 8)) ∧
  (∀ (s : State) (d : Desc) (rest : List Desc), s.Ready 8 0x12 [2] d rest →
    let t := s.run 8 d
    let o := t.fld 0 87 87
    s.wbCheck t true = none → s.genRuns o = false → (s.cmpOut o).wbOpen = none →
    (∀ f, (s.cmpOut o).frame = some f → f.memory = false) →
    let s1 := ((s.taken 8 d rest).cmpEnd o).mapCmpOut o (fun c =>
      { c with wbOpen := some ⟨wbCmdOf t, (s.reg (Reg.cmpFrames o)).toNat, [], 0, []⟩ })
    Gives .cmpCompose s ((s1.cmpBegin o true (t.fld 0 63 48) (t.fld 0 47 32) 0 0).settleHead 8)) ∧
  (∀ (s : State) (d : Desc) (rest : List Desc), s.Ready 8 0x13 [1] d rest →
    let t := s.run 8 d
    let o := t.fld 0 87 87
    let addr := t.fld 1 127 80
    (s.cmpOut o).repArmed = none → outputAbsent s.variant o = false → t.zeros [(0, 86, 0), (1, 79, 0)] = true →
    addr % 64 = 0 → s.genRuns o = true → inMemory s.variant addr 64 = true →
    Gives .cmpReport s
      (((s.taken 8 d rest).mapCmpOut o (fun c => { c with repArmed := some (w0Tag d.w0, addr) })).settleHead 8)) ∧
  (∀ (s : State) (d : Desc) (rest : List Desc), s.Ready 8 0x11 [0] d rest →
    let t := s.run 8 d
    let id := t.fld 0 87 83
    let b := t.fld 0 82 82
    let first := t.fld 0 81 64
    let count := t.fld 0 63 46 + 1
    let src := t.fld 0 45 2 * 16
    let s0 := s.taken 8 d rest
    id < 18 → t.fld 0 1 0 = 0 → first + count ≤ cmpTblSize id → inMemory s.variant src (16 * count) = true →
    s0.cmpInUse id b = false →
    let s1 := s0.meet src (16 * count)
    (s1.poisonedAt src (16 * count) = false → Gives .cmpTableLoad s (((List.range count).foldl
      (fun s i => s.setTbl 0x2A id b (first + i) (s.quadAt (src + 16 * i))) s1).done 8 d stSuccess (BitVec.ofNat 64 count))) ∧
    (s1.poisonedAt src (16 * count) = true → Gives .cmpTableLoad s (s1.done 8 d stPoisoned 0))) ∧
  (∀ (s : State) (m : Master) (v : Word), s.Open m (Reg.cmpTblData 3) →
    let a := s.reg Reg.cmpTblAddr
    let id := bitsOf a 31 27
    let b := bitsOf a 26 26
    let s1 := s.setReg (Reg.cmpTblData 0 + 12) v
    let lane (i : Nat) : Nat := (s1.reg (Reg.cmpTblData 0 + 4 * i)).toNat * 2 ^ (32 * i)
    id < 18 → bitsOf a 10 0 < cmpTblSize id → s.cmpInUse id b = false →
    Gives (.cmpTblData3Write m v) s ((s1.setTbl 0x2A id b (bitsOf a 10 0)
      (BitVec.ofNat 128 (lane 0 + lane 1 + lane 2 + lane 3))).setFld Reg.cmpTblAddr 10 0 (bitsOf a 10 0 + 1))) ∧
  (∀ (s : State) (o : Fin 2) (f : CmpFrame) (residue full : Bool), s.Live → s.cmpDueFrame o = some f →
    (s.ringsFor f f.line).2 = [] →
    (f.memory && full) = false → Gives (.cmpLineCompose o residue full) s ((s.ringsFor f f.line).1.cmpLine o f [] residue full)) ∧
  (∀ (s : State) (o : Fin 2) (f : CmpFrame) (missing : BitVec 16) (residue full : Bool), s.Live → s.cmpDueFrame o = some f →
    f.memory = false →
    let lacking := (s.ringsFor f f.line).2 ++ (List.range 16).filter (fun l => missing.getLsbD l)
    Gives (.cmpLateThreshold o ⟨missing, residue, full⟩) s ((s.ringsFor f f.line).1.cmpLine o f lacking residue full))

/-- R247, R254 to R259, R264, R271, R272 (O): a MAP_LOAD whose entries pass every check stores them, makes the bank valid with
its count and each lane's load; a CAL_LOAD stores its entries; START begins on a generator that is off or held; HOLD is asked
of one that runs; a WLO_REPORT of a running generator is armed. -/
def Obligations.WallDescriptorsComplete : Prop :=
  (∀ (s : State) (g : Fin 2) (d : Desc) (rest : List Desc), s.Ready (9 + g.val) 0x10 [0] d rest →
    let t := s.run (9 + g.val) d
    let b := t.fld 0 87 87
    let count := t.fld 0 86 71 + 1
    let src := t.fld 0 70 27 * 16
    let s0 := s.taken (9 + g.val) d rest
    let r := s0.meet src (16 * count)
    let es := (List.range count).map (fun i => decodeTile (r.quadAt (src + 16 * i)))
    t.fld 0 26 0 = 0 → inMemory s.variant src (16 * count) = true → s0.wallBankInUse 26 b = false →
    r.poisonedAt src (16 * count) = false →
    (mapFirstBad s.variant [] es = none →
      let s1 := (r.store (mapBase b) (r.bytes src (16 * count))).setReg (Reg.wloShMap b) (BitVec.ofNat 32 (2 ^ 31 + count))
      let s2 := (List.range 24).foldl (fun s l => s.setFld (Reg.wloShLoad b l) 23 0 (min (laneLoad es l) (2 ^ 24 - 1))) s1
      Gives (.mapLoad g) s (((s2.complete (9 + g.val) (w0Tag d.w0) stSuccess
        (BitVec.ofNat 64 (count * 2 ^ 32 + 0xFFFFFFFF))).fire 149).settleHead (9 + g.val))) ∧
    (∀ i, mapFirstBad s.variant [] es = some i →
      Gives (.mapLoad g) s (((r.store (mapBase b) (r.bytes src (16 * i))).setReg (Reg.wloShMap b) 0).done (9 + g.val) d
        wloMapInvalid (BitVec.ofNat 64 (i * 2 ^ 32 + i))))) ∧
  (∀ (s : State) (g : Fin 2) (d : Desc) (rest : List Desc), s.Ready (9 + g.val) 0x11 [0] d rest →
    let t := s.run (9 + g.val) d
    let b := t.fld 0 87 87
    let first := t.fld 0 86 73
    let count := t.fld 0 72 59 + 1
    let src := t.fld 0 58 15 * 16
    let s0 := s.taken (9 + g.val) d rest
    t.fld 0 14 0 = 0 → first + count ≤ 16384 → inMemory s.variant src (32 * count) = true → s0.wallBankInUse 25 b = false →
    let r := s0.meet src (32 * count)
    r.poisonedAt src (32 * count) = false →
    Gives (.calLoad g) s ((r.store (calBase b + 32 * first) (r.bytes src (32 * count))).done (9 + g.val) d stSuccess
      (BitVec.ofNat 64 count))) ∧
  (∀ (s : State) (g : Fin 2) (d : Desc) (rest : List Desc), s.Ready (9 + g.val) 0x12 [0] d rest →
    (s.gen g).startWait = none → (s.run (9 + g.val) d).fld 0 87 0 = 0 → ¬(s.locked = true ∧ g.val = 1) →
    let s0 := s.taken (9 + g.val) d rest
    let w : GenWait := ⟨9 + g.val, w0Tag d.w0⟩
    (s.genState g = 4 ∨ (1 ≤ s.genState g ∧ s.genState g ≤ 3 ∧ (s.gen g).holdAsked = true) → Gives (.start g) s ((s0.mapGen g (fun x => { x with startWait := some w })).settleHead (9 + g.val))) ∧
    (1 ≤ s.genState g → s.genState g ≤ 3 → (s.gen g).holdAsked = false →
      Gives (.start g) s (s0.done (9 + g.val) d wloAlreadyRunning 0)) ∧
    ((s.genState g = 0 ∨ s.genState g = 5) → Gives (.start g) s ((s0.beginStart g w).settleHead (9 + g.val)))) ∧
  (∀ (s : State) (g : Fin 2) (d : Desc) (rest : List Desc), s.Ready (9 + g.val) 0x13 [0] d rest →
    (s.run (9 + g.val) d).fld 0 71 0 = 0 → ¬(s.locked = true ∧ g.val = 1) → 1 ≤ s.genState g → s.genState g ≤ 3 →
    (s.gen g).holdAsked = false →
    Gives (.hold g) s (((s.taken (9 + g.val) d rest).askHold g [⟨9 + g.val, w0Tag d.w0⟩]).settleHead (9 + g.val))) ∧
  (∀ (s : State) (g : Fin 2) (d : Desc) (rest : List Desc), s.Ready (9 + g.val) 0x14 [1] d rest →
    let t := s.run (9 + g.val) d
    let addr := t.fld 1 127 80
    (s.gen g).repArmed = [] → t.zeros [(0, 87, 0), (1, 79, 0)] = true → addr % 64 = 0 → s.genRuns g = true →
    inMemory s.variant addr 64 = true →
    Gives (.wloReport g) s (((s.taken (9 + g.val) d rest).mapGen g (fun x =>
      { x with repArmed := [(w0Tag d.w0, addr)] })).settleHead (9 + g.val)))

/-- R242, R245 to R252, R264, R268 (O): at a latch point with no set due the generator's next frame follows on its grid; a Hold
begins there when one was asked; a restart retimes the generator and begins its raster; a frame instant starts the scan-out, a
line is scanned out; a pulse of the reference lands on the grid, and a lost reference is marked once. R264, R267, R272, R304 (O): the hold timeout ends a Hold whose tiles did not all report; a tile's report of a Hold or of a
Daymark is entered in the lane's status table, or dropped with its FIFO full; the deadline of the oldest frame counts the
receivers that never reported and closes its record. -/
def Obligations.GeneratorsAndWallReportsComplete : Prop :=
  ((∀ (s : State) (g : Fin 2), s.Live → s.atLatch g = true →
    ((s.gen g).holdAsked = true → Gives (.wloLatchPoint g) s (s.latchHold g)) ∧
    ((s.gen g).holdAsked = false → Gives (.wloLatchPoint g) s (s.latchRun g)) ∧
    (let r := ((s.stepFrames (s.pairOf g)).dropPrepared (s.pairOf g)).dueSets (s.pairOf g) false
     (s.gen g).holdAsked = false → r.1 = [] → (s.gen g).reland = false →
      Gives (.wloLatchPoint g) s (r.2.2.latchOn (s.pairOf g) (s.activeSet g).period none))) ∧
  (∀ (s : State) (g : Fin 2), s.Live → s.genHere g = true → (s.gen g).phase = 1 → (s.genState g = 1 ∨ s.genState g = 3) →
    Gives (.generatorRetimed g) s ((s.pairOf g).foldl (fun s k => s.mapGen k (fun x => { x with phase := 2 })) s)) ∧
  (∀ (s : State) (g : Fin 2), s.Live → s.genHere g = true → ¬(s.locked = true ∧ g.val = 1) → (s.gen g).phase = 2 →
    (s.genState g = 1 → Gives (.rasterRestart g) s
      (((s.pairOf g).foldl State.beginBlank ((((s.stepFrames (s.pairOf g)).dropPrepared (s.pairOf g)).latchOutputs
        (s.pairOf g) none).claimFrames (s.pairOf g))).startOutputs (s.pairOf g))) ∧
    (s.genState g = 3 →
      Gives (.rasterRestart g) s (((s.pairOf g).foldl State.beginBlank s).startOutputs (s.pairOf g)))) ∧
  (∀ (s : State) (g : Fin 2) (actual : Nat), s.Live → s.genHere g = true → ¬(s.locked = true ∧ g.val = 1) →
    (s.gen g).phase = 3 →
    Gives (.frameInstant g actual) s ((s.pairOf g).foldl (fun s k => s.instantOf k ((s.pairOf g).headD 0) actual) s)) ∧
  (∀ (s : State) (g : Fin 2) (missing : List (Nat × Nat)) (residue : Bool), s.Live → s.scanDue g = true →
    Gives (.wloLineScan g missing residue) s (s.scanLine g missing residue)) ∧
  (∀ (s : State) (stamp : Nat), s.Live → s.genHere 0 = true → s.genRuns 0 = true → (s.activeSet 0).frameRef = 1 →
    (s.activeSet 1).frameRef = 0 →
    let t := s.activeSet 0
    let x := s.gen 0
    let grid := ((stamp : Int) + signed 32 (t.getD 9 0).toNat).toNat * 65536
    let lands : Gen := { x with
      lastPulse := some stamp, pulseRun := min 2 (x.pulseRun + 1), grid := grid,
      nextInstant := if x.phase = 3 then nearGrid grid t.period x.nextInstant else x.nextInstant }
    let shown (s : State) : State := if 1 ≤ x.pulseRun then s.setFld (Reg.wloStatus 0) 25 25 0 else s
    let near (p : Nat) : Prop := ((stamp : Int) - (p + t.frefDiv * t.period / 65536 : Nat)).natAbs * 1000 ≤
      t.frefDiv * t.period / 65536
    (x.lastPulse = none → 4 * gridGap t.period grid x.grid ≤ t.period → Gives (.frefEdge stamp) s (shown (s.setGen 0 lands))) ∧
    (x.lastPulse = none → t.period < 4 * gridGap t.period grid x.grid → Gives (.frefEdge stamp) s
      (shown (s.setGen 0 { x with lastPulse := some stamp, pulseRun := min 2 (x.pulseRun + 1) }))) ∧
    (∀ p, x.lastPulse = some p → near p → Gives (.frefEdge stamp) s (shown (s.setGen 0 lands))) ∧
    (∀ p, x.lastPulse = some p → ¬near p →
      Gives (.frefEdge stamp) s (s.setGen 0 { x with lastPulse := some stamp, pulseRun := 0 }))) ∧
  (∀ (s : State) (g : Fin 2), s.Live → s.genHere g = true → s.genRuns g = true → (s.activeSet g).frameRef = 1 →
    s.fld (Reg.wloStatus g) 25 25 = 0 →
    Gives (.frefLostTimeout g) s
      (((s.mapGen g (fun x => { x with pulseRun := 0 })).setFld (Reg.wloStatus g) 25 25 1).fire 147))) ∧
  ((∀ (s : State) (g : Fin 2), s.Live → s.genHere g = true → ¬(s.locked = true ∧ g.val = 1) → s.genState g = 4 →
    (s.gen g).holdAsked = false → Gives (.holdAckTimeout g) s (s.holdEnds (s.pairOf g))) ∧
  (∀ (s : State) (l : Fin 24) (f : BitVec 56), s.Live → s.reportsIn l = true →
    Gives (.tileHeldReport l f true) s (s.dropReport l) ∧ Gives (.tileDaymarkReport l f true) s (s.dropReport l)) ∧
  (∀ (s : State) (l : Fin 24) (f : BitVec 56), s.Live → s.reportsIn l = true → (∀ g, g < 2 → s.genState g ≤ 2) →
    Gives (.tileHeldReport l f false) s (s.statusEntry l (nbits f.toNat 7 0) [(31, 16, nbits f.toNat 23 8)])) ∧
  (∀ (s : State) (l : Fin 24) (f : BitVec 56), s.Live → s.reportsIn l = true → (∀ g, g < 2 → (s.gen g).recs = []) →
    Gives (.tileDaymarkReport l f false) s (s.statusEntry l (nbits f.toNat 7 0)
      [(79, 64, nbits f.toNat 23 8), (63, 32, nbits f.toNat 55 24)])) ∧
  (∀ (s : State) (l : Fin 24) (f : BitVec 56) (g : Fin 2), s.Live → s.reportsIn l = true → s.locked = false → s.genState g = 4 →
    s.genState (1 - g.val) ≤ 2 → (s.gen g).holdAsked = false →
    let key := l.val * 256 + nbits f.toNat 7 0
    let s1 := s.statusEntry l (nbits f.toNat 7 0) [(31, 16, nbits f.toNat 23 8)]
    s1.receiversOf g = [key] → (s.gen g).heldFrom = [] →
    Gives (.tileHeldReport l f false) s ((s1.setGen g { s.gen g with heldFrom := [key] }).holdEnds [g.val])) ∧
  (∀ (s : State) (l : Fin 24) (f : BitVec 56) (r : WallRec), s.Live → s.reportsIn l = true → (s.gen 0).recs = [r] →
    (s.gen 1).recs = [] →
    let key := l.val * 256 + nbits f.toNat 7 0
    let mark := nbits f.toNat 55 24
    r.number % 65536 = nbits f.toNat 23 8 → r.receivers.contains key = true → r.reported.contains key = false →
    let s1 := s.statusEntry l (nbits f.toNat 7 0) [(79, 64, nbits f.toNat 23 8), (63, 32, mark)]
    let crc := sget 0xFFFFFFFF r.marks key ^^^ 0xFFFFFFFF
    (crc = mark → Gives (.tileDaymarkReport l f false) s
      (s1.mapGen 0 (fun x => { x with recs := [{ r with reported := r.reported ++ [key] }] }))) ∧
    (crc ≠ mark → Gives (.tileDaymarkReport l f false) s
      ((((s1.mapGen 0 (fun x => { x with recs := [{ r with reported := r.reported ++ [key], mismatch := r.mismatch + 1 }] })).bump
        (Reg.wloDaymark 0) 31 16 1).report 0x2C 0 0x0B key).fire 144))) ∧
  (∀ (s : State) (g : Fin 2) (r : WallRec) (rest : List WallRec), s.Live → (s.gen g).recs = r :: rest → s.genHere g = true →
    s.genRuns g = false →
    let missing := r.receivers.filter (fun k => !r.reported.contains k)
    let s1 := (s.mapGen g (fun x => { x with recs := rest })).bump (Reg.wloDaymark g) 15 0 missing.length
    let s2 := missing.foldl (fun s k => s.report (0x2C + g) 0 0x0B k) s1
    let s3 := if missing.isEmpty then s2 else s2.fire 144
    Gives (.daymarkDeadline g) s (s3.closeRec g { r with missing := missing.length })))

/-! The lane complex and the tile link (spec/08_lanes_tile_link.md). -/

/-- R281, R286, R295, R306, R307 (O): a LANE_SETUP that passes its checks sets the lane up; ENUMERATE, TILE_WRITE and TILE_READ
enter the lane's management queue, TILE_WRITE complete at once; an EYE_SCAN runs until it is done, writes its counts, and answers
the opening's width and height; at most eight queued commands leave in one control group. -/
def Obligations.LaneDescriptorsComplete : Prop :=
  (∀ (s : State) (d : Desc) (rest : List Desc), s.Ready 11 0x10 [0] d rest →
    let t := s.run 11 d
    let l := t.fld 0 87 83
    let mode := t.fld 0 82 81
    let guard := t.fld 0 80 80 == 1
    let s0 := s.taken 11 d rest
    wallAbsent s.variant l = false → mode ≠ 3 → t.fld 0 72 68 < 24 → t.fld 0 48 0 = 0 → ¬(mode = 2 ∧ guard = true) →
    s0.laneInUse l = false → (guard = true → s.fld Reg.kprStatus 19 19 ≠ 0) →
    Gives .laneSetup s (((s0.setUpLane t l mode guard).laneKeyLost [l]).done 11 d stSuccess 0)) ∧
  (∀ (s : State) (d : Desc) (rest : List Desc), s.Ready 11 0x11 [1] d rest →
    let t := s.run 11 d
    let l := t.fld 0 87 83
    let dest := t.fld 1 127 80
    let s0 := s.taken 11 d rest
    wallAbsent s.variant l = false → t.zeros [(0, 66, 0), (1, 79, 0)] = true → dest % 64 = 0 → s.laneUp l = true →
    s.mgmtRoom l = true → inMemory s.variant dest 2048 = true →
    Gives .enumerate s ((((s0.unitStore 0x30 dest (List.replicate 2048 0)).mgmtPut l (.block 0xAA 0)).mapLane l (fun w =>
      { w with enums := w.enums ++ [(w0Tag d.w0, dest, [])] })).settleHead 11)) ∧
  (∀ (s : State) (d : Desc) (rest : List Desc), s.Ready 11 0x12 [0] d rest →
    let t := s.run 11 d
    let l := t.fld 0 87 83
    let s0 := s.taken 11 d rest
    wallAbsent s.variant l = false → t.fld 0 26 0 = 0 → s.laneUp l = true → s.mgmtRoom l = true →
    Gives .tileWrite s ((s0.mgmtPut l (.block 0xB4
      (t.fld 0 58 27 * 2 ^ 24 + t.fld 0 73 59 * 2 ^ 9 + t.fld 0 74 74 * 2 ^ 8 + t.fld 0 82 75))).done 11 d stSuccess 0)) ∧
  (∀ (s : State) (d : Desc) (rest : List Desc), s.Ready 11 0x13 [0] d rest →
    let t := s.run 11 d
    let l := t.fld 0 87 83
    let pos := t.fld 0 82 75
    let reg := t.fld 0 74 60
    let s0 := s.taken 11 d rest
    wallAbsent s.variant l = false → t.fld 0 43 0 = 0 → s.laneUp l = true → s.mgmtRoom l = true →
    Gives .tileRead s (((s0.mgmtPut l (.block 0xCC ((w0Tag d.w0 % 256) * 2 ^ 23 + reg * 2 ^ 8 + pos))).mapLane l (fun w =>
      { w with reads := w.reads ++ [(w0Tag d.w0, pos, reg)] })).settleHead 11)) ∧
  (∀ (s : State) (d : Desc) (rest : List Desc), s.Ready 11 0x14 [1] d rest →
    let t := s.run 11 d
    let n := t.fld 0 87 82
    let dest := t.fld 1 127 80
    let s0 := s.taken 11 d rest
    n < 52 → laneAbsent s.variant n = false → t.fld 0 81 78 ≤ 10 → t.zeros [(0, 77, 0), (1, 79, 0)] = true → dest % 64 = 0 →
    s.isPowered (quadDomain (n / 4)) = true → inMemory s.variant dest 16256 = true →
    Gives .eyeScan s (({ s0 with eyeScans := s0.eyeScans ++ [(n, w0Tag d.w0, dest)] } : State).settleHead 11)) ∧
  (∀ (s : State) (n : Fin 52) (counts : List (BitVec 32)) (tag dest : Nat), s.Live →
    s.eyeScans.find? (fun e => e.1 == n.val) = some (n.val, tag, dest) →
    let c := (List.range 8128).map (fun i => min ((counts.getD i 0).toNat) 65535)
    let width := zeroRun ((c.drop (64 * 63)).take 64) 32
    let height := zeroRun ((List.range 127).map (fun o => c.getD (64 * o + 32) 0)) 63
    let s1 : State := { s with eyeScans := s.eyeScans.erase (n.val, tag, dest) }
    Gives (.eyeScanDone n counts) s ((s1.unitStore 0x30 dest (c.flatMap (leBytes 2))).complete 11 tag stSuccess
      (BitVec.ofNat 64 (width * 2 ^ 48 + height * 2 ^ 32)))) ∧
  (∀ (s : State) (l : Fin 24) (blocks : List (Nat × Nat)) (rest : List Mgmt), s.Live → s.laneUp l = true → blocks ≠ [] →
    blocks.length ≤ 8 → (blocks.length = 8 ∨ rest = []) →
    (s.lane l).mgmt = blocks.map (fun b => .block b.1 b.2) ++ rest →
    s.laneScanned l = false → s.unitStalled 0x3D = false →
    Gives (.managementGroupSend l) s ((s.setLane l { s.lane l with mgmt := rest }).sendManagement l false
      (blocks.map (fun b => ctrlBlock b.1 b.2))))

/-- R293, R295, R304, R306, R307 (O): a report on a lane whose return channel is locked enters its receiver's status entry; a full
inbound queue drops it; an enumeration's reply is stored at its position, its end counts the replies; a read's reply finishes the
oldest read of its position and register, or its timeout does; an unknown report is counted. R278, R280, R283, R284, R305 (O): a lane's receiver gains and loses lock, its CTLE code and DFE taps are shown, a wall lane
that starts comes up once adapted and locked; a quad whose PLL unlocks drops its locks and reports, and restarts at relock; a
legacy lane trains again. -/
def Obligations.LaneAndTileEventsComplete : Prop :=
  ((∀ (s : State) (l : Fin 24) (f : BitVec 56), s.Live → s.reportsIn l = true →
    let v := f.toNat
    let p := nbits v 7 0
    Gives (.tileStatusReport l f true) s (s.dropReport l) ∧ Gives (.tileEnumReply l f true) s (s.dropReport l) ∧
    Gives (.tileReadReply l f true) s (s.dropReport l) ∧
    (let s1 := s.statusEntry l p [(127, 112, nbits v 23 8), (111, 104, nbits v 31 24), (103, 96, nbits v 39 32),
      (95, 80, nbits v 55 40)]
     let s2 := if nbits v 16 12 ≠ 0 then s1.fire 164 else s1
     (s.lane l).enumHigh = none → Gives (.tileStatusReport l f false) s (if nbits v 8 8 = 1 then s2.fire 165 else s2)) ∧
    (let s1 := s.statusEntry l p [(7, 7, 1), (3, 0, nbits v 11 8)]
     ((s.lane l).enums = [] → Gives (.tileEnumReply l f false) s s1) ∧
     (∀ tag dest seen rest, (s.lane l).enums = (tag, dest, seen) :: rest → Gives (.tileEnumReply l f false) s
      ((s1.unitStore 0x30 (dest + 8 * p) (leBytes 7 v ++ [1])).mapLane l (fun w =>
        { w with enums := (tag, dest, if seen.contains p then seen else seen ++ [p]) :: rest })))) ∧
    (let s1 := s.statusEntry l p []
     ((s.lane l).reads.find? (fun r => r.2.1 == p && r.2.2 == nbits v 22 8) = none →
      Gives (.tileReadReply l f false) s (s1.bump (Reg.lnxWlCount1 l) 15 0 1)) ∧
     (∀ r, (s.lane l).reads.find? (fun r => r.2.1 == p && r.2.2 == nbits v 22 8) = some r → nbits v 23 23 = 1 →
      Gives (.tileReadReply l f false) s ((s1.mapLane l (fun w => { w with reads := w.reads.erase r })).complete 11 r.1
        stSuccess (BitVec.ofNat 64 (nbits v 55 24)))) ∧
     (∀ r, (s.lane l).reads.find? (fun r => r.2.1 == p && r.2.2 == nbits v 22 8) = some r → nbits v 23 23 = 0 →
      Gives (.tileReadReply l f false) s ((s1.mapLane l (fun w => { w with reads := w.reads.erase r })).complete 11 r.1
        lnxReadFailed 0))) ∧
    (∀ b, Gives (.tileUnknownReport l b) s (s.bump (Reg.lnxWlCount0 l) 15 0 1))) ∧
  (∀ (s : State) (l : Fin 24) (tag dest : Nat) (replies : List Nat) (rest : List (Nat × Nat × List Nat)), s.Live →
    (s.lane l).enums = (tag, dest, replies) :: rest →
    let high := replies.foldl max 0
    let gap := ((List.range high).find? (fun p => !replies.contains p)).getD 0xFFFFFFFF
    let s1 := s.setLane l { s.lane l with enums := rest, enumHigh := some (if replies.isEmpty then 0 else high + 1) }
    Gives (.enumerateTimeout l) s ((s1.setFld (Reg.lnxWlStatus l) 16 8 replies.length).complete 11 tag stSuccess
      (BitVec.ofNat 64 (replies.length * 2 ^ 32 + gap)))) ∧
  (∀ (s : State) (l : Fin 24) (p : BitVec 8) (r : Nat × Nat × Nat), s.Live →
    (s.lane l).reads.find? (fun r => r.2.1 == p.toNat) = some r →
    let s1 := s.mapLane l (fun w =>
      { w with reads := w.reads.erase r, mgmt := w.mgmt.erase (.block 0xCC ((r.1 % 256) * 2 ^ 23 + r.2.2 * 2 ^ 8 + p.toNat)) })
    Gives (.tileReadTimeout l p) s (s1.complete 11 r.1 lnxNoReply 0))) ∧
  ((∀ (s : State) (n : Fin 52), s.Live → s.laneRuns n = true →
    let st := Reg.lnxStatus (n.val / 4)
    let rx := Reg.lnxRx (n.val / 4) (n.val % 4)
    (∀ bits, 16 ≤ n.val → s.fld st (4 + n.val % 4) (4 + n.val % 4) = 0 → s.streamLocks n bits = true →
      let s1 := (s.setFld st (8 + n.val % 4) (8 + n.val % 4) 1).mapSerial n (fun x => { x with heads := [] })
      (n.val < 40 → Gives (.rxLockGained ⟨n, bits⟩) s
        ((((s1.setWlLock (n.val - 16) true).fire 162).laneRise (n.val - 16)).casFollow)) ∧
      (40 ≤ n.val → Gives (.rxLockGained ⟨n, bits⟩) s ((s1.setFld st (4 + n.val % 4) (4 + n.val % 4) 1).casFollow))) ∧
    (∀ bits, (n.val < 16 ∨ s.streamLocks n bits = false) → Gives (.rxLockGained ⟨n, bits⟩) s s) ∧
    (∀ heads, s.fld st (4 + n.val % 4) (4 + n.val % 4) = 1 →
      let r := headRun (s.serialLane n).heads 0 heads
      let lost := r.2.2 || !plepor n
      let s1 := (s.bump rx 15 0 r.2.1).mapSerial n (fun x => { x with heads := if lost then [] else r.1 })
      (lost = false → Gives (.rxLockLost ⟨n, heads⟩) s s1.casFollow) ∧
      (lost = true → 16 ≤ n.val → n.val < 40 →
        Gives (.rxLockLost ⟨n, heads⟩) s ((s1.setWlLock (n.val - 16) false).fire 161).casFollow) ∧
      (lost = true → (n.val < 16 ∨ 40 ≤ n.val) →
        Gives (.rxLockLost ⟨n, heads⟩) s (s1.setFld st (4 + n.val % 4) (4 + n.val % 4) 0).casFollow)) ∧
    (∀ code : BitVec 4, (s.serialLane n).adapted = false →
      let s1 := (s.setFld rx 31 28 code.toNat).mapSerial n (fun x => { x with adapted := true })
      (16 ≤ n.val → n.val < 40 → Gives (.ctleAdapted n code) s (s1.laneRise (n.val - 16))) ∧
      ((n.val < 16 ∨ 40 ≤ n.val) → Gives (.ctleAdapted n code) s s1)) ∧
    (∀ (tap : Fin 8) (v : BitVec 8), s.fld rx 27 27 = 0 →
      let k := if tap.val < 4 then Reg.lnxDfeA (n.val / 4) (n.val % 4) else Reg.lnxDfeB (n.val / 4) (n.val % 4)
      let s1 := s.setFld k (24 - 8 * (tap.val % 4) + 7) (24 - 8 * (tap.val % 4)) v.toNat
      let s2 := s1.setFld rx 26 26 (s1.tapAtRail n).toNat
      Gives (.dfeTapAtRail n tap v) s (if s1.tapAtRail n && !(s.serialLane n).limitMade then
        (s2.mapSerial n (fun x => { x with limitMade := true })).fire 168 else s2))) ∧
  (∀ (s : State) (q : Fin 13), s.Live → quadAbsent s.variant q = false →
    let lane (k : Nat) : Nat := 4 * (q.val - 4) + k
    (s.fld (Reg.lnxStatus q) 31 31 = 1 →
      let s1 := if 4 ≤ q.val ∧ q.val < 10 then (List.range 4).foldl (fun s k => s.wallUnlock (lane k)) s else s
      Gives (.quadPllUnlock q) s
        ((((s1.setFld (Reg.lnxStatus q) 31 0 0).report (0x30 + q) 0 0x0D 0).fire 167).casFollow)) ∧
    (s.isPowered (quadDomain q) = true → s.fld (Reg.lnxStatus q) 31 31 = 0 →
      Gives (.quadPllRelock q) s
        ((List.range 4).foldl (fun s k =>
          let s := s.startSerial (4 * q.val + k)
          if 4 ≤ q.val ∧ q.val < 10 ∧ (s.lane (lane k)).mode = 2 ∧ s.wlState (lane k) ≠ 0 then s.sendTrain (lane k) else s)
          ((s.setFld (Reg.lnxStatus q) 31 31 1).showTx q)))) ∧
  (∀ (s : State) (l : Fin 24), s.Live → (s.lane l).mode = 2 → s.laneRuns (16 + l.val) = true → s.wlLocked l = false →
    Gives (.legacyRetrain l) s ((s.setWlState l 1).sendTrain l)))

/-! The codec and the light packer (spec/09_codec.md). -/

/-- R316, R324, R340, R341, R350 (O): a CTX_SETUP that nothing refuses makes its context; an ENC_FRAME on an encode context loads
its offsets and waits for its source, a DEC_AU on a decode context begins to decode; DEC_RELEASE ends the hold of a buffer;
CTX_CLEAR drops the context. -/
def Obligations.CodecDescriptorsComplete : Prop :=
  (∀ (s : State) (x : Fin 4) (d : Desc) (rest : List Desc), s.Ready (12 + x.val) 0x10 [1] d rest → s.vcxIdle x = true →
    let t := s.run (12 + x.val) d
    let s0 := s.taken (12 + x.val) d rest
    let s1 := s0.meet (t.fld 1 127 80) 128
    (s1.ctxRefused x t = none →
      Gives (.ctxSetup x) s (((s1.ctxMake x (t.fld 0 87 83) (t.fld 0 82 82 == 1) (s1.params (t.fld 1 127 80))).complete (12 + x.val)
        (w0Tag d.w0) stSuccess 0).vcxShow.settleHead (12 + x.val))) ∧
    (∀ st, s1.ctxRefused x t = some st → Gives (.ctxSetup x) s (s1.done (12 + x.val) d st 0))) ∧
  (∀ (s : State) (x : Fin 4) (d : Desc) (rest : List Desc) (e : EncCtx), s.Ready (12 + x.val) 0x11 [2] d rest →
    s.vcxIdle x = true → s.isPartner x = false →
    let t := s.run (12 + x.val) d
    let c := t.fld 0 87 83
    let s0 := s.taken (12 + x.val) d rest
    let s1 := if t.fld 0 80 80 = 1 then s0.meet (t.fld 2 79 32) 256 else s0
    (s.vcx x).ctx c = some (.enc e) → s1.encRefused e t = none →
    let e' := { e with roi := s1.encRoi e t }
    Gives (.encFrame x) s
      ((((s1.setCtx x c (some (.enc e'))).loadCtx x c).encTryStart x e' (encPicOf t)).settleHead (12 + x.val))) ∧
  (∀ (s : State) (x : Fin 4) (d : Desc) (rest : List Desc) (c : DecCtx) (residue : Bool), s.Ready (12 + x.val) 0x12 [1] d rest →
    s.vcxIdle x = true → s.isPartner x = false →
    let t := s.run (12 + x.val) d
    let s0 := s.taken (12 + x.val) d rest
    (s.vcx x).ctx (t.fld 0 87 83) = some (.dec c) → s0.decRefused c t = none →
    Gives (.decAu ⟨x, residue⟩) s ((s0.decStart x c t residue).settleHead (12 + x.val))) ∧
  (∀ (s : State) (x : Fin 4) (d : Desc) (rest : List Desc) (c : DecCtx), s.Ready (12 + x.val) 0x13 [0] d rest →
    s.isPartner x = false →
    let t := s.run (12 + x.val) d
    let b := t.fld 0 82 78
    (s.vcx x).ctx (t.fld 0 87 83) = some (.dec c) → c.mirror = false → t.fld 0 77 0 = 0 →
    c.dpb.any (fun e => e.buffer == b && e.held && !c.owed.contains e.number) = true →
    let c' := DecCtx.tidy { c with dpb := c.dpb.map (fun (e : DpbPic) => if e.buffer = b then { e with held := false } else e) }
    Gives (.decRelease x) s
      (((s.taken (12 + x.val) d rest).setCtx x (t.fld 0 87 83) (some (.dec c'))).done (12 + x.val) d stSuccess 0)) ∧
  (∀ (s : State) (x : Fin 4) (d : Desc) (rest : List Desc) (k : VcxCtx), s.Ready (12 + x.val) 0x14 [0] d rest →
    s.vcxIdle x = true →
    let t := s.run (12 + x.val) d
    let s0 := s.taken (12 + x.val) d rest
    let drop (s1 : State) : State :=
      ((s1.dropCtx x (t.fld 0 87 83)).complete (12 + x.val) (w0Tag d.w0) stSuccess 0).vcxShow.settleHead (12 + x.val)
    (s.vcx x).ctx (t.fld 0 87 83) = some k → t.fld 0 81 0 = 0 →
    (((s.vcx x).enc? (t.fld 0 87 83) = none ∨ t.fld 0 82 82 = 0) → Gives (.ctxClear x) s (drop s0)) ∧
    (∀ e, k = .enc e → t.fld 0 82 82 = 1 → s.nalRoom e 5 = true →
      Gives (.ctxClear x) s (drop (s0.nalPut x (t.fld 0 87 83) e (e.pictures - 1) ⟨[0, 0, 1, 0x48, 1], 0, 0⟩).1)))

/-- R324, R326 to R328, R337, R341, R342 (O): an open source lets a waiting picture start; each CTU row is coded in turn; room in
the NAL ring lets what waits go on; a long wait is counted once; a free buffer lets a decoder go on; a mirror decodes its
encoder's next slice. -/
def Obligations.CodecRunsComplete : Prop :=
  (∀ (s : State) (x : Fin 4) (p : EncPic) (e : EncCtx), s.Live → (s.vcx x).run = .enc p → (s.vcx x).enc? p.ctx = some e →
    (p.waiting = true → Gives (.encSourceFrameOpen x) s (s.encTryStart x e p)) ∧
    (∀ row, p.waiting = false → p.out = [] → p.row < e.rows → s.srcHas p (e.rowLines p.row).2 = true →
      s.unitStalled (0x40 + e.coder x p.row) = false → Gives (.encRow x row) s (s.encRowTake x e p row)) ∧
    (p.out ≠ [] → Gives (.nalRingRoom x) s (State.encFlush x (p.out.length + 1) s e p))) ∧
  (∀ (s : State) (x : Fin 4), s.Live → s.fld (Reg.vcxWaitThresh x) 15 0 ≠ 0 →
    (∀ p, (s.vcx x).run = .enc p → p.out ≠ [] → p.threshMade = false →
      Gives (.vcxWaitThreshold x) s (((s.mapVcx x (fun v => { v with run := .enc { p with threshMade := true } })).bump
        (Reg.vcxWaitThresh x) 31 16 1).fire 188)) ∧
    (∀ c, (s.vcx x).run = .dec c → c.waiting = true → c.threshMade = false →
      Gives (.vcxWaitThreshold x) s (((s.mapVcx x (fun v => { v with run := .dec { c with threshMade := true } })).bump
        (Reg.vcxWaitThresh x) 31 16 1).fire 189))) ∧
  (∀ (s : State) (x : Fin 4) (r : DecRun) (c : DecCtx) (residue : Bool), s.Live → (s.vcx x).run = .dec r →
    (s.vcx x).dec? r.ctx = some c → r.waiting = true → s.unitStalled (0x40 + x.val) = false →
    Gives (.decodeBufferFree ⟨x, residue⟩) s (State.decGo x (r.items.length + 1) (s.vcxResidue x residue) c r)) ∧
  (∀ (s : State) (x : Fin 4) (c : Nat) (d : DecCtx) (e : EncCtx) (residue : Bool), s.Live → s.isPowered (13 + x.val) = true →
    s.isFenced (13 + x.val) = false → s.unitStalled (0x40 + x.val) = false → s.vcxIdle x = true →
    s.mirrorDue x = some (c, d, e) → Gives (.mirrorSlice ⟨x, residue⟩) s (s.mirrorTake x c d e residue))

/-- R357, R366 to R369, R371, R372 (O): an LPK_PACK with good fields and a good chain begins a packing, each block is coded in
turn; an LPK_UNPACK of a stream whose header is good unpacks its blocks, and answers BAD_STREAM for one whose header is not. -/
def Obligations.LosslessPackerCommandsComplete : Prop :=
  (∀ (s : State) (n : Fin 2) (d : Desc) (rest : List Desc) (r : LpkRun), s.Ready (16 + n.val) 0x10 [2] d rest → s.lpk n = none →
    let s0 := s.taken (16 + n.val) d rest
    let t := s.run (16 + n.val) d
    let s1 := s0.meet (t.fld 2 127 80) (16 * t.fld 2 79 72)
    s1.packOf t = some r → s1.poisonedAt (t.fld 2 127 80) (16 * t.fld 2 79 72) = false →
    Gives (.lpkPack n) s ((s1.setLpk n (some r)).settleHead (16 + n.val))) ∧
  (∀ (s : State) (n : Fin 2) (r : LpkRun) (mismatch : Bool), s.Live → s.isPowered 17 = true → s.isFenced 17 = false →
    s.unitStalled (0x44 + n.val) = false → s.lpk n = some r → Gives (.lpkBlockCoded n mismatch) s (s.lpkBlockPut n r mismatch)) ∧
  (∀ (s : State) (n : Fin 2) (d : Desc) (rest : List Desc) (c : List (Nat × Nat)), s.Ready (16 + n.val) 0x11 [1] d rest →
    s.lpk n = none →
    let t := s.run (16 + n.val) d
    let s0 := s.taken (16 + n.val) d rest
    let dest := t.fld 1 127 80
    let stride := t.fld 1 79 56
    let s1 := s0.meet (t.fld 1 55 8) (16 * t.fld 1 7 0)
    s1.readChain (t.fld 1 55 8) (t.fld 1 7 0) = some c → t.fld 0 87 0 = 0 → dest % 64 = 0 →
    let s2 := s1.meetChain c 0 64
    s2.poisonedAt (t.fld 1 55 8) (16 * t.fld 1 7 0) = false →
    let h := s2.chainGet c 0 64
    let total := hdrField h.1 14 2 * hdrField h.1 7 1
    (headerBad h = false → 2 * hdrField h.1 12 2 ≤ stride * 64 →
      (total = 0 ∨ inMemory s.variant dest ((total - 1) * stride * 64 + 2 * hdrField h.1 12 2) = true) →
      Gives (.lpkUnpack n) s ((s2.unpackAll n (w0Tag d.w0) c h.1 dest stride).settleHead (16 + n.val))) ∧
    (headerBad h = true → Gives (.lpkUnpack n) s
      ((((s2.bump (Reg.lpkCount1 n) 15 0 1).fire 204).lpkDone n (w0Tag d.w0) lpkBadStream 0).settleHead (16 + n.val))))

/-! Recording and replay (spec/10_recording_replay.md). -/

/-- R377 to R381, R385, R388, R397 to R400 (O): a command of the store that it takes, from queue 18 or from a host pair, and whose
fields pass: CLIP_OPEN opens a free clip; CLIP_WRITE, CLIP_READ, INDEX_READ, FLUSH, CLIP_CLOSE and CLIP_DROP join what the store
works on; CLIP_QUERY answers the clip's state and bytes, AGE how long a tag is outstanding. -/
def Obligations.ClipCommandsComplete : Prop :=
  ∀ (s s0 : State) (src : ClsSrc) (t : Taken),
    let q := srcQueue src
    (s.StoreTakes src 0x11 [2] t s0 → s0.openRefused t = none →
      Gives (.clipOpen src) s
        ((((s0.setClip (t.fld 0 87 78) (some (clipOf t))).complete q t.tag stSuccess 0).clsShow).storeEnd src)) ∧
    (∀ k, s.StoreTakes src 0x12 [2] t s0 → s0.clsReady = true → clipWriteOk s0.variant t = true →
      s0.clip (t.fld 0 87 78) = some k → k.state = 1 →
      Gives (.clipWrite src) s ((s0.addJob q t.tag (clipWriteJob t (t.fld 0 87 78))).clsGo.storeEnd src)) ∧
    (∀ k, s.StoreTakes src 0x13 [1] t s0 → s0.clsReady = true → t.zeros [(0, 76, 0), (1, 7, 0)] = true → t.fld 1 79 56 ≠ 0 →
      inMemory s0.variant (t.fld 1 55 8) (t.fld 1 79 56) = true → s0.clip (t.fld 0 87 78) = some k →
      Gives (.clipRead src) s ((s0.addJob q t.tag
        (.read (t.fld 0 87 78) false (t.fld 0 77 77 == 1) (t.fld 1 127 80) (t.fld 1 79 56) (t.fld 1 55 8))).clsGo.storeEnd src)) ∧
    (∀ k, s.StoreTakes src 0x14 [1] t s0 → s0.clsReady = true → t.zeros [(0, 76, 0), (1, 23, 0)] = true → t.fld 1 79 56 ≠ 0 →
      t.fld 1 127 80 % 16 = 0 → inMemory s0.variant (t.fld 1 127 80) (16 * t.fld 1 79 56) = true →
      s0.clip (t.fld 0 87 78) = some k →
      Gives (.indexRead src) s ((s0.addJob q t.tag
        (.read (t.fld 0 87 78) true (t.fld 0 77 77 == 1) (t.fld 1 55 24) (t.fld 1 79 56) (t.fld 1 127 80))).clsGo.storeEnd src)) ∧
    (s.StoreTakes src 0x15 [0] t s0 → s0.clsReady = true → t.fld 0 87 0 = 0 →
      let writes := s0.cls.jobs.filterMap (fun j => match j.job with | .write .. => some (j.q, j.tag) | _ => none)
      let dirty := (s0.cls.pages.filter Page.dirty).map (fun p => (p.clip, p.page, p.version))
      Gives (.flush src) s (((s0.flushPages (fun _ => true)).addJob q t.tag (.flush writes dirty)).clsGo.storeEnd src)) ∧
    (∀ k, s.StoreTakes src 0x16 [0] t s0 → s0.clsReady = true → t.fld 0 77 0 = 0 → s0.clip (t.fld 0 87 78) = some k →
      let writes := s0.cls.jobs.filterMap (fun j =>
        match j.job with
        | .write c .. => if c = t.fld 0 87 78 then some (j.q, j.tag) else none
        | .durable _ ps _ => if ps.any (fun p => p.1 == t.fld 0 87 78) then some (j.q, j.tag) else none
        | _ => none)
      Gives (.clipClose src) s ((s0.addJob q t.tag (.close (t.fld 0 87 78) writes false)).clsGo.storeEnd src)) ∧
    (∀ k, s.StoreTakes src 0x17 [0] t s0 → s0.clsReady = true → t.fld 0 77 0 = 0 → s0.clip (t.fld 0 87 78) = some k →
      Gives (.clipDrop src) s ((s0.dropJob q t.tag (t.fld 0 87 78)).storeEnd src)) ∧
    (∀ k, s.StoreTakes src 0x18 [1] t s0 → s0.clsReady = true → t.zeros [(0, 77, 0), (1, 79, 0)] = true →
      t.fld 1 127 80 % 16 = 0 → inMemory s0.variant (t.fld 1 127 80) 16 = true → s0.clip (t.fld 0 87 78) = some k →
      let word := k.ack % 2 ^ 48 * 2 ^ 80 + s0.durableBytes (t.fld 0 87 78) k % 2 ^ 48 * 2 ^ 32 + k.entries
      Gives (.clipQuery src) s (((s0.unitStore 0x46 (t.fld 1 127 80) (leBytes 16 word)).complete q t.tag stSuccess
        (BitVec.ofNat 64 (k.state * 2 ^ 60 + k.ack % 2 ^ 48))).storeEnd src)) ∧
    (∀ a, s.StoreTakes src 0x19 [0] t s0 → t.fld 0 65 0 = 0 → s0.ageOf (t.fld 0 87 82) (t.fld 0 81 66) = some a →
      Gives (.age src) s ((s0.complete q t.tag stSuccess (BitVec.ofNat 64 a)).storeEnd src)) ∧
    (∀ (tag : BitVec 16) (age : Nat) (a : ClsAge), s.Live → s.ageOf q tag.toNat = some age →
      s.cls.ages.find? (fun a => a.q == q && a.tag == tag.toNat) = some a → (s.reg Reg.clsAgeThresh).toNat ≠ 0 →
      (s.reg Reg.clsAgeThresh).toNat < age → a.fired = false →
      Gives (.clsAgeThreshold src tag) s ((s.mapCls (fun x =>
        { x with ages := x.ages.map (fun b => if b.q = q ∧ b.tag = tag.toNat then { b with fired := true } else b) })).fire 221))

/-- R380, R382, R383, R393 to R396 (O): STORE_SETUP begins the bring-up of its SSDs and a bring-up goes step by step to ready or
failed; an NVMe completion puts its pages on the medium or its data into the buffer, a failed Write is sent once more; a command
that takes too long makes its SSD stalled, a failure fails it; the health log is shown. -/
def Obligations.StorageDevicesComplete : Prop :=
  (∀ (s s0 : State) (src : ClsSrc) (t : Taken), s.StoreTakes src 0x10 [2] t s0 → s0.setupRefused t = none →
    Gives (.storeSetup src) s ((s0.setupStart (srcQueue src) t.tag (setupOf t)).storeEnd src)) ∧
  (∀ (s : State) (r : Fin 2), s.Live → s.isPowered 18 = true →
    (∀ speed width, s.ssd r = 1 → Gives (.ssdBringupStepDone r (.linkUp speed width)) s
      ((List.range (min 4 width)).foldl (fun s k => s.setTx (8 + 4 * r.val + k))
        (((s.setSsd r 2).setFld (Reg.clsRpStatus r) 27 24 speed).setFld (Reg.clsRpStatus r) 23 19 width))) ∧
    (∀ blocks queues lba4k vwc, s.ssd r = 2 →
      let use := vwc && (match s.cls.setup with | some u => u.vwc | none => false)
      let s1 := ((s.setFld (Reg.clsRpStatus r) 18 15 (min 8 queues)).setFld (Reg.clsRpStatus r) 14 14 use.toNat).setFld
        (Reg.clsRpStatus r) 13 13 lba4k.toNat
      let s2 := (s1.setReg (Reg.clsRpCapLo r) (BitVec.ofNat 32 blocks)).setReg (Reg.clsRpCapHi r)
        (BitVec.ofNat 32 (blocks / 2 ^ 32))
      Gives (.ssdBringupStepDone r (.initialised blocks queues lba4k vwc)) s (((s2.setSsd r 3).fire 214).bringUpOver)) ∧
    ((s.ssd r = 1 ∨ s.ssd r = 2) →
      Gives (.ssdBringupStepDone r .unsuitable) s (((s.setSsd r 6).fire 216).bringUpOver) ∧
      Gives (.ssdBringupStepDone r .failed) s (((s.setSsd r 5).fire 216).bringUpOver) ∧
      Gives (.ssdFailure r) s (((s.setSsd r 5).fire 216).bringUpOver)) ∧
    ((s.ssd r = 3 ∨ s.ssd r = 4) → Gives (.ssdFailure r) s (s.ssdFail r)) ∧
    (∀ (temperature : BitVec 16), 2 ≤ s.ssd r → s.ssd r ≤ 5 →
      let s1 := s.setReg (Reg.clsRpHealth r) (packBits [(temperature.toNat, 8), (0, 0)])
      Gives (.healthLogPoll r temperature 0) s s1) ∧
    (∀ (temperature : BitVec 16) (warning : Byte), (s.ssd r = 3 ∨ s.ssd r = 4) → warning ≠ 0 →
      let s1 := s.setReg (Reg.clsRpHealth r) (packBits [(temperature.toNat, 8), (warning.toNat, 0)])
      Gives (.healthLogPoll r temperature warning) s ((s1.fire 217).ssdFail r))) ∧
  (∀ (s : State) (r : Fin 2) (cid : Nat) (data : List Byte) (n : NvmeCmd) (u : ClsSetup), s.Live → s.cls.setup = some u →
    s.cls.nvme.find? (fun n => n.port == r.val && n.cid == cid) = some n →
    let s1 := s.mapCls (fun x => { x with nvme := x.nvme.erase n })
    let s2 := s1.bump (Reg.clsRpErrors r) 31 16 1
    (n.write = true → Gives (.nvmeCompletion r cid true data) s ((s1.nvmeWritten n).clsGo)) ∧
    (n.write = false → Gives (.nvmeCompletion r cid true data) s ((s1.nvmeRead u n data).clsGo)) ∧
    (n.write = false → Gives (.nvmeCompletion r cid false data) s ((s2.readError n.keys).clsGo)) ∧
    (n.write = true → n.retried = true → Gives (.nvmeCompletion r cid false data) s ((s2.mediumError r).clsGo)) ∧
    (n.write = true → n.retried = false → Gives (.nvmeCompletion r cid false data) s
      ((n.keys.foldl (fun s k => s.flushPage k.1 k.2.1 true) (s2.bump (Reg.clsRpErrors r) 15 0 1)).clsShow)) ∧
    (s.ssd r = 3 → Gives (.ssdTimeout r cid) s ((s.setSsd r 4).fire 215))) ∧
  (∀ (s : State) (clip page : Nat), s.Live → Gives .writeBufferRoom s s.clsGo ∧
    (s.isPowered 18 = true → Gives (.pageFlushDue clip page) s ((s.flushPage clip page false).clsShow)))

/-- R386, R387, R390, R391, R401 (O): a doorbell inside its ring moves the tail, or the head, which frees the tags it passes; one
outside is refused; HQ_ENABLE with good sizes and bases enables the pair and with bad ones faults; CLS_RESET begins the reset and
its end aborts every command; activation stops the fetching, is ready once nothing holds it, and CLS_RESUME ends it. -/
def Obligations.StoreControlsComplete : Prop :=
  (∀ (s : State) (m : Master) (n : Fin 4) (v : Word),
    (s.Open m (Reg.clsHqSqTail n) →
      (v.toNat < s.fld (Reg.clsHqSqSize n) 12 0 → s.clsFetches = true →
        Gives (.sqTailDoorbell m n v) s (State.hostSkip n 4096 (s.setFld (Reg.clsHqSqTail n) 11 0 v.toNat))) ∧
      (s.fld (Reg.clsHqSqSize n) 12 0 ≤ v.toNat →
        Gives (.sqTailDoorbell m n v) s ((s.accessFault m true (regsBase + Reg.clsHqSqTail n)).fire 226))) ∧
    (s.Open m (Reg.clsHqCqHead n) →
      (v.toNat < s.fld (Reg.clsHqCqSize n) 12 0 →
        let tags := s.passedTags n (s.fld (Reg.clsHqCqHead n) 11 0) v.toNat
        let s1 := s.setQueue (60 + n.val) { s.queue (60 + n.val) with tags := tags.foldl List.erase (s.queue (60 + n.val)).tags }
        Gives (.cqHeadDoorbell m n v) s ((s1.setFld (Reg.clsHqCqHead n) 11 0 v.toNat).settleQueue (60 + n.val)).resetGo) ∧
      (s.fld (Reg.clsHqCqSize n) 12 0 ≤ v.toNat →
        Gives (.cqHeadDoorbell m n v) s ((s.accessFault m true (regsBase + Reg.clsHqCqHead n)).fire 226))) ∧
    (s.Open m (Reg.clsHqCtrl n) →
      (bitsOf v 31 31 = 0 → Gives (.hqEnable m n v) s (s.setFld (Reg.clsHqCtrl n) 31 31 0)) ∧
      (∀ i j sq cq, bitsOf v 31 31 = 1 → s.fld (Reg.clsHqSqSize n) 12 0 = 2 ^ i → s.fld (Reg.clsHqCqSize n) 12 0 = 2 ^ j →
        4 ≤ i → i ≤ 12 → 4 ≤ j → j ≤ 12 →
        sq = s.fld (Reg.clsHqSqLo n) 31 6 * 64 + s.fld (Reg.clsHqSqHi n) 15 0 * 2 ^ 32 →
        cq = s.fld (Reg.clsHqCqLo n) 31 6 * 64 + s.fld (Reg.clsHqCqHi n) 15 0 * 2 ^ 32 →
        inMemory s.variant sq (64 * 2 ^ i) = true → inMemory s.variant cq (16 * 2 ^ j) = true → s.clsFetches = true →
        Gives (.hqEnable m n v) s (State.hostSkip n 4096 (s.setFld (Reg.clsHqCtrl n) 31 31 1))) ∧
      (bitsOf v 31 31 = 1 → s.fld (Reg.clsHqSqSize n) 12 0 < 16 →
        Gives (.hqEnable m n v) s
          ((s.setFld (Reg.clsHqCtrl n) 31 31 0).accessFault m true (regsBase + Reg.clsHqCtrl n)))) ∧
    (s.Open m Reg.clsCtrl →
      (bitsOf v 31 31 = 1 → s.isPowered 18 = true → s.clsState ≠ 3 → Gives (.clsReset m v) s s.clsResetStart) ∧
      (bitsOf v 30 30 = 1 → s.isPowered 18 = true → s.clsState ≤ 2 →
        Gives (.clsActivate m v) s (s.setClsState 4)) ∧
      (bitsOf v 29 29 = 1 → s.clsState = 5 →
        let s1 := (s.setClsState (if s.cls.setup.isSome then 2 else 0)).fire 224
        Gives (.clsResume m v) s ((List.range 4).foldl (fun s n => State.hostSkip n 4096 s) s1)))) ∧
  (∀ s : State, s.Live → s.clsState = 4 → s.cls.setupTag = none → (∀ j ∈ s.cls.jobs, s.holdsActivation j = false) →
    Gives .activationReady s ((s.setClsState 5).fire 223)) ∧
  (∀ s : State, s.Live → s.clsState = 3 → s.resetWrites = false → s.cls.resetStep = 0 →
    let s1 := ((s.losePages (fun _ => true)).resetTaken 18).resetWaiting
    let s2 := ((List.range 4).foldl (fun s n => s.resetTaken (60 + n)) s1).mapCls (fun x => { x with jobs := [], resetStep := 4 })
    let s3 := (List.range 4).foldl (fun s n => State.resetEntries n 4096 s) s2
    let s4 := s3.setupAborted.mapCls (fun x => { x with clips := [], pages := [], nvme := [], jobs := [], resetStep := 5 })
    let again := match s4.cls.setup with | some u => u.ssds.filter (fun r => s4.ssd r == 4 || s4.ssd r == 5) | none => []
    s2.clsState = 3 → s2.cls.resetStep = 4 →
    (s3.resetOwed = true → Gives .clsResetFlushDone s s3) ∧
    (s3.resetOwed = false → again = [] → Gives .clsResetFlushDone s
      ((((s4.mapCls (fun x => { x with resetStep := 0 })).setClsState (if s4.cls.setup.isSome then 2 else 0)).clsShow).fire 222)) ∧
    (s3.resetOwed = false → again ≠ [] →
      Gives .clsResetFlushDone s (again.foldl (fun (s : State) r => s.setSsd r 1) s4).clsShow))

/-! The memory (spec/11_memory.md). -/

/-- R405, R406, R413, R421, R424, R425 (O): a MEM_FILL, MEM_SCRUB or MEM_RETRAIN that passes its checks on ready memory does its
work and answers what it did, PC_FAILED if a failed pseudo-channel was in the way; a write of MEM_MAP before the lock is a masked
write, after it an access fault. -/
def Obligations.MemoryCommandsComplete : Prop :=
  (∀ (s : State) (d : Desc) (rest : List Desc), s.Ready 19 0x10 [2] d rest →
    let t := s.run 19 d
    let a := t.fld 1 127 80
    let len := t.fld 1 79 40
    let s0 := s.taken 19 d rest
    memRangeOk s.variant t = true → s0.rangeReady a len = true →
    let r := s0.fillBursts a len (leBytes 16 (t.word 2).toNat)
    Gives .memFill s (r.1.done 19 d (if r.2 = len / 32 then stSuccess else stPcFailed) (BitVec.ofNat 64 r.2))) ∧
  (∀ (s : State) (d : Desc) (rest : List Desc) (errs : List (Nat × BurstErr × BurstErr)), s.Ready 19 0x11 [1] d rest →
    let t := s.run 19 d
    let a := t.fld 1 127 80
    let len := t.fld 1 79 40
    let s0 := s.taken 19 d rest
    memRangeOk s.variant t = true → s0.rangeReady a len = true →
    let r := s0.scrubBursts errs a len
    Gives (.memScrub errs) s
      (r.1.done 19 d (if r.2.2.2 then stPcFailed else stSuccess) (BitVec.ofNat 64 (r.2.1 * 2 ^ 32 + r.2.2.1)))) ∧
  (∀ (s : State) (d : Desc) (rest : List Desc) (passed repaired : BitVec 32), s.Ready 19 0x12 [0] d rest →
    let t := s.run 19 d
    let x := t.fld 0 87 87
    let mask := t.fld 0 86 55
    t.fld 0 54 0 = 0 → (stackList s.variant).contains x = true → (s.stackState x = 2 ∨ s.stackState x = 4) →
    Gives (.memRetrain passed repaired) s (((s.taken 19 d rest).retrainStack x mask passed.toNat repaired.toNat).done 19 d
      (if mask &&& passed.toNat = mask then stSuccess else stPcFailed) (BitVec.ofNat 64 (mask &&& passed.toNat)))) ∧
  (∀ (s : State) (m : Master) (v : Word), s.Open m Reg.memMap →
    (s.fld Reg.memMap 31 31 = 0 → Gives (.memMapWrite m v) s (s.maskedWrite Reg.memMap v)) ∧
    (s.fld Reg.memMap 31 31 = 1 → Gives (.memMapWrite m v) s (s.accessFault m true (regsBase + Reg.memMap))))

/-- R406, R407, R418, R419, R421 (O): a whole burst written to a sound pseudo-channel is stored; a read of one whose burst is good
delivers its bytes and their poison; a read of a failed one delivers poison and is counted; an address beyond the DRAM faults. -/
def Obligations.MemoryRequestsComplete : Prop :=
  ∀ (s : State) (r : MemReq), s.Live →
    let bs := r.bytes.take (32 - r.addr % 32)
    let p := s.pcOf r.addr
    let s0 := s.refreshFirst r.addr
    (r.master = .host → s.hostOut = false) →
    (regionOf s.variant r.addr = .none →
      (r.write = true → Gives (.memRequest r) s (s.accessFault r.master true r.addr)) ∧
      (r.write = false → Gives (.memRequest r) s
        ((s.accessFault r.master false r.addr).emit (.memData r.master (bs.map (fun _ => 0)) false)))) ∧
    (regionOf s.variant r.addr = .dram → s.memGone r.addr = false → s.stackState (p / 32) = 2 → s0.pcFailed p = false →
      (r.write = true → bs.length = 32 → Gives (.memRequest r) s (s0.store r.addr bs)) ∧
      (r.write = true → bs.length ≠ 32 →
        Gives (.memRequest r) s ((s0.burstRead r.addr r.err r.retryErr).1.store r.addr bs)) ∧
      (r.write = false →
        let s1 := (s0.burstRead r.addr r.err r.retryErr).1
        Gives (.memRequest r) s (s1.emit (.memData r.master (s1.bytes r.addr bs.length) (s1.poisonedAt r.addr bs.length))))) ∧
    (regionOf s.variant r.addr = .dram → s.memGone r.addr = false → (s.stackState (p / 32) = 2 ∨ s.stackState (p / 32) = 4) →
      s0.pcFailed p = true → r.write = false →
      let s1 := s0.countFailed p
      Gives (.memRequest r) s (s1.emit (.memData r.master (s1.bytes r.addr bs.length) true))) ∧
    (regionOf s.variant r.addr = .comb → s.isPowered 23 = true → s.memx.combInit = false →
      (r.write = true → Gives (.memRequest r) s (s.masterStore r.master r.addr bs)) ∧
      (r.write = false →
        let s1 := (s.combRead r.addr r.err.lower).1.meet r.addr bs.length
        Gives (.memRequest r) s (s1.emit (.memData r.master (s1.bytes r.addr bs.length) (s1.poisonedAt r.addr bs.length)))))

/-- R408, R409, R411 to R415, R417, R420, R423 (O): an aged request is counted; a refresh that falls due is postponed, issued or pulled in; a stack's
temperature is shown and makes it hot at 85, no longer hot below 82; training and the exit from self-refresh make a stack ready;
a retraining that fails marks the pseudo-channel failed; a parity alert is replayed, after the third the pseudo-channel is trained
and replayed once more, and a fourth marks it failed; patrol and Comb scrub read the next burst or word. -/
def Obligations.MemoryUpkeepCompletes : Prop :=
  (∀ (s : State) (x : Fin 2) (pc : Fin 32), s.Live →
    ((stackList s.variant).contains x.val = true → s.pcFailed (32 * x.val + pc.val) = false →
      Gives (.ageCapExpiry x pc) s (s.bump (Reg.memAged x) 31 0 1)) ∧
    (∀ waiting ahead, s.stackState x = 2 → s.pcFailed (32 * x.val + pc.val) = false →
      let p := 32 * x.val + pc.val
      let b := sget 0 s.memx.rotation p
      let owed := min 8 (sget 0 s.memx.owed (p * banks + b)) + 1
      let left : Int := if waiting then min 8 owed else max (-8) (min 0 owed - (ahead.val : Int))
      Gives (.refreshDue x pc ⟨waiting, ahead⟩) s (s.mapMem (fun m =>
        { m with rotation := sset 0 m.rotation p ((b + 1) % banks), owed := sset 0 m.owed (p * banks + b) left }))) ∧
    (∀ ok retrained repaired, s.stackState x = 2 → s.pcFailed (32 * x.val + pc.val) = false →
      (ok = true → exec (.periodicRetrain x pc ok retrained repaired) s = .next s) ∧
      (ok = false → Gives (.periodicRetrain x pc ok retrained repaired) s
        (s.retrainPc (32 * x.val + pc.val) retrained repaired))) ∧
    (∀ again trained repaired, s.stackState x = 2 → s.pcFailed (32 * x.val + pc.val) = false →
      let run := if again then sget 0 s.memx.alerts (32 * x.val + pc.val) else 0
      let put (s : State) (k : Nat) : State :=
        { s with memx := { s.memx with alerts := sset 0 s.memx.alerts (32 * x.val + pc.val) k } }
      (run < 2 → Gives (.parityAlert x pc ⟨again, trained, repaired⟩) s (put (s.replay x) (run + 1))) ∧
      (run = 2 →
        let s1 := ((put (s.replay x) 3).bump (Reg.memReplay x) 15 0 1).retrainPc (32 * x.val + pc.val) trained repaired
        Gives (.parityAlert x pc ⟨again, trained, repaired⟩) s (if trained then s1.replay x else put s1 0)) ∧
      (run = 3 → Gives (.parityAlert x pc ⟨again, trained, repaired⟩) s ((put s 0).failPc (32 * x.val + pc.val))))) ∧
  (∀ (s : State) (x : Fin 2) (t : BitVec 8), s.Live → (stackList s.variant).contains x.val = true →
    let s1 := s.setFld (Reg.memStatus x) 23 16 t.toNat
    let hot := s1.fld (Reg.memStatus x) 27 27
    (hot = 0 → 85 ≤ t.toInt → Gives (.stackTemperatureRead x t) s ((s1.setFld (Reg.memStatus x) 27 27 1).fire 233)) ∧
    (hot = 1 → t.toInt < 82 → Gives (.stackTemperatureRead x t) s ((s1.setFld (Reg.memStatus x) 27 27 0).fire 233)) ∧
    (hot = 0 → t.toInt < 85 → Gives (.stackTemperatureRead x t) s s1) ∧
    (hot = 1 → 82 ≤ t.toInt → Gives (.stackTemperatureRead x t) s s1)) ∧
  (∀ (s : State) (f0 f1 r0 r1 : BitVec 32), s.Live → s.stackState 0 = 1 → s.stackState 1 ≠ 1 →
    let s1 := ((s.setFld Reg.memMap 31 31 1).setReg (Reg.memRepaired 0) r0).setStackState 0 2
    Gives (.memTrainingDone f0 f1 r0 r1) s
      (((List.range 32).foldl (fun s p => if f0.toNat.testBit p then s.failPc p else s) s1).fire 228)) ∧
  (∀ (s : State) (x : Fin 2) (failed repaired : BitVec 32), s.Live → s.stackState x = 3 → s.isPowered (21 + x.val) = true →
    let s1 := s.setStackState x 2
    Gives (.selfRefreshExitDone ⟨x, failed, repaired⟩) s ((if s1.nearEntry x then s1 else (List.range 32).foldl (fun s l =>
      s.retrainPc (32 * x.val + l) (!failed.toNat.testBit l) (repaired.toNat.testBit l)) s1).fire 228)) ∧
  (∀ (s : State) (x : Fin 2) (e e' : BurstErr), s.Live → (stackList s.variant).contains x.val = true →
    s.fld Reg.memScrub 31 31 = 1 → s.stackState x = 2 →
    s.fld (Reg.memStatus x) 27 27 = 0 →
    let at_ := sget 0 s.memx.patrol x
    let p := 32 * x.val + at_ % 32
    s.pcFailed p = false → at_ + 1 < 32 * pcBursts →
    let s1 := (s.burstRead (s.burstAddr p (at_ / 32)) e e').1
    let s2 : State := { s1 with memx := { s1.memx with patrol := sset 0 s1.memx.patrol x (at_ + 1) } }
    Gives (.patrolScrub x e e') s s2) ∧
  (∀ (s : State) (e : WordErr), s.Live → s.isPowered 23 = true →
    (s.fld Reg.combScrub 31 31 = 1 → s.memx.combInit = false →
      let s1 := (s.combRead (combBase + 16 * s.memx.combPatrol) e).1
      Gives (.combScrub e) s { s1 with memx := { s1.memx with combPatrol := (s1.memx.combPatrol + 1) % 0x40_0000 } }) ∧
    exec .combInitDone s = .next { s with memx := { s.memx with combInit := false } })

/-! Time, Ethernet and the cascade (spec/12_time_cascade.md). -/

/-- R428 to R434, R508 (O): a read of BCN_NOW_NS latches the fraction and the wrap count; an increment within range is taken and
clears locked, one outside it is refused and shown; a step moves time and marks it stepped; the PTP base is applied whole; a
write of a trigger's ARM register arms or disarms a trigger that no cell owns, at once too late for a time that is past; a
trigger's pulse ends; the counter carries into its wrap count. -/
def Obligations.BeaconCommandsComplete : Prop :=
  (∀ (s : State) (m : Master), s.Live →
    exec (.bcnNowNsRead m) s =
      .next ({ s with bcn := { s.bcn with latFrac := s.bcn.frac, latWrap := s.bcn.wrap } }.emit (.regData s.bcn.ns)) ∧
    (let inc := max 1 (s.reg Reg.bcnInc).toNat
     let left := 2 ^ 62 - (s.bcn.ns.toNat * 2 ^ 30 + s.bcn.frac.toNat)
     Gives .beaconWrap s (s.advance ((left + inc - 1) / inc * inc)))) ∧
  (∀ (s : State) (m : Master) (v : Word),
    (s.Open m Reg.bcnInc →
      (0x7FDF3B64 ≤ v.toNat → v.toNat ≤ 0x8020C49C →
        Gives (.bcnIncWrite m v) s ((s.setFld Reg.bcnStatus 31 31 0).setReg Reg.bcnInc v).followRate) ∧
      ((v.toNat < 0x7FDF3B64 ∨ 0x8020C49C < v.toNat) →
        Gives (.bcnIncWrite m v) s ((s.setFld Reg.bcnStatus 31 31 0).setFld Reg.bcnStatus 29 29 1))) ∧
    (s.Open m Reg.bcnPtpBaseHi → exec (.ptpBaseWrite m v) s = .next
      { s with bcn := { s.bcn with ptpBase := BitVec.ofNat 64 (v.toNat * 2 ^ 32 + s.bcn.ptpLo.toNat) } }) ∧
    (s.Open m Reg.bcnStepHi → (∀ n, n < 16 → (s.trig n).st ≠ .armed) → (∀ n, n < 8 → (s.cell n).alarm ≠ .armed) →
      let e' := (s.now + v.toNat * 2 ^ 32 + (s.reg Reg.bcnStepLo).toNat) % 2 ^ 64
      let s1 : State := { s with bcn := { s.bcn with ns := BitVec.ofNat 32 e', wrap := BitVec.ofNat 32 (e' / 2 ^ 32) } }
      let s2 := (s1.setFld Reg.bcnStatus 31 31 0).setFld Reg.bcnStatus 30 30 1
      Gives (.bcnStep m v) s ((if s.now / 2 ^ 32 = e' / 2 ^ 32 then s2 else s2.fire 241).fire 239))) ∧
  (∀ (s : State) (m : Master) (n : Fin 16) (v : Word), s.Open m (Reg.bcnTrigArm n) →
    let time := s.reg (Reg.bcnTrigTime n)
    (s.trigOwner n = none →
      (bitsOf v 31 30 = 2 → reached s.bcn.ns time = true → Gives (.hostTriggerArm m n v) s
        (s.setTrig n { s.trig n with st := .idle, time := time, late := false, result := 1 })) ∧
      (bitsOf v 31 30 = 2 → reached s.bcn.ns time = false → Gives (.hostTriggerArm m n v) s
        (s.setTrig n { s.trig n with st := .armed, time := time, late := false, result := 0 })) ∧
      (bitsOf v 31 30 = 1 → Gives (.hostTriggerDisarm m n v) s
        (s.setTrig n { s.trig n with st := .idle, result := disarmResult (s.trig n).st }))) ∧
    ((s.trigOwner n).isSome = true →
      Gives (.hostTriggerArm m n v) s (s.accessFault m true (regsBase + Reg.bcnTrigArm n)))) ∧
  (∀ (s : State) (n : Fin 16), s.Live → (s.trig n).pulse = true →
    let s1 := s.setTrig n { s.trig n with pulse := false }
    Gives (.triggerPulseEnd n) s
      ({ s1 with hci := { s1.hci with pulses := s1.hci.pulses.filter (fun x => x.1 != n.val) } } : State).gpioShow)

/-- R435, R437 to R442 (O): ETH_SETUP, RX_FILTER and RX_RING with good fields take effect; a PKT_SEND that passes waits on its port,
and its departure emits it padded, with its one-step insertion, and answers the stamp; RTP_SETUP starts a stream, RTP_SEND queues
its packets; a good frame that a filter matches enters the ring, the others are counted; a link change is shown. -/
def Obligations.EthernetCommandsComplete : Prop :=
  (∀ (s : State) (d : Desc) (rest : List Desc), s.Ready 21 0x10 [1] d rest →
    let t := s.run 21 d
    let p := t.fld 0 87 86
    ethAbsent s.variant p = false → t.zeros [(0, 67, 0), (1, 79, 0)] = true →
    let e : EthPort := ⟨t.fld 0 83 83 == 1, t.fld 0 82 71, t.fld 0 70 68, t.fld 1 127 80⟩
    let s0 := s.taken 21 d rest
    let s1 : State := { s0 with bcn := { s0.bcn with eth := sset ⟨false, 0, 0, 0⟩ s0.bcn.eth p e } }
    let s2 := (s1.setFld (Reg.ethStatus p) 30 30 (t.fld 0 85 85)).setFld (Reg.ethStatus p) 29 29 (t.fld 0 84 84)
    Gives .ethSetup s (((if t.fld 0 84 84 = 0 then s2.setLink p false else s2).setTx (48 + p)).done 21 d stSuccess 0)) ∧
  (∀ (s : State) (d : Desc) (rest : List Desc), s.Ready 21 0x11 [0] d rest →
    let t := s.run 21 d
    let mask := t.fld 0 82 79
    t.fld 0 60 0 = 0 → t.fld 0 78 77 ≠ 3 → (∀ p, p < 4 → mask.testBit p = true → ethAbsent s.variant p = false) →
    let x : RxFilterSt := ⟨t.fld 0 83 83 == 1, BitVec.ofNat 4 mask, t.fld 0 78 77, t.fld 0 76 61⟩
    let s0 := s.taken 21 d rest
    Gives .rxFilter s (({ s0 with bcn := { s0.bcn with
      filters := sset ⟨false, 0, 0, 0⟩ s0.bcn.filters (t.fld 0 87 84) x } } : State).done 21 d stSuccess 0)) ∧
  (∀ (s : State) (d : Desc) (rest : List Desc), s.Ready 21 0x12 [1] d rest →
    let t := s.run 21 d
    let base := t.fld 1 127 80
    let n := t.fld 1 79 64
    let ctrl := t.fld 1 63 16
    t.fld 1 15 0 = 0 → base % 2048 = 0 → ringEntriesOk n = true → ctrl % 64 = 0 → inMemory s.variant base (2048 * n) = true →
    inMemory s.variant ctrl 64 = true →
    let s0 := s.taken 21 d rest
    Gives .rxRing s (({ s0 with bcn := { s0.bcn with ring := some ⟨base, n, ctrl⟩ } } : State).done 21 d stSuccess 0)) ∧
  (∀ (s : State) (d : Desc) (rest : List Desc), s.Ready 21 0x13 [2] d rest →
    let t := s.run 21 d
    let s0 := s.taken 21 d rest
    let p := t.fld 0 87 86
    let s1 := s0.meet (t.fld 1 127 80) (t.fld 1 79 68)
    (∀ st, s0.pktRefused t = some st → Gives .pktSend s (s0.done 21 d st 0)) ∧
    (∀ st, s0.pktRefused t = none → s1.pktBad t = some st → Gives .pktSend s (s1.done 21 d st 0)) ∧
    (s0.pktRefused t = none → s1.pktBad t = none →
      Gives .pktSend s ((s1.setTxq p (s1.txq p ++ [s1.pktItem t])).settleHead 21))) ∧
  (∀ (s : State) (p : Fin 4) (i : TxItem) (rest : List TxItem), s.Live → s.txq p = i :: rest → s.unitStalled 0x0E = false →
    let s0 := s.meetUnit 0x0E (1 + p.val)
    let f := if i.oneStep = 0 then i.bytes else s0.insertStep i s0.stamp
    let s1 := ((s0.setTxq p rest).emit (.frame p (f ++ leBytes (60 - f.length) 0))).bump (Reg.ethCount1 p) 15 0 1
    (i.tag = none → Gives (.pktDeparture p) s s1) ∧
    (∀ tag, i.tag = some tag →
      Gives (.pktDeparture p) s (s1.complete 21 tag stSuccess (BitVec.ofNat 64 (s1.lessAsym p s0.stamp / 256))))) ∧
  (∀ (s : State) (d : Desc) (rest : List Desc), s.Ready 21 0x14 [3] d rest →
    let t := s.run 21 d
    let k := t.fld 0 87 84
    ethAbsent s.variant (t.fld 0 83 82) = false → t.fld 0 48 0 = 0 → 576 ≤ t.fld 0 59 49 → t.fld 0 59 49 ≤ 1500 →
    let r : RtpStream :=
      { port := t.fld 0 83 82, ipv6 := t.fld 0 81 81 == 1, dscp := t.fld 0 80 75, ttl := t.fld 0 74 67, payloadType := t.fld 0 66 60,
        mtu := t.fld 0 59 49, dstMac := t.fld 1 127 80, ssrc := t.fld 1 63 32, srcPort := t.fld 1 31 16, dstPort := t.fld 1 15 0,
        srcIp := (t.word 2).toNat, dstIp := (t.word 3).toNat }
    let s0 := s.taken 21 d rest
    let s1 : State := { s0 with bcn := { s0.bcn with rtp := sset none s0.bcn.rtp k (some r) } }
    Gives .rtpSetup s ((s1.setReg (Reg.rtpState k) (packBits [(1, 31), (t.fld 1 79 64, 0)])).done 21 d stSuccess 0)) ∧
  (∀ (s : State) (d : Desc) (rest : List Desc) (r : RtpStream), s.Ready 21 0x15 [2] d rest →
    let t := s.run 21 d
    let s0 := s.taken 21 d rest
    let s1 := s0.meetWrap (t.fld 1 127 80) (t.fld 2 127 80) (t.fld 2 79 56 * 4096) (t.fld 1 79 56)
    sget none s.bcn.rtp (t.fld 0 87 84) = some r → s0.rtpRefused r t = none → s1.rtpBad t = none →
    Gives .rtpSend s ((s1.rtpQueue (t.fld 0 87 84) r t).settleHead 21)) ∧
  (∀ (s : State) (p : Fin 4) (bytes : List Byte) (stamp : Nat), s.Live → ethAbsent s.variant p = false → s.ethUp p = true →
    let hit := (List.range 16).find? (fun k => (sget ⟨false, 0, 0, 0⟩ s.bcn.filters k).matches p bytes)
    Gives (.ethFrameReceived p bytes false stamp) s (s.bump (Reg.ethCount0 p) 31 16 1) ∧
    (2016 < bytes.length → Gives (.ethFrameReceived p bytes true stamp) s (s.bump (Reg.ethCount1 p) 31 16 1)) ∧
    (bytes.length ≤ 2016 → (etherType bytes).1 = 0x8808 → be16 bytes (etherType bytes).2 = 1 →
      exec (.ethFrameReceived p bytes true stamp) s = .next s) ∧
    (bytes.length ≤ 2016 → ¬((etherType bytes).1 = 0x8808 ∧ be16 bytes (etherType bytes).2 = 1) → s.unitStalled 0x0E = false →
      (hit = none → Gives (.ethFrameReceived p bytes true stamp) s (s.bump (Reg.ethCount0 p) 15 0 1)) ∧
      (∀ k r, hit = some k → s.bcn.ring = some r →
        let s1 := s.meet (r.ctrl + 16) 16
        (s1.ringSlot r 2048 = none →
          Gives (.ethFrameReceived p bytes true stamp) s ((s1.bump (Reg.ethCount1 p) 31 16 1).fire 238)) ∧
        (∀ w a, s1.ringSlot r 2048 = some (w, a) →
          Gives (.ethFrameReceived p bytes true stamp) s (s1.frameIn p k bytes stamp r w a))))) ∧
  (∀ (s : State) (p : Fin 4) (up : Bool), s.Live → ethAbsent s.variant p = false → s.fld (Reg.ethStatus p) 29 29 = 1 →
    Gives (.ethLinkChange p up) s (s.setLink p up))

/-- R448, R449, R452, R453, R459, R461 (O): a CAS_SETUP with good fields joins the ring, or leaves it; an export or import with good
fields on a free stream becomes active, CAS_STOP ends it; a CAS_MSG in the ring leaves; an exporter sends the next line of its
ring; reading the first of the Waggle stamps holds them all, reading the last lets them go. -/
def Obligations.CascadeDescriptorsComplete : Prop :=
  (∀ (s : State) (d : Desc) (rest : List Desc), s.Ready 20 0x10 [2] d rest →
    let t := s.run 20 d
    let s0 := s.taken 20 d rest
    casSetupBad s.variant t = false →
    (t.fld 0 87 87 = 0 → Gives .casSetup s (s0.dropStreams.casOff.done 20 d stSuccess 0)) ∧
    (t.fld 0 87 87 = 1 → s0.joinRefused t = none →
      let s1 := (List.range 8).foldl (fun s k => s.setTx (40 + k))
        (((if !s.cas.enable && s.casStrap then s0.setRole 1 else s0).casJoin t).casFollow)
      (t.fld 0 85 85 = 0 → Gives .casSetup s (s1.done 20 d stSuccess 0)) ∧
      (t.fld 0 85 85 = 1 → Gives .casSetup s ((s1.startEnum (w0Tag d.w0)).settleHead 20)))) ∧
  (∀ (s : State) (d : Desc) (rest : List Desc) (f w stride ctrl base lines : Nat), s.Ready 20 0x11 [1] d rest →
    let t := s.run 20 d
    let k := t.fld 0 87 82
    let s0 := s.taken 20 d rest
    s0.casStreamFields t = some (f, w, stride, ctrl, base, lines) → s.casExport k = none → s.casImport k = none →
    s.cas.usable ≠ [] →
    let s1 := s0.setExport k
      (some ⟨t.fld 0 81 81 == 1, t.fld 0 80 77, f, w, stride, ctrl, base, lines, none, s0.num (ctrl + 20) 4⟩)
    Gives .casExport s ((s1.setReg (Reg.casExp k) (packBits [(1, 31), (t.fld 0 81 81, 30), (t.fld 0 80 77, 26)])).done 20 d
      stSuccess 0)) ∧
  (∀ (s : State) (d : Desc) (rest : List Desc) (f w stride ctrl base lines : Nat), s.Ready 20 0x12 [1] d rest →
    let t := s.run 20 d
    let k := t.fld 0 87 82
    let s0 := s.taken 20 d rest
    s0.casStreamFields t = some (f, w, stride, ctrl, base, lines) → t.fld 0 81 77 = 0 → s.casExport k = none →
    s.casImport k = none → s.cas.usable ≠ [] →
    Gives .casImport s (((s0.setImport k (some ⟨f, w, stride, ctrl, base, lines, none, none, 0, 0⟩)).setFld (Reg.casImp k) 31 31
      1).done 20 d stSuccess 0)) ∧
  (∀ (s : State) (d : Desc) (rest : List Desc), s.Ready 20 0x13 [0] d rest →
    let t := s.run 20 d
    let k := t.fld 0 87 82
    let s0 := s.taken 20 d rest
    t.fld 0 80 0 = 0 →
    (t.fld 0 81 81 = 0 →
      Gives .casStop s (((s0.setExport k none).setFld (Reg.casExp k) 31 31 0).done 20 d stSuccess 0)) ∧
    (t.fld 0 81 81 = 1 →
      Gives .casStop s (((s0.setImport k none).setFld (Reg.casImp k) 31 31 0).done 20 d stSuccess 0))) ∧
  (∀ (s : State) (d : Desc) (rest : List Desc), s.Ready 20 0x14 [3] d rest →
    let t := s.run 20 d
    t.fld 0 83 0 = 0 → s.cas.enable = true → s.casAssigned = true → t.fld 0 87 84 < s.ringSize → s.cas.usable ≠ [] →
    let m := leBytes 16 (t.word 1).toNat ++ leBytes 16 (t.word 2).toNat ++ leBytes 16 (t.word 3).toNat
    Gives .casMsg s (((s.taken 20 d rest).originate 5 (t.fld 0 87 84) false false m).done 20 d stSuccess 0)) ∧
  (∀ (s : State) (k : Fin 64) (x : CasExp), s.Live → s.casExport k = some x → s.casRuns = true →
    Gives (.casExportLine k) s (s.exportNext k x)) ∧
  (∀ (s : State) (m : Master) (k : Fin 6), s.Live →
    let s1 := s.emit (.regData (s.reg (Reg.casWaggle k)))
    (k = 0 → s.cas.held = false → exec (.casWaggleStampRead m k) s =
      .next { s1 with cas := { s1.cas with held := true, heldStamps := [] } }) ∧
    (0 < k.val → k.val < 5 → exec (.casWaggleStampRead m k) s = .next s1) ∧
    (k = 5 → s.cas.held = true → Gives (.casWaggleStampRead m k) s
      (({ s1 with cas := { s1.cas with held := false, heldStamps := [] } } : State).putStamps s.cas.heldStamps)))

/-- R446, R449 to R453, R456 to R459 (O): a packet on a usable link of the cascade, new and for this device, is noted, delivered by
its kind (a Waggle heard, a request taken, a decision applied, a snapshot scheduled, a message put into the ring, an image's
frame opened, filled or closed) and then forwarded or removed; a PREPARE is voted on and passed on. R443, R444, R447, R449 to R451, R456, R458 (O): the links go down, come up and are used again; the delay of a link is asked,
answered and averaged over eight; a bad packet is counted by what is wrong; the holder of the role sends Waggles, the others
count the misses and a deputy takes the role at the third; a PREPARE that does not return in time is refused; a swarm snapshot
latches at its time. -/
def Obligations.CascadeTrafficCompletes : Prop :=
  (∀ (s : State) (l : Fin 2) (p : AdeoftPkt), s.Live → s.casRuns = true → s.cas.usable.contains l.val = true →
    let s1 := s.notePacket p
    (p.kind = 0 → s.addressed p = true → s.sawPacket p = false →
      let c := wrapInt 64 (signed 64 (pktNum p 24 8) + ((s1.stamp : Int) - p.arrival) + (s1.reg (Reg.casLinkDelay l)).toNat)
      Gives (.waggleReceived l p) s ((s1.hearWaggle p).forward (pktPut p 24 (leBytes 8 c)))) ∧
    (p.kind = 1 → s.casAssigned = true → p.dest = s.casPos → s.holdsRole = true → s.sawPacket p = false →
      Gives (.commitReqReceived l p) s ((s1.takeRequest ⟨p.origin, pktByte p 0, pktNum p 4 4, pktNum p 8 8⟩).forward p)) ∧
    (p.kind = 2 → s.ownPacket p = false → s.sawPacket p = false → Gives (.prepareReceived l p) s (s.votePrepare p)) ∧
    (∀ o, p.kind = 2 → s.ownPacket p = true → s.cas.prepOut = some o → o.id = pktNum p 16 4 → (p.wraps = 0 ∨ p.wraps = 2) →
      let yes := pktByte p 2 == 1 && decide (s.now ≤ o.tp + s.lead / 2)
      Gives (.prepareReceived l p) s
        ((s.sendDecide o yes (pktByte p 3) (if pktByte p 2 = 1 ∧ yes = false then 6 else pktByte p 20)).nextRequest)) ∧
    (p.kind = 3 → s.addressed p = true → s.sawPacket p = false →
      Gives (.decideReceived l p) s ((s1.decide_ (pktByte p 0 == s1.casPos) (pktByte p 1) (pktNum p 4 4) (pktNum p 8 4)
        (pktByte p 2 == 1) (pktByte p 3) (pktByte p 12)).forward p)) ∧
    (p.kind = 4 → s.addressed p = true → s.sawPacket p = false →
      Gives (.snapPacketReceived l p) s ((s1.scheduleSnap (pktNum p 0 8) p.origin).forward p)) ∧
    (p.kind = 5 → s.casAssigned = true → p.dest = s.casPos → s.sawPacket p = false →
      Gives (.adeoftMsgReceived l p) s ((s1.putMessage p).forward p)) ∧
    (∀ x, (p.kind = 9 ∨ p.kind = 10 ∨ p.kind = 11) → s.casImport (pktByte p 0) = some x → s.casAssigned = true →
      s.sawPacket p = false → s.imageDone p = true →
      let k := pktByte p 0
      let w := s1.ringWritten x.ctrl
      (p.kind = 9 → x.frameOpen = none → x.lastFrame = none → Gives (.frameOpenReceived l p) s
        ((s1.importWord0 x (pktNum p 4 4) w w false false).setImport k
          (some { x with frameOpen := some (pktNum p 4 4), line := 0, got := 0 }))) ∧
      (∀ n, p.kind = 10 → x.frameOpen = some n → pktNum p 2 2 = x.line % 65536 → pktNum p 4 4 = x.got →
        let s3 := s1.meet (x.ctrl + 16) 16
        let w := s3.ringWritten x.ctrl
        (w + 2 ^ 32 - s3.ringReleased x.ctrl) % 2 ^ 32 < x.lines → pktByte p 1 = 1 →
        x.got + (p.payload.drop 8).length = x.width * bytesPerPixel x.format →
        let s2 := s3.unitStore 0x10 (x.base + w % x.lines * x.stride * 64 + x.got) (p.payload.drop 8)
        Gives (.linePacketReceived l p) s ((s2.importWord0 x n (s2.num (x.ctrl + 8) 4) (w + 1) false false).setImport k
          (some { x with line := x.line + 1, got := 0 }))) ∧
      (p.kind = 11 → x.frameOpen = some (pktNum p 4 4) → x.got = 0 → Gives (.frameCloseReceived l p) s
        ((s1.importWord0 x (pktNum p 4 4) (s1.num (x.ctrl + 8) 4) w (pktByte p 1 == 1) true).setImport k
          (some { x with frameOpen := none, lastFrame := some (pktNum p 4 4) })))) ∧
    (∀ tag, p.kind = 8 → s.cas.enumTag = some tag → (p.wraps = 0 ∨ p.wraps = 2) →
      let s2 := ((s.setFld Reg.casStatus 19 16 (min 15 (pktByte p 0 - 1))).casShow).fire 244
      Gives (.adeoftEnumReceived l p) s
        (({ s2 with cas := { s2.cas with enumTag := none } } : State).complete 20 tag stSuccess (BitVec.ofNat 64 (pktByte p 0)))) ∧
    (p.kind = 8 → s.cas.enumTag = none → s.sawPacket p = false → pktByte p 0 < 16 →
      let s2 := ((s1.setFld Reg.casStatus 23 20 (pktByte p 0)).setFld Reg.casStatus 24 24 0).setFld Reg.casStatus 15 12 p.origin
      Gives (.adeoftEnumReceived l p) s ((s2.fire 244).forward (pktPut p 0 [BitVec.ofNat 8 (pktByte p 0 + 1)])))) ∧
  ((∀ (s : State) (d : Fin 2), s.Live → s.casRuns = true →
    (s.linkUpNow d = true → Gives (.adeoftLinkDown d) s (s.linkDown d)) ∧
    (s.linkUpNow d = false → s.linkLocks d = 15 → (s.cas.guard.isSome = true ∨ s.fld Reg.kprStatus 17 17 = 0) →
      let again := s.fld (Reg.casLinkStatus d) 30 30
      let s1 := s.setReg (Reg.casLinkStatus d) (packBits [(1, 31), (again, 30), (15, 26)])
      let s2 : State := if again = 0 then { s1 with cas := { s1.cas with usable := s1.cas.usable ++ [d.val] } } else s1
      Gives (.adeoftLinkUp d) s (s2.casShow.fire 244)) ∧
    (s.linkUpNow d = true → s.cas.usable.contains d.val = false →
      let s1 := s.setFld (Reg.casLinkStatus d) 30 30 0
      let s2 : State := { s1 with cas := { s1.cas with usable := s1.cas.usable ++ [d.val] } }
      Gives (.adeoftLinkReuse d) s (s2.casShow.fire 244)) ∧
    (s.cas.txOn.contains d.val = false →
      Gives (.adeoftTxRestart d) s ((s.mapCas (fun c =>
        { c with txOn := c.txOn ++ [d.val], blocks := sset 0 c.blocks d 0 })).showTx (10 + d.val))) ∧
    (∀ p : AdeoftPkt, s.linkUpNow d = true →
      let z := leBytes 6 0
      (p.kind = 6 → Gives (.delayReqReceived d p) s
        (s.sendLocal d 7 (stampBytes (pktStamp p 0) ++ z ++ stampBytes p.arrival ++ z ++ stampBytes s.stamp ++ z))) ∧
      (p.kind = 7 →
        let x : Int := (((p.arrival : Int) - pktStamp p 0) - ((pktStamp p 32 : Int) - pktStamp p 16)) / 2
        let l := sget [] s.cas.delays d ++ [x.toNat]
        let l8 := l.drop (l.length - 8)
        let s1 : State := { s with cas := { s.cas with delays := sset [] s.cas.delays d l8 } }
        Gives (.delayRespReceived d p) s
          (s1.setReg (Reg.casLinkDelay d) (BitVec.ofNat 32 (l8.sum / max 1 l8.length)))) ∧
      Gives (.adeoftBadPacket d .crc) s (s.bump Reg.casCount0 31 16 1) ∧
      Gives (.adeoftBadPacket d .unknownKind) s (s.bump Reg.casCount1 15 0 1) ∧
      Gives (.adeoftBadPacket d .control) s (s.bump Reg.casCount1 15 0 1) ∧
      Gives (.adeoftBadPacket d .guardFail) s ((s.bump Reg.kprCount 15 0 1).fire 38))) ∧
  (∀ s : State, s.Live → s.casRuns = true →
    (s.linkUpNow 0 = true → s.linkUpNow 1 = false →
      Gives .linkDelayMeasure s (s.sendLocal 0 6 (stampBytes s.stamp ++ leBytes 6 0))) ∧
    (s.casRole ≠ 0 → s.casAssigned = true → Gives .waggleSend s (s.sendWaggle (s.casRole == 2))) ∧
    (s.casRole = 0 → s.casAssigned = true →
      let s1 := s.bump Reg.casCount0 15 0 1
      let s2 := ({ s1 with cas := { s1.cas with misses := s1.cas.misses + 1 } } : State).fire 245
      (s.cas.misses < 2 → Gives .waggleMiss s s2) ∧
      (2 ≤ s.cas.misses → s.fld Reg.casStatus 11 8 = s.casPos → Gives .waggleMiss s (s2.takeRole 2)))) ∧
  (∀ (s : State) (o : PrepOut), s.Live → s.cas.prepOut = some o → o.tp + s.lead / 2 < s.now →
    Gives .prepareTimeout s ((s.sendDecide o false 0xFF 6).nextRequest)) ∧
  (∀ (s : State) (t origin : Nat), s.Live → s.cas.snaps = [(t, origin)] → t ≤ s.now →
    Gives .swarmSnapshotLatch s (({ s with cas := { s.cas with snaps := [] } } : State).latchSnap 1 origin)))

/-! The host port and the control buses (spec/13_host_control_buses.md). -/

/-- R472 to R477, R483, R485, R486 (O): a TW_XFER that passes occupies its port and drives it; its end writes what was read and
answers the bytes passed, a NACK is counted; a lost arbitration is counted and tried again while attempts are left; an error or a
timeout breaks the transfer off; a bus clear frees the bus at a pulse or leaves it held; a write of CTRL loads the mode's timing
and a reset breaks the transfer off. -/
def Obligations.TwoWireCommandsComplete : Prop :=
  (∀ (s : State) (d : Desc) (rest : List Desc), s.Ready 22 0x10 [1] d rest →
    let t := s.run 22 d
    let p := t.fld 0 87 85
    let s0 := s.taken 22 d rest
    let s1 := s0.meet (t.fld 1 127 80) (t.fld 0 71 60)
    s.twBusy p = false →
    (∀ st, s0.twRefused t = some st → Gives .twXfer s ((s0.twDone (w0Tag d.w0) st 0).settleHead 22)) ∧
    (∀ st, s0.twRefused t = none → s1.twBad t = some st → Gives .twXfer s ((s1.twDone (w0Tag d.w0) st 0).settleHead 22)) ∧
    (s0.twRefused t = none → s1.twBad t = none →
      Gives .twXfer s (((s1.setTw p (some (s1.twRunOf t)) false).emit ((s1.twRunOf t).sends p)).settleHead 22))) ∧
  (∀ (s : State) (p : Fin 6) (r : TwRun), s.Live → s.twRun p = some r →
    (∀ bytes, Gives (.twXferComplete p (.done bytes)) s
      ((s.unitStore 0x00 r.rdDest ((bytes ++ List.replicate r.rdLen 0xFF).take r.rdLen)).twEnds p r stSuccess r.wr.length r.rdLen
        true)) ∧
    Gives (.twXferComplete p .addressNack) s ((s.bump (Reg.twCount p) 15 0 1).twEnds p r twAddrNack 0 0 true) ∧
    (∀ i, 1 ≤ i → i ≤ r.wr.length → Gives (.twXferComplete p (.dataNack i)) s
      ((s.bump (Reg.twCount p) 15 0 1).twEnds p r twDataNack (i - 1) 0 true)) ∧
    (∀ (b : BitVec 8) (i : BitVec 4),
      let s1 := ((s.setFld (Reg.twStatus p) 23 16 b.toNat).setFld (Reg.twStatus p) 15 12 i.toNat).setFld (Reg.twStatus p) 27 27 1
      let s2 := (s1.bump (Reg.twCount p) 31 16 1).fire 252
      let r' := { r with lossByte := b.toNat, lossBit := i.toNat }
      (r.retry = true → r.made ≤ r.attempts →
        Gives (.twArbitrationLost p b i) s ((s2.setTw p (some { r' with made := r.made + 1 }) false).emit (r'.sends p))) ∧
      ((r.retry = false ∨ r.attempts < r.made) → Gives (.twArbitrationLost p b i) s
        (s2.twEnds p r' twArbLost (min (b.toNat - 1) r.wr.length) (min (b.toNat - 1 - r.wr.length) r.rdLen) false))) ∧
    Gives (.twSrError p) s (((s.setFld (Reg.twStatus p) 26 26 1).fire 252).twBreak p twArbSrErr false) ∧
    (twController p = true → s.fld (Reg.twTimeout p) 31 16 ≠ 0 → s.isPowered 28 = true →
      Gives (.twClockLowTimeout p) s (((s.setFld (Reg.twStatus p) 29 29 1).fire 252).twBreak p twClockLow false)) ∧
    (s.fld (Reg.twTimeout p) 15 0 ≠ 0 →
      let s1 := ((s.setFld (Reg.twStatus p) 28 28 1).fire 252).twBreak p twDataLow false
      Gives (.twDataLowTimeout p) s (if s1.fld (Reg.twCtrl p) 28 28 = 1 then s1.emit (.busClear p) else s1))) ∧
  (∀ (s : State) (d : Desc) (rest : List Desc), s.Ready 22 0x11 [0] d rest →
    let t := s.run 22 d
    let p := t.fld 0 87 85
    let s0 := s.taken 22 d rest
    s.twBusy p = false → twController p = true → t.fld 0 84 0 = 0 →
    (∀ k, Gives (.twBusClear true k) s ((s0.twDone (w0Tag d.w0) twBusHeld 1).settleHead 22)) ∧
    (∀ k : Fin 9, Gives (.twBusClear false (some k)) s
      (((s0.setTw p none true).twDone (w0Tag d.w0) stSuccess ((k.val + 1) * 256)).settleHead 22)) ∧
    Gives (.twBusClear false none) s (((s0.setTw p none false).twDone (w0Tag d.w0) twBusHeld (9 * 256)).settleHead 22)) ∧
  (∀ (s : State) (m : Master) (p : Fin 6) (v : Word), s.Open m (Reg.twCtrl p) → p.val ≠ 4 →
    let x := twCtrlValue v
    let t := twTiming (bitsOf x 30 29)
    let s1 := (((s.maskedWrite (Reg.twCtrl p) x).setReg (Reg.twTiming0 p) (BitVec.ofNat 32 t.1)).setReg (Reg.twTiming1 p)
      (BitVec.ofNat 32 t.2.1)).setReg (Reg.twTiming2 p) (BitVec.ofNat 32 t.2.2)
    (bitsOf v 31 31 = 0 → Gives (.twModeWrite m p v) s s1) ∧
    (bitsOf v 31 31 = 1 → Gives (.twControllerReset m p v) s (s1.twBreak p stAbortedByReset true))) ∧
  (∀ (s : State) (m : Master) (v : Word), s.Open m (Reg.twCtrl 4) →
    (bitsOf v 31 31 = 0 → Gives (.twModeWrite m 4 v) s s) ∧
    (bitsOf v 31 31 = 1 →
      Gives (.twControllerReset m 4 v) s ({ s with hci := { s.hci with staged := [], ignoring := false } } : State)))

/-- R478 to R480 (O): a write to TW_4 sets the pointer and then writes the bytes there; a read returns the bytes at the pointer; a
device that ignores a transfer to its end does nothing else; out_valid is set by writing 1; a start for the device wakes it out of
Doze; a stretch that lasts too long is given up. -/
def Obligations.TargetPortCommandsComplete : Prop :=
  ∀ (s : State), s.Live →
    (s.isPowered 28 = true →
      (∀ n, s.hci.ignoring = false →
        Gives (.tw4Read n) s ((State.tw4Gets n s).2.emit (.twoWire 4 (State.tw4Gets n s).1))) ∧
      (∀ (p : Byte) (bytes : List Byte), s.hci.ignoring = false →
        Gives (.tw4Write (p :: bytes)) s
          (bytes.foldl State.tw4Put { s with hci := { s.hci with pointer := p.toNat } })) ∧
      (∀ bytes, s.hci.ignoring = true →
        exec (.tw4Write bytes) s = .next { s with hci := { s.hci with ignoring := false } })) ∧
    (∀ (m : Master) (v : Word), s.Open m Reg.tw4Status →
      Gives (.tw4OutValidWrite m v) s (s.maskedWrite Reg.tw4Status (v ||| (s.reg Reg.tw4Status &&& 0x20000000)))) ∧
    (1 ≤ s.fgh.dozeStep → s.fgh.dozeStep ≤ 7 → Gives .tw4WakeMatch s ((s.fire 253).wake .tw4)) ∧
    (s.fld Reg.fghStatus 31 28 = 4 → s.fld Reg.tw4Cfg 31 31 = 0 →
      let s1 := s.setFld Reg.tw4Status 28 28 1
      Gives .tw4StretchTimeout s { s1 with hci := { s1.hci with ignoring := true } })

/-- R470, R471 (O): a FLASH_READ copies the flash to memory; a FLASH_PROGRAM or FLASH_ERASE above the protected boundary starts, and
each page or erase that is done changes the flash and goes on to the next; a poll that times out ends it with FLASH_ERROR. -/
def Obligations.BootFlashCommandsComplete : Prop :=
  (∀ (s : State) (d : Desc) (rest : List Desc), s.Ready 22 0x12 [1] d rest →
    let t := s.run 22 d
    let off := t.fld 0 87 56
    let n := t.fld 0 55 32
    let dst := t.fld 1 127 80
    let s0 := s.taken 22 d rest
    s.hci.flashRun = none → n ≠ 0 → t.zeros [(0, 31, 0), (1, 79, 0)] = true → inMemory s.variant dst n = true →
    off + n ≤ flashTop →
    Gives .flashRead s ((s0.unitStore 0x00 dst (s0.flashBytes off n)).done 22 d stSuccess (BitVec.ofNat 64 n))) ∧
  (∀ (s : State) (d : Desc) (rest : List Desc), s.Ready 22 0x13 [1] d rest →
    let t := s.run 22 d
    let off := t.fld 0 87 56
    let n := t.fld 0 55 32
    let src := t.fld 1 127 80
    let s0 := s.taken 22 d rest
    s.hci.flashRun = none → n ≠ 0 → t.zeros [(0, 31, 0), (1, 79, 0)] = true → inMemory s.variant src n = true →
    off + n ≤ flashTop → s.flashLocked off = false → (s0.meet src n).poisonedAt src n = false →
    Gives .flashProgram s (((s0.meet src n).flashNext ⟨w0Tag d.w0, false, off, n, 0, src, 0, false⟩).settleHead 22)) ∧
  (∀ (s : State) (d : Desc) (rest : List Desc), s.Ready 22 0x14 [0] d rest →
    let t := s.run 22 d
    let off := t.fld 0 87 56
    let n := t.fld 0 55 40
    let s0 := s.taken 22 d rest
    s.hci.flashRun = none → off % 4096 = 0 → t.fld 0 39 0 = 0 → off + 4096 * n ≤ flashTop → (n ≠ 0 → s.flashLocked off = false) →
    Gives .flashErase s ((s0.flashNext ⟨w0Tag d.w0, true, off, n, 0, 0, 0, false⟩).settleHead 22)) ∧
  (∀ (s : State) (r : FlashRun), s.Live → s.hci.flashRun = some r →
    (r.erase = true →
      let now := s.hci.flash.filter (fun p => !(decide (r.offset ≤ p.1) && decide (p.1 < r.offset + 4096 * r.size)))
      Gives .flashPageDone s (({ s with hci := { s.hci with flash := now } } : State).flashNext
        { r with offset := r.offset + 4096 * r.size, left := r.left - r.size, done := r.done + r.size, src := r.src + r.size })) ∧
    (r.erase = false →
      let now := ((s.bytes r.src r.size).zipIdx).foldl
        (fun f p => sset 0xFF f (r.offset + p.2) (sget 0xFF f (r.offset + p.2) &&& p.1)) s.hci.flash
      Gives .flashPageDone s (({ s with hci := { s.hci with flash := now } } : State).flashNext
        { r with offset := r.offset + 1 * r.size, left := r.left - r.size, done := r.done + r.size, src := r.src + r.size })) ∧
    Gives .flashPollTimeout s ((({ s with hci := { s.hci with flashRun := none } } : State).setFld Reg.flashStatus 31 28 0).complete
      22 r.tag flashError (BitVec.ofNat 64 r.done)))

/-- R463 to R469, R484, R495, R510 (O): a ball's edge shows at its pin; a change of the PCIe link is shown, its loss reported; an
unmasked MSI-X vector sends its pending message; BAR4_BASE is a masked write; hot reset and FLR begin their resets; a good
directory starts the loading, none that is good fails the boot; a copied data entry is stored and done. -/
def Obligations.EndpointAndBootComplete : Prop :=
  (∀ (s : State) (p : Fin 16) (level : Bool), s.Live →
    let mask : BitVec 16 := BitVec.ofNat 16 (2 ^ p.val)
    let balls := if level then s.hci.balls ||| mask else s.hci.balls &&& ~~~mask
    let s1 := ({ s with hci := { s.hci with balls := balls } } : State).gpioShow
    let e := if level then 16 + p.val else p.val
    (s1.fld Reg.gpioWake p p = 0 → Gives (.gpioEdge p level) s s1) ∧
    (s.hci.balls.getLsbD p ≠ level → s1.fld Reg.gpioEdge e e = 1 → s1.fld Reg.gpioWake p p = 1 →
      Gives (.gpioEdge p level) s (s1.wake .gpio))) ∧
  (∀ (s : State) (up : Bool) (width : BitVec 4) (speed : BitVec 3), s.Live → s.isPowered 28 = true →
    let was := s.fld Reg.hciPcieStatus 31 31
    let shown := s.setFld Reg.hciPcieStatus 31 24 (if up then 128 + width.toNat * 8 + speed.toNat else 0)
    let lit := (List.range 8).foldl (fun s n => if up && decide (n < width.toNat) then s.setTx n else s) shown
    let s1 := (lit.showTx 0).showTx 1
    (was = up.toNat → Gives (.pcieLinkChange up width speed) s s1) ∧
    (was = 0 → up = true → Gives (.pcieLinkChange up width speed) s (s1.fire 250)) ∧
    (was = 1 → up = false → Gives (.pcieLinkChange up width speed) s ((s1.fire 250).report 0x00 0 0x0D 0))) ∧
  (∀ s : State, s.Live → Gives .hotReset s (s.beginReset .hot) ∧ Gives .flr s (s.beginReset .flr)) ∧
  (∀ (s : State) (v : Fin 256), s.Live →
    Gives (.msixUnmask v) s (s.msixCtrlWrite v (putBits (s.reg (Reg.msixTable v 3)) 0 0 0))) ∧
  (∀ (s : State) (m : Master) (v : Word), s.Open m Reg.hciBar4Base →
    Gives (.bar4BaseWrite m v) s (s.maskedWrite Reg.hciBar4Base v)) ∧
  (∀ (s : State) (p1 p2 : Bool), s.Live → s.bootState < 2 →
    let a := s.flashBytes 0 1088
    let b := s.flashBytes 0x10000 1088
    let load (d : List Byte) (backup : Nat) : State :=
      let s1 := (s.setFld Reg.hciBootStatus 25 25 backup).setBootState 2
      let s2 := s1.setFld Reg.flashStatus 27 17 (imgNum d 7 1 * 2 ^ 9 + imgNum d 10 1 * 2 + (if imgNum d 8 1 = 4 then 1 else 0))
      { s2 with hci := { s2.hci with entries := (List.range (imgNum d 6 1)).map (readEntry d), bootNext := 0, bootWait := false } }
    (p1 = false → directoryOk s.variant a = true → Gives (.bootDirectoryReadDone p1 p2) s (load a 0)) ∧
    ((p1 = true ∨ directoryOk s.variant a = false) → p2 = false → directoryOk s.variant b = true →
      Gives (.bootDirectoryReadDone p1 p2) s (load b 1)) ∧
    ((p1 = true ∨ directoryOk s.variant a = false) → (p2 = true ∨ directoryOk s.variant b = false) →
      Gives (.bootDirectoryReadDone p1 p2) s (s.setBootState 5))) ∧
  (∀ (s : State) (poisoned : Bool) (e : BootEntry) (rest : List BootEntry), s.Live → s.bootState = 2 → s.hci.bootWait = false →
    (s.kprState = 2 ∨ s.kprState = 3) → s.hci.entries.drop s.hci.bootNext = e :: rest →
    (combBase ≤ e.dest ∨ s.memReady = true) → (combBase ≤ e.dest → s.memx.combInit = false) →
    let s1 := s.storeP e.dest (s.flashBytes e.offset e.length) poisoned
    (e.type = 3 → Gives (.bootEntryCopyDone poisoned) s (s1.bootEntryDone (!poisoned))) ∧
    (e.type = 2 → s.hive.loader.step = .idle → Gives (.bootEntryCopyDone poisoned) s
      (({ s1 with hci := { s1.hci with bootWait := true } } : State).beginLoad e.dest true)))

/-! Foghorn: safety, power and reset (spec/14_safety_power_reset.md). -/

/-- R492 to R502, R520, R521 (O): the window that closes is the first open one; the next record is written; failed checkers and
clocks five times outside are reported; a mismatch holds FAULT_N; clear_fault releases it; a pin clear empties pinned slots; a
snapshot trigger latches; REC_READ, SNAP_COPY and REPORT store, copy and enter what they name. -/
def Obligations.RecordsComplete : Prop :=
  (∀ (s : State) (i : Nat) (e : Entry), s.Live → s.fgh.intake[i]? = some e → e.windowOpen = true →
    (s.fgh.intake.take i).any (·.windowOpen) = false →
    ((e.written = none ∨ e.again = true) → Gives (.intakeWindowClose i) s
      { s with fgh := { s.fgh with intake := s.fgh.intake.set i { e with windowOpen := false } } }) ∧
    (e.written ≠ none → e.again = false → Gives (.intakeWindowClose i) s
      ({ s with fgh := { s.fgh with intake := s.fgh.intake.eraseIdx i } } : State).payLost)) ∧
  (∀ (s : State) (i : Nat), s.Live → s.fld Reg.fghStatus 20 20 = 0 → nextRecord s.fgh.intake = some i →
    Gives .recordWrite s (s.recordEntry i)) ∧
  (∀ (s : State) (l : List (Fin 256 × BitVec 8)), s.Live → s.fld Reg.fghCtrl 30 30 = 1 →
    let s1 := (s.setFld Reg.fghSelftest 31 16 (s.fld Reg.fghSelftest 31 16 + 1)).bump Reg.fghSelftest 15 0 l.length
    Gives (.selfTestCycle l) s (l.foldl (fun s f => s.report f.1.val f.2.toNat 0x0F 0) s1)) ∧
  (∀ (s : State) (d : Fin 60), s.Live →
    let n := min 5 (sget 0 s.fgh.clockBad d.val + 1)
    let s1 : State := { s with fgh := { s.fgh with clockBad := sset 0 s.fgh.clockBad d.val n } }
    (n < 5 → Gives (.clockMonitorMeasure d true) s s1) ∧
    (n = 5 → s.fgh.clockReported.contains d.val = false → Gives (.clockMonitorMeasure d true) s
      (({ s1 with fgh := { s1.fgh with clockReported := s.fgh.clockReported ++ [d.val] } } : State).report 0x04 d.val 0x10 0)) ∧
    (n = 5 → s.fgh.clockReported.contains d.val = true → Gives (.clockMonitorMeasure d true) s s1) ∧
    Gives (.clockMonitorMeasure d false) s
      { s with fgh := { s.fgh with
          clockBad := sset 0 s.fgh.clockBad d.val 0, clockReported := s.fgh.clockReported.filter (· != d.val) } }) ∧
  (∀ (s : State), s.Live →
    let s1 := s.setFld Reg.fghStatus 20 20 1
    Gives .foghornMismatch s ({ s1 with fgh := { s.fgh with faultStuck := true } } : State).assertFault) ∧
  (∀ (s : State) (m : Master) (v : Word), s.Open m Reg.fghCtrl →
    let s1 := s.maskedWrite Reg.fghCtrl v
    (bitsOf v 27 27 = 0 → Gives (.clearFault m v) s s1) ∧
    (bitsOf v 27 27 = 1 → s1.fld Reg.fghStatus 22 22 = 1 → s.fgh.faultStuck = false → Gives (.clearFault m v) s
      ((s1.setFld Reg.fghStatus 22 22 0).emit (.pin .faultN true))) ∧
    (bitsOf v 27 27 = 1 → (s1.fld Reg.fghStatus 22 22 = 0 ∨ s.fgh.faultStuck = true) → Gives (.clearFault m v) s s1)) ∧
  (∀ (s : State) (m : Master) (v : Word), s.Open m Reg.fghPinClear → bitsOf v 31 31 = 1 →
    let s1 := s.setFld Reg.fghPinned 31 31 0
    (bitsOf v 30 30 = 0 → Gives (.pinClear m v) s s1) ∧
    (bitsOf v 30 30 = 1 → Gives (.pinClear m v) s
      { (s1.setFld Reg.fghPinned 30 27 0) with fgh := { s.fgh with fatalNext := 0 } })) ∧
  (∀ (s : State) (m : Master) (v : Word), s.Open m Reg.fghSnapTrig → bitsOf v 31 31 = 1 →
    Gives (.hostSnapTrigger m v) s (s.latchSnap 3 0)) ∧
  (∀ (s : State) (d : Desc) (rest : List Desc), s.Ready 23 0x12 [1] d rest →
    let t := s.run 23 d
    let dst := t.fld 1 127 80
    let recs := s.recordsAsked t
    t.zeros [(0, 40, 0), (1, 79, 0)] = true → dst % 32 = 0 → inMemory s.variant dst (32 * recs.length) = true →
    Gives .recRead s ((((s.taken 23 d rest).meetUnit 0x04 1).unitStore 0x04 dst (recs.flatMap (fun r => r.getD (List.replicate 32 0)))).done 23 d
      stSuccess (BitVec.ofNat 64 (recs.filter Option.isSome).length))) ∧
  (∀ (s : State) (d : Desc) (rest : List Desc) (torn : Bool), s.Ready 23 0x13 [1] d rest →
    let t := s.run 23 d
    let dst := t.fld 1 127 80
    t.zeros [(0, 87, 0), (1, 79, 0)] = true → dst % 64 = 0 → inMemory s.variant dst 4160 = true →
    Gives (.snapCopy torn) s (((s.taken 23 d rest).unitStore 0x04 dst s.snapBytes).done 23 d
      (if torn then fghSnapTorn else stSuccess) 0)) ∧
  (∀ (s : State) (d : Desc) (rest : List Desc), s.Ready 23 0x14 [1] d rest →
    let t := s.run 23 d
    t.zeros [(0, 77, 0), (1, 79, 0)] = true →
    Gives .report s (((s.taken 23 d rest).reportSev (0x50 + t.cell) (t.fld 0 85 78) 0x18 (t.fld 0 87 86) (t.fld 1 127 80)).done 23 d
      stSuccess 0))

/-- R503, R505, R506, R521 (O): a PD_SET of three masks that share no domain and leave PD_0 and PD_1 alone takes the named domains
down and lets those to be on rise; a domain that has risen is powered; STATE asks for Hold, or leaves it; Hold is reached when no
generator runs. R507, R508 (O): the host enters Doze; each step of the entry and of the exit has its effect in its order; a wake source that is
enabled begins the exit in Doze, and the alarm only when its time is reached. -/
def Obligations.DomainsHoldAndDozeComplete : Prop :=
  ((∀ (s : State) (d : Desc) (rest : List Desc), s.Ready 23 0x10 [1] d rest → s.fgh.pdTag = [] →
    let t := s.run 23 d
    let on := BitVec.ofNat 30 (t.fld 0 87 58)
    let off := BitVec.ofNat 30 (t.fld 0 57 28)
    let re := BitVec.ofNat 30 (t.fld 1 127 98)
    t.zeros [(0, 27, 0), (1, 97, 0)] = true → on &&& off = 0 → on &&& re = 0 → off &&& re = 0 → (on ||| off ||| re) &&& 3#30 = 0 →
    let s1 := (domList (off ||| re)).foldl State.powerDown (s.taken 23 d rest)
    let s2 := (domList (on ||| re)).foldl State.startRise s1
    Gives .pdSet s ((({ s2 with fgh := { s2.fgh with pdTag := s2.fgh.pdTag ++ [(w0Tag d.w0, on ||| re)] } } : State).risenAll).settleHead
      23)) ∧
  (∀ (s : State) (d : Fin 30), s.Live → s.doms.rising.getLsbD d.val = true →
    Gives (.domainPowerUpDone d) s (s.powerUp d.val).risenAll) ∧
  (∀ (s : State) (d : Desc) (rest : List Desc), s.Ready 23 0x11 [0] d rest → s.fgh.stateTag = none → s.fgh.resetting = none →
    let t := s.run 23 d
    let off := BitVec.ofNat 30 (t.fld 0 86 57)
    let s0 := s.taken 23 d rest
    t.fld 0 56 0 = 0 →
    (s.powerState = 0 → t.fld 0 87 87 = 0 → Gives .state s (s0.done 23 d stSuccess s.poweredResult)) ∧
    (s.powerState = 0 → t.fld 0 87 87 = 1 → off &&& ~~~holdMask = 0 →
      let s1 : State := { s0 with fgh := { s.fgh with offMask := off, stateTag := some (w0Tag d.w0) } }
      Gives .state s (((s1.setPowerState 2).holdAll).settleHead 23)) ∧
    (s.powerState = 1 → t.fld 0 87 87 = 0 →
      let s1 := ((domList s.fgh.offMask).foldl State.startRise s0)
      let s2 := (s1.setPowerState 0).fire 25
      Gives .state s ((({ s2 with fgh := { s2.fgh with stateTag := some (w0Tag d.w0) } } : State).risenAll).settleHead 23))) ∧
  (∀ (s : State), s.Live → s.powerState = 2 → s.gensLive = false → s.fgh.resetting = none →
    let s1 := (((domList s.fgh.offMask).foldl State.powerDown s).setPowerState 1).fire 25
    (s1.fgh.stateTag = none → Gives .stateHoldReached s s1) ∧
    (∀ tag, s1.fgh.stateTag = some tag → Gives .stateHoldReached s
      (({ s1 with fgh := { s1.fgh with stateTag := none } } : State).complete 23 tag stSuccess s1.poweredResult)))) ∧
  ((∀ (s : State) (v : Word), s.Open .host Reg.fghPower → bitsOf v 31 31 = 1 → s.powerState < 2 → s.fgh.stateTag = none →
    s.fgh.resetting = none →
    Gives (.dozeEntry .host v) s
      ((({ s with fgh := { s.fgh with dozeStep := 1, wakeHeld := none } } : State).setPowerState 3).holdAll)) ∧
  (∀ (s : State), s.Live →
    let next (s : State) : State := { s with fgh := { s.fgh with dozeStep := s.fgh.dozeStep + 1 } }
    (s.fgh.dozeStep = 1 → s.gensLive = false → Gives .dozeStepDone s (next ((domList holdMask).foldl State.powerDown s))) ∧
    (s.fgh.dozeStep = 2 →
      let s1 := (List.range 8).foldl (fun s n => if (s.cell n).live then s.halt n (s.cell n).restState 0 0 else s) s
      Gives .dozeStepDone s (next (((s1.eraseLaneKeys).eraseCascade).closeSessions))) ∧
    (s.fgh.dozeStep = 3 → (stackList s.variant).any (fun x => s.stackState x == 1) = false →
      Gives .dozeStepDone s (next ((stackList s.variant).foldl State.enterSelfRefresh s))) ∧
    (s.fgh.dozeStep = 4 → Gives .dozeStepDone s (next ([19, 20, 21, 22, 23, 24, 25, 28].foldl State.powerDown s))) ∧
    (s.fgh.dozeStep = 5 →
      let s1 : State := { s with gov := { s.gov with heldSetpoint := some (s.gov.heldSetpoint.getD s.setpoint) } }
      Gives .dozeStepDone s (next (s1.sendVout s.dozeMv 1))) ∧
    (s.fgh.dozeStep = 6 →
      let s1 := (next (s.setFld Reg.bcnStatus 31 31 1)).fire 25
      (s1.fgh.wakeHeld = none → Gives .dozeStepDone s s1) ∧
      (∀ src, s1.fgh.wakeHeld = some src → Gives .dozeStepDone s (s1.beginWake src))) ∧
    (s.fgh.dozeStep = 8 →
      let mv := s.gov.heldSetpoint.getD s.setpoint
      Gives .dozeExitStepDone s (next (({ s with gov := { s.gov with heldSetpoint := none } } : State).sendVout mv 1))) ∧
    (s.fgh.dozeStep = 9 → Gives .dozeExitStepDone s (next ([28, 24].foldl State.powerUp s))) ∧
    (s.fgh.dozeStep = 10 → Gives .dozeExitStepDone s (next ([21, 22].foldl State.powerUp s))) ∧
    (s.fgh.dozeStep = 11 →
      let s1 := (domList (BitVec.setWidth 30 (s.reg Reg.fghDozeRestore) &&& ~~~3#30)).foldl State.powerUp
        ([23, 19, 20].foldl State.powerUp s)
      Gives .dozeExitStepDone s (next s1.guardAgain)) ∧
    (s.fgh.dozeStep = 12 → Gives .dozeExitStepDone s (next (s.fire 242))) ∧
    (s.fgh.dozeStep = 13 →
      let s1 := s.setPowerState 0
      Gives .dozeExitStepDone s ((({ s1 with fgh := { s.fgh with dozeStep := 0, offMask := 0 } } : State).fire 25).fire 26))) ∧
  (∀ (s : State) (src : WakeSrc), s.Live → s.fgh.dozeStep = 7 → s.fld Reg.fghWakeCfg (wakeBit src) (wakeBit src) = 1 →
    (src = .alarm → (s.reg Reg.fghWakeTimeLo).toNat + 2 ^ 32 * (s.reg Reg.fghWakeTimeHi).toNat ≤ s.now) →
    Gives (.dozeWake src) s (s.beginWake src)) ∧
  (∀ (s : State) (src : WakeSrc), s.Live → 1 ≤ s.fgh.dozeStep → s.fgh.dozeStep ≤ 6 → s.fgh.wakeHeld = none →
    s.fld Reg.fghWakeCfg (wakeBit src) (wakeBit src) = 1 →
    (src = .alarm → (s.reg Reg.fghWakeTimeLo).toNat + 2 ^ 32 * (s.reg Reg.fghWakeTimeHi).toNat ≤ s.now) →
    Gives (.dozeWake src) s { s with fgh := { s.fgh with wakeHeld := some src } }))


/-- R504, R509 to R511, R518, R557 (O): the watchdog starts with a timeout, is kicked, expires into a reset or a report; only the
value 0x5EED0001 is a soft reset; a reset goes on at the end of its Hold window; power-on and RESET_N take the device into reset,
RESET_N after a thermal shutdown only below 110 °C; the release samples the straps and boots, but with TEST_EN high the device stays
in reset with FAULT_N low (R571). -/
def Obligations.ResetsComplete : Prop :=
  (∀ (s : State) (m : Master) (v : Word), s.Open m Reg.fghWdog →
    let s1 := s.maskedWrite Reg.fghWdog v
    Gives (.wdogWrite m v) s { s1 with fgh := { s1.fgh with wdogRunning := bitsOf v 15 0 != 0 } }) ∧
  (∀ (s : State) (m : Master) (v : Word), s.Open m Reg.fghKick → exec (.wdogKick m v) s = .next s) ∧
  (∀ (s : State), s.Live → s.fgh.wdogRunning = true → s.fld Reg.fghWdog 15 0 ≠ 0 →
    let s1 := s.fire 11
    (s1.fld Reg.fghWdog 31 31 = 1 → Gives .wdogExpiry s (s1.beginReset .watchdog)) ∧
    (s1.fld Reg.fghWdog 31 31 = 0 → Gives .wdogExpiry s (s1.reportSev 0x04 0 0x18 3 0))) ∧
  (∀ (s : State) (m : Master) (v : Word), s.Open m Reg.fghReset →
    (v = 0x5EED0001#32 → Gives (.softReset m v) s (s.beginReset .soft)) ∧
    (v ≠ 0x5EED0001#32 → exec (.softReset m v) s = .next s)) ∧
  (∀ (s : State) (kind : ResetKind), s.Live → s.fgh.resetting = some kind → Gives .resetHoldWindowEnd s (s.finishReset kind)) ∧
  (∀ (s : State),
    Gives .powerOnReset s (s.enterReset .powerOn) ∧
    ((s.powerState ≠ 5 ∨ s.sensor 0 < 440) → Gives .resetNAssert s (s.enterReset .resetN)) ∧
    (s.powerState = 5 → 440 ≤ s.sensor 0 → Gives .resetNAssert s s)) ∧
  (∀ (s : State) (st : Straps), s.inert = true → s.powerState ≠ 5 →
    let kept (k : Nat) : Word :=
      nvMask k ||| (if k = Reg.fghStatus then 0x0F400000#32 else if isPcFailed k then 0xFFFFFFFF#32 else 0)
    let st' := s.sampled st
    (st.testEn = false → Gives (.resetRelease st) s
      ({ State.blank s.variant st' with
          regs := keepRegs s.variant st' kept s.regs, nv := s.nv, kpr := s.kpr, hci := s.hci, fgh := s.fgh, out := s.out,
          fresh := s.fresh, pending := s.pending } : State).resetEnds) ∧
    (st.testEn = true → s.fld Reg.fghStatus 22 22 = 0 →
      Gives (.resetRelease st) s ((s.setFld Reg.fghStatus 22 22 1).emit (.pin .faultN false))) ∧
    (st.testEn = true → s.fld Reg.fghStatus 22 22 = 1 → Gives (.resetRelease st) s s))

/-- R512 to R519, R553 (O): VCORE below its warning level warns once and keeps the minimum, recovers with the minimum and the
duration, and takes a protective Hold once when its dwell ends; other rails warn and recover by name; the readings of the sensors
are checked against their neighbours and judged; the oscillator's trim is counted. -/
def Obligations.SupplyAndHeatComplete : Prop :=
  (∀ (s : State) (mv : BitVec 16), s.Live → mv.toNat < s.warnLevel →
    (s.supplyWarn = true → Gives (.supplyWarning mv) s
      (s.setFld Reg.fghSupplyStatus 25 16 (min mv.toNat (s.fld Reg.fghSupplyStatus 25 16)))) ∧
    (s.supplyWarn = false →
      let s1 := ((s.setFld Reg.fghSupplyStatus 31 31 1).setFld Reg.fghSupplyStatus 25 16 (min 1023 mv.toNat)).fire 16
      let s2 : State := { s1 with gov := { s1.gov with warnSeen := true }, fgh := { s1.fgh with dwellTaken := false } }
      Gives (.supplyWarning mv) s (s2.report 0x04 0 0x12 (s.warnLevel * 2 ^ 32 + mv.toNat * 2 ^ 16)))) ∧
  (∀ (s : State) (mv : BitVec 16) (d : BitVec 32), s.Live → s.supplyWarn = true →
    let low := min mv.toNat (s.fld Reg.fghSupplyStatus 25 16)
    let s1 := ((s.setFld Reg.fghSupplyStatus 31 31 0).setFld Reg.fghSupplyStatus 25 16 low).bump Reg.fghSupplyStatus 15 0 1
    Gives (.supplyRecovery mv d) s
      ((({ s1 with fgh := { s1.fgh with dwellTaken := false } } : State).fire 17).report 0x04 0 0x13 (low * 2 ^ 32 + d.toNat))) ∧
  (∀ (s : State), s.Live → s.supplyWarn = true → s.fld Reg.fghSupplyCfg 23 16 ≠ 0 → s.fgh.dwellTaken = false →
    let s1 := ({ s with fgh := { s.fgh with dwellTaken := true } } : State).fire 18
    Gives .supplyDwellExpiry s { s1 with due := { s1.due with hold := true } }) ∧
  (∀ (s : State) (r : Fin 11) (mv : BitVec 16), s.Live → mv.toNat < railLevel s.straps r →
    (s.fgh.railWarn.contains r.val = false →
      let s1 : State := { s with fgh := { s.fgh with
        railWarn := s.fgh.railWarn ++ [r.val], railMin := sset 0 s.fgh.railMin r.val mv.toNat } }
      Gives (.otherRailWarning r mv) s (((s1.setFld Reg.fghSupplyStatus 30 30 1).fire 19).report 0x04 r 0x12
        (railLevel s.straps r * 2 ^ 32 + mv.toNat * 2 ^ 16))) ∧
    (s.fgh.railWarn.contains r.val = true → Gives (.otherRailWarning r mv) s
      { s with fgh := { s.fgh with railMin := sset 0 s.fgh.railMin r.val (min mv.toNat (sget 0 s.fgh.railMin r.val)) } })) ∧
  (∀ (s : State) (r : Fin 11) (mv : BitVec 16) (d : BitVec 32), s.Live → s.fgh.railWarn.contains r.val = true →
    let low := min mv.toNat (sget 0 s.fgh.railMin r.val)
    let s1 : State := { s with fgh := { s.fgh with
      railWarn := s.fgh.railWarn.filter (· != r.val), railMin := sset 0 s.fgh.railMin r.val 0 } }
    Gives (.otherRailRecovery r mv d) s
      (((s1.setFld Reg.fghSupplyStatus 30 30 (!s1.fgh.railWarn.isEmpty).toNat).fire 17).report 0x04 r 0x13
        (low * 2 ^ 32 + d.toNat))) ∧
  (∀ (s : State) (l : List (BitVec 16)), s.Live → s.fgh.dozeStep ≠ 7 →
    let s0 := s.takeReadings 16 l
    let s1 := (List.range 16).foldl (State.checkSensor s0) s0
    (∀ t, s1.hottest 16 = some t → Gives (.sensorRead l) s (s1.judgeDie t)) ∧
    (s1.hottest 16 = none → Gives (.sensorRead l) s s1)) ∧
  (∀ (s : State) (l : List (BitVec 16)), s.inert = true → s.powerState = 5 →
    Gives (.sensorRead l) s (s.takeReadings 1 l)) ∧
  (∀ (s : State), s.Live → Gives .oscillatorTrim s { s with fgh := { s.fgh with trims := s.fgh.trims + 1 } })

/-! Keeper (spec/15_security.md). -/

/-- R524, R528, R542, R545 to R547 (O): a request with whole addresses is begun; a go with nothing under way is taken, one while busy
sets overrun; GET_INFO, GET_IDENTITY and GET_RANDOM answer; NV_READ and NV_WRITE read and write the general partition; self-tests,
a failure of the noise source and a mismatch of the lockstep leave their state; firmware that passes the checks starts. -/
def Obligations.KeeperServicesComplete : Prop :=
  (∀ (s : State) (d : Desc) (rest : List Desc), s.Ready 24 0x10 [1] d rest → s.kpr.serving = none → s.kprLoading = false →
    (s.kpr.hostWait = false ∨ s.kpr.hostLast = true) →
    let t := s.run 24 d
    let req := t.fld 1 127 80
    let resp := t.fld 1 79 32
    t.zeros [(0, 87, 0), (1, 31, 0)] = true → req % 16 = 0 → resp % 16 = 0 → inDramComb s.variant req 256 = true →
    inDramComb s.variant resp 256 = true →
    let s1 := (s.taken 24 d rest).meet req 256
    (s1.poisonedAt req 256 = false →
      Gives .kprCmd s (((s1.kprBegin ⟨some (w0Tag d.w0), resp, s1.bytes req 256, s1.num req 2⟩).kprNext).settleHead 24)) ∧
    (s1.poisonedAt req 256 = true → Gives .kprCmd s (s1.done 24 d stPoisoned 0))) ∧
  (∀ (s : State) (m : Master) (v : Word), s.Open m Reg.kprMbCtrl →
    let s1 := s.maskedWrite Reg.kprMbCtrl v
    (bitsOf v 31 31 = 0 → Gives (.kprMbGo m v) s s1) ∧
    (bitsOf v 31 31 = 1 → s1.fld Reg.kprMbCtrl 30 30 = 1 → Gives (.kprMbGo m v) s (s1.setFld Reg.kprMbCtrl 29 29 1)) ∧
    (bitsOf v 31 31 = 1 → s1.fld Reg.kprMbCtrl 30 30 = 0 →
      Gives (.kprMbGo m v) s
        (({ (s1.setFld Reg.kprMbCtrl 30 30 1) with kpr := { s.kpr with hostWait := true } } : State).kprNext))) ∧
  (∀ (s : State) (k : KprServe), s.Serves k 0x01 → Gives .getInfo s (s.kprRespond stSuccess s.infoData)) ∧
  (∀ (s : State) (k : KprServe), s.Serves k 0x02 →
    Gives .getIdentity s (s.kprRespond stSuccess (uidBytes ++ deviceKey ++ Config.deviceSignature.take 96))) ∧
  (∀ (s : State) (k : KprServe), s.Serves k 0x03 → k.parNum 0 1 ≠ 0 → k.parNum 0 1 ≤ 240 →
    Gives .getRandom s ((s.draw 15).2.kprRespond stSuccess ((s.draw 15).1.take (k.parNum 0 1)))) ∧
  (∀ (s : State) (k : KprServe), s.Serves k 0x51 → k.parNum 4 2 ≤ 184 → k.parNum 0 4 + k.parNum 4 2 ≤ nvGeneralSize →
    Gives .nvRead s ((s.meetUnit 0x04 1).kprRespond stSuccess (s.nvBytes (nvGeneral + k.parNum 0 4) (k.parNum 4 2)))) ∧
  (∀ (s : State) (k : KprServe), s.Serves k 0x52 → k.parNum 4 2 ≤ 184 → k.parNum 0 4 + k.parNum 4 2 ≤ nvGeneralSize →
    k.len = 6 + k.parNum 4 2 →
    Gives .nvWrite s ((s.nvStore (nvGeneral + k.parNum 0 4) (k.par 6 (k.parNum 4 2))).kprRespond stSuccess [])) ∧
  (∀ (s : State) (k : KprServe) (passed : Bool), s.Serves k 0x50 →
    Gives (.selfTest passed) s ((s.selfTestEnds passed).kprRespond stSuccess [BitVec.ofNat 8 passed.toNat])) ∧
  (∀ (s : State), s.Live →
    Gives .trngHealthFail s ((((s.setFld Reg.kprStatus 21 21 0).kprShow).fire 42).report 0x08 0 0x0F 0) ∧
    Gives .keeperLockstepMismatch s (((s.setFld Reg.kprStatus 31 28 3).kprShow).report 0x08 0 0x09 0)) ∧
  (∀ (s : State) (k : KprServe), s.Serves k 0x60 →
    let a := k.parNum 0 6
    let n := s.num (a + 8) 4
    combBase ≤ a → n ≤ 256 * 1024 → a + max n 16 ≤ combTop →
    let s1 := s.meet a n
    let img := s1.bytes a n
    (s1.poisonedAt a n = true → Gives .fwLoad s (s1.kprRespond stPoisoned [])) ∧
    (s1.poisonedAt a n = false → s1.firmwareCheck img = stSuccess →
      Gives .fwLoad s ((s1.firmwareStarts img).kprRespond stSuccess [])) ∧
    (s1.poisonedAt a n = false → s1.firmwareCheck img ≠ stSuccess →
      Gives .fwLoad s ((s1.setFld Reg.kprStatus 31 28 4).kprRespond (s1.firmwareCheck img) []))) ∧
  (∀ (s : State) (pass : Bool), s.Live →
    (s.kprState = 1 → Gives (.keeperFirmwareVerified pass) s (s.selfTestEnds pass)) ∧
    (∀ e, s.kprState = 0 → s.bootState = 2 → s.hci.entries.find? (fun e => e.type == 1) = some e →
      let img := s.flashBytes e.offset (min e.length (256 * 1024))
      (s.firmwareCheck img = stSuccess →
        Gives (.keeperFirmwareVerified pass) s ((((s.firmwareStarts img).selfTestEnds pass).bootSkip).bootSettle)) ∧
      (s.firmwareCheck img ≠ stSuccess →
        Gives (.keeperFirmwareVerified pass) s ((s.setFld Reg.kprStatus 31 28 4).setBootState 5))))

/-- R530 to R533 (O): SESSION_OPEN takes the lowest free session under an operator slot; SESSION_PROVE with a signature that holds
opens it with its key, one that does not is counted; close, verify and the timeouts end or show it. -/
def Obligations.SessionsComplete : Prop :=
  (∀ (s : State) (k : KprServe) (i : Nat), s.Serves k 0x10 → k.parNum 96 1 < 8 → s.slotHas (k.parNum 96 1) 1 = true →
    [1, 2, 3, 4].find? (fun i => (s.session i).isNone) = some i →
    let r := s.draw 2
    let x : Session := {
      proved := false, slot := k.parNum 96 1, client := k.par 0 96, secret := r.2.fresh, challenge := r.1, scope := 0, idle := 0,
      key := 0, salt := 0, counter := 0, fails := 0 }
    Gives .sessionOpen s ((r.2.setSession i (some x)).kprRespond stSuccess ([BitVec.ofNat 8 i] ++ x.pub ++ r.1))) ∧
  (∀ (s : State) (k : KprServe) (x : Session), s.Serves k 0x11 →
    let i := k.parNum 0 1
    let scope := k.parNum 1 1
    let idle := k.parNum 2 2
    1 ≤ i → i ≤ 4 → s.session i = some x → x.proved = false → scope < 8 → 1 ≤ idle → idle ≤ 3600 →
    (s.proofOk x scope (k.par 4 96) = true → Gives .sessionProve s
      ((((s.draw 1).2.setSession i (some (x.prove scope idle))).fire 33).kprRespond stSuccess ((s.draw 1).1.take 4))) ∧
    (s.proofOk x scope (k.par 4 96) = false → x.fails < 7 → Gives .sessionProve s
      ((s.setSession i (some { x with fails := x.fails + 1 })).kprRespond kprAuthFail [])) ∧
    (s.proofOk x scope (k.par 4 96) = false → 7 ≤ x.fails → Gives .sessionProve s
      ((s.setSession i none).kprRespond kprAuthFail []))) ∧
  (∀ (s : State) (k : KprServe), s.Serves k 0x12 →
    Gives .sessionClose s ((s.closeSession (k.parNum k.len 1)).kprRespond stSuccess [])) ∧
  (∀ (s : State) (k : KprServe), s.Serves k 0x13 → k.parNum 1 7 = 0 →
    let id := k.parNum 0 1
    let r := s.checkTag id (k.parNum 8 8) (k.parNum 16 16) (k.par 0 16 ++ k.par 32 (k.len - 32)) none
    (r.2 ≠ stSuccess → Gives .sessionVerify s (r.1.kprRespond r.2 [])) ∧
    (∀ x, r.2 = stSuccess → r.1.session id = some x →
      Gives .sessionVerify s (r.1.kprRespond stSuccess [BitVec.ofNat 8 x.scope]))) ∧
  (∀ (s : State) (i : Fin 4) (x : Session), s.Live → s.session (i.val + 1) = some x →
    (x.proved = false → Gives (.sessionProveTimeout i) s (s.setSession (i.val + 1) none)) ∧
    (x.proved = true → Gives (.sessionIdleTimeout i) s (s.closeSession (i.val + 1))) ∧
    (x.proved = true → Gives (.sessionLifetimeExpiry i) s (s.closeSession (i.val + 1))))

/-- R525 to R529, R535 to R540, R543, R544 (O): keys are installed under a tag that holds and a higher install number; LANE_KEY takes
the next generation and waits for its KEYX group, which leaves and turns the guard on; CAS_GUARD changes the guard; fuse commands
begin burns that end verified; PROTECT, the tamper settings, zeroisation, the tamper pin and the debug commands have their
effect. -/
def Obligations.KeysAndFusesComplete : Prop :=
  (∀ (s : State) (k : KprServe), s.Serves k 0x20 → k.installOk = true →
    (k.parNum 0 1 = 1 → s.kpr.wkNumber < k.parNum 4 4 → Gives .keyInstall s
      (({ s with kpr := { s.kpr with wk := some k.installed, wkNumber := k.parNum 4 4 } } : State).kprShow.kprRespond stSuccess [])) ∧
    (k.parNum 0 1 = 2 → k.parNum 1 1 < 16 → s.kpr.skNumber < k.parNum 4 4 → Gives .keyInstall s
      (({ s with kpr := { s.kpr with sk := some (k.installed, k.parNum 1 1), skNumber := k.parNum 4 4 } } : State).kprShow.kprRespond
        stSuccess []))) ∧
  (∀ (s : State) (k : KprServe), s.Serves k 0x21 →
    let l := k.parNum 0 1
    wallAbsent s.variant l = false → s.kpr.wk.isSome = true → s.laneUp l = true → (s.lane l).mode ≠ 2 → s.mgmtRoom l = true →
    let r := s.draw 3
    let g := sget 0 s.kpr.gens l + 1
    Gives .laneKey s
      (({ r.2 with kpr := { s.kpr with gens := sset 0 s.kpr.gens l g, lane := some l } } : State).mgmtPut l
        (.keyx (ofBe (r.1.take 32)) (ofBe ((r.1.drop 32).take 4)) g))) ∧
  (∀ (s : State) (l : Fin 24) (key salt g wk : Nat) (rest : List Mgmt), s.Live → (s.lane l.val).mgmt = .keyx key salt g :: rest →
    s.kpr.wk = some wk → s.laneUp l.val = true → s.laneScanned l.val = false → s.unitStalled 0x3D = false →
    let r := s.draw 1
    let s1 := r.2.mapLane l (fun w => { w with mgmt := rest })
    let s2 := s1.sendManagement l true (keyxBlocks (keyxMessage wk key salt g (r.1.take 8)))
    let s3 := (s2.mapLane l (fun w => { w with key := some (key, salt), seq := 0 })).setReg (Reg.lnxWlSeq l) 0
    let s4 := s3.setFld Reg.lnxShGuard l l 1
    Gives (.keyxSent l) s (if s4.kpr.lane = some l.val then (s4.kprRespond stSuccess (leBytes 4 g)).fire 36 else s4.fire 36)) ∧
  (∀ (s : State) (k : KprServe), s.Serves k 0x22 → k.parNum 0 1 < 2 → s.kpr.sk.isSome = true →
    (s.fld Reg.kprStatus 17 17 = k.parNum 0 1 → Gives .casGuard s (s.kprRespond stSuccess [])) ∧
    (s.fld Reg.kprStatus 17 17 ≠ k.parNum 0 1 →
      let b := (s.kpr.useCount + 1) % 2 ^ 32
      let s1 := s.setFld Reg.kprStatus 17 17 (k.parNum 0 1)
      let s2 : State := if k.parNum 0 1 = 1 then
          { s1 with
            kpr := { s.kpr with useCount := b }
            cas := if s.fld Reg.kprStatus 23 22 = 2 then s.cas else { s.cas with guard := some (b, 0) } }
        else { s1 with cas := { s.cas with guard := none } }
      Gives .casGuard s
        ((([0, 1].foldl (fun s d => if s.linkUpNow d then s.linkDown d else s) s2).fire 37).kprRespond stSuccess []))) ∧
  (∀ (s : State) (k : KprServe), s.Serves k 0x30 → k.parNum 0 1 < 8 → k.parNum 1 1 < 8 → s.slotState (k.parNum 0 1) = 0 →
    Gives .keyProgram s (s.burn (.program (k.parNum 0 1) (k.parNum 1 1) (k.par 2 96)))) ∧
  (∀ (s : State) (k : KprServe), s.Serves k 0x31 → k.parNum 0 1 < 8 → s.slotState (k.parNum 0 1) = 1 →
    Gives .revoke s (s.burn (.revoke (k.parNum 0 1)))) ∧
  (∀ (s : State) (k : KprServe), s.Serves k 0x32 →
    let slot := k.parNum 0 1
    let v := k.parNum 1 4
    (slot = 0xFF → s.kpr.fwFloor ≤ v → v ≤ s.fld Reg.kprFw 15 0 → v ≤ 64 → Gives .rollbackAdvance s (s.burn (.floor v))) ∧
    (slot < 8 → s.slotHas slot 0 = true → sget 0 s.kpr.floors slot ≤ v → v ≤ sget 0 s.kpr.highest slot →
      Gives .rollbackAdvance s
        (({ s with kpr := { s.kpr with floors := sset 0 s.kpr.floors slot v } } : State).kprRespond stSuccess []))) ∧
  (∀ (s : State) (k : KprServe), s.Serves k 0x33 → k.parNum 0 1 < 4 → s.lifecycle < k.parNum 0 1 →
    (k.parNum 0 1 = 2 → (List.range 8).any (fun i => s.slotHas i 0) = true ∧ (List.range 8).any (fun i => s.slotHas i 1) = true) →
    Gives .lifecycle s (s.burn (.lifecycle (k.parNum 0 1)))) ∧
  (∀ (s : State) (f : FuseOp), s.Live → s.kpr.burning = some f →
    Gives (.fuseBurnDone true) s
      ((({ s with kpr := { s.kpr with burning := none } } : State).burnt f).kprRespond stSuccess []) ∧
    Gives (.fuseBurnDone false) s s) ∧
  (∀ (s : State) (k : KprServe), s.Serves k 0x34 → k.parNum 0 1 < 2 → k.parNum 65 4 < 2 ^ 20 →
    let s1 := (List.range 8).foldl (fun s n =>
      (s.setReg (Reg.kprProt n 0) (BitVec.ofNat 32 (k.parNum (1 + 8 * n) 4))).setReg (Reg.kprProt n 1)
        (BitVec.ofNat 32 (k.parNum (5 + 8 * n) 4))) (s.setFld Reg.kprStatus 16 16 (k.parNum 0 1))
    Gives .protect s ((s1.setFld Reg.flashProt 31 12 (k.parNum 65 4)).kprShow.kprRespond stSuccess [])) ∧
  (∀ (s : State) (k : KprServe), s.Serves k 0x35 → k.parNum 0 1 < 4 →
    Gives .tamperConfig s ((s.setFld Reg.kprTamper 31 30 (k.parNum 0 1)).kprShow.kprRespond stSuccess [])) ∧
  (∀ (s : State) (k : KprServe), s.Serves k 0x36 →
    Gives .tamperClear s ((s.setFld Reg.kprStatus 24 24 0).kprShow.kprRespond stSuccess [])) ∧
  (∀ (s : State) (k : KprServe), s.Serves k 0x37 → Gives .zeroise s ((s.zeroiseKeys.fire 40).kprRespond stSuccess [])) ∧
  (∀ (s : State), s.Live →
    let s1 := (((s.setFld Reg.kprStatus 24 24 1).kprShow).fire 39).report 0x08 0xFE 0x04 0
    let held (s : State) : State := { s with due := { s.due with hold := true } }
    (s1.fld Reg.kprTamper 31 30 = 0 → Gives .tamper s s1) ∧
    (s1.fld Reg.kprTamper 31 30 = 1 → Gives .tamper s (s1.zeroiseVolatile.fire 40)) ∧
    (s1.fld Reg.kprTamper 31 30 = 2 → Gives .tamper s (s1.zeroiseKeys.fire 40)) ∧
    (s1.fld Reg.kprTamper 31 30 = 3 → Gives .tamper s (held (s1.zeroiseKeys.fire 40)))) ∧
  (∀ (s : State) (k : KprServe), s.Serves k 0x40 →
    Gives .debugChallenge s
      (({ (s.draw 2).2 with kpr := { s.kpr with nonce := some (s.draw 2).1 } } : State).kprRespond stSuccess (s.draw 2).1)) ∧
  (∀ (s : State) (k : KprServe) (nonce : List Byte), s.Serves k 0x41 → s.kpr.nonce = some nonce →
    let level := k.parNum 0 1
    let s1 : State := { s with kpr := { s.kpr with nonce := none } }
    (level = 1 ∨ level = 2) →
    (s.unlockOk nonce level (k.par 1 96) = false → Gives .debugUnlock s (s1.kprRespond kprAuthFail [])) ∧
    (s.unlockOk nonce level (k.par 1 96) = true →
      let s2 := if level = 2 then ((s1.eraseLaneKeys).eraseCascade).closeSessions else s1
      let s3 := s2.setFld Reg.kprStatus 23 22 (max level (s2.fld Reg.kprStatus 23 22))
      Gives .debugUnlock s (((s3.startRise 29).kprShow.fire 41).kprRespond stSuccess []))) ∧
  (∀ (s : State), s.Live → Gives .debugNonceExpiry s { s with kpr := { s.kpr with nonce := none } })
end

