-- ==== Sys2Proof/Laws/Sparse.lean ====
section
/-!
SUPPORT. What the operations on sparse maps answer, and that they keep the canonical form.
-/
namespace Sys2Proof.Machine

variable {β : Type}

@[simp] theorem sget_nil (d : β) (k : Nat) : sget d ([] : Sparse β) k = d := rfl
@[simp] theorem sdel_nil (k : Nat) : sdel ([] : Sparse β) k = [] := rfl

theorem sget_sdel_self (d : β) (m : Sparse β) (k : Nat) : sget d (sdel m k) k = d := by
  induction m with
  | nil => rfl
  | cons p t ih => obtain ⟨a, v⟩ := p; by_cases h : a = k <;> simp [sdel, sget, h, ih]

theorem sget_sdel_ne (d : β) (m : Sparse β) {k j : Nat} (h : j ≠ k) : sget d (sdel m k) j = sget d m j := by
  induction m with
  | nil => rfl
  | cons p t ih =>
    obtain ⟨a, v⟩ := p
    by_cases ha : a = k
    · subst ha; simp [sdel, sget, h.symm, ih]
    · simp [sdel, sget, ha, ih]

theorem sget_sins_ne (d : β) (m : Sparse β) {k j : Nat} (x : β) (h : j ≠ k) :
    sget d (sins m k x) j = sget d m j := by
  induction m with
  | nil => simp [sins, sget, h.symm]
  | cons p t ih =>
    obtain ⟨a, v⟩ := p
    by_cases ha : k < a
    · simp [sins, sget, ha, h.symm]
    · simp [sins, sget, ha, ih]

/-- No entry has key `k`. -/
def sfree (m : Sparse β) (k : Nat) : Prop := ∀ p ∈ m, p.1 ≠ k

theorem sfree_sdel (m : Sparse β) (k : Nat) : sfree (sdel m k) k := by
  induction m with
  | nil => intro p hp; cases hp
  | cons p t ih =>
    obtain ⟨a, v⟩ := p
    by_cases ha : a = k
    · simpa [sdel, ha] using ih
    · intro q hq
      rw [sdel, if_neg ha] at hq
      rcases List.mem_cons.mp hq with rfl | h
      · exact ha
      · exact ih q h

theorem sget_sins_self (d : β) (m : Sparse β) (k : Nat) (x : β) (h : sfree m k) : sget d (sins m k x) k = x := by
  induction m with
  | nil => simp [sins, sget]
  | cons p t ih =>
    obtain ⟨a, v⟩ := p
    have ha : a ≠ k := h (a, v) (List.mem_cons_self ..)
    have ht : sfree t k := fun q hq => h q (List.mem_cons_of_mem _ hq)
    by_cases hk : k < a
    · simp [sins, sget, hk]
    · simp [sins, sget, hk, ha, ih ht]

/-- Reading the key just written. -/
@[simp] theorem sget_sset_self [DecidableEq β] (d : β) (m : Sparse β) (k : Nat) (x : β) : sget d (sset d m k x) k = x := by
  by_cases h : x = d
  · subst h; simp [sset, sget_sdel_self]
  · simp [sset, h, sget_sins_self d _ k x (sfree_sdel m k)]

/-- Reading any other key, whatever default the read has. -/
theorem sget_sset_other [DecidableEq β] (d e : β) (m : Sparse β) {k j : Nat} (x : β) (h : j ≠ k) :
    sget e (sset d m k x) j = sget e m j := by
  by_cases hx : x = d
  · simp [sset, hx, sget_sdel_ne e m h]
  · simp [sset, hx, sget_sins_ne e _ x h, sget_sdel_ne e m h]

theorem sget_sset_ne [DecidableEq β] (d : β) (m : Sparse β) {k j : Nat} (x : β) (h : j ≠ k) :
    sget d (sset d m k x) j = sget d m j := sget_sset_other d d m x h

/-- Reading after a write. -/
theorem sget_sset [DecidableEq β] (d : β) (m : Sparse β) (k j : Nat) (x : β) :
    sget d (sset d m k x) j = if j = k then x else sget d m j := by
  by_cases h : j = k
  · subst h; simp
  · simp [h, sget_sset_ne d m x h]

/-! The canonical form. -/

/-- A lower bound that may be lowered. -/
theorem srising_mono {m : Sparse β} {lo hi : Nat} (h : lo ≤ hi) (hm : srising (some hi) m = true) :
    srising (some lo) m = true := by
  cases m with
  | nil => rfl
  | cons p t =>
    obtain ⟨a, v⟩ := p
    simp only [srising, Bool.and_eq_true, decide_eq_true_eq] at *
    exact ⟨by omega, hm.2⟩

theorem srising_none_of_some {m : Sparse β} {lo : Nat} (hm : srising (some lo) m = true) : srising none m = true := by
  cases m with
  | nil => rfl
  | cons p t => obtain ⟨a, v⟩ := p; simp only [srising, Bool.and_eq_true] at *; exact hm.2

theorem srising_filter {m : Sparse β} {lo : Nat} (f : Nat × β → Bool) (hm : srising (some lo) m = true) :
    srising (some lo) (m.filter f) = true := by
  induction m generalizing lo with
  | nil => rfl
  | cons p t ih =>
    obtain ⟨a, v⟩ := p
    simp only [srising, Bool.and_eq_true, decide_eq_true_eq] at hm
    by_cases hf : f (a, v) = true
    · simp [hf, srising, hm.1, ih hm.2]
    · simp [hf, srising_mono (Nat.le_of_lt hm.1) (ih hm.2)]

theorem srising_none_filter {m : Sparse β} (f : Nat × β → Bool) (hm : srising none m = true) :
    srising none (m.filter f) = true := by
  cases m with
  | nil => rfl
  | cons p t =>
    obtain ⟨a, v⟩ := p
    simp only [srising] at hm
    by_cases hf : f (a, v) = true
    · simp [hf, srising, srising_filter f hm]
    · simp [hf, srising_none_of_some (srising_filter f hm)]

theorem sdel_eq_filter (m : Sparse β) (k : Nat) : sdel m k = m.filter (fun p => decide (p.1 ≠ k)) := by
  induction m with
  | nil => rfl
  | cons p t ih => obtain ⟨a, v⟩ := p; by_cases h : a = k <;> simp [sdel, h, ih]

theorem srising_sins {m : Sparse β} {lo k : Nat} (x : β) (hlo : lo < k) (hk : sfree m k) (hm : srising (some lo) m = true) :
    srising (some lo) (sins m k x) = true := by
  induction m generalizing lo with
  | nil => simp [sins, srising, hlo]
  | cons p t ih =>
    obtain ⟨a, v⟩ := p
    simp only [srising, Bool.and_eq_true, decide_eq_true_eq] at hm
    have ha : a ≠ k := hk (a, v) (List.mem_cons_self ..)
    by_cases h : k < a
    · simp [sins, h, srising, hlo, hm.2]
    · simp [sins, h, srising, hm.1, ih (by omega : a < k) (fun q hq => hk q (List.mem_cons_of_mem _ hq)) hm.2]

theorem srising_none_sins {m : Sparse β} {k : Nat} (x : β) (hk : sfree m k) (hm : srising none m = true) :
    srising none (sins m k x) = true := by
  cases m with
  | nil => simp [sins, srising]
  | cons p t =>
    obtain ⟨a, v⟩ := p
    simp only [srising] at hm
    have ha : a ≠ k := hk (a, v) (List.mem_cons_self ..)
    by_cases h : k < a
    · simp [sins, h, srising, hm]
    · simp [sins, h, srising, srising_sins x (by omega : a < k) (fun q hq => hk q (List.mem_cons_of_mem _ hq)) hm]

theorem mem_sins {m : Sparse β} {k : Nat} {x : β} {p : Nat × β} (h : p ∈ sins m k x) : p = (k, x) ∨ p ∈ m := by
  induction m with
  | nil => simpa [sins] using h
  | cons q t ih =>
    obtain ⟨a, v⟩ := q
    by_cases hk : k < a
    · simpa [sins, hk] using h
    · simp only [sins, hk, if_false, List.mem_cons] at h
      rcases h with rfl | h
      · exact .inr (List.mem_cons_self ..)
      · rcases ih h with h | h
        · exact .inl h
        · exact .inr (List.mem_cons_of_mem _ h)

variable [DecidableEq β]

theorem swf_filter {d : β} {m : Sparse β} (f : Nat × β → Bool) (h : swf d m = true) : swf d (m.filter f) = true := by
  simp only [swf, Bool.and_eq_true, List.all_eq_true] at *
  exact ⟨srising_none_filter f h.1, fun p hp => h.2 p (List.mem_of_mem_filter hp)⟩

theorem swf_sdel {d : β} {m : Sparse β} (k : Nat) (h : swf d m = true) : swf d (sdel m k) = true := by
  rw [sdel_eq_filter]; exact swf_filter _ h

/-- A write keeps the canonical form. -/
theorem swf_sset {d : β} {m : Sparse β} (k : Nat) (x : β) (h : swf d m = true) : swf d (sset d m k x) = true := by
  by_cases hx : x = d
  · simpa [sset, hx] using swf_sdel k h
  · have h' := swf_sdel k h
    simp only [sset, hx, if_false]
    simp only [swf, Bool.and_eq_true, List.all_eq_true, decide_eq_true_eq] at h' ⊢
    refine ⟨srising_none_sins x (sfree_sdel m k) h'.1, fun p hp => ?_⟩
    rcases mem_sins hp with rfl | hp
    · exact hx
    · exact h'.2 p hp

end Sys2Proof.Machine
end

