-- ==== Sys2Proof/Laws/State.lean ====
section
/-!
SUPPORT. What each basic update of the state leaves as it was: one lemma for a field and an update.
-/
namespace Sys2Proof.Machine

@[simp] theorem setReg_variant (s : State) (k : Nat) (v : Word) : (s.setReg k v).variant = s.variant := rfl
@[simp] theorem setReg_straps (s : State) (k : Nat) (v : Word) : (s.setReg k v).straps = s.straps := rfl
@[simp] theorem setReg_inert (s : State) (k : Nat) (v : Word) : (s.setReg k v).inert = s.inert := rfl
@[simp] theorem setReg_mem (s : State) (k : Nat) (v : Word) : (s.setReg k v).mem = s.mem := rfl
@[simp] theorem setReg_poison (s : State) (k : Nat) (v : Word) : (s.setReg k v).poison = s.poison := rfl
@[simp] theorem setReg_flaws (s : State) (k : Nat) (v : Word) : (s.setReg k v).flaws = s.flaws := rfl
@[simp] theorem setReg_tables (s : State) (k : Nat) (v : Word) : (s.setReg k v).tables = s.tables := rfl
@[simp] theorem setReg_nv (s : State) (k : Nat) (v : Word) : (s.setReg k v).nv = s.nv := rfl
@[simp] theorem setReg_queues (s : State) (k : Nat) (v : Word) : (s.setReg k v).queues = s.queues := rfl
@[simp] theorem setReg_cqs (s : State) (k : Nat) (v : Word) : (s.setReg k v).cqs = s.cqs := rfl
@[simp] theorem setReg_doms (s : State) (k : Nat) (v : Word) : (s.setReg k v).doms = s.doms := rfl
@[simp] theorem setReg_stalled (s : State) (k : Nat) (v : Word) : (s.setReg k v).stalled = s.stalled := rfl
@[simp] theorem setReg_rateMade (s : State) (k : Nat) (v : Word) : (s.setReg k v).rateMade = s.rateMade := rfl
@[simp] theorem setReg_meters (s : State) (k : Nat) (v : Word) : (s.setReg k v).meters = s.meters := rfl
@[simp] theorem setReg_gov (s : State) (k : Nat) (v : Word) : (s.setReg k v).gov = s.gov := rfl
@[simp] theorem setReg_hive (s : State) (k : Nat) (v : Word) : (s.setReg k v).hive = s.hive := rfl
@[simp] theorem setReg_fgh (s : State) (k : Nat) (v : Word) : (s.setReg k v).fgh = s.fgh := rfl
@[simp] theorem setReg_ports (s : State) (k : Nat) (v : Word) : (s.setReg k v).ports = s.ports := rfl
@[simp] theorem setReg_arbs (s : State) (k : Nat) (v : Word) : (s.setReg k v).arbs = s.arbs := rfl
@[simp] theorem setReg_rfes (s : State) (k : Nat) (v : Word) : (s.setReg k v).rfes = s.rfes := rfl
@[simp] theorem setReg_clrs (s : State) (k : Nat) (v : Word) : (s.setReg k v).clrs = s.clrs := rfl
@[simp] theorem setReg_clrIn (s : State) (k : Nat) (v : Word) : (s.setReg k v).clrIn = s.clrIn := rfl
@[simp] theorem setReg_splits (s : State) (k : Nat) (v : Word) : (s.setReg k v).splits = s.splits := rfl
@[simp] theorem setReg_cmpOuts (s : State) (k : Nat) (v : Word) : (s.setReg k v).cmpOuts = s.cmpOuts := rfl
@[simp] theorem setReg_cmpRings (s : State) (k : Nat) (v : Word) : (s.setReg k v).cmpRings = s.cmpRings := rfl
@[simp] theorem setReg_gens (s : State) (k : Nat) (v : Word) : (s.setReg k v).gens = s.gens := rfl
@[simp] theorem setReg_lanes (s : State) (k : Nat) (v : Word) : (s.setReg k v).lanes = s.lanes := rfl
@[simp] theorem setReg_serial (s : State) (k : Nat) (v : Word) : (s.setReg k v).serial = s.serial := rfl
@[simp] theorem setReg_eyeScans (s : State) (k : Nat) (v : Word) : (s.setReg k v).eyeScans = s.eyeScans := rfl
@[simp] theorem setReg_bcn (s : State) (k : Nat) (v : Word) : (s.setReg k v).bcn = s.bcn := rfl
@[simp] theorem setReg_cas (s : State) (k : Nat) (v : Word) : (s.setReg k v).cas = s.cas := rfl
@[simp] theorem setReg_vcxs (s : State) (k : Nat) (v : Word) : (s.setReg k v).vcxs = s.vcxs := rfl
@[simp] theorem setReg_lpks (s : State) (k : Nat) (v : Word) : (s.setReg k v).lpks = s.lpks := rfl
@[simp] theorem setReg_cls (s : State) (k : Nat) (v : Word) : (s.setReg k v).cls = s.cls := rfl
@[simp] theorem setReg_memx (s : State) (k : Nat) (v : Word) : (s.setReg k v).memx = s.memx := rfl
@[simp] theorem setReg_hci (s : State) (k : Nat) (v : Word) : (s.setReg k v).hci = s.hci := rfl
@[simp] theorem setReg_kpr (s : State) (k : Nat) (v : Word) : (s.setReg k v).kpr = s.kpr := rfl
@[simp] theorem setReg_out (s : State) (k : Nat) (v : Word) : (s.setReg k v).out = s.out := rfl
@[simp] theorem setReg_fresh (s : State) (k : Nat) (v : Word) : (s.setReg k v).fresh = s.fresh := rfl
@[simp] theorem setReg_due (s : State) (k : Nat) (v : Word) : (s.setReg k v).due = s.due := rfl
@[simp] theorem setReg_pending (s : State) (k : Nat) (v : Word) : (s.setReg k v).pending = s.pending := rfl

@[simp] theorem setFld_variant (s : State) (k hi lo x : Nat) : (s.setFld k hi lo x).variant = s.variant := rfl
@[simp] theorem setFld_straps (s : State) (k hi lo x : Nat) : (s.setFld k hi lo x).straps = s.straps := rfl
@[simp] theorem setFld_inert (s : State) (k hi lo x : Nat) : (s.setFld k hi lo x).inert = s.inert := rfl
@[simp] theorem setFld_mem (s : State) (k hi lo x : Nat) : (s.setFld k hi lo x).mem = s.mem := rfl
@[simp] theorem setFld_poison (s : State) (k hi lo x : Nat) : (s.setFld k hi lo x).poison = s.poison := rfl
@[simp] theorem setFld_flaws (s : State) (k hi lo x : Nat) : (s.setFld k hi lo x).flaws = s.flaws := rfl
@[simp] theorem setFld_tables (s : State) (k hi lo x : Nat) : (s.setFld k hi lo x).tables = s.tables := rfl
@[simp] theorem setFld_nv (s : State) (k hi lo x : Nat) : (s.setFld k hi lo x).nv = s.nv := rfl
@[simp] theorem setFld_queues (s : State) (k hi lo x : Nat) : (s.setFld k hi lo x).queues = s.queues := rfl
@[simp] theorem setFld_cqs (s : State) (k hi lo x : Nat) : (s.setFld k hi lo x).cqs = s.cqs := rfl
@[simp] theorem setFld_doms (s : State) (k hi lo x : Nat) : (s.setFld k hi lo x).doms = s.doms := rfl
@[simp] theorem setFld_stalled (s : State) (k hi lo x : Nat) : (s.setFld k hi lo x).stalled = s.stalled := rfl
@[simp] theorem setFld_rateMade (s : State) (k hi lo x : Nat) : (s.setFld k hi lo x).rateMade = s.rateMade := rfl
@[simp] theorem setFld_meters (s : State) (k hi lo x : Nat) : (s.setFld k hi lo x).meters = s.meters := rfl
@[simp] theorem setFld_gov (s : State) (k hi lo x : Nat) : (s.setFld k hi lo x).gov = s.gov := rfl
@[simp] theorem setFld_hive (s : State) (k hi lo x : Nat) : (s.setFld k hi lo x).hive = s.hive := rfl
@[simp] theorem setFld_fgh (s : State) (k hi lo x : Nat) : (s.setFld k hi lo x).fgh = s.fgh := rfl
@[simp] theorem setFld_ports (s : State) (k hi lo x : Nat) : (s.setFld k hi lo x).ports = s.ports := rfl
@[simp] theorem setFld_arbs (s : State) (k hi lo x : Nat) : (s.setFld k hi lo x).arbs = s.arbs := rfl
@[simp] theorem setFld_rfes (s : State) (k hi lo x : Nat) : (s.setFld k hi lo x).rfes = s.rfes := rfl
@[simp] theorem setFld_clrs (s : State) (k hi lo x : Nat) : (s.setFld k hi lo x).clrs = s.clrs := rfl
@[simp] theorem setFld_clrIn (s : State) (k hi lo x : Nat) : (s.setFld k hi lo x).clrIn = s.clrIn := rfl
@[simp] theorem setFld_splits (s : State) (k hi lo x : Nat) : (s.setFld k hi lo x).splits = s.splits := rfl
@[simp] theorem setFld_cmpOuts (s : State) (k hi lo x : Nat) : (s.setFld k hi lo x).cmpOuts = s.cmpOuts := rfl
@[simp] theorem setFld_cmpRings (s : State) (k hi lo x : Nat) : (s.setFld k hi lo x).cmpRings = s.cmpRings := rfl
@[simp] theorem setFld_gens (s : State) (k hi lo x : Nat) : (s.setFld k hi lo x).gens = s.gens := rfl
@[simp] theorem setFld_lanes (s : State) (k hi lo x : Nat) : (s.setFld k hi lo x).lanes = s.lanes := rfl
@[simp] theorem setFld_serial (s : State) (k hi lo x : Nat) : (s.setFld k hi lo x).serial = s.serial := rfl
@[simp] theorem setFld_eyeScans (s : State) (k hi lo x : Nat) : (s.setFld k hi lo x).eyeScans = s.eyeScans := rfl
@[simp] theorem setFld_bcn (s : State) (k hi lo x : Nat) : (s.setFld k hi lo x).bcn = s.bcn := rfl
@[simp] theorem setFld_cas (s : State) (k hi lo x : Nat) : (s.setFld k hi lo x).cas = s.cas := rfl
@[simp] theorem setFld_vcxs (s : State) (k hi lo x : Nat) : (s.setFld k hi lo x).vcxs = s.vcxs := rfl
@[simp] theorem setFld_lpks (s : State) (k hi lo x : Nat) : (s.setFld k hi lo x).lpks = s.lpks := rfl
@[simp] theorem setFld_cls (s : State) (k hi lo x : Nat) : (s.setFld k hi lo x).cls = s.cls := rfl
@[simp] theorem setFld_memx (s : State) (k hi lo x : Nat) : (s.setFld k hi lo x).memx = s.memx := rfl
@[simp] theorem setFld_hci (s : State) (k hi lo x : Nat) : (s.setFld k hi lo x).hci = s.hci := rfl
@[simp] theorem setFld_kpr (s : State) (k hi lo x : Nat) : (s.setFld k hi lo x).kpr = s.kpr := rfl
@[simp] theorem setFld_out (s : State) (k hi lo x : Nat) : (s.setFld k hi lo x).out = s.out := rfl
@[simp] theorem setFld_fresh (s : State) (k hi lo x : Nat) : (s.setFld k hi lo x).fresh = s.fresh := rfl
@[simp] theorem setFld_due (s : State) (k hi lo x : Nat) : (s.setFld k hi lo x).due = s.due := rfl
@[simp] theorem setFld_pending (s : State) (k hi lo x : Nat) : (s.setFld k hi lo x).pending = s.pending := rfl

@[simp] theorem setQueue_variant (s : State) (q : Nat) (c : CmdQueue) : (s.setQueue q c).variant = s.variant := rfl
@[simp] theorem setQueue_straps (s : State) (q : Nat) (c : CmdQueue) : (s.setQueue q c).straps = s.straps := rfl
@[simp] theorem setQueue_inert (s : State) (q : Nat) (c : CmdQueue) : (s.setQueue q c).inert = s.inert := rfl
@[simp] theorem setQueue_regs (s : State) (q : Nat) (c : CmdQueue) : (s.setQueue q c).regs = s.regs := rfl
@[simp] theorem setQueue_mem (s : State) (q : Nat) (c : CmdQueue) : (s.setQueue q c).mem = s.mem := rfl
@[simp] theorem setQueue_poison (s : State) (q : Nat) (c : CmdQueue) : (s.setQueue q c).poison = s.poison := rfl
@[simp] theorem setQueue_flaws (s : State) (q : Nat) (c : CmdQueue) : (s.setQueue q c).flaws = s.flaws := rfl
@[simp] theorem setQueue_tables (s : State) (q : Nat) (c : CmdQueue) : (s.setQueue q c).tables = s.tables := rfl
@[simp] theorem setQueue_nv (s : State) (q : Nat) (c : CmdQueue) : (s.setQueue q c).nv = s.nv := rfl
@[simp] theorem setQueue_cqs (s : State) (q : Nat) (c : CmdQueue) : (s.setQueue q c).cqs = s.cqs := rfl
@[simp] theorem setQueue_doms (s : State) (q : Nat) (c : CmdQueue) : (s.setQueue q c).doms = s.doms := rfl
@[simp] theorem setQueue_stalled (s : State) (q : Nat) (c : CmdQueue) : (s.setQueue q c).stalled = s.stalled := rfl
@[simp] theorem setQueue_rateMade (s : State) (q : Nat) (c : CmdQueue) : (s.setQueue q c).rateMade = s.rateMade := rfl
@[simp] theorem setQueue_meters (s : State) (q : Nat) (c : CmdQueue) : (s.setQueue q c).meters = s.meters := rfl
@[simp] theorem setQueue_gov (s : State) (q : Nat) (c : CmdQueue) : (s.setQueue q c).gov = s.gov := rfl
@[simp] theorem setQueue_hive (s : State) (q : Nat) (c : CmdQueue) : (s.setQueue q c).hive = s.hive := rfl
@[simp] theorem setQueue_fgh (s : State) (q : Nat) (c : CmdQueue) : (s.setQueue q c).fgh = s.fgh := rfl
@[simp] theorem setQueue_ports (s : State) (q : Nat) (c : CmdQueue) : (s.setQueue q c).ports = s.ports := rfl
@[simp] theorem setQueue_arbs (s : State) (q : Nat) (c : CmdQueue) : (s.setQueue q c).arbs = s.arbs := rfl
@[simp] theorem setQueue_rfes (s : State) (q : Nat) (c : CmdQueue) : (s.setQueue q c).rfes = s.rfes := rfl
@[simp] theorem setQueue_clrs (s : State) (q : Nat) (c : CmdQueue) : (s.setQueue q c).clrs = s.clrs := rfl
@[simp] theorem setQueue_clrIn (s : State) (q : Nat) (c : CmdQueue) : (s.setQueue q c).clrIn = s.clrIn := rfl
@[simp] theorem setQueue_splits (s : State) (q : Nat) (c : CmdQueue) : (s.setQueue q c).splits = s.splits := rfl
@[simp] theorem setQueue_cmpOuts (s : State) (q : Nat) (c : CmdQueue) : (s.setQueue q c).cmpOuts = s.cmpOuts := rfl
@[simp] theorem setQueue_cmpRings (s : State) (q : Nat) (c : CmdQueue) : (s.setQueue q c).cmpRings = s.cmpRings := rfl
@[simp] theorem setQueue_gens (s : State) (q : Nat) (c : CmdQueue) : (s.setQueue q c).gens = s.gens := rfl
@[simp] theorem setQueue_lanes (s : State) (q : Nat) (c : CmdQueue) : (s.setQueue q c).lanes = s.lanes := rfl
@[simp] theorem setQueue_serial (s : State) (q : Nat) (c : CmdQueue) : (s.setQueue q c).serial = s.serial := rfl
@[simp] theorem setQueue_eyeScans (s : State) (q : Nat) (c : CmdQueue) : (s.setQueue q c).eyeScans = s.eyeScans := rfl
@[simp] theorem setQueue_bcn (s : State) (q : Nat) (c : CmdQueue) : (s.setQueue q c).bcn = s.bcn := rfl
@[simp] theorem setQueue_cas (s : State) (q : Nat) (c : CmdQueue) : (s.setQueue q c).cas = s.cas := rfl
@[simp] theorem setQueue_vcxs (s : State) (q : Nat) (c : CmdQueue) : (s.setQueue q c).vcxs = s.vcxs := rfl
@[simp] theorem setQueue_lpks (s : State) (q : Nat) (c : CmdQueue) : (s.setQueue q c).lpks = s.lpks := rfl
@[simp] theorem setQueue_cls (s : State) (q : Nat) (c : CmdQueue) : (s.setQueue q c).cls = s.cls := rfl
@[simp] theorem setQueue_memx (s : State) (q : Nat) (c : CmdQueue) : (s.setQueue q c).memx = s.memx := rfl
@[simp] theorem setQueue_hci (s : State) (q : Nat) (c : CmdQueue) : (s.setQueue q c).hci = s.hci := rfl
@[simp] theorem setQueue_kpr (s : State) (q : Nat) (c : CmdQueue) : (s.setQueue q c).kpr = s.kpr := rfl
@[simp] theorem setQueue_out (s : State) (q : Nat) (c : CmdQueue) : (s.setQueue q c).out = s.out := rfl
@[simp] theorem setQueue_fresh (s : State) (q : Nat) (c : CmdQueue) : (s.setQueue q c).fresh = s.fresh := rfl
@[simp] theorem setQueue_due (s : State) (q : Nat) (c : CmdQueue) : (s.setQueue q c).due = s.due := rfl
@[simp] theorem setQueue_pending (s : State) (q : Nat) (c : CmdQueue) : (s.setQueue q c).pending = s.pending := rfl

@[simp] theorem setCq_variant (s : State) (k : Nat) (l : List CqItem) : (s.setCq k l).variant = s.variant := rfl
@[simp] theorem setCq_straps (s : State) (k : Nat) (l : List CqItem) : (s.setCq k l).straps = s.straps := rfl
@[simp] theorem setCq_inert (s : State) (k : Nat) (l : List CqItem) : (s.setCq k l).inert = s.inert := rfl
@[simp] theorem setCq_regs (s : State) (k : Nat) (l : List CqItem) : (s.setCq k l).regs = s.regs := rfl
@[simp] theorem setCq_mem (s : State) (k : Nat) (l : List CqItem) : (s.setCq k l).mem = s.mem := rfl
@[simp] theorem setCq_poison (s : State) (k : Nat) (l : List CqItem) : (s.setCq k l).poison = s.poison := rfl
@[simp] theorem setCq_flaws (s : State) (k : Nat) (l : List CqItem) : (s.setCq k l).flaws = s.flaws := rfl
@[simp] theorem setCq_tables (s : State) (k : Nat) (l : List CqItem) : (s.setCq k l).tables = s.tables := rfl
@[simp] theorem setCq_nv (s : State) (k : Nat) (l : List CqItem) : (s.setCq k l).nv = s.nv := rfl
@[simp] theorem setCq_queues (s : State) (k : Nat) (l : List CqItem) : (s.setCq k l).queues = s.queues := rfl
@[simp] theorem setCq_doms (s : State) (k : Nat) (l : List CqItem) : (s.setCq k l).doms = s.doms := rfl
@[simp] theorem setCq_stalled (s : State) (k : Nat) (l : List CqItem) : (s.setCq k l).stalled = s.stalled := rfl
@[simp] theorem setCq_rateMade (s : State) (k : Nat) (l : List CqItem) : (s.setCq k l).rateMade = s.rateMade := rfl
@[simp] theorem setCq_meters (s : State) (k : Nat) (l : List CqItem) : (s.setCq k l).meters = s.meters := rfl
@[simp] theorem setCq_gov (s : State) (k : Nat) (l : List CqItem) : (s.setCq k l).gov = s.gov := rfl
@[simp] theorem setCq_hive (s : State) (k : Nat) (l : List CqItem) : (s.setCq k l).hive = s.hive := rfl
@[simp] theorem setCq_fgh (s : State) (k : Nat) (l : List CqItem) : (s.setCq k l).fgh = s.fgh := rfl
@[simp] theorem setCq_ports (s : State) (k : Nat) (l : List CqItem) : (s.setCq k l).ports = s.ports := rfl
@[simp] theorem setCq_arbs (s : State) (k : Nat) (l : List CqItem) : (s.setCq k l).arbs = s.arbs := rfl
@[simp] theorem setCq_rfes (s : State) (k : Nat) (l : List CqItem) : (s.setCq k l).rfes = s.rfes := rfl
@[simp] theorem setCq_clrs (s : State) (k : Nat) (l : List CqItem) : (s.setCq k l).clrs = s.clrs := rfl
@[simp] theorem setCq_clrIn (s : State) (k : Nat) (l : List CqItem) : (s.setCq k l).clrIn = s.clrIn := rfl
@[simp] theorem setCq_splits (s : State) (k : Nat) (l : List CqItem) : (s.setCq k l).splits = s.splits := rfl
@[simp] theorem setCq_cmpOuts (s : State) (k : Nat) (l : List CqItem) : (s.setCq k l).cmpOuts = s.cmpOuts := rfl
@[simp] theorem setCq_cmpRings (s : State) (k : Nat) (l : List CqItem) : (s.setCq k l).cmpRings = s.cmpRings := rfl
@[simp] theorem setCq_gens (s : State) (k : Nat) (l : List CqItem) : (s.setCq k l).gens = s.gens := rfl
@[simp] theorem setCq_lanes (s : State) (k : Nat) (l : List CqItem) : (s.setCq k l).lanes = s.lanes := rfl
@[simp] theorem setCq_serial (s : State) (k : Nat) (l : List CqItem) : (s.setCq k l).serial = s.serial := rfl
@[simp] theorem setCq_eyeScans (s : State) (k : Nat) (l : List CqItem) : (s.setCq k l).eyeScans = s.eyeScans := rfl
@[simp] theorem setCq_bcn (s : State) (k : Nat) (l : List CqItem) : (s.setCq k l).bcn = s.bcn := rfl
@[simp] theorem setCq_cas (s : State) (k : Nat) (l : List CqItem) : (s.setCq k l).cas = s.cas := rfl
@[simp] theorem setCq_vcxs (s : State) (k : Nat) (l : List CqItem) : (s.setCq k l).vcxs = s.vcxs := rfl
@[simp] theorem setCq_lpks (s : State) (k : Nat) (l : List CqItem) : (s.setCq k l).lpks = s.lpks := rfl
@[simp] theorem setCq_cls (s : State) (k : Nat) (l : List CqItem) : (s.setCq k l).cls = s.cls := rfl
@[simp] theorem setCq_memx (s : State) (k : Nat) (l : List CqItem) : (s.setCq k l).memx = s.memx := rfl
@[simp] theorem setCq_hci (s : State) (k : Nat) (l : List CqItem) : (s.setCq k l).hci = s.hci := rfl
@[simp] theorem setCq_kpr (s : State) (k : Nat) (l : List CqItem) : (s.setCq k l).kpr = s.kpr := rfl
@[simp] theorem setCq_out (s : State) (k : Nat) (l : List CqItem) : (s.setCq k l).out = s.out := rfl
@[simp] theorem setCq_fresh (s : State) (k : Nat) (l : List CqItem) : (s.setCq k l).fresh = s.fresh := rfl
@[simp] theorem setCq_due (s : State) (k : Nat) (l : List CqItem) : (s.setCq k l).due = s.due := rfl
@[simp] theorem setCq_pending (s : State) (k : Nat) (l : List CqItem) : (s.setCq k l).pending = s.pending := rfl

@[simp] theorem setCell_variant (s : State) (n : Nat) (c : CellSt) : (s.setCell n c).variant = s.variant := rfl
@[simp] theorem setCell_straps (s : State) (n : Nat) (c : CellSt) : (s.setCell n c).straps = s.straps := rfl
@[simp] theorem setCell_inert (s : State) (n : Nat) (c : CellSt) : (s.setCell n c).inert = s.inert := rfl
@[simp] theorem setCell_regs (s : State) (n : Nat) (c : CellSt) : (s.setCell n c).regs = s.regs := rfl
@[simp] theorem setCell_mem (s : State) (n : Nat) (c : CellSt) : (s.setCell n c).mem = s.mem := rfl
@[simp] theorem setCell_poison (s : State) (n : Nat) (c : CellSt) : (s.setCell n c).poison = s.poison := rfl
@[simp] theorem setCell_flaws (s : State) (n : Nat) (c : CellSt) : (s.setCell n c).flaws = s.flaws := rfl
@[simp] theorem setCell_tables (s : State) (n : Nat) (c : CellSt) : (s.setCell n c).tables = s.tables := rfl
@[simp] theorem setCell_nv (s : State) (n : Nat) (c : CellSt) : (s.setCell n c).nv = s.nv := rfl
@[simp] theorem setCell_queues (s : State) (n : Nat) (c : CellSt) : (s.setCell n c).queues = s.queues := rfl
@[simp] theorem setCell_cqs (s : State) (n : Nat) (c : CellSt) : (s.setCell n c).cqs = s.cqs := rfl
@[simp] theorem setCell_doms (s : State) (n : Nat) (c : CellSt) : (s.setCell n c).doms = s.doms := rfl
@[simp] theorem setCell_stalled (s : State) (n : Nat) (c : CellSt) : (s.setCell n c).stalled = s.stalled := rfl
@[simp] theorem setCell_rateMade (s : State) (n : Nat) (c : CellSt) : (s.setCell n c).rateMade = s.rateMade := rfl
@[simp] theorem setCell_meters (s : State) (n : Nat) (c : CellSt) : (s.setCell n c).meters = s.meters := rfl
@[simp] theorem setCell_gov (s : State) (n : Nat) (c : CellSt) : (s.setCell n c).gov = s.gov := rfl
@[simp] theorem setCell_fgh (s : State) (n : Nat) (c : CellSt) : (s.setCell n c).fgh = s.fgh := rfl
@[simp] theorem setCell_ports (s : State) (n : Nat) (c : CellSt) : (s.setCell n c).ports = s.ports := rfl
@[simp] theorem setCell_arbs (s : State) (n : Nat) (c : CellSt) : (s.setCell n c).arbs = s.arbs := rfl
@[simp] theorem setCell_rfes (s : State) (n : Nat) (c : CellSt) : (s.setCell n c).rfes = s.rfes := rfl
@[simp] theorem setCell_clrs (s : State) (n : Nat) (c : CellSt) : (s.setCell n c).clrs = s.clrs := rfl
@[simp] theorem setCell_clrIn (s : State) (n : Nat) (c : CellSt) : (s.setCell n c).clrIn = s.clrIn := rfl
@[simp] theorem setCell_splits (s : State) (n : Nat) (c : CellSt) : (s.setCell n c).splits = s.splits := rfl
@[simp] theorem setCell_cmpOuts (s : State) (n : Nat) (c : CellSt) : (s.setCell n c).cmpOuts = s.cmpOuts := rfl
@[simp] theorem setCell_cmpRings (s : State) (n : Nat) (c : CellSt) : (s.setCell n c).cmpRings = s.cmpRings := rfl
@[simp] theorem setCell_gens (s : State) (n : Nat) (c : CellSt) : (s.setCell n c).gens = s.gens := rfl
@[simp] theorem setCell_lanes (s : State) (n : Nat) (c : CellSt) : (s.setCell n c).lanes = s.lanes := rfl
@[simp] theorem setCell_serial (s : State) (n : Nat) (c : CellSt) : (s.setCell n c).serial = s.serial := rfl
@[simp] theorem setCell_eyeScans (s : State) (n : Nat) (c : CellSt) : (s.setCell n c).eyeScans = s.eyeScans := rfl
@[simp] theorem setCell_bcn (s : State) (n : Nat) (c : CellSt) : (s.setCell n c).bcn = s.bcn := rfl
@[simp] theorem setCell_cas (s : State) (n : Nat) (c : CellSt) : (s.setCell n c).cas = s.cas := rfl
@[simp] theorem setCell_vcxs (s : State) (n : Nat) (c : CellSt) : (s.setCell n c).vcxs = s.vcxs := rfl
@[simp] theorem setCell_lpks (s : State) (n : Nat) (c : CellSt) : (s.setCell n c).lpks = s.lpks := rfl
@[simp] theorem setCell_cls (s : State) (n : Nat) (c : CellSt) : (s.setCell n c).cls = s.cls := rfl
@[simp] theorem setCell_memx (s : State) (n : Nat) (c : CellSt) : (s.setCell n c).memx = s.memx := rfl
@[simp] theorem setCell_hci (s : State) (n : Nat) (c : CellSt) : (s.setCell n c).hci = s.hci := rfl
@[simp] theorem setCell_kpr (s : State) (n : Nat) (c : CellSt) : (s.setCell n c).kpr = s.kpr := rfl
@[simp] theorem setCell_out (s : State) (n : Nat) (c : CellSt) : (s.setCell n c).out = s.out := rfl
@[simp] theorem setCell_fresh (s : State) (n : Nat) (c : CellSt) : (s.setCell n c).fresh = s.fresh := rfl
@[simp] theorem setCell_due (s : State) (n : Nat) (c : CellSt) : (s.setCell n c).due = s.due := rfl
@[simp] theorem setCell_pending (s : State) (n : Nat) (c : CellSt) : (s.setCell n c).pending = s.pending := rfl

@[simp] theorem setBarrier_variant (s : State) (b : Nat) (x : Barrier) : (s.setBarrier b x).variant = s.variant := rfl
@[simp] theorem setBarrier_straps (s : State) (b : Nat) (x : Barrier) : (s.setBarrier b x).straps = s.straps := rfl
@[simp] theorem setBarrier_inert (s : State) (b : Nat) (x : Barrier) : (s.setBarrier b x).inert = s.inert := rfl
@[simp] theorem setBarrier_regs (s : State) (b : Nat) (x : Barrier) : (s.setBarrier b x).regs = s.regs := rfl
@[simp] theorem setBarrier_mem (s : State) (b : Nat) (x : Barrier) : (s.setBarrier b x).mem = s.mem := rfl
@[simp] theorem setBarrier_poison (s : State) (b : Nat) (x : Barrier) : (s.setBarrier b x).poison = s.poison := rfl
@[simp] theorem setBarrier_flaws (s : State) (b : Nat) (x : Barrier) : (s.setBarrier b x).flaws = s.flaws := rfl
@[simp] theorem setBarrier_tables (s : State) (b : Nat) (x : Barrier) : (s.setBarrier b x).tables = s.tables := rfl
@[simp] theorem setBarrier_nv (s : State) (b : Nat) (x : Barrier) : (s.setBarrier b x).nv = s.nv := rfl
@[simp] theorem setBarrier_queues (s : State) (b : Nat) (x : Barrier) : (s.setBarrier b x).queues = s.queues := rfl
@[simp] theorem setBarrier_cqs (s : State) (b : Nat) (x : Barrier) : (s.setBarrier b x).cqs = s.cqs := rfl
@[simp] theorem setBarrier_doms (s : State) (b : Nat) (x : Barrier) : (s.setBarrier b x).doms = s.doms := rfl
@[simp] theorem setBarrier_stalled (s : State) (b : Nat) (x : Barrier) : (s.setBarrier b x).stalled = s.stalled := rfl
@[simp] theorem setBarrier_rateMade (s : State) (b : Nat) (x : Barrier) : (s.setBarrier b x).rateMade = s.rateMade := rfl
@[simp] theorem setBarrier_meters (s : State) (b : Nat) (x : Barrier) : (s.setBarrier b x).meters = s.meters := rfl
@[simp] theorem setBarrier_gov (s : State) (b : Nat) (x : Barrier) : (s.setBarrier b x).gov = s.gov := rfl
@[simp] theorem setBarrier_fgh (s : State) (b : Nat) (x : Barrier) : (s.setBarrier b x).fgh = s.fgh := rfl
@[simp] theorem setBarrier_ports (s : State) (b : Nat) (x : Barrier) : (s.setBarrier b x).ports = s.ports := rfl
@[simp] theorem setBarrier_arbs (s : State) (b : Nat) (x : Barrier) : (s.setBarrier b x).arbs = s.arbs := rfl
@[simp] theorem setBarrier_rfes (s : State) (b : Nat) (x : Barrier) : (s.setBarrier b x).rfes = s.rfes := rfl
@[simp] theorem setBarrier_clrs (s : State) (b : Nat) (x : Barrier) : (s.setBarrier b x).clrs = s.clrs := rfl
@[simp] theorem setBarrier_clrIn (s : State) (b : Nat) (x : Barrier) : (s.setBarrier b x).clrIn = s.clrIn := rfl
@[simp] theorem setBarrier_splits (s : State) (b : Nat) (x : Barrier) : (s.setBarrier b x).splits = s.splits := rfl
@[simp] theorem setBarrier_cmpOuts (s : State) (b : Nat) (x : Barrier) : (s.setBarrier b x).cmpOuts = s.cmpOuts := rfl
@[simp] theorem setBarrier_cmpRings (s : State) (b : Nat) (x : Barrier) : (s.setBarrier b x).cmpRings = s.cmpRings := rfl
@[simp] theorem setBarrier_gens (s : State) (b : Nat) (x : Barrier) : (s.setBarrier b x).gens = s.gens := rfl
@[simp] theorem setBarrier_lanes (s : State) (b : Nat) (x : Barrier) : (s.setBarrier b x).lanes = s.lanes := rfl
@[simp] theorem setBarrier_serial (s : State) (b : Nat) (x : Barrier) : (s.setBarrier b x).serial = s.serial := rfl
@[simp] theorem setBarrier_eyeScans (s : State) (b : Nat) (x : Barrier) : (s.setBarrier b x).eyeScans = s.eyeScans := rfl
@[simp] theorem setBarrier_bcn (s : State) (b : Nat) (x : Barrier) : (s.setBarrier b x).bcn = s.bcn := rfl
@[simp] theorem setBarrier_cas (s : State) (b : Nat) (x : Barrier) : (s.setBarrier b x).cas = s.cas := rfl
@[simp] theorem setBarrier_vcxs (s : State) (b : Nat) (x : Barrier) : (s.setBarrier b x).vcxs = s.vcxs := rfl
@[simp] theorem setBarrier_lpks (s : State) (b : Nat) (x : Barrier) : (s.setBarrier b x).lpks = s.lpks := rfl
@[simp] theorem setBarrier_cls (s : State) (b : Nat) (x : Barrier) : (s.setBarrier b x).cls = s.cls := rfl
@[simp] theorem setBarrier_memx (s : State) (b : Nat) (x : Barrier) : (s.setBarrier b x).memx = s.memx := rfl
@[simp] theorem setBarrier_hci (s : State) (b : Nat) (x : Barrier) : (s.setBarrier b x).hci = s.hci := rfl
@[simp] theorem setBarrier_kpr (s : State) (b : Nat) (x : Barrier) : (s.setBarrier b x).kpr = s.kpr := rfl
@[simp] theorem setBarrier_out (s : State) (b : Nat) (x : Barrier) : (s.setBarrier b x).out = s.out := rfl
@[simp] theorem setBarrier_fresh (s : State) (b : Nat) (x : Barrier) : (s.setBarrier b x).fresh = s.fresh := rfl
@[simp] theorem setBarrier_due (s : State) (b : Nat) (x : Barrier) : (s.setBarrier b x).due = s.due := rfl
@[simp] theorem setBarrier_pending (s : State) (b : Nat) (x : Barrier) : (s.setBarrier b x).pending = s.pending := rfl

@[simp] theorem setPend_variant (s : State) (g : Nat) (l : List PendSet) : (s.setPend g l).variant = s.variant := rfl
@[simp] theorem setPend_straps (s : State) (g : Nat) (l : List PendSet) : (s.setPend g l).straps = s.straps := rfl
@[simp] theorem setPend_inert (s : State) (g : Nat) (l : List PendSet) : (s.setPend g l).inert = s.inert := rfl
@[simp] theorem setPend_regs (s : State) (g : Nat) (l : List PendSet) : (s.setPend g l).regs = s.regs := rfl
@[simp] theorem setPend_mem (s : State) (g : Nat) (l : List PendSet) : (s.setPend g l).mem = s.mem := rfl
@[simp] theorem setPend_poison (s : State) (g : Nat) (l : List PendSet) : (s.setPend g l).poison = s.poison := rfl
@[simp] theorem setPend_flaws (s : State) (g : Nat) (l : List PendSet) : (s.setPend g l).flaws = s.flaws := rfl
@[simp] theorem setPend_tables (s : State) (g : Nat) (l : List PendSet) : (s.setPend g l).tables = s.tables := rfl
@[simp] theorem setPend_nv (s : State) (g : Nat) (l : List PendSet) : (s.setPend g l).nv = s.nv := rfl
@[simp] theorem setPend_queues (s : State) (g : Nat) (l : List PendSet) : (s.setPend g l).queues = s.queues := rfl
@[simp] theorem setPend_cqs (s : State) (g : Nat) (l : List PendSet) : (s.setPend g l).cqs = s.cqs := rfl
@[simp] theorem setPend_doms (s : State) (g : Nat) (l : List PendSet) : (s.setPend g l).doms = s.doms := rfl
@[simp] theorem setPend_stalled (s : State) (g : Nat) (l : List PendSet) : (s.setPend g l).stalled = s.stalled := rfl
@[simp] theorem setPend_rateMade (s : State) (g : Nat) (l : List PendSet) : (s.setPend g l).rateMade = s.rateMade := rfl
@[simp] theorem setPend_meters (s : State) (g : Nat) (l : List PendSet) : (s.setPend g l).meters = s.meters := rfl
@[simp] theorem setPend_gov (s : State) (g : Nat) (l : List PendSet) : (s.setPend g l).gov = s.gov := rfl
@[simp] theorem setPend_fgh (s : State) (g : Nat) (l : List PendSet) : (s.setPend g l).fgh = s.fgh := rfl
@[simp] theorem setPend_ports (s : State) (g : Nat) (l : List PendSet) : (s.setPend g l).ports = s.ports := rfl
@[simp] theorem setPend_arbs (s : State) (g : Nat) (l : List PendSet) : (s.setPend g l).arbs = s.arbs := rfl
@[simp] theorem setPend_rfes (s : State) (g : Nat) (l : List PendSet) : (s.setPend g l).rfes = s.rfes := rfl
@[simp] theorem setPend_clrs (s : State) (g : Nat) (l : List PendSet) : (s.setPend g l).clrs = s.clrs := rfl
@[simp] theorem setPend_clrIn (s : State) (g : Nat) (l : List PendSet) : (s.setPend g l).clrIn = s.clrIn := rfl
@[simp] theorem setPend_splits (s : State) (g : Nat) (l : List PendSet) : (s.setPend g l).splits = s.splits := rfl
@[simp] theorem setPend_cmpOuts (s : State) (g : Nat) (l : List PendSet) : (s.setPend g l).cmpOuts = s.cmpOuts := rfl
@[simp] theorem setPend_cmpRings (s : State) (g : Nat) (l : List PendSet) : (s.setPend g l).cmpRings = s.cmpRings := rfl
@[simp] theorem setPend_gens (s : State) (g : Nat) (l : List PendSet) : (s.setPend g l).gens = s.gens := rfl
@[simp] theorem setPend_lanes (s : State) (g : Nat) (l : List PendSet) : (s.setPend g l).lanes = s.lanes := rfl
@[simp] theorem setPend_serial (s : State) (g : Nat) (l : List PendSet) : (s.setPend g l).serial = s.serial := rfl
@[simp] theorem setPend_eyeScans (s : State) (g : Nat) (l : List PendSet) : (s.setPend g l).eyeScans = s.eyeScans := rfl
@[simp] theorem setPend_bcn (s : State) (g : Nat) (l : List PendSet) : (s.setPend g l).bcn = s.bcn := rfl
@[simp] theorem setPend_cas (s : State) (g : Nat) (l : List PendSet) : (s.setPend g l).cas = s.cas := rfl
@[simp] theorem setPend_vcxs (s : State) (g : Nat) (l : List PendSet) : (s.setPend g l).vcxs = s.vcxs := rfl
@[simp] theorem setPend_lpks (s : State) (g : Nat) (l : List PendSet) : (s.setPend g l).lpks = s.lpks := rfl
@[simp] theorem setPend_cls (s : State) (g : Nat) (l : List PendSet) : (s.setPend g l).cls = s.cls := rfl
@[simp] theorem setPend_memx (s : State) (g : Nat) (l : List PendSet) : (s.setPend g l).memx = s.memx := rfl
@[simp] theorem setPend_hci (s : State) (g : Nat) (l : List PendSet) : (s.setPend g l).hci = s.hci := rfl
@[simp] theorem setPend_kpr (s : State) (g : Nat) (l : List PendSet) : (s.setPend g l).kpr = s.kpr := rfl
@[simp] theorem setPend_out (s : State) (g : Nat) (l : List PendSet) : (s.setPend g l).out = s.out := rfl
@[simp] theorem setPend_fresh (s : State) (g : Nat) (l : List PendSet) : (s.setPend g l).fresh = s.fresh := rfl
@[simp] theorem setPend_due (s : State) (g : Nat) (l : List PendSet) : (s.setPend g l).due = s.due := rfl
@[simp] theorem setPend_pending (s : State) (g : Nat) (l : List PendSet) : (s.setPend g l).pending = s.pending := rfl

@[simp] theorem emit_variant (s : State) (e : Emission) : (s.emit e).variant = s.variant := rfl
@[simp] theorem emit_straps (s : State) (e : Emission) : (s.emit e).straps = s.straps := rfl
@[simp] theorem emit_inert (s : State) (e : Emission) : (s.emit e).inert = s.inert := rfl
@[simp] theorem emit_regs (s : State) (e : Emission) : (s.emit e).regs = s.regs := rfl
@[simp] theorem emit_mem (s : State) (e : Emission) : (s.emit e).mem = s.mem := rfl
@[simp] theorem emit_poison (s : State) (e : Emission) : (s.emit e).poison = s.poison := rfl
@[simp] theorem emit_flaws (s : State) (e : Emission) : (s.emit e).flaws = s.flaws := rfl
@[simp] theorem emit_tables (s : State) (e : Emission) : (s.emit e).tables = s.tables := rfl
@[simp] theorem emit_nv (s : State) (e : Emission) : (s.emit e).nv = s.nv := rfl
@[simp] theorem emit_queues (s : State) (e : Emission) : (s.emit e).queues = s.queues := rfl
@[simp] theorem emit_cqs (s : State) (e : Emission) : (s.emit e).cqs = s.cqs := rfl
@[simp] theorem emit_doms (s : State) (e : Emission) : (s.emit e).doms = s.doms := rfl
@[simp] theorem emit_stalled (s : State) (e : Emission) : (s.emit e).stalled = s.stalled := rfl
@[simp] theorem emit_rateMade (s : State) (e : Emission) : (s.emit e).rateMade = s.rateMade := rfl
@[simp] theorem emit_meters (s : State) (e : Emission) : (s.emit e).meters = s.meters := rfl
@[simp] theorem emit_gov (s : State) (e : Emission) : (s.emit e).gov = s.gov := rfl
@[simp] theorem emit_hive (s : State) (e : Emission) : (s.emit e).hive = s.hive := rfl
@[simp] theorem emit_fgh (s : State) (e : Emission) : (s.emit e).fgh = s.fgh := rfl
@[simp] theorem emit_ports (s : State) (e : Emission) : (s.emit e).ports = s.ports := rfl
@[simp] theorem emit_arbs (s : State) (e : Emission) : (s.emit e).arbs = s.arbs := rfl
@[simp] theorem emit_rfes (s : State) (e : Emission) : (s.emit e).rfes = s.rfes := rfl
@[simp] theorem emit_clrs (s : State) (e : Emission) : (s.emit e).clrs = s.clrs := rfl
@[simp] theorem emit_clrIn (s : State) (e : Emission) : (s.emit e).clrIn = s.clrIn := rfl
@[simp] theorem emit_splits (s : State) (e : Emission) : (s.emit e).splits = s.splits := rfl
@[simp] theorem emit_cmpOuts (s : State) (e : Emission) : (s.emit e).cmpOuts = s.cmpOuts := rfl
@[simp] theorem emit_cmpRings (s : State) (e : Emission) : (s.emit e).cmpRings = s.cmpRings := rfl
@[simp] theorem emit_gens (s : State) (e : Emission) : (s.emit e).gens = s.gens := rfl
@[simp] theorem emit_lanes (s : State) (e : Emission) : (s.emit e).lanes = s.lanes := rfl
@[simp] theorem emit_serial (s : State) (e : Emission) : (s.emit e).serial = s.serial := rfl
@[simp] theorem emit_eyeScans (s : State) (e : Emission) : (s.emit e).eyeScans = s.eyeScans := rfl
@[simp] theorem emit_bcn (s : State) (e : Emission) : (s.emit e).bcn = s.bcn := rfl
@[simp] theorem emit_cas (s : State) (e : Emission) : (s.emit e).cas = s.cas := rfl
@[simp] theorem emit_vcxs (s : State) (e : Emission) : (s.emit e).vcxs = s.vcxs := rfl
@[simp] theorem emit_lpks (s : State) (e : Emission) : (s.emit e).lpks = s.lpks := rfl
@[simp] theorem emit_cls (s : State) (e : Emission) : (s.emit e).cls = s.cls := rfl
@[simp] theorem emit_memx (s : State) (e : Emission) : (s.emit e).memx = s.memx := rfl
@[simp] theorem emit_hci (s : State) (e : Emission) : (s.emit e).hci = s.hci := rfl
@[simp] theorem emit_kpr (s : State) (e : Emission) : (s.emit e).kpr = s.kpr := rfl
@[simp] theorem emit_fresh (s : State) (e : Emission) : (s.emit e).fresh = s.fresh := rfl
@[simp] theorem emit_due (s : State) (e : Emission) : (s.emit e).due = s.due := rfl
@[simp] theorem emit_pending (s : State) (e : Emission) : (s.emit e).pending = s.pending := rfl

@[simp] theorem zero_variant (s : State) (a len : Nat) : (s.zero a len).variant = s.variant := rfl
@[simp] theorem zero_straps (s : State) (a len : Nat) : (s.zero a len).straps = s.straps := rfl
@[simp] theorem zero_inert (s : State) (a len : Nat) : (s.zero a len).inert = s.inert := rfl
@[simp] theorem zero_regs (s : State) (a len : Nat) : (s.zero a len).regs = s.regs := rfl
@[simp] theorem zero_tables (s : State) (a len : Nat) : (s.zero a len).tables = s.tables := rfl
@[simp] theorem zero_nv (s : State) (a len : Nat) : (s.zero a len).nv = s.nv := rfl
@[simp] theorem zero_queues (s : State) (a len : Nat) : (s.zero a len).queues = s.queues := rfl
@[simp] theorem zero_cqs (s : State) (a len : Nat) : (s.zero a len).cqs = s.cqs := rfl
@[simp] theorem zero_doms (s : State) (a len : Nat) : (s.zero a len).doms = s.doms := rfl
@[simp] theorem zero_stalled (s : State) (a len : Nat) : (s.zero a len).stalled = s.stalled := rfl
@[simp] theorem zero_rateMade (s : State) (a len : Nat) : (s.zero a len).rateMade = s.rateMade := rfl
@[simp] theorem zero_meters (s : State) (a len : Nat) : (s.zero a len).meters = s.meters := rfl
@[simp] theorem zero_gov (s : State) (a len : Nat) : (s.zero a len).gov = s.gov := rfl
@[simp] theorem zero_hive (s : State) (a len : Nat) : (s.zero a len).hive = s.hive := rfl
@[simp] theorem zero_fgh (s : State) (a len : Nat) : (s.zero a len).fgh = s.fgh := rfl
@[simp] theorem zero_ports (s : State) (a len : Nat) : (s.zero a len).ports = s.ports := rfl
@[simp] theorem zero_arbs (s : State) (a len : Nat) : (s.zero a len).arbs = s.arbs := rfl
@[simp] theorem zero_rfes (s : State) (a len : Nat) : (s.zero a len).rfes = s.rfes := rfl
@[simp] theorem zero_clrs (s : State) (a len : Nat) : (s.zero a len).clrs = s.clrs := rfl
@[simp] theorem zero_clrIn (s : State) (a len : Nat) : (s.zero a len).clrIn = s.clrIn := rfl
@[simp] theorem zero_splits (s : State) (a len : Nat) : (s.zero a len).splits = s.splits := rfl
@[simp] theorem zero_cmpOuts (s : State) (a len : Nat) : (s.zero a len).cmpOuts = s.cmpOuts := rfl
@[simp] theorem zero_cmpRings (s : State) (a len : Nat) : (s.zero a len).cmpRings = s.cmpRings := rfl
@[simp] theorem zero_gens (s : State) (a len : Nat) : (s.zero a len).gens = s.gens := rfl
@[simp] theorem zero_lanes (s : State) (a len : Nat) : (s.zero a len).lanes = s.lanes := rfl
@[simp] theorem zero_serial (s : State) (a len : Nat) : (s.zero a len).serial = s.serial := rfl
@[simp] theorem zero_eyeScans (s : State) (a len : Nat) : (s.zero a len).eyeScans = s.eyeScans := rfl
@[simp] theorem zero_bcn (s : State) (a len : Nat) : (s.zero a len).bcn = s.bcn := rfl
@[simp] theorem zero_cas (s : State) (a len : Nat) : (s.zero a len).cas = s.cas := rfl
@[simp] theorem zero_vcxs (s : State) (a len : Nat) : (s.zero a len).vcxs = s.vcxs := rfl
@[simp] theorem zero_lpks (s : State) (a len : Nat) : (s.zero a len).lpks = s.lpks := rfl
@[simp] theorem zero_cls (s : State) (a len : Nat) : (s.zero a len).cls = s.cls := rfl
@[simp] theorem zero_memx (s : State) (a len : Nat) : (s.zero a len).memx = s.memx := rfl
@[simp] theorem zero_hci (s : State) (a len : Nat) : (s.zero a len).hci = s.hci := rfl
@[simp] theorem zero_kpr (s : State) (a len : Nat) : (s.zero a len).kpr = s.kpr := rfl
@[simp] theorem zero_out (s : State) (a len : Nat) : (s.zero a len).out = s.out := rfl
@[simp] theorem zero_fresh (s : State) (a len : Nat) : (s.zero a len).fresh = s.fresh := rfl
@[simp] theorem zero_due (s : State) (a len : Nat) : (s.zero a len).due = s.due := rfl
@[simp] theorem zero_pending (s : State) (a len : Nat) : (s.zero a len).pending = s.pending := rfl

@[simp] theorem setTbl_variant (s : State) (win t b w : Nat) (v : Quad) : (s.setTbl win t b w v).variant = s.variant := rfl
@[simp] theorem setTbl_straps (s : State) (win t b w : Nat) (v : Quad) : (s.setTbl win t b w v).straps = s.straps := rfl
@[simp] theorem setTbl_inert (s : State) (win t b w : Nat) (v : Quad) : (s.setTbl win t b w v).inert = s.inert := rfl
@[simp] theorem setTbl_regs (s : State) (win t b w : Nat) (v : Quad) : (s.setTbl win t b w v).regs = s.regs := rfl
@[simp] theorem setTbl_mem (s : State) (win t b w : Nat) (v : Quad) : (s.setTbl win t b w v).mem = s.mem := rfl
@[simp] theorem setTbl_nv (s : State) (win t b w : Nat) (v : Quad) : (s.setTbl win t b w v).nv = s.nv := rfl
@[simp] theorem setTbl_queues (s : State) (win t b w : Nat) (v : Quad) : (s.setTbl win t b w v).queues = s.queues := rfl
@[simp] theorem setTbl_cqs (s : State) (win t b w : Nat) (v : Quad) : (s.setTbl win t b w v).cqs = s.cqs := rfl
@[simp] theorem setTbl_doms (s : State) (win t b w : Nat) (v : Quad) : (s.setTbl win t b w v).doms = s.doms := rfl
@[simp] theorem setTbl_stalled (s : State) (win t b w : Nat) (v : Quad) : (s.setTbl win t b w v).stalled = s.stalled := rfl
@[simp] theorem setTbl_rateMade (s : State) (win t b w : Nat) (v : Quad) : (s.setTbl win t b w v).rateMade = s.rateMade := rfl
@[simp] theorem setTbl_meters (s : State) (win t b w : Nat) (v : Quad) : (s.setTbl win t b w v).meters = s.meters := rfl
@[simp] theorem setTbl_gov (s : State) (win t b w : Nat) (v : Quad) : (s.setTbl win t b w v).gov = s.gov := rfl
@[simp] theorem setTbl_hive (s : State) (win t b w : Nat) (v : Quad) : (s.setTbl win t b w v).hive = s.hive := rfl
@[simp] theorem setTbl_fgh (s : State) (win t b w : Nat) (v : Quad) : (s.setTbl win t b w v).fgh = s.fgh := rfl
@[simp] theorem setTbl_ports (s : State) (win t b w : Nat) (v : Quad) : (s.setTbl win t b w v).ports = s.ports := rfl
@[simp] theorem setTbl_arbs (s : State) (win t b w : Nat) (v : Quad) : (s.setTbl win t b w v).arbs = s.arbs := rfl
@[simp] theorem setTbl_rfes (s : State) (win t b w : Nat) (v : Quad) : (s.setTbl win t b w v).rfes = s.rfes := rfl
@[simp] theorem setTbl_clrs (s : State) (win t b w : Nat) (v : Quad) : (s.setTbl win t b w v).clrs = s.clrs := rfl
@[simp] theorem setTbl_clrIn (s : State) (win t b w : Nat) (v : Quad) : (s.setTbl win t b w v).clrIn = s.clrIn := rfl
@[simp] theorem setTbl_splits (s : State) (win t b w : Nat) (v : Quad) : (s.setTbl win t b w v).splits = s.splits := rfl
@[simp] theorem setTbl_cmpOuts (s : State) (win t b w : Nat) (v : Quad) : (s.setTbl win t b w v).cmpOuts = s.cmpOuts := rfl
@[simp] theorem setTbl_cmpRings (s : State) (win t b w : Nat) (v : Quad) : (s.setTbl win t b w v).cmpRings = s.cmpRings := rfl
@[simp] theorem setTbl_gens (s : State) (win t b w : Nat) (v : Quad) : (s.setTbl win t b w v).gens = s.gens := rfl
@[simp] theorem setTbl_lanes (s : State) (win t b w : Nat) (v : Quad) : (s.setTbl win t b w v).lanes = s.lanes := rfl
@[simp] theorem setTbl_serial (s : State) (win t b w : Nat) (v : Quad) : (s.setTbl win t b w v).serial = s.serial := rfl
@[simp] theorem setTbl_eyeScans (s : State) (win t b w : Nat) (v : Quad) : (s.setTbl win t b w v).eyeScans = s.eyeScans := rfl
@[simp] theorem setTbl_bcn (s : State) (win t b w : Nat) (v : Quad) : (s.setTbl win t b w v).bcn = s.bcn := rfl
@[simp] theorem setTbl_cas (s : State) (win t b w : Nat) (v : Quad) : (s.setTbl win t b w v).cas = s.cas := rfl
@[simp] theorem setTbl_vcxs (s : State) (win t b w : Nat) (v : Quad) : (s.setTbl win t b w v).vcxs = s.vcxs := rfl
@[simp] theorem setTbl_lpks (s : State) (win t b w : Nat) (v : Quad) : (s.setTbl win t b w v).lpks = s.lpks := rfl
@[simp] theorem setTbl_cls (s : State) (win t b w : Nat) (v : Quad) : (s.setTbl win t b w v).cls = s.cls := rfl
@[simp] theorem setTbl_memx (s : State) (win t b w : Nat) (v : Quad) : (s.setTbl win t b w v).memx = s.memx := rfl
@[simp] theorem setTbl_hci (s : State) (win t b w : Nat) (v : Quad) : (s.setTbl win t b w v).hci = s.hci := rfl
@[simp] theorem setTbl_kpr (s : State) (win t b w : Nat) (v : Quad) : (s.setTbl win t b w v).kpr = s.kpr := rfl
@[simp] theorem setTbl_out (s : State) (win t b w : Nat) (v : Quad) : (s.setTbl win t b w v).out = s.out := rfl
@[simp] theorem setTbl_fresh (s : State) (win t b w : Nat) (v : Quad) : (s.setTbl win t b w v).fresh = s.fresh := rfl
@[simp] theorem setTbl_due (s : State) (win t b w : Nat) (v : Quad) : (s.setTbl win t b w v).due = s.due := rfl
@[simp] theorem setTbl_pending (s : State) (win t b w : Nat) (v : Quad) : (s.setTbl win t b w v).pending = s.pending := rfl

@[simp] theorem setPort_variant (s : State) (n : Nat) (p : Port) : (s.setPort n p).variant = s.variant := rfl
@[simp] theorem setPort_straps (s : State) (n : Nat) (p : Port) : (s.setPort n p).straps = s.straps := rfl
@[simp] theorem setPort_inert (s : State) (n : Nat) (p : Port) : (s.setPort n p).inert = s.inert := rfl
@[simp] theorem setPort_regs (s : State) (n : Nat) (p : Port) : (s.setPort n p).regs = s.regs := rfl
@[simp] theorem setPort_mem (s : State) (n : Nat) (p : Port) : (s.setPort n p).mem = s.mem := rfl
@[simp] theorem setPort_poison (s : State) (n : Nat) (p : Port) : (s.setPort n p).poison = s.poison := rfl
@[simp] theorem setPort_flaws (s : State) (n : Nat) (p : Port) : (s.setPort n p).flaws = s.flaws := rfl
@[simp] theorem setPort_tables (s : State) (n : Nat) (p : Port) : (s.setPort n p).tables = s.tables := rfl
@[simp] theorem setPort_nv (s : State) (n : Nat) (p : Port) : (s.setPort n p).nv = s.nv := rfl
@[simp] theorem setPort_queues (s : State) (n : Nat) (p : Port) : (s.setPort n p).queues = s.queues := rfl
@[simp] theorem setPort_cqs (s : State) (n : Nat) (p : Port) : (s.setPort n p).cqs = s.cqs := rfl
@[simp] theorem setPort_doms (s : State) (n : Nat) (p : Port) : (s.setPort n p).doms = s.doms := rfl
@[simp] theorem setPort_stalled (s : State) (n : Nat) (p : Port) : (s.setPort n p).stalled = s.stalled := rfl
@[simp] theorem setPort_rateMade (s : State) (n : Nat) (p : Port) : (s.setPort n p).rateMade = s.rateMade := rfl
@[simp] theorem setPort_meters (s : State) (n : Nat) (p : Port) : (s.setPort n p).meters = s.meters := rfl
@[simp] theorem setPort_gov (s : State) (n : Nat) (p : Port) : (s.setPort n p).gov = s.gov := rfl
@[simp] theorem setPort_hive (s : State) (n : Nat) (p : Port) : (s.setPort n p).hive = s.hive := rfl
@[simp] theorem setPort_fgh (s : State) (n : Nat) (p : Port) : (s.setPort n p).fgh = s.fgh := rfl
@[simp] theorem setPort_arbs (s : State) (n : Nat) (p : Port) : (s.setPort n p).arbs = s.arbs := rfl
@[simp] theorem setPort_rfes (s : State) (n : Nat) (p : Port) : (s.setPort n p).rfes = s.rfes := rfl
@[simp] theorem setPort_clrs (s : State) (n : Nat) (p : Port) : (s.setPort n p).clrs = s.clrs := rfl
@[simp] theorem setPort_clrIn (s : State) (n : Nat) (p : Port) : (s.setPort n p).clrIn = s.clrIn := rfl
@[simp] theorem setPort_splits (s : State) (n : Nat) (p : Port) : (s.setPort n p).splits = s.splits := rfl
@[simp] theorem setPort_cmpOuts (s : State) (n : Nat) (p : Port) : (s.setPort n p).cmpOuts = s.cmpOuts := rfl
@[simp] theorem setPort_cmpRings (s : State) (n : Nat) (p : Port) : (s.setPort n p).cmpRings = s.cmpRings := rfl
@[simp] theorem setPort_gens (s : State) (n : Nat) (p : Port) : (s.setPort n p).gens = s.gens := rfl
@[simp] theorem setPort_lanes (s : State) (n : Nat) (p : Port) : (s.setPort n p).lanes = s.lanes := rfl
@[simp] theorem setPort_serial (s : State) (n : Nat) (p : Port) : (s.setPort n p).serial = s.serial := rfl
@[simp] theorem setPort_eyeScans (s : State) (n : Nat) (p : Port) : (s.setPort n p).eyeScans = s.eyeScans := rfl
@[simp] theorem setPort_bcn (s : State) (n : Nat) (p : Port) : (s.setPort n p).bcn = s.bcn := rfl
@[simp] theorem setPort_cas (s : State) (n : Nat) (p : Port) : (s.setPort n p).cas = s.cas := rfl
@[simp] theorem setPort_vcxs (s : State) (n : Nat) (p : Port) : (s.setPort n p).vcxs = s.vcxs := rfl
@[simp] theorem setPort_lpks (s : State) (n : Nat) (p : Port) : (s.setPort n p).lpks = s.lpks := rfl
@[simp] theorem setPort_cls (s : State) (n : Nat) (p : Port) : (s.setPort n p).cls = s.cls := rfl
@[simp] theorem setPort_memx (s : State) (n : Nat) (p : Port) : (s.setPort n p).memx = s.memx := rfl
@[simp] theorem setPort_hci (s : State) (n : Nat) (p : Port) : (s.setPort n p).hci = s.hci := rfl
@[simp] theorem setPort_kpr (s : State) (n : Nat) (p : Port) : (s.setPort n p).kpr = s.kpr := rfl
@[simp] theorem setPort_out (s : State) (n : Nat) (p : Port) : (s.setPort n p).out = s.out := rfl
@[simp] theorem setPort_fresh (s : State) (n : Nat) (p : Port) : (s.setPort n p).fresh = s.fresh := rfl
@[simp] theorem setPort_due (s : State) (n : Nat) (p : Port) : (s.setPort n p).due = s.due := rfl
@[simp] theorem setPort_pending (s : State) (n : Nat) (p : Port) : (s.setPort n p).pending = s.pending := rfl

@[simp] theorem setGen_variant (s : State) (g : Nat) (x : Gen) : (s.setGen g x).variant = s.variant := rfl
@[simp] theorem setGen_straps (s : State) (g : Nat) (x : Gen) : (s.setGen g x).straps = s.straps := rfl
@[simp] theorem setGen_inert (s : State) (g : Nat) (x : Gen) : (s.setGen g x).inert = s.inert := rfl
@[simp] theorem setGen_regs (s : State) (g : Nat) (x : Gen) : (s.setGen g x).regs = s.regs := rfl
@[simp] theorem setGen_mem (s : State) (g : Nat) (x : Gen) : (s.setGen g x).mem = s.mem := rfl
@[simp] theorem setGen_poison (s : State) (g : Nat) (x : Gen) : (s.setGen g x).poison = s.poison := rfl
@[simp] theorem setGen_flaws (s : State) (g : Nat) (x : Gen) : (s.setGen g x).flaws = s.flaws := rfl
@[simp] theorem setGen_tables (s : State) (g : Nat) (x : Gen) : (s.setGen g x).tables = s.tables := rfl
@[simp] theorem setGen_nv (s : State) (g : Nat) (x : Gen) : (s.setGen g x).nv = s.nv := rfl
@[simp] theorem setGen_queues (s : State) (g : Nat) (x : Gen) : (s.setGen g x).queues = s.queues := rfl
@[simp] theorem setGen_cqs (s : State) (g : Nat) (x : Gen) : (s.setGen g x).cqs = s.cqs := rfl
@[simp] theorem setGen_doms (s : State) (g : Nat) (x : Gen) : (s.setGen g x).doms = s.doms := rfl
@[simp] theorem setGen_stalled (s : State) (g : Nat) (x : Gen) : (s.setGen g x).stalled = s.stalled := rfl
@[simp] theorem setGen_rateMade (s : State) (g : Nat) (x : Gen) : (s.setGen g x).rateMade = s.rateMade := rfl
@[simp] theorem setGen_meters (s : State) (g : Nat) (x : Gen) : (s.setGen g x).meters = s.meters := rfl
@[simp] theorem setGen_gov (s : State) (g : Nat) (x : Gen) : (s.setGen g x).gov = s.gov := rfl
@[simp] theorem setGen_hive (s : State) (g : Nat) (x : Gen) : (s.setGen g x).hive = s.hive := rfl
@[simp] theorem setGen_fgh (s : State) (g : Nat) (x : Gen) : (s.setGen g x).fgh = s.fgh := rfl
@[simp] theorem setGen_ports (s : State) (g : Nat) (x : Gen) : (s.setGen g x).ports = s.ports := rfl
@[simp] theorem setGen_arbs (s : State) (g : Nat) (x : Gen) : (s.setGen g x).arbs = s.arbs := rfl
@[simp] theorem setGen_rfes (s : State) (g : Nat) (x : Gen) : (s.setGen g x).rfes = s.rfes := rfl
@[simp] theorem setGen_clrs (s : State) (g : Nat) (x : Gen) : (s.setGen g x).clrs = s.clrs := rfl
@[simp] theorem setGen_clrIn (s : State) (g : Nat) (x : Gen) : (s.setGen g x).clrIn = s.clrIn := rfl
@[simp] theorem setGen_splits (s : State) (g : Nat) (x : Gen) : (s.setGen g x).splits = s.splits := rfl
@[simp] theorem setGen_cmpOuts (s : State) (g : Nat) (x : Gen) : (s.setGen g x).cmpOuts = s.cmpOuts := rfl
@[simp] theorem setGen_cmpRings (s : State) (g : Nat) (x : Gen) : (s.setGen g x).cmpRings = s.cmpRings := rfl
@[simp] theorem setGen_lanes (s : State) (g : Nat) (x : Gen) : (s.setGen g x).lanes = s.lanes := rfl
@[simp] theorem setGen_serial (s : State) (g : Nat) (x : Gen) : (s.setGen g x).serial = s.serial := rfl
@[simp] theorem setGen_eyeScans (s : State) (g : Nat) (x : Gen) : (s.setGen g x).eyeScans = s.eyeScans := rfl
@[simp] theorem setGen_bcn (s : State) (g : Nat) (x : Gen) : (s.setGen g x).bcn = s.bcn := rfl
@[simp] theorem setGen_cas (s : State) (g : Nat) (x : Gen) : (s.setGen g x).cas = s.cas := rfl
@[simp] theorem setGen_vcxs (s : State) (g : Nat) (x : Gen) : (s.setGen g x).vcxs = s.vcxs := rfl
@[simp] theorem setGen_lpks (s : State) (g : Nat) (x : Gen) : (s.setGen g x).lpks = s.lpks := rfl
@[simp] theorem setGen_cls (s : State) (g : Nat) (x : Gen) : (s.setGen g x).cls = s.cls := rfl
@[simp] theorem setGen_memx (s : State) (g : Nat) (x : Gen) : (s.setGen g x).memx = s.memx := rfl
@[simp] theorem setGen_hci (s : State) (g : Nat) (x : Gen) : (s.setGen g x).hci = s.hci := rfl
@[simp] theorem setGen_kpr (s : State) (g : Nat) (x : Gen) : (s.setGen g x).kpr = s.kpr := rfl
@[simp] theorem setGen_out (s : State) (g : Nat) (x : Gen) : (s.setGen g x).out = s.out := rfl
@[simp] theorem setGen_fresh (s : State) (g : Nat) (x : Gen) : (s.setGen g x).fresh = s.fresh := rfl
@[simp] theorem setGen_due (s : State) (g : Nat) (x : Gen) : (s.setGen g x).due = s.due := rfl
@[simp] theorem setGen_pending (s : State) (g : Nat) (x : Gen) : (s.setGen g x).pending = s.pending := rfl

@[simp] theorem setLane_variant (s : State) (l : Nat) (x : WallLane) : (s.setLane l x).variant = s.variant := rfl
@[simp] theorem setLane_straps (s : State) (l : Nat) (x : WallLane) : (s.setLane l x).straps = s.straps := rfl
@[simp] theorem setLane_inert (s : State) (l : Nat) (x : WallLane) : (s.setLane l x).inert = s.inert := rfl
@[simp] theorem setLane_regs (s : State) (l : Nat) (x : WallLane) : (s.setLane l x).regs = s.regs := rfl
@[simp] theorem setLane_mem (s : State) (l : Nat) (x : WallLane) : (s.setLane l x).mem = s.mem := rfl
@[simp] theorem setLane_poison (s : State) (l : Nat) (x : WallLane) : (s.setLane l x).poison = s.poison := rfl
@[simp] theorem setLane_flaws (s : State) (l : Nat) (x : WallLane) : (s.setLane l x).flaws = s.flaws := rfl
@[simp] theorem setLane_tables (s : State) (l : Nat) (x : WallLane) : (s.setLane l x).tables = s.tables := rfl
@[simp] theorem setLane_nv (s : State) (l : Nat) (x : WallLane) : (s.setLane l x).nv = s.nv := rfl
@[simp] theorem setLane_queues (s : State) (l : Nat) (x : WallLane) : (s.setLane l x).queues = s.queues := rfl
@[simp] theorem setLane_cqs (s : State) (l : Nat) (x : WallLane) : (s.setLane l x).cqs = s.cqs := rfl
@[simp] theorem setLane_doms (s : State) (l : Nat) (x : WallLane) : (s.setLane l x).doms = s.doms := rfl
@[simp] theorem setLane_stalled (s : State) (l : Nat) (x : WallLane) : (s.setLane l x).stalled = s.stalled := rfl
@[simp] theorem setLane_rateMade (s : State) (l : Nat) (x : WallLane) : (s.setLane l x).rateMade = s.rateMade := rfl
@[simp] theorem setLane_meters (s : State) (l : Nat) (x : WallLane) : (s.setLane l x).meters = s.meters := rfl
@[simp] theorem setLane_gov (s : State) (l : Nat) (x : WallLane) : (s.setLane l x).gov = s.gov := rfl
@[simp] theorem setLane_hive (s : State) (l : Nat) (x : WallLane) : (s.setLane l x).hive = s.hive := rfl
@[simp] theorem setLane_fgh (s : State) (l : Nat) (x : WallLane) : (s.setLane l x).fgh = s.fgh := rfl
@[simp] theorem setLane_ports (s : State) (l : Nat) (x : WallLane) : (s.setLane l x).ports = s.ports := rfl
@[simp] theorem setLane_arbs (s : State) (l : Nat) (x : WallLane) : (s.setLane l x).arbs = s.arbs := rfl
@[simp] theorem setLane_rfes (s : State) (l : Nat) (x : WallLane) : (s.setLane l x).rfes = s.rfes := rfl
@[simp] theorem setLane_clrs (s : State) (l : Nat) (x : WallLane) : (s.setLane l x).clrs = s.clrs := rfl
@[simp] theorem setLane_clrIn (s : State) (l : Nat) (x : WallLane) : (s.setLane l x).clrIn = s.clrIn := rfl
@[simp] theorem setLane_splits (s : State) (l : Nat) (x : WallLane) : (s.setLane l x).splits = s.splits := rfl
@[simp] theorem setLane_cmpOuts (s : State) (l : Nat) (x : WallLane) : (s.setLane l x).cmpOuts = s.cmpOuts := rfl
@[simp] theorem setLane_cmpRings (s : State) (l : Nat) (x : WallLane) : (s.setLane l x).cmpRings = s.cmpRings := rfl
@[simp] theorem setLane_gens (s : State) (l : Nat) (x : WallLane) : (s.setLane l x).gens = s.gens := rfl
@[simp] theorem setLane_serial (s : State) (l : Nat) (x : WallLane) : (s.setLane l x).serial = s.serial := rfl
@[simp] theorem setLane_eyeScans (s : State) (l : Nat) (x : WallLane) : (s.setLane l x).eyeScans = s.eyeScans := rfl
@[simp] theorem setLane_bcn (s : State) (l : Nat) (x : WallLane) : (s.setLane l x).bcn = s.bcn := rfl
@[simp] theorem setLane_cas (s : State) (l : Nat) (x : WallLane) : (s.setLane l x).cas = s.cas := rfl
@[simp] theorem setLane_vcxs (s : State) (l : Nat) (x : WallLane) : (s.setLane l x).vcxs = s.vcxs := rfl
@[simp] theorem setLane_lpks (s : State) (l : Nat) (x : WallLane) : (s.setLane l x).lpks = s.lpks := rfl
@[simp] theorem setLane_cls (s : State) (l : Nat) (x : WallLane) : (s.setLane l x).cls = s.cls := rfl
@[simp] theorem setLane_memx (s : State) (l : Nat) (x : WallLane) : (s.setLane l x).memx = s.memx := rfl
@[simp] theorem setLane_hci (s : State) (l : Nat) (x : WallLane) : (s.setLane l x).hci = s.hci := rfl
@[simp] theorem setLane_kpr (s : State) (l : Nat) (x : WallLane) : (s.setLane l x).kpr = s.kpr := rfl
@[simp] theorem setLane_out (s : State) (l : Nat) (x : WallLane) : (s.setLane l x).out = s.out := rfl
@[simp] theorem setLane_fresh (s : State) (l : Nat) (x : WallLane) : (s.setLane l x).fresh = s.fresh := rfl
@[simp] theorem setLane_due (s : State) (l : Nat) (x : WallLane) : (s.setLane l x).due = s.due := rfl
@[simp] theorem setLane_pending (s : State) (l : Nat) (x : WallLane) : (s.setLane l x).pending = s.pending := rfl

@[simp] theorem setMeter_variant (s : State) (w n : Nat) (m : Meter) : (s.setMeter w n m).variant = s.variant := rfl
@[simp] theorem setMeter_straps (s : State) (w n : Nat) (m : Meter) : (s.setMeter w n m).straps = s.straps := rfl
@[simp] theorem setMeter_inert (s : State) (w n : Nat) (m : Meter) : (s.setMeter w n m).inert = s.inert := rfl
@[simp] theorem setMeter_regs (s : State) (w n : Nat) (m : Meter) : (s.setMeter w n m).regs = s.regs := rfl
@[simp] theorem setMeter_mem (s : State) (w n : Nat) (m : Meter) : (s.setMeter w n m).mem = s.mem := rfl
@[simp] theorem setMeter_poison (s : State) (w n : Nat) (m : Meter) : (s.setMeter w n m).poison = s.poison := rfl
@[simp] theorem setMeter_flaws (s : State) (w n : Nat) (m : Meter) : (s.setMeter w n m).flaws = s.flaws := rfl
@[simp] theorem setMeter_tables (s : State) (w n : Nat) (m : Meter) : (s.setMeter w n m).tables = s.tables := rfl
@[simp] theorem setMeter_nv (s : State) (w n : Nat) (m : Meter) : (s.setMeter w n m).nv = s.nv := rfl
@[simp] theorem setMeter_queues (s : State) (w n : Nat) (m : Meter) : (s.setMeter w n m).queues = s.queues := rfl
@[simp] theorem setMeter_cqs (s : State) (w n : Nat) (m : Meter) : (s.setMeter w n m).cqs = s.cqs := rfl
@[simp] theorem setMeter_doms (s : State) (w n : Nat) (m : Meter) : (s.setMeter w n m).doms = s.doms := rfl
@[simp] theorem setMeter_stalled (s : State) (w n : Nat) (m : Meter) : (s.setMeter w n m).stalled = s.stalled := rfl
@[simp] theorem setMeter_rateMade (s : State) (w n : Nat) (m : Meter) : (s.setMeter w n m).rateMade = s.rateMade := rfl
@[simp] theorem setMeter_gov (s : State) (w n : Nat) (m : Meter) : (s.setMeter w n m).gov = s.gov := rfl
@[simp] theorem setMeter_hive (s : State) (w n : Nat) (m : Meter) : (s.setMeter w n m).hive = s.hive := rfl
@[simp] theorem setMeter_fgh (s : State) (w n : Nat) (m : Meter) : (s.setMeter w n m).fgh = s.fgh := rfl
@[simp] theorem setMeter_ports (s : State) (w n : Nat) (m : Meter) : (s.setMeter w n m).ports = s.ports := rfl
@[simp] theorem setMeter_arbs (s : State) (w n : Nat) (m : Meter) : (s.setMeter w n m).arbs = s.arbs := rfl
@[simp] theorem setMeter_rfes (s : State) (w n : Nat) (m : Meter) : (s.setMeter w n m).rfes = s.rfes := rfl
@[simp] theorem setMeter_clrs (s : State) (w n : Nat) (m : Meter) : (s.setMeter w n m).clrs = s.clrs := rfl
@[simp] theorem setMeter_clrIn (s : State) (w n : Nat) (m : Meter) : (s.setMeter w n m).clrIn = s.clrIn := rfl
@[simp] theorem setMeter_splits (s : State) (w n : Nat) (m : Meter) : (s.setMeter w n m).splits = s.splits := rfl
@[simp] theorem setMeter_cmpOuts (s : State) (w n : Nat) (m : Meter) : (s.setMeter w n m).cmpOuts = s.cmpOuts := rfl
@[simp] theorem setMeter_cmpRings (s : State) (w n : Nat) (m : Meter) : (s.setMeter w n m).cmpRings = s.cmpRings := rfl
@[simp] theorem setMeter_gens (s : State) (w n : Nat) (m : Meter) : (s.setMeter w n m).gens = s.gens := rfl
@[simp] theorem setMeter_lanes (s : State) (w n : Nat) (m : Meter) : (s.setMeter w n m).lanes = s.lanes := rfl
@[simp] theorem setMeter_serial (s : State) (w n : Nat) (m : Meter) : (s.setMeter w n m).serial = s.serial := rfl
@[simp] theorem setMeter_eyeScans (s : State) (w n : Nat) (m : Meter) : (s.setMeter w n m).eyeScans = s.eyeScans := rfl
@[simp] theorem setMeter_bcn (s : State) (w n : Nat) (m : Meter) : (s.setMeter w n m).bcn = s.bcn := rfl
@[simp] theorem setMeter_cas (s : State) (w n : Nat) (m : Meter) : (s.setMeter w n m).cas = s.cas := rfl
@[simp] theorem setMeter_vcxs (s : State) (w n : Nat) (m : Meter) : (s.setMeter w n m).vcxs = s.vcxs := rfl
@[simp] theorem setMeter_lpks (s : State) (w n : Nat) (m : Meter) : (s.setMeter w n m).lpks = s.lpks := rfl
@[simp] theorem setMeter_cls (s : State) (w n : Nat) (m : Meter) : (s.setMeter w n m).cls = s.cls := rfl
@[simp] theorem setMeter_memx (s : State) (w n : Nat) (m : Meter) : (s.setMeter w n m).memx = s.memx := rfl
@[simp] theorem setMeter_hci (s : State) (w n : Nat) (m : Meter) : (s.setMeter w n m).hci = s.hci := rfl
@[simp] theorem setMeter_kpr (s : State) (w n : Nat) (m : Meter) : (s.setMeter w n m).kpr = s.kpr := rfl
@[simp] theorem setMeter_out (s : State) (w n : Nat) (m : Meter) : (s.setMeter w n m).out = s.out := rfl
@[simp] theorem setMeter_fresh (s : State) (w n : Nat) (m : Meter) : (s.setMeter w n m).fresh = s.fresh := rfl
@[simp] theorem setMeter_due (s : State) (w n : Nat) (m : Meter) : (s.setMeter w n m).due = s.due := rfl
@[simp] theorem setMeter_pending (s : State) (w n : Nat) (m : Meter) : (s.setMeter w n m).pending = s.pending := rfl

@[simp] theorem mapFgh_variant (s : State) (f : Fgh → Fgh) : (s.mapFgh f).variant = s.variant := rfl
@[simp] theorem mapFgh_straps (s : State) (f : Fgh → Fgh) : (s.mapFgh f).straps = s.straps := rfl
@[simp] theorem mapFgh_inert (s : State) (f : Fgh → Fgh) : (s.mapFgh f).inert = s.inert := rfl
@[simp] theorem mapFgh_regs (s : State) (f : Fgh → Fgh) : (s.mapFgh f).regs = s.regs := rfl
@[simp] theorem mapFgh_mem (s : State) (f : Fgh → Fgh) : (s.mapFgh f).mem = s.mem := rfl
@[simp] theorem mapFgh_poison (s : State) (f : Fgh → Fgh) : (s.mapFgh f).poison = s.poison := rfl
@[simp] theorem mapFgh_flaws (s : State) (f : Fgh → Fgh) : (s.mapFgh f).flaws = s.flaws := rfl
@[simp] theorem mapFgh_tables (s : State) (f : Fgh → Fgh) : (s.mapFgh f).tables = s.tables := rfl
@[simp] theorem mapFgh_nv (s : State) (f : Fgh → Fgh) : (s.mapFgh f).nv = s.nv := rfl
@[simp] theorem mapFgh_queues (s : State) (f : Fgh → Fgh) : (s.mapFgh f).queues = s.queues := rfl
@[simp] theorem mapFgh_cqs (s : State) (f : Fgh → Fgh) : (s.mapFgh f).cqs = s.cqs := rfl
@[simp] theorem mapFgh_doms (s : State) (f : Fgh → Fgh) : (s.mapFgh f).doms = s.doms := rfl
@[simp] theorem mapFgh_stalled (s : State) (f : Fgh → Fgh) : (s.mapFgh f).stalled = s.stalled := rfl
@[simp] theorem mapFgh_rateMade (s : State) (f : Fgh → Fgh) : (s.mapFgh f).rateMade = s.rateMade := rfl
@[simp] theorem mapFgh_meters (s : State) (f : Fgh → Fgh) : (s.mapFgh f).meters = s.meters := rfl
@[simp] theorem mapFgh_gov (s : State) (f : Fgh → Fgh) : (s.mapFgh f).gov = s.gov := rfl
@[simp] theorem mapFgh_hive (s : State) (f : Fgh → Fgh) : (s.mapFgh f).hive = s.hive := rfl
@[simp] theorem mapFgh_ports (s : State) (f : Fgh → Fgh) : (s.mapFgh f).ports = s.ports := rfl
@[simp] theorem mapFgh_arbs (s : State) (f : Fgh → Fgh) : (s.mapFgh f).arbs = s.arbs := rfl
@[simp] theorem mapFgh_rfes (s : State) (f : Fgh → Fgh) : (s.mapFgh f).rfes = s.rfes := rfl
@[simp] theorem mapFgh_clrs (s : State) (f : Fgh → Fgh) : (s.mapFgh f).clrs = s.clrs := rfl
@[simp] theorem mapFgh_clrIn (s : State) (f : Fgh → Fgh) : (s.mapFgh f).clrIn = s.clrIn := rfl
@[simp] theorem mapFgh_splits (s : State) (f : Fgh → Fgh) : (s.mapFgh f).splits = s.splits := rfl
@[simp] theorem mapFgh_cmpOuts (s : State) (f : Fgh → Fgh) : (s.mapFgh f).cmpOuts = s.cmpOuts := rfl
@[simp] theorem mapFgh_cmpRings (s : State) (f : Fgh → Fgh) : (s.mapFgh f).cmpRings = s.cmpRings := rfl
@[simp] theorem mapFgh_gens (s : State) (f : Fgh → Fgh) : (s.mapFgh f).gens = s.gens := rfl
@[simp] theorem mapFgh_lanes (s : State) (f : Fgh → Fgh) : (s.mapFgh f).lanes = s.lanes := rfl
@[simp] theorem mapFgh_serial (s : State) (f : Fgh → Fgh) : (s.mapFgh f).serial = s.serial := rfl
@[simp] theorem mapFgh_eyeScans (s : State) (f : Fgh → Fgh) : (s.mapFgh f).eyeScans = s.eyeScans := rfl
@[simp] theorem mapFgh_bcn (s : State) (f : Fgh → Fgh) : (s.mapFgh f).bcn = s.bcn := rfl
@[simp] theorem mapFgh_cas (s : State) (f : Fgh → Fgh) : (s.mapFgh f).cas = s.cas := rfl
@[simp] theorem mapFgh_vcxs (s : State) (f : Fgh → Fgh) : (s.mapFgh f).vcxs = s.vcxs := rfl
@[simp] theorem mapFgh_lpks (s : State) (f : Fgh → Fgh) : (s.mapFgh f).lpks = s.lpks := rfl
@[simp] theorem mapFgh_cls (s : State) (f : Fgh → Fgh) : (s.mapFgh f).cls = s.cls := rfl
@[simp] theorem mapFgh_memx (s : State) (f : Fgh → Fgh) : (s.mapFgh f).memx = s.memx := rfl
@[simp] theorem mapFgh_hci (s : State) (f : Fgh → Fgh) : (s.mapFgh f).hci = s.hci := rfl
@[simp] theorem mapFgh_kpr (s : State) (f : Fgh → Fgh) : (s.mapFgh f).kpr = s.kpr := rfl
@[simp] theorem mapFgh_out (s : State) (f : Fgh → Fgh) : (s.mapFgh f).out = s.out := rfl
@[simp] theorem mapFgh_fresh (s : State) (f : Fgh → Fgh) : (s.mapFgh f).fresh = s.fresh := rfl
@[simp] theorem mapFgh_due (s : State) (f : Fgh → Fgh) : (s.mapFgh f).due = s.due := rfl
@[simp] theorem mapFgh_pending (s : State) (f : Fgh → Fgh) : (s.mapFgh f).pending = s.pending := rfl

@[simp] theorem mapGov_variant (s : State) (f : Gov → Gov) : (s.mapGov f).variant = s.variant := rfl
@[simp] theorem mapGov_straps (s : State) (f : Gov → Gov) : (s.mapGov f).straps = s.straps := rfl
@[simp] theorem mapGov_inert (s : State) (f : Gov → Gov) : (s.mapGov f).inert = s.inert := rfl
@[simp] theorem mapGov_regs (s : State) (f : Gov → Gov) : (s.mapGov f).regs = s.regs := rfl
@[simp] theorem mapGov_mem (s : State) (f : Gov → Gov) : (s.mapGov f).mem = s.mem := rfl
@[simp] theorem mapGov_poison (s : State) (f : Gov → Gov) : (s.mapGov f).poison = s.poison := rfl
@[simp] theorem mapGov_flaws (s : State) (f : Gov → Gov) : (s.mapGov f).flaws = s.flaws := rfl
@[simp] theorem mapGov_tables (s : State) (f : Gov → Gov) : (s.mapGov f).tables = s.tables := rfl
@[simp] theorem mapGov_nv (s : State) (f : Gov → Gov) : (s.mapGov f).nv = s.nv := rfl
@[simp] theorem mapGov_queues (s : State) (f : Gov → Gov) : (s.mapGov f).queues = s.queues := rfl
@[simp] theorem mapGov_cqs (s : State) (f : Gov → Gov) : (s.mapGov f).cqs = s.cqs := rfl
@[simp] theorem mapGov_doms (s : State) (f : Gov → Gov) : (s.mapGov f).doms = s.doms := rfl
@[simp] theorem mapGov_stalled (s : State) (f : Gov → Gov) : (s.mapGov f).stalled = s.stalled := rfl
@[simp] theorem mapGov_rateMade (s : State) (f : Gov → Gov) : (s.mapGov f).rateMade = s.rateMade := rfl
@[simp] theorem mapGov_meters (s : State) (f : Gov → Gov) : (s.mapGov f).meters = s.meters := rfl
@[simp] theorem mapGov_hive (s : State) (f : Gov → Gov) : (s.mapGov f).hive = s.hive := rfl
@[simp] theorem mapGov_fgh (s : State) (f : Gov → Gov) : (s.mapGov f).fgh = s.fgh := rfl
@[simp] theorem mapGov_ports (s : State) (f : Gov → Gov) : (s.mapGov f).ports = s.ports := rfl
@[simp] theorem mapGov_arbs (s : State) (f : Gov → Gov) : (s.mapGov f).arbs = s.arbs := rfl
@[simp] theorem mapGov_rfes (s : State) (f : Gov → Gov) : (s.mapGov f).rfes = s.rfes := rfl
@[simp] theorem mapGov_clrs (s : State) (f : Gov → Gov) : (s.mapGov f).clrs = s.clrs := rfl
@[simp] theorem mapGov_clrIn (s : State) (f : Gov → Gov) : (s.mapGov f).clrIn = s.clrIn := rfl
@[simp] theorem mapGov_splits (s : State) (f : Gov → Gov) : (s.mapGov f).splits = s.splits := rfl
@[simp] theorem mapGov_cmpOuts (s : State) (f : Gov → Gov) : (s.mapGov f).cmpOuts = s.cmpOuts := rfl
@[simp] theorem mapGov_cmpRings (s : State) (f : Gov → Gov) : (s.mapGov f).cmpRings = s.cmpRings := rfl
@[simp] theorem mapGov_gens (s : State) (f : Gov → Gov) : (s.mapGov f).gens = s.gens := rfl
@[simp] theorem mapGov_lanes (s : State) (f : Gov → Gov) : (s.mapGov f).lanes = s.lanes := rfl
@[simp] theorem mapGov_serial (s : State) (f : Gov → Gov) : (s.mapGov f).serial = s.serial := rfl
@[simp] theorem mapGov_eyeScans (s : State) (f : Gov → Gov) : (s.mapGov f).eyeScans = s.eyeScans := rfl
@[simp] theorem mapGov_bcn (s : State) (f : Gov → Gov) : (s.mapGov f).bcn = s.bcn := rfl
@[simp] theorem mapGov_cas (s : State) (f : Gov → Gov) : (s.mapGov f).cas = s.cas := rfl
@[simp] theorem mapGov_vcxs (s : State) (f : Gov → Gov) : (s.mapGov f).vcxs = s.vcxs := rfl
@[simp] theorem mapGov_lpks (s : State) (f : Gov → Gov) : (s.mapGov f).lpks = s.lpks := rfl
@[simp] theorem mapGov_cls (s : State) (f : Gov → Gov) : (s.mapGov f).cls = s.cls := rfl
@[simp] theorem mapGov_memx (s : State) (f : Gov → Gov) : (s.mapGov f).memx = s.memx := rfl
@[simp] theorem mapGov_hci (s : State) (f : Gov → Gov) : (s.mapGov f).hci = s.hci := rfl
@[simp] theorem mapGov_kpr (s : State) (f : Gov → Gov) : (s.mapGov f).kpr = s.kpr := rfl
@[simp] theorem mapGov_out (s : State) (f : Gov → Gov) : (s.mapGov f).out = s.out := rfl
@[simp] theorem mapGov_fresh (s : State) (f : Gov → Gov) : (s.mapGov f).fresh = s.fresh := rfl
@[simp] theorem mapGov_due (s : State) (f : Gov → Gov) : (s.mapGov f).due = s.due := rfl
@[simp] theorem mapGov_pending (s : State) (f : Gov → Gov) : (s.mapGov f).pending = s.pending := rfl

@[simp] theorem mapHci_variant (s : State) (f : Hci → Hci) : (s.mapHci f).variant = s.variant := rfl
@[simp] theorem mapHci_straps (s : State) (f : Hci → Hci) : (s.mapHci f).straps = s.straps := rfl
@[simp] theorem mapHci_inert (s : State) (f : Hci → Hci) : (s.mapHci f).inert = s.inert := rfl
@[simp] theorem mapHci_regs (s : State) (f : Hci → Hci) : (s.mapHci f).regs = s.regs := rfl
@[simp] theorem mapHci_mem (s : State) (f : Hci → Hci) : (s.mapHci f).mem = s.mem := rfl
@[simp] theorem mapHci_poison (s : State) (f : Hci → Hci) : (s.mapHci f).poison = s.poison := rfl
@[simp] theorem mapHci_flaws (s : State) (f : Hci → Hci) : (s.mapHci f).flaws = s.flaws := rfl
@[simp] theorem mapHci_tables (s : State) (f : Hci → Hci) : (s.mapHci f).tables = s.tables := rfl
@[simp] theorem mapHci_nv (s : State) (f : Hci → Hci) : (s.mapHci f).nv = s.nv := rfl
@[simp] theorem mapHci_queues (s : State) (f : Hci → Hci) : (s.mapHci f).queues = s.queues := rfl
@[simp] theorem mapHci_cqs (s : State) (f : Hci → Hci) : (s.mapHci f).cqs = s.cqs := rfl
@[simp] theorem mapHci_doms (s : State) (f : Hci → Hci) : (s.mapHci f).doms = s.doms := rfl
@[simp] theorem mapHci_stalled (s : State) (f : Hci → Hci) : (s.mapHci f).stalled = s.stalled := rfl
@[simp] theorem mapHci_rateMade (s : State) (f : Hci → Hci) : (s.mapHci f).rateMade = s.rateMade := rfl
@[simp] theorem mapHci_meters (s : State) (f : Hci → Hci) : (s.mapHci f).meters = s.meters := rfl
@[simp] theorem mapHci_gov (s : State) (f : Hci → Hci) : (s.mapHci f).gov = s.gov := rfl
@[simp] theorem mapHci_hive (s : State) (f : Hci → Hci) : (s.mapHci f).hive = s.hive := rfl
@[simp] theorem mapHci_fgh (s : State) (f : Hci → Hci) : (s.mapHci f).fgh = s.fgh := rfl
@[simp] theorem mapHci_ports (s : State) (f : Hci → Hci) : (s.mapHci f).ports = s.ports := rfl
@[simp] theorem mapHci_arbs (s : State) (f : Hci → Hci) : (s.mapHci f).arbs = s.arbs := rfl
@[simp] theorem mapHci_rfes (s : State) (f : Hci → Hci) : (s.mapHci f).rfes = s.rfes := rfl
@[simp] theorem mapHci_clrs (s : State) (f : Hci → Hci) : (s.mapHci f).clrs = s.clrs := rfl
@[simp] theorem mapHci_clrIn (s : State) (f : Hci → Hci) : (s.mapHci f).clrIn = s.clrIn := rfl
@[simp] theorem mapHci_splits (s : State) (f : Hci → Hci) : (s.mapHci f).splits = s.splits := rfl
@[simp] theorem mapHci_cmpOuts (s : State) (f : Hci → Hci) : (s.mapHci f).cmpOuts = s.cmpOuts := rfl
@[simp] theorem mapHci_cmpRings (s : State) (f : Hci → Hci) : (s.mapHci f).cmpRings = s.cmpRings := rfl
@[simp] theorem mapHci_gens (s : State) (f : Hci → Hci) : (s.mapHci f).gens = s.gens := rfl
@[simp] theorem mapHci_lanes (s : State) (f : Hci → Hci) : (s.mapHci f).lanes = s.lanes := rfl
@[simp] theorem mapHci_serial (s : State) (f : Hci → Hci) : (s.mapHci f).serial = s.serial := rfl
@[simp] theorem mapHci_eyeScans (s : State) (f : Hci → Hci) : (s.mapHci f).eyeScans = s.eyeScans := rfl
@[simp] theorem mapHci_bcn (s : State) (f : Hci → Hci) : (s.mapHci f).bcn = s.bcn := rfl
@[simp] theorem mapHci_cas (s : State) (f : Hci → Hci) : (s.mapHci f).cas = s.cas := rfl
@[simp] theorem mapHci_vcxs (s : State) (f : Hci → Hci) : (s.mapHci f).vcxs = s.vcxs := rfl
@[simp] theorem mapHci_lpks (s : State) (f : Hci → Hci) : (s.mapHci f).lpks = s.lpks := rfl
@[simp] theorem mapHci_cls (s : State) (f : Hci → Hci) : (s.mapHci f).cls = s.cls := rfl
@[simp] theorem mapHci_memx (s : State) (f : Hci → Hci) : (s.mapHci f).memx = s.memx := rfl
@[simp] theorem mapHci_kpr (s : State) (f : Hci → Hci) : (s.mapHci f).kpr = s.kpr := rfl
@[simp] theorem mapHci_out (s : State) (f : Hci → Hci) : (s.mapHci f).out = s.out := rfl
@[simp] theorem mapHci_fresh (s : State) (f : Hci → Hci) : (s.mapHci f).fresh = s.fresh := rfl
@[simp] theorem mapHci_due (s : State) (f : Hci → Hci) : (s.mapHci f).due = s.due := rfl
@[simp] theorem mapHci_pending (s : State) (f : Hci → Hci) : (s.mapHci f).pending = s.pending := rfl

@[simp] theorem mapBcn_variant (s : State) (f : Beacon → Beacon) : (s.mapBcn f).variant = s.variant := rfl
@[simp] theorem mapBcn_straps (s : State) (f : Beacon → Beacon) : (s.mapBcn f).straps = s.straps := rfl
@[simp] theorem mapBcn_inert (s : State) (f : Beacon → Beacon) : (s.mapBcn f).inert = s.inert := rfl
@[simp] theorem mapBcn_regs (s : State) (f : Beacon → Beacon) : (s.mapBcn f).regs = s.regs := rfl
@[simp] theorem mapBcn_mem (s : State) (f : Beacon → Beacon) : (s.mapBcn f).mem = s.mem := rfl
@[simp] theorem mapBcn_poison (s : State) (f : Beacon → Beacon) : (s.mapBcn f).poison = s.poison := rfl
@[simp] theorem mapBcn_flaws (s : State) (f : Beacon → Beacon) : (s.mapBcn f).flaws = s.flaws := rfl
@[simp] theorem mapBcn_tables (s : State) (f : Beacon → Beacon) : (s.mapBcn f).tables = s.tables := rfl
@[simp] theorem mapBcn_nv (s : State) (f : Beacon → Beacon) : (s.mapBcn f).nv = s.nv := rfl
@[simp] theorem mapBcn_queues (s : State) (f : Beacon → Beacon) : (s.mapBcn f).queues = s.queues := rfl
@[simp] theorem mapBcn_cqs (s : State) (f : Beacon → Beacon) : (s.mapBcn f).cqs = s.cqs := rfl
@[simp] theorem mapBcn_doms (s : State) (f : Beacon → Beacon) : (s.mapBcn f).doms = s.doms := rfl
@[simp] theorem mapBcn_stalled (s : State) (f : Beacon → Beacon) : (s.mapBcn f).stalled = s.stalled := rfl
@[simp] theorem mapBcn_rateMade (s : State) (f : Beacon → Beacon) : (s.mapBcn f).rateMade = s.rateMade := rfl
@[simp] theorem mapBcn_meters (s : State) (f : Beacon → Beacon) : (s.mapBcn f).meters = s.meters := rfl
@[simp] theorem mapBcn_gov (s : State) (f : Beacon → Beacon) : (s.mapBcn f).gov = s.gov := rfl
@[simp] theorem mapBcn_hive (s : State) (f : Beacon → Beacon) : (s.mapBcn f).hive = s.hive := rfl
@[simp] theorem mapBcn_fgh (s : State) (f : Beacon → Beacon) : (s.mapBcn f).fgh = s.fgh := rfl
@[simp] theorem mapBcn_ports (s : State) (f : Beacon → Beacon) : (s.mapBcn f).ports = s.ports := rfl
@[simp] theorem mapBcn_arbs (s : State) (f : Beacon → Beacon) : (s.mapBcn f).arbs = s.arbs := rfl
@[simp] theorem mapBcn_rfes (s : State) (f : Beacon → Beacon) : (s.mapBcn f).rfes = s.rfes := rfl
@[simp] theorem mapBcn_clrs (s : State) (f : Beacon → Beacon) : (s.mapBcn f).clrs = s.clrs := rfl
@[simp] theorem mapBcn_clrIn (s : State) (f : Beacon → Beacon) : (s.mapBcn f).clrIn = s.clrIn := rfl
@[simp] theorem mapBcn_splits (s : State) (f : Beacon → Beacon) : (s.mapBcn f).splits = s.splits := rfl
@[simp] theorem mapBcn_cmpOuts (s : State) (f : Beacon → Beacon) : (s.mapBcn f).cmpOuts = s.cmpOuts := rfl
@[simp] theorem mapBcn_cmpRings (s : State) (f : Beacon → Beacon) : (s.mapBcn f).cmpRings = s.cmpRings := rfl
@[simp] theorem mapBcn_gens (s : State) (f : Beacon → Beacon) : (s.mapBcn f).gens = s.gens := rfl
@[simp] theorem mapBcn_lanes (s : State) (f : Beacon → Beacon) : (s.mapBcn f).lanes = s.lanes := rfl
@[simp] theorem mapBcn_serial (s : State) (f : Beacon → Beacon) : (s.mapBcn f).serial = s.serial := rfl
@[simp] theorem mapBcn_eyeScans (s : State) (f : Beacon → Beacon) : (s.mapBcn f).eyeScans = s.eyeScans := rfl
@[simp] theorem mapBcn_cas (s : State) (f : Beacon → Beacon) : (s.mapBcn f).cas = s.cas := rfl
@[simp] theorem mapBcn_vcxs (s : State) (f : Beacon → Beacon) : (s.mapBcn f).vcxs = s.vcxs := rfl
@[simp] theorem mapBcn_lpks (s : State) (f : Beacon → Beacon) : (s.mapBcn f).lpks = s.lpks := rfl
@[simp] theorem mapBcn_cls (s : State) (f : Beacon → Beacon) : (s.mapBcn f).cls = s.cls := rfl
@[simp] theorem mapBcn_memx (s : State) (f : Beacon → Beacon) : (s.mapBcn f).memx = s.memx := rfl
@[simp] theorem mapBcn_hci (s : State) (f : Beacon → Beacon) : (s.mapBcn f).hci = s.hci := rfl
@[simp] theorem mapBcn_kpr (s : State) (f : Beacon → Beacon) : (s.mapBcn f).kpr = s.kpr := rfl
@[simp] theorem mapBcn_out (s : State) (f : Beacon → Beacon) : (s.mapBcn f).out = s.out := rfl
@[simp] theorem mapBcn_fresh (s : State) (f : Beacon → Beacon) : (s.mapBcn f).fresh = s.fresh := rfl
@[simp] theorem mapBcn_due (s : State) (f : Beacon → Beacon) : (s.mapBcn f).due = s.due := rfl
@[simp] theorem mapBcn_pending (s : State) (f : Beacon → Beacon) : (s.mapBcn f).pending = s.pending := rfl

@[simp] theorem mapCas_variant (s : State) (f : Cas → Cas) : (s.mapCas f).variant = s.variant := rfl
@[simp] theorem mapCas_straps (s : State) (f : Cas → Cas) : (s.mapCas f).straps = s.straps := rfl
@[simp] theorem mapCas_inert (s : State) (f : Cas → Cas) : (s.mapCas f).inert = s.inert := rfl
@[simp] theorem mapCas_regs (s : State) (f : Cas → Cas) : (s.mapCas f).regs = s.regs := rfl
@[simp] theorem mapCas_mem (s : State) (f : Cas → Cas) : (s.mapCas f).mem = s.mem := rfl
@[simp] theorem mapCas_poison (s : State) (f : Cas → Cas) : (s.mapCas f).poison = s.poison := rfl
@[simp] theorem mapCas_flaws (s : State) (f : Cas → Cas) : (s.mapCas f).flaws = s.flaws := rfl
@[simp] theorem mapCas_tables (s : State) (f : Cas → Cas) : (s.mapCas f).tables = s.tables := rfl
@[simp] theorem mapCas_nv (s : State) (f : Cas → Cas) : (s.mapCas f).nv = s.nv := rfl
@[simp] theorem mapCas_queues (s : State) (f : Cas → Cas) : (s.mapCas f).queues = s.queues := rfl
@[simp] theorem mapCas_cqs (s : State) (f : Cas → Cas) : (s.mapCas f).cqs = s.cqs := rfl
@[simp] theorem mapCas_doms (s : State) (f : Cas → Cas) : (s.mapCas f).doms = s.doms := rfl
@[simp] theorem mapCas_stalled (s : State) (f : Cas → Cas) : (s.mapCas f).stalled = s.stalled := rfl
@[simp] theorem mapCas_rateMade (s : State) (f : Cas → Cas) : (s.mapCas f).rateMade = s.rateMade := rfl
@[simp] theorem mapCas_meters (s : State) (f : Cas → Cas) : (s.mapCas f).meters = s.meters := rfl
@[simp] theorem mapCas_gov (s : State) (f : Cas → Cas) : (s.mapCas f).gov = s.gov := rfl
@[simp] theorem mapCas_hive (s : State) (f : Cas → Cas) : (s.mapCas f).hive = s.hive := rfl
@[simp] theorem mapCas_fgh (s : State) (f : Cas → Cas) : (s.mapCas f).fgh = s.fgh := rfl
@[simp] theorem mapCas_ports (s : State) (f : Cas → Cas) : (s.mapCas f).ports = s.ports := rfl
@[simp] theorem mapCas_arbs (s : State) (f : Cas → Cas) : (s.mapCas f).arbs = s.arbs := rfl
@[simp] theorem mapCas_rfes (s : State) (f : Cas → Cas) : (s.mapCas f).rfes = s.rfes := rfl
@[simp] theorem mapCas_clrs (s : State) (f : Cas → Cas) : (s.mapCas f).clrs = s.clrs := rfl
@[simp] theorem mapCas_clrIn (s : State) (f : Cas → Cas) : (s.mapCas f).clrIn = s.clrIn := rfl
@[simp] theorem mapCas_splits (s : State) (f : Cas → Cas) : (s.mapCas f).splits = s.splits := rfl
@[simp] theorem mapCas_cmpOuts (s : State) (f : Cas → Cas) : (s.mapCas f).cmpOuts = s.cmpOuts := rfl
@[simp] theorem mapCas_cmpRings (s : State) (f : Cas → Cas) : (s.mapCas f).cmpRings = s.cmpRings := rfl
@[simp] theorem mapCas_gens (s : State) (f : Cas → Cas) : (s.mapCas f).gens = s.gens := rfl
@[simp] theorem mapCas_lanes (s : State) (f : Cas → Cas) : (s.mapCas f).lanes = s.lanes := rfl
@[simp] theorem mapCas_serial (s : State) (f : Cas → Cas) : (s.mapCas f).serial = s.serial := rfl
@[simp] theorem mapCas_eyeScans (s : State) (f : Cas → Cas) : (s.mapCas f).eyeScans = s.eyeScans := rfl
@[simp] theorem mapCas_bcn (s : State) (f : Cas → Cas) : (s.mapCas f).bcn = s.bcn := rfl
@[simp] theorem mapCas_vcxs (s : State) (f : Cas → Cas) : (s.mapCas f).vcxs = s.vcxs := rfl
@[simp] theorem mapCas_lpks (s : State) (f : Cas → Cas) : (s.mapCas f).lpks = s.lpks := rfl
@[simp] theorem mapCas_cls (s : State) (f : Cas → Cas) : (s.mapCas f).cls = s.cls := rfl
@[simp] theorem mapCas_memx (s : State) (f : Cas → Cas) : (s.mapCas f).memx = s.memx := rfl
@[simp] theorem mapCas_hci (s : State) (f : Cas → Cas) : (s.mapCas f).hci = s.hci := rfl
@[simp] theorem mapCas_kpr (s : State) (f : Cas → Cas) : (s.mapCas f).kpr = s.kpr := rfl
@[simp] theorem mapCas_out (s : State) (f : Cas → Cas) : (s.mapCas f).out = s.out := rfl
@[simp] theorem mapCas_fresh (s : State) (f : Cas → Cas) : (s.mapCas f).fresh = s.fresh := rfl
@[simp] theorem mapCas_due (s : State) (f : Cas → Cas) : (s.mapCas f).due = s.due := rfl
@[simp] theorem mapCas_pending (s : State) (f : Cas → Cas) : (s.mapCas f).pending = s.pending := rfl

@[simp] theorem mapKpr_variant (s : State) (f : Kpr → Kpr) : (s.mapKpr f).variant = s.variant := rfl
@[simp] theorem mapKpr_straps (s : State) (f : Kpr → Kpr) : (s.mapKpr f).straps = s.straps := rfl
@[simp] theorem mapKpr_inert (s : State) (f : Kpr → Kpr) : (s.mapKpr f).inert = s.inert := rfl
@[simp] theorem mapKpr_regs (s : State) (f : Kpr → Kpr) : (s.mapKpr f).regs = s.regs := rfl
@[simp] theorem mapKpr_mem (s : State) (f : Kpr → Kpr) : (s.mapKpr f).mem = s.mem := rfl
@[simp] theorem mapKpr_poison (s : State) (f : Kpr → Kpr) : (s.mapKpr f).poison = s.poison := rfl
@[simp] theorem mapKpr_flaws (s : State) (f : Kpr → Kpr) : (s.mapKpr f).flaws = s.flaws := rfl
@[simp] theorem mapKpr_tables (s : State) (f : Kpr → Kpr) : (s.mapKpr f).tables = s.tables := rfl
@[simp] theorem mapKpr_nv (s : State) (f : Kpr → Kpr) : (s.mapKpr f).nv = s.nv := rfl
@[simp] theorem mapKpr_queues (s : State) (f : Kpr → Kpr) : (s.mapKpr f).queues = s.queues := rfl
@[simp] theorem mapKpr_cqs (s : State) (f : Kpr → Kpr) : (s.mapKpr f).cqs = s.cqs := rfl
@[simp] theorem mapKpr_doms (s : State) (f : Kpr → Kpr) : (s.mapKpr f).doms = s.doms := rfl
@[simp] theorem mapKpr_stalled (s : State) (f : Kpr → Kpr) : (s.mapKpr f).stalled = s.stalled := rfl
@[simp] theorem mapKpr_rateMade (s : State) (f : Kpr → Kpr) : (s.mapKpr f).rateMade = s.rateMade := rfl
@[simp] theorem mapKpr_meters (s : State) (f : Kpr → Kpr) : (s.mapKpr f).meters = s.meters := rfl
@[simp] theorem mapKpr_gov (s : State) (f : Kpr → Kpr) : (s.mapKpr f).gov = s.gov := rfl
@[simp] theorem mapKpr_hive (s : State) (f : Kpr → Kpr) : (s.mapKpr f).hive = s.hive := rfl
@[simp] theorem mapKpr_fgh (s : State) (f : Kpr → Kpr) : (s.mapKpr f).fgh = s.fgh := rfl
@[simp] theorem mapKpr_ports (s : State) (f : Kpr → Kpr) : (s.mapKpr f).ports = s.ports := rfl
@[simp] theorem mapKpr_arbs (s : State) (f : Kpr → Kpr) : (s.mapKpr f).arbs = s.arbs := rfl
@[simp] theorem mapKpr_rfes (s : State) (f : Kpr → Kpr) : (s.mapKpr f).rfes = s.rfes := rfl
@[simp] theorem mapKpr_clrs (s : State) (f : Kpr → Kpr) : (s.mapKpr f).clrs = s.clrs := rfl
@[simp] theorem mapKpr_clrIn (s : State) (f : Kpr → Kpr) : (s.mapKpr f).clrIn = s.clrIn := rfl
@[simp] theorem mapKpr_splits (s : State) (f : Kpr → Kpr) : (s.mapKpr f).splits = s.splits := rfl
@[simp] theorem mapKpr_cmpOuts (s : State) (f : Kpr → Kpr) : (s.mapKpr f).cmpOuts = s.cmpOuts := rfl
@[simp] theorem mapKpr_cmpRings (s : State) (f : Kpr → Kpr) : (s.mapKpr f).cmpRings = s.cmpRings := rfl
@[simp] theorem mapKpr_gens (s : State) (f : Kpr → Kpr) : (s.mapKpr f).gens = s.gens := rfl
@[simp] theorem mapKpr_lanes (s : State) (f : Kpr → Kpr) : (s.mapKpr f).lanes = s.lanes := rfl
@[simp] theorem mapKpr_serial (s : State) (f : Kpr → Kpr) : (s.mapKpr f).serial = s.serial := rfl
@[simp] theorem mapKpr_eyeScans (s : State) (f : Kpr → Kpr) : (s.mapKpr f).eyeScans = s.eyeScans := rfl
@[simp] theorem mapKpr_bcn (s : State) (f : Kpr → Kpr) : (s.mapKpr f).bcn = s.bcn := rfl
@[simp] theorem mapKpr_cas (s : State) (f : Kpr → Kpr) : (s.mapKpr f).cas = s.cas := rfl
@[simp] theorem mapKpr_vcxs (s : State) (f : Kpr → Kpr) : (s.mapKpr f).vcxs = s.vcxs := rfl
@[simp] theorem mapKpr_lpks (s : State) (f : Kpr → Kpr) : (s.mapKpr f).lpks = s.lpks := rfl
@[simp] theorem mapKpr_cls (s : State) (f : Kpr → Kpr) : (s.mapKpr f).cls = s.cls := rfl
@[simp] theorem mapKpr_memx (s : State) (f : Kpr → Kpr) : (s.mapKpr f).memx = s.memx := rfl
@[simp] theorem mapKpr_hci (s : State) (f : Kpr → Kpr) : (s.mapKpr f).hci = s.hci := rfl
@[simp] theorem mapKpr_out (s : State) (f : Kpr → Kpr) : (s.mapKpr f).out = s.out := rfl
@[simp] theorem mapKpr_fresh (s : State) (f : Kpr → Kpr) : (s.mapKpr f).fresh = s.fresh := rfl
@[simp] theorem mapKpr_due (s : State) (f : Kpr → Kpr) : (s.mapKpr f).due = s.due := rfl
@[simp] theorem mapKpr_pending (s : State) (f : Kpr → Kpr) : (s.mapKpr f).pending = s.pending := rfl

@[simp] theorem mapCls_variant (s : State) (f : Cls → Cls) : (s.mapCls f).variant = s.variant := rfl
@[simp] theorem mapCls_straps (s : State) (f : Cls → Cls) : (s.mapCls f).straps = s.straps := rfl
@[simp] theorem mapCls_inert (s : State) (f : Cls → Cls) : (s.mapCls f).inert = s.inert := rfl
@[simp] theorem mapCls_regs (s : State) (f : Cls → Cls) : (s.mapCls f).regs = s.regs := rfl
@[simp] theorem mapCls_mem (s : State) (f : Cls → Cls) : (s.mapCls f).mem = s.mem := rfl
@[simp] theorem mapCls_poison (s : State) (f : Cls → Cls) : (s.mapCls f).poison = s.poison := rfl
@[simp] theorem mapCls_flaws (s : State) (f : Cls → Cls) : (s.mapCls f).flaws = s.flaws := rfl
@[simp] theorem mapCls_tables (s : State) (f : Cls → Cls) : (s.mapCls f).tables = s.tables := rfl
@[simp] theorem mapCls_nv (s : State) (f : Cls → Cls) : (s.mapCls f).nv = s.nv := rfl
@[simp] theorem mapCls_queues (s : State) (f : Cls → Cls) : (s.mapCls f).queues = s.queues := rfl
@[simp] theorem mapCls_cqs (s : State) (f : Cls → Cls) : (s.mapCls f).cqs = s.cqs := rfl
@[simp] theorem mapCls_doms (s : State) (f : Cls → Cls) : (s.mapCls f).doms = s.doms := rfl
@[simp] theorem mapCls_stalled (s : State) (f : Cls → Cls) : (s.mapCls f).stalled = s.stalled := rfl
@[simp] theorem mapCls_rateMade (s : State) (f : Cls → Cls) : (s.mapCls f).rateMade = s.rateMade := rfl
@[simp] theorem mapCls_meters (s : State) (f : Cls → Cls) : (s.mapCls f).meters = s.meters := rfl
@[simp] theorem mapCls_gov (s : State) (f : Cls → Cls) : (s.mapCls f).gov = s.gov := rfl
@[simp] theorem mapCls_hive (s : State) (f : Cls → Cls) : (s.mapCls f).hive = s.hive := rfl
@[simp] theorem mapCls_fgh (s : State) (f : Cls → Cls) : (s.mapCls f).fgh = s.fgh := rfl
@[simp] theorem mapCls_ports (s : State) (f : Cls → Cls) : (s.mapCls f).ports = s.ports := rfl
@[simp] theorem mapCls_arbs (s : State) (f : Cls → Cls) : (s.mapCls f).arbs = s.arbs := rfl
@[simp] theorem mapCls_rfes (s : State) (f : Cls → Cls) : (s.mapCls f).rfes = s.rfes := rfl
@[simp] theorem mapCls_clrs (s : State) (f : Cls → Cls) : (s.mapCls f).clrs = s.clrs := rfl
@[simp] theorem mapCls_clrIn (s : State) (f : Cls → Cls) : (s.mapCls f).clrIn = s.clrIn := rfl
@[simp] theorem mapCls_splits (s : State) (f : Cls → Cls) : (s.mapCls f).splits = s.splits := rfl
@[simp] theorem mapCls_cmpOuts (s : State) (f : Cls → Cls) : (s.mapCls f).cmpOuts = s.cmpOuts := rfl
@[simp] theorem mapCls_cmpRings (s : State) (f : Cls → Cls) : (s.mapCls f).cmpRings = s.cmpRings := rfl
@[simp] theorem mapCls_gens (s : State) (f : Cls → Cls) : (s.mapCls f).gens = s.gens := rfl
@[simp] theorem mapCls_lanes (s : State) (f : Cls → Cls) : (s.mapCls f).lanes = s.lanes := rfl
@[simp] theorem mapCls_serial (s : State) (f : Cls → Cls) : (s.mapCls f).serial = s.serial := rfl
@[simp] theorem mapCls_eyeScans (s : State) (f : Cls → Cls) : (s.mapCls f).eyeScans = s.eyeScans := rfl
@[simp] theorem mapCls_bcn (s : State) (f : Cls → Cls) : (s.mapCls f).bcn = s.bcn := rfl
@[simp] theorem mapCls_cas (s : State) (f : Cls → Cls) : (s.mapCls f).cas = s.cas := rfl
@[simp] theorem mapCls_vcxs (s : State) (f : Cls → Cls) : (s.mapCls f).vcxs = s.vcxs := rfl
@[simp] theorem mapCls_lpks (s : State) (f : Cls → Cls) : (s.mapCls f).lpks = s.lpks := rfl
@[simp] theorem mapCls_memx (s : State) (f : Cls → Cls) : (s.mapCls f).memx = s.memx := rfl
@[simp] theorem mapCls_hci (s : State) (f : Cls → Cls) : (s.mapCls f).hci = s.hci := rfl
@[simp] theorem mapCls_kpr (s : State) (f : Cls → Cls) : (s.mapCls f).kpr = s.kpr := rfl
@[simp] theorem mapCls_out (s : State) (f : Cls → Cls) : (s.mapCls f).out = s.out := rfl
@[simp] theorem mapCls_fresh (s : State) (f : Cls → Cls) : (s.mapCls f).fresh = s.fresh := rfl
@[simp] theorem mapCls_due (s : State) (f : Cls → Cls) : (s.mapCls f).due = s.due := rfl
@[simp] theorem mapCls_pending (s : State) (f : Cls → Cls) : (s.mapCls f).pending = s.pending := rfl

@[simp] theorem mapMem_variant (s : State) (f : MemSt → MemSt) : (s.mapMem f).variant = s.variant := rfl
@[simp] theorem mapMem_straps (s : State) (f : MemSt → MemSt) : (s.mapMem f).straps = s.straps := rfl
@[simp] theorem mapMem_inert (s : State) (f : MemSt → MemSt) : (s.mapMem f).inert = s.inert := rfl
@[simp] theorem mapMem_regs (s : State) (f : MemSt → MemSt) : (s.mapMem f).regs = s.regs := rfl
@[simp] theorem mapMem_mem (s : State) (f : MemSt → MemSt) : (s.mapMem f).mem = s.mem := rfl
@[simp] theorem mapMem_poison (s : State) (f : MemSt → MemSt) : (s.mapMem f).poison = s.poison := rfl
@[simp] theorem mapMem_flaws (s : State) (f : MemSt → MemSt) : (s.mapMem f).flaws = s.flaws := rfl
@[simp] theorem mapMem_tables (s : State) (f : MemSt → MemSt) : (s.mapMem f).tables = s.tables := rfl
@[simp] theorem mapMem_nv (s : State) (f : MemSt → MemSt) : (s.mapMem f).nv = s.nv := rfl
@[simp] theorem mapMem_queues (s : State) (f : MemSt → MemSt) : (s.mapMem f).queues = s.queues := rfl
@[simp] theorem mapMem_cqs (s : State) (f : MemSt → MemSt) : (s.mapMem f).cqs = s.cqs := rfl
@[simp] theorem mapMem_doms (s : State) (f : MemSt → MemSt) : (s.mapMem f).doms = s.doms := rfl
@[simp] theorem mapMem_stalled (s : State) (f : MemSt → MemSt) : (s.mapMem f).stalled = s.stalled := rfl
@[simp] theorem mapMem_rateMade (s : State) (f : MemSt → MemSt) : (s.mapMem f).rateMade = s.rateMade := rfl
@[simp] theorem mapMem_meters (s : State) (f : MemSt → MemSt) : (s.mapMem f).meters = s.meters := rfl
@[simp] theorem mapMem_gov (s : State) (f : MemSt → MemSt) : (s.mapMem f).gov = s.gov := rfl
@[simp] theorem mapMem_hive (s : State) (f : MemSt → MemSt) : (s.mapMem f).hive = s.hive := rfl
@[simp] theorem mapMem_fgh (s : State) (f : MemSt → MemSt) : (s.mapMem f).fgh = s.fgh := rfl
@[simp] theorem mapMem_ports (s : State) (f : MemSt → MemSt) : (s.mapMem f).ports = s.ports := rfl
@[simp] theorem mapMem_arbs (s : State) (f : MemSt → MemSt) : (s.mapMem f).arbs = s.arbs := rfl
@[simp] theorem mapMem_rfes (s : State) (f : MemSt → MemSt) : (s.mapMem f).rfes = s.rfes := rfl
@[simp] theorem mapMem_clrs (s : State) (f : MemSt → MemSt) : (s.mapMem f).clrs = s.clrs := rfl
@[simp] theorem mapMem_clrIn (s : State) (f : MemSt → MemSt) : (s.mapMem f).clrIn = s.clrIn := rfl
@[simp] theorem mapMem_splits (s : State) (f : MemSt → MemSt) : (s.mapMem f).splits = s.splits := rfl
@[simp] theorem mapMem_cmpOuts (s : State) (f : MemSt → MemSt) : (s.mapMem f).cmpOuts = s.cmpOuts := rfl
@[simp] theorem mapMem_cmpRings (s : State) (f : MemSt → MemSt) : (s.mapMem f).cmpRings = s.cmpRings := rfl
@[simp] theorem mapMem_gens (s : State) (f : MemSt → MemSt) : (s.mapMem f).gens = s.gens := rfl
@[simp] theorem mapMem_lanes (s : State) (f : MemSt → MemSt) : (s.mapMem f).lanes = s.lanes := rfl
@[simp] theorem mapMem_serial (s : State) (f : MemSt → MemSt) : (s.mapMem f).serial = s.serial := rfl
@[simp] theorem mapMem_eyeScans (s : State) (f : MemSt → MemSt) : (s.mapMem f).eyeScans = s.eyeScans := rfl
@[simp] theorem mapMem_bcn (s : State) (f : MemSt → MemSt) : (s.mapMem f).bcn = s.bcn := rfl
@[simp] theorem mapMem_cas (s : State) (f : MemSt → MemSt) : (s.mapMem f).cas = s.cas := rfl
@[simp] theorem mapMem_vcxs (s : State) (f : MemSt → MemSt) : (s.mapMem f).vcxs = s.vcxs := rfl
@[simp] theorem mapMem_lpks (s : State) (f : MemSt → MemSt) : (s.mapMem f).lpks = s.lpks := rfl
@[simp] theorem mapMem_cls (s : State) (f : MemSt → MemSt) : (s.mapMem f).cls = s.cls := rfl
@[simp] theorem mapMem_hci (s : State) (f : MemSt → MemSt) : (s.mapMem f).hci = s.hci := rfl
@[simp] theorem mapMem_kpr (s : State) (f : MemSt → MemSt) : (s.mapMem f).kpr = s.kpr := rfl
@[simp] theorem mapMem_out (s : State) (f : MemSt → MemSt) : (s.mapMem f).out = s.out := rfl
@[simp] theorem mapMem_fresh (s : State) (f : MemSt → MemSt) : (s.mapMem f).fresh = s.fresh := rfl
@[simp] theorem mapMem_due (s : State) (f : MemSt → MemSt) : (s.mapMem f).due = s.due := rfl
@[simp] theorem mapMem_pending (s : State) (f : MemSt → MemSt) : (s.mapMem f).pending = s.pending := rfl

@[simp] theorem mapFgh_fgh (s : State) (f : Fgh → Fgh) : (s.mapFgh f).fgh = f s.fgh := rfl
@[simp] theorem mapGov_gov (s : State) (f : Gov → Gov) : (s.mapGov f).gov = f s.gov := rfl
@[simp] theorem mapHci_hci (s : State) (f : Hci → Hci) : (s.mapHci f).hci = f s.hci := rfl
@[simp] theorem mapBcn_bcn (s : State) (f : Beacon → Beacon) : (s.mapBcn f).bcn = f s.bcn := rfl
@[simp] theorem mapCas_cas (s : State) (f : Cas → Cas) : (s.mapCas f).cas = f s.cas := rfl
@[simp] theorem mapKpr_kpr (s : State) (f : Kpr → Kpr) : (s.mapKpr f).kpr = f s.kpr := rfl
@[simp] theorem mapCls_cls (s : State) (f : Cls → Cls) : (s.mapCls f).cls = f s.cls := rfl
@[simp] theorem mapMem_memx (s : State) (f : MemSt → MemSt) : (s.mapMem f).memx = f s.memx := rfl
@[simp] theorem emit_out (s : State) (e : Emission) : (s.emit e).out = s.out ++ [e] := rfl

end Sys2Proof.Machine
end

