-- ==== Sys2Proof/Laws/Ops.lean ====
section
/-!
SUPPORT. What the shared operations answer: registers, cells, queues, completion queues, tables read as they were written
last; the end of a command; the guards that cells, queues and register writes go through.
-/
namespace Sys2Proof.Machine

/-! Reads after writes. -/

@[simp] theorem reg_setReg_self (s : State) (k : Nat) (v : Word) : (s.setReg k v).reg k = v := by
  simp [State.reg, State.setReg]

theorem reg_setReg_ne (s : State) {k j : Nat} (v : Word) (h : j ≠ k) : (s.setReg k v).reg j = s.reg j := by
  exact sget_sset_other _ _ _ _ h

theorem reg_setReg (s : State) (k j : Nat) (v : Word) : (s.setReg k v).reg j = if j = k then v else s.reg j := by
  by_cases h : j = k
  · subst h; simp
  · simp [h, reg_setReg_ne s v h]

theorem reg_setFld (s : State) (k hi lo x j : Nat) :
    (s.setFld k hi lo x).reg j = if j = k then putBits (s.reg k) hi lo x else s.reg j := reg_setReg ..

/-- A register reads alike in states that agree on the registers, the variant and the straps. -/
theorem reg_congr {s t : State} (k : Nat) (hr : t.regs = s.regs) (hv : t.variant = s.variant) (hs : t.straps = s.straps) :
    t.reg k = s.reg k := by simp [State.reg, hr, hv, hs]

@[simp] theorem cell_setCell_self (s : State) (n : Nat) (c : CellSt) : (s.setCell n c).cell n = c := by
  simp [State.cell, State.setCell]

theorem cell_setCell_ne (s : State) {n m : Nat} (c : CellSt) (h : m ≠ n) : (s.setCell n c).cell m = s.cell m := by
  simp [State.cell, State.setCell, sget_sset_ne _ _ _ h]

@[simp] theorem cell_mapCell_self (s : State) (n : Nat) (f : CellSt → CellSt) : (s.mapCell n f).cell n = f (s.cell n) :=
  cell_setCell_self ..

theorem cell_mapCell_ne (s : State) {n m : Nat} (f : CellSt → CellSt) (h : m ≠ n) : (s.mapCell n f).cell m = s.cell m :=
  cell_setCell_ne s _ h

@[simp] theorem mapCell_due (s : State) (n : Nat) (f : CellSt → CellSt) : (s.mapCell n f).due = s.due := rfl
@[simp] theorem mapCell_regs (s : State) (n : Nat) (f : CellSt → CellSt) : (s.mapCell n f).regs = s.regs := rfl
@[simp] theorem mapCell_mem (s : State) (n : Nat) (f : CellSt → CellSt) : (s.mapCell n f).mem = s.mem := rfl

@[simp] theorem queue_setQueue_self (s : State) (q : Nat) (c : CmdQueue) : (s.setQueue q c).queue q = c := by
  simp [State.queue, State.setQueue]

theorem queue_setQueue_ne (s : State) {q p : Nat} (c : CmdQueue) (h : p ≠ q) : (s.setQueue q c).queue p = s.queue p := by
  simp [State.queue, State.setQueue, sget_sset_ne _ _ _ h]

@[simp] theorem cq_setCq_self (s : State) (k : Nat) (l : List CqItem) : (s.setCq k l).cq k = l := by
  simp [State.cq, State.setCq]

theorem cq_setCq_ne (s : State) {k j : Nat} (l : List CqItem) (h : j ≠ k) : (s.setCq k l).cq j = s.cq j := by
  simp [State.cq, State.setCq, sget_sset_ne _ _ _ h]

/-! Registers of a cell (R59). -/

@[simp] theorem getG_zero (c : CellSt) : c.getG 0 = 0 := rfl
@[simp] theorem putG_zero (c : CellSt) (v : Word) : c.putG 0 v = c := rfl

theorem getG_putG (c : CellSt) (r q : Nat) (v : Word) :
    (c.putG r v).getG q = if q = 0 then 0 else if q = r then v else c.getG q := by
  by_cases hq : q = 0
  · simp [CellSt.getG, hq]
  · by_cases hr : r = 0
    · subst hr; simp [CellSt.putG, CellSt.getG, hq]
    · simp [CellSt.putG, CellSt.getG, hq, hr, sget_sset]

@[simp] theorem retire_pc (c : CellSt) : c.retire.pc = c.pc + 4 := rfl
@[simp] theorem retire_getG (c : CellSt) (r : Nat) : c.retire.getG r = c.getG r := rfl
@[simp] theorem goto_pc (c : CellSt) (p : Word) : (c.goto p).pc = p := rfl
@[simp] theorem goto_getG (c : CellSt) (p : Word) (r : Nat) : (c.goto p).getG r = c.getG r := rfl

/-! The end of a command. -/

theorem settles_of_none (n : Nat) (s : State) (h : s.due = Due.none) : s.settles n = s := by
  cases n with
  | zero => cases s; simp_all [State.settles]
  | succ n => simp [State.settles, h]

/-- A command that asked for nothing ends as it stands. -/
@[simp] theorem settle_of_none (s : State) (h : s.due = Due.none) : s.settle = s := settles_of_none 256 s h

theorem settles_due (n : Nat) (s : State) : (s.settles n).due = Due.none := by
  induction n generalizing s with
  | zero => rfl
  | succ n ih =>
    unfold State.settles
    split
    · assumption
    · exact ih _

/-- Nothing is due after a command. -/
@[simp] theorem settle_due (s : State) : s.settle.due = Due.none := settles_due 256 s

/-- A command that asks for nothing and touches neither the variant nor the queue of commands ends as its effect says. -/
theorem ends_of_none (s t : State) (hd : t.due = Due.none) (hv : t.variant = s.variant) (hp : t.pending = s.pending) :
    s.ends t = t := by
  rw [State.ends, settle_of_none t hd, ← hv, ← hp]

theorem act_live (s : State) (f : State → State) (h : s.inert = false) : act s f = .next (s.ends (f s)) := by
  simp [act, h]

theorem act_inert (s : State) (f : State → State) (h : s.inert = true) : act s f = .next s := by
  simp [act, h]

/-- Every command answers a next state. -/
theorem act_next (s : State) (f : State → State) : ∃ t, act s f = .next t := by
  unfold act; split <;> exact ⟨_, rfl⟩

/-! Guards. -/

/-- A cell that runs, with its pc at a word of the instruction memory that can be read, carries out the instruction. -/
theorem hiveRun_of_runs (s : State) (n : Nat) (f : State → State) (h : s.cellRuns n = true)
    (hp : (s.cell n).pc.toNat < imemSize) (hb : s.badWord (s.fetchWord n) = false) : s.hiveRun n f = f (s.cellFetch n) := by
  simp [State.hiveRun, h, Nat.not_le.mpr hp, hb]

/-- A fetch from a state without flaws changes nothing. -/
@[simp] theorem cellFetch_none (s : State) (n : Nat) (h : s.flaws = []) : s.cellFetch n = s := by
  unfold State.cellFetch State.meetAt
  simp [State.flaw, h]

/-- A cell that does not run leaves the command without effect. -/
theorem hiveRun_of_not (s : State) (n : Nat) (f : State → State) (h : s.cellRuns n = false) : s.hiveRun n f = s := by
  simp [State.hiveRun, h]

/-- A register write that no gate stops. -/
theorem gateWrite_open (s : State) (m : Master) (k : Nat) (f : State → State) (ha : windowAbsent s.variant (k / 65536) = false)
    (hl : (m == .host && s.contentLock && lockedWindow (k / 65536)) = false) (ho : (m == .host && s.hostOut) = false) :
    s.gateWrite m k f = f s := by
  simp only [State.gateWrite, ha, hl, ho, Bool.false_eq_true, if_false]

/-- A register write in an absent window (R4). -/
theorem gateWrite_absent (s : State) (m : Master) (k : Nat) (f : State → State)
    (ha : windowAbsent s.variant (k / 65536) = true) (ho : (m == .host && s.hostOut) = false) :
    s.gateWrite m k f = s.absentAccess := by
  simp only [State.gateWrite, ha, ho, Bool.false_eq_true, if_false, if_true]

/-- A host write while a hot reset or an FLR is under way is discarded (R467). -/
theorem gateWrite_out (s : State) (m : Master) (k : Nat) (f : State → State) (ho : (m == .host && s.hostOut) = true) :
    s.gateWrite m k f = s := by
  simp only [State.gateWrite, ho, if_true]

/-- The head of a queue that passes the common checks is handed to its command. -/
theorem takeAs_head (s : State) (q op : Nat) (lens : List Nat) (run : Taken → State → State) (d : Desc) (rest : List Desc)
    (hb : s.blocked q = false) (hw : (s.queue q).waiting = d :: rest) (ho : w0Opcode d.w0 = op)
    (hf : d.flt = .ok) (hc : s.commonCheck q d = none) (hl : w0Len d.w0 ∈ lens) :
    s.takeAs q op lens run =
      (run (d.taken (s.epoch (queueDomain q))) (s.setQueue q { s.queue q with
        waiting := rest, taken := (s.queue q).taken ++ [d.taken (s.epoch (queueDomain q))] })).settleHead q := by
  simp [State.takeAs, State.takeHead, hb, hw, ho, hf, hc, hl]

/-- An empty queue gives a command that takes its head nothing to do. -/
theorem takeAs_empty (s : State) (q op : Nat) (lens : List Nat) (run : Taken → State → State)
    (hw : (s.queue q).waiting = []) : s.takeAs q op lens run = s := by
  unfold State.takeAs; split <;> simp [hw]

/-- A head with another opcode is not for this command. -/
theorem takeAs_other (s : State) (q op : Nat) (lens : List Nat) (run : Taken → State → State) (d : Desc) (rest : List Desc)
    (hw : (s.queue q).waiting = d :: rest) (ho : w0Opcode d.w0 ≠ op) : s.takeAs q op lens run = s := by
  unfold State.takeAs; split <;> simp [hw, ho]

end Sys2Proof.Machine
end

