-- ==== Sys2Proof/Laws/Guards.lean ====
section
/-!
SUPPORT. What the guards of commands let through, stated in the terms of claims: a queue that is ready, an open register, a
running cell, a command that the store takes.
-/
namespace Sys2Proof.Machine

theorem ends_live {s : State} (h : s.Live) : s.ends s = s := ends_of_none s s h.2 rfl rfl

theorem hiveRun_runs {s : State} {n : Nat} (h : s.Runs n) (f : State → State) : s.hiveRun n f = f (s.cellFetch n) :=
  hiveRun_of_runs _ _ _ h.2.1 h.2.2.1 h.2.2.2

theorem gateWrite_of_open {s : State} {m : Master} {k : Nat} (h : s.Open m k) (f : State → State) : s.gateWrite m k f = f s :=
  gateWrite_open _ _ _ _ h.2.1 h.2.2.1 h.2.2.2

/-- A queue that is ready hands its head to its command. -/
theorem takeAs_ready {s : State} {q op : Nat} {lens : List Nat} {d : Desc} {rest : List Desc} (h : s.Ready q op lens d rest)
    (run : Taken → State → State) : s.takeAs q op lens run = (run (s.run q d) (s.taken q d rest)).settleHead q := by
  obtain ⟨_, h2, h3, h4, h5, h6, h7⟩ := h
  exact takeAs_head s q op lens run d rest h2 h3 h4 h5 h6 h7

/-- As `takeAs_ready`, where the unit is free for the command. -/
theorem takeWhen_ready {s : State} {q op : Nat} {lens : List Nat} {d : Desc} {rest : List Desc} (h : s.Ready q op lens d rest)
    (ok : Taken → Bool) (run : Taken → State → State) (hok : ok (d.taken 0) = true) :
    s.takeWhen q op lens ok run = (run (s.run q d) (s.taken q d rest)).settleHead q := by
  have := takeAs_ready h run
  simp only [State.takeWhen, h.2.2.1, hok, this]
  simp

/-- A command that the store takes, from its queue or from a host pair, is carried out. -/
theorem clsTake_of {s s0 : State} {src : ClsSrc} {op : Nat} {lens : List Nat} {t : Taken} (h : s.StoreTakes src op lens t s0)
    (run : Taken → State → State) : s.clsTake src op lens run = (run t s0).storeEnd src := by
  obtain ⟨hf, h⟩ := h
  cases src with
  | device =>
    obtain ⟨d, rest, hr, rfl, rfl⟩ := h
    simp [State.clsTake, hf, takeAs_ready hr, State.storeEnd]
  | hostPair n =>
    obtain ⟨_, a, ws, he, ho, h0, hc, rfl, rfl⟩ := h
    subst ho
    simp only [State.clsTake, State.hostFetch, hf, he, if_neg h0, hc, State.storeEnd, if_true, Bool.not_true, Bool.false_eq_true,
      if_false]

/-- Keeper carries out the request that it serves. -/
theorem kprServe_serves {s : State} {k : KprServe} {code : Nat} (h : s.Serves k code) (run : KprServe → State → State) :
    s.kprServe code run = run k s := by
  obtain ⟨_, h1, h2, h3, h4⟩ := h
  simp [State.kprServe, h1, h2, h3, h4]

/-! Taking a command changes its queue alone. -/

@[simp] theorem taken_variant (s : State) (q : Nat) (d : Desc) (rest : List Desc) : (s.taken q d rest).variant = s.variant := rfl
@[simp] theorem taken_straps (s : State) (q : Nat) (d : Desc) (rest : List Desc) : (s.taken q d rest).straps = s.straps := rfl
@[simp] theorem taken_inert (s : State) (q : Nat) (d : Desc) (rest : List Desc) : (s.taken q d rest).inert = s.inert := rfl
@[simp] theorem taken_regs (s : State) (q : Nat) (d : Desc) (rest : List Desc) : (s.taken q d rest).regs = s.regs := rfl
@[simp] theorem taken_mem (s : State) (q : Nat) (d : Desc) (rest : List Desc) : (s.taken q d rest).mem = s.mem := rfl
@[simp] theorem taken_poison (s : State) (q : Nat) (d : Desc) (rest : List Desc) : (s.taken q d rest).poison = s.poison := rfl
@[simp] theorem taken_flaws (s : State) (q : Nat) (d : Desc) (rest : List Desc) : (s.taken q d rest).flaws = s.flaws := rfl
@[simp] theorem taken_tables (s : State) (q : Nat) (d : Desc) (rest : List Desc) : (s.taken q d rest).tables = s.tables := rfl
@[simp] theorem taken_nv (s : State) (q : Nat) (d : Desc) (rest : List Desc) : (s.taken q d rest).nv = s.nv := rfl
@[simp] theorem taken_cqs (s : State) (q : Nat) (d : Desc) (rest : List Desc) : (s.taken q d rest).cqs = s.cqs := rfl
@[simp] theorem taken_doms (s : State) (q : Nat) (d : Desc) (rest : List Desc) : (s.taken q d rest).doms = s.doms := rfl
@[simp] theorem taken_stalled (s : State) (q : Nat) (d : Desc) (rest : List Desc) : (s.taken q d rest).stalled = s.stalled := rfl
@[simp] theorem taken_rateMade (s : State) (q : Nat) (d : Desc) (rest : List Desc) : (s.taken q d rest).rateMade = s.rateMade := rfl
@[simp] theorem taken_meters (s : State) (q : Nat) (d : Desc) (rest : List Desc) : (s.taken q d rest).meters = s.meters := rfl
@[simp] theorem taken_gov (s : State) (q : Nat) (d : Desc) (rest : List Desc) : (s.taken q d rest).gov = s.gov := rfl
@[simp] theorem taken_hive (s : State) (q : Nat) (d : Desc) (rest : List Desc) : (s.taken q d rest).hive = s.hive := rfl
@[simp] theorem taken_fgh (s : State) (q : Nat) (d : Desc) (rest : List Desc) : (s.taken q d rest).fgh = s.fgh := rfl
@[simp] theorem taken_ports (s : State) (q : Nat) (d : Desc) (rest : List Desc) : (s.taken q d rest).ports = s.ports := rfl
@[simp] theorem taken_arbs (s : State) (q : Nat) (d : Desc) (rest : List Desc) : (s.taken q d rest).arbs = s.arbs := rfl
@[simp] theorem taken_rfes (s : State) (q : Nat) (d : Desc) (rest : List Desc) : (s.taken q d rest).rfes = s.rfes := rfl
@[simp] theorem taken_clrs (s : State) (q : Nat) (d : Desc) (rest : List Desc) : (s.taken q d rest).clrs = s.clrs := rfl
@[simp] theorem taken_clrIn (s : State) (q : Nat) (d : Desc) (rest : List Desc) : (s.taken q d rest).clrIn = s.clrIn := rfl
@[simp] theorem taken_splits (s : State) (q : Nat) (d : Desc) (rest : List Desc) : (s.taken q d rest).splits = s.splits := rfl
@[simp] theorem taken_cmpOuts (s : State) (q : Nat) (d : Desc) (rest : List Desc) : (s.taken q d rest).cmpOuts = s.cmpOuts := rfl
@[simp] theorem taken_cmpRings (s : State) (q : Nat) (d : Desc) (rest : List Desc) : (s.taken q d rest).cmpRings = s.cmpRings := rfl
@[simp] theorem taken_gens (s : State) (q : Nat) (d : Desc) (rest : List Desc) : (s.taken q d rest).gens = s.gens := rfl
@[simp] theorem taken_lanes (s : State) (q : Nat) (d : Desc) (rest : List Desc) : (s.taken q d rest).lanes = s.lanes := rfl
@[simp] theorem taken_serial (s : State) (q : Nat) (d : Desc) (rest : List Desc) : (s.taken q d rest).serial = s.serial := rfl
@[simp] theorem taken_eyeScans (s : State) (q : Nat) (d : Desc) (rest : List Desc) : (s.taken q d rest).eyeScans = s.eyeScans := rfl
@[simp] theorem taken_bcn (s : State) (q : Nat) (d : Desc) (rest : List Desc) : (s.taken q d rest).bcn = s.bcn := rfl
@[simp] theorem taken_cas (s : State) (q : Nat) (d : Desc) (rest : List Desc) : (s.taken q d rest).cas = s.cas := rfl
@[simp] theorem taken_vcxs (s : State) (q : Nat) (d : Desc) (rest : List Desc) : (s.taken q d rest).vcxs = s.vcxs := rfl
@[simp] theorem taken_lpks (s : State) (q : Nat) (d : Desc) (rest : List Desc) : (s.taken q d rest).lpks = s.lpks := rfl
@[simp] theorem taken_cls (s : State) (q : Nat) (d : Desc) (rest : List Desc) : (s.taken q d rest).cls = s.cls := rfl
@[simp] theorem taken_memx (s : State) (q : Nat) (d : Desc) (rest : List Desc) : (s.taken q d rest).memx = s.memx := rfl
@[simp] theorem taken_hci (s : State) (q : Nat) (d : Desc) (rest : List Desc) : (s.taken q d rest).hci = s.hci := rfl
@[simp] theorem taken_kpr (s : State) (q : Nat) (d : Desc) (rest : List Desc) : (s.taken q d rest).kpr = s.kpr := rfl
@[simp] theorem taken_out (s : State) (q : Nat) (d : Desc) (rest : List Desc) : (s.taken q d rest).out = s.out := rfl
@[simp] theorem taken_fresh (s : State) (q : Nat) (d : Desc) (rest : List Desc) : (s.taken q d rest).fresh = s.fresh := rfl
@[simp] theorem taken_due (s : State) (q : Nat) (d : Desc) (rest : List Desc) : (s.taken q d rest).due = s.due := rfl
@[simp] theorem taken_pending (s : State) (q : Nat) (d : Desc) (rest : List Desc) : (s.taken q d rest).pending = s.pending := rfl
@[simp] theorem taken_reg (s : State) (q : Nat) (d : Desc) (rest : List Desc) (k : Nat) : (s.taken q d rest).reg k = s.reg k := rfl
@[simp] theorem taken_fld (s : State) (q : Nat) (d : Desc) (rest : List Desc) (k hi lo : Nat) :
    (s.taken q d rest).fld k hi lo = s.fld k hi lo := rfl
@[simp] theorem taken_isPowered (s : State) (q : Nat) (d : Desc) (rest : List Desc) (n : Nat) :
    (s.taken q d rest).isPowered n = s.isPowered n := rfl
@[simp] theorem taken_poisonedAt (s : State) (q : Nat) (d : Desc) (rest : List Desc) (a n : Nat) :
    (s.taken q d rest).poisonedAt a n = s.poisonedAt a n := rfl
@[simp] theorem run_fld (s : State) (q : Nat) (d : Desc) (i hi lo : Nat) :
    (s.run q d).fld i hi lo = qbits (d.words.getD i 0) hi lo := rfl
@[simp] theorem run_tag (s : State) (q : Nat) (d : Desc) : (s.run q d).tag = w0Tag d.w0 := rfl

end Sys2Proof.Machine
end

