-- ==== Sys2Proof/Laws/Memory.lean ====
section
/-!
SUPPORT. Memory: every operation keeps the canonical form of the list of bytes, a byte reads as it was written last, and the
bytes outside a store read as before.
-/
namespace Sys2Proof.Machine

theorem memPut_wf {m : List Host.Cell} (a : Nat) (bs : List Byte) (h : Memory.wf m = true) :
    Memory.wf (memPut m a bs) = true := by
  induction bs generalizing m a with
  | nil => exact h
  | cons b t ih => exact ih (a + 1) (swf_sset a b h)

theorem foldl_wf {α : Type} (f : List Host.Cell → α → List Host.Cell) (l : List α) {m : List Host.Cell}
    (hf : ∀ m x, Memory.wf m = true → Memory.wf (f m x) = true) (h : Memory.wf m = true) :
    Memory.wf (l.foldl f m) = true := by
  induction l generalizing m with
  | nil => exact h
  | cons x t ih => exact ih (hf m x h)

/-- Steps that change poison marks and flaws alone make a walk that does. -/
theorem foldl_marks (f : State → Nat → State) (hf : ∀ s w, ∃ p q, f s w = { s with poison := p, flaws := q }) (l : List Nat)
    (s : State) : ∃ p q, l.foldl f s = { s with poison := p, flaws := q } := by
  induction l generalizing s with
  | nil => exact ⟨s.poison, s.flaws, rfl⟩
  | cons w t ih =>
    obtain ⟨p, q, h⟩ := hf s w
    obtain ⟨p', q', h'⟩ := ih (f s w)
    exact ⟨p', q', by rw [List.foldl_cons, h', h]⟩

/-- What a write does to flawed words leaves memory as it is: poison marks and flaws alone change. -/
theorem writeFlaws_eq (s : State) (a len : Nat) :
    s.writeFlaws a len = { s with poison := (s.writeFlaws a len).poison, flaws := (s.writeFlaws a len).flaws } := by
  suffices h : ∃ p q, s.writeFlaws a len = { s with poison := p, flaws := q } by
    obtain ⟨p, q, h⟩ := h
    rw [h]
  unfold State.writeFlaws
  split
  · exact ⟨s.poison, s.flaws, rfl⟩
  · refine foldl_marks _ (fun s w => ?_) _ s
    dsimp only
    split <;> exact ⟨_, _, rfl⟩

@[simp] theorem writeFlaws_mem (s : State) (a len : Nat) : (s.writeFlaws a len).mem = s.mem := by rw [writeFlaws_eq]

@[simp] theorem writeFlaws_discards (s : State) (a len x : Nat) : (s.writeFlaws a len).discards x = s.discards x := by
  rw [writeFlaws_eq]; rfl

/-- A state without flaws has none to deal with. -/
@[simp] theorem writeFlaws_none (s : State) (a len : Nat) (h : s.flaws = []) : s.writeFlaws a len = s := by
  simp [State.writeFlaws, h]

/-- A store keeps the canonical form, whatever part of it is discarded. -/
theorem storeP_wf (s : State) (a : Nat) (bs : List Byte) (bad : Bool) (h : Memory.wf s.mem = true) :
    Memory.wf (s.storeP a bs bad).mem = true := by
  simp only [State.storeP, writeFlaws_discards]
  split
  · refine foldl_wf _ _ (fun m p hm => ?_) (by simpa using h)
    split
    · exact hm
    · exact swf_sset _ _ hm
  · exact memPut_wf a bs (by simpa using h)

/-- A store changes memory, its poison marks and its flaws alone. -/
theorem storeP_eq (s : State) (a : Nat) (bs : List Byte) (bad : Bool) :
    s.storeP a bs bad = { s with mem := (s.storeP a bs bad).mem, poison := (s.storeP a bs bad).poison,
                                 flaws := (s.storeP a bs bad).flaws } := by
  simp only [State.storeP]
  rw [writeFlaws_eq]
  split <;> rfl

theorem store_wf (s : State) (a : Nat) (bs : List Byte) (h : Memory.wf s.mem = true) :
    Memory.wf (s.store a bs).mem = true := storeP_wf s a bs false h

theorem storeNum_wf (s : State) (a n v : Nat) (h : Memory.wf s.mem = true) :
    Memory.wf (s.storeNum a n v).mem = true := storeP_wf s a _ false h

theorem zero_wf (s : State) (a len : Nat) (h : Memory.wf s.mem = true) : Memory.wf (s.zero a len).mem = true :=
  swf_filter _ h

/-- Memory after reset is canonical: it lists nothing. -/
theorem reset_wf : Memory.wf State.reset.mem = true := rfl

/-! Reads after stores. -/

theorem sget_memPut_out (m : List Host.Cell) (a x : Nat) (bs : List Byte) (h : x < a ∨ a + bs.length ≤ x) :
    sget 0 (memPut m a bs) x = sget 0 m x := by
  induction bs generalizing m a with
  | nil => rfl
  | cons b t ih =>
    simp only [List.length_cons] at h
    rw [memPut, ih _ (a + 1) (by omega), sget_sset_ne 0 m b (by omega)]

theorem sget_memPut_in (m : List Host.Cell) (a : Nat) (bs : List Byte) (i : Nat) (h : i < bs.length) :
    sget 0 (memPut m a bs) (a + i) = bs[i] := by
  induction bs generalizing m a i with
  | nil => cases h
  | cons b t ih =>
    cases i with
    | zero => rw [memPut, sget_memPut_out _ _ _ _ (by omega)]; simp
    | succ j =>
      have := ih (sset 0 m a b) (a + 1) j (by simpa using h)
      simpa [memPut, Nat.add_assoc, Nat.add_comm 1 j] using this

theorem foldl_discard_out (s : State) (a x : Nat) (l : List (Byte × Nat)) (m : List Host.Cell) (h : ∀ p ∈ l, a + p.2 ≠ x) :
    sget 0 (l.foldl (fun m p => if s.discards (a + p.2) then m else sset 0 m (a + p.2) p.1) m) x = sget 0 m x := by
  induction l generalizing m with
  | nil => rfl
  | cons p t ih =>
    rw [List.foldl_cons, ih _ (fun q hq => h q (List.mem_cons_of_mem _ hq))]
    split
    · rfl
    · exact sget_sset_ne 0 m _ (fun e => h p (List.mem_cons_self ..) e.symm)

/-- A store leaves every byte outside it as it was. -/
theorem byte_storeP_out (s : State) (a x : Nat) (bs : List Byte) (bad : Bool) (h : x < a ∨ a + bs.length ≤ x) :
    (s.storeP a bs bad).byte x = s.byte x := by
  simp only [State.storeP, State.byte, writeFlaws_discards]
  split
  · simp only [writeFlaws_mem]
    refine foldl_discard_out s a x _ _ (fun p hp => ?_)
    have : p.2 < bs.length := by simpa using List.snd_lt_of_mem_zipIdx hp
    omega
  · simpa using sget_memPut_out s.mem _ _ _ h

/-- A store that nothing discards writes its bytes. -/
theorem byte_storeP_in (s : State) (a i : Nat) (bs : List Byte) (bad : Bool) (h : i < bs.length)
    (hd : (wordsOf a bs.length).any (fun w => s.discards (w * 16)) = false) :
    (s.storeP a bs bad).byte (a + i) = bs[i] := by
  simp only [State.storeP, writeFlaws_discards, hd, Bool.false_eq_true, if_false]
  exact sget_memPut_in _ _ _ _ h

end Sys2Proof.Machine
end

