-- ==== Sys2Proof/Machine/Code.lean ====
section
/-!
DEFINITION. The common code: check bits of a 128-bit word, what a reader makes of them, and the binding field of a DRAM
burst (R24, R25, R27, R31).
-/
namespace Sys2Proof.Machine

/-- The number of ones in the low nine bits. -/
def ones9 (v : Nat) : Nat := ((List.range 9).filter (fun i => v.testBit i)).length

/-- The nine-bit columns H(0) to H(127) (R24). -/
def columns : List Nat :=
  (List.range 512).filter (fun v => ones9 v == 3) ++ ((List.range 512).filter (fun v => ones9 v == 5)).take 44

/-- The check bits of a data word (R24). -/
def checkBits (d : Quad) : Nat :=
  columns.zipIdx.foldl (fun c p => if d.getLsbD p.2 then c ^^^ p.1 else c) 0

/-- What a reader makes of a code word (R25, R27). -/
inductive Decoded where
  | clean (d : Quad)
  | corrected (d : Quad)
  | uncorrectable (d : Quad)
  | storedPoison (d : Quad)
  deriving DecidableEq, Repr

/-- The syndrome that stored poison reads back as (R27). -/
def poisonSyndrome : Nat := 0x003

/-- The reader's decoding of data and check bits; `dram` says that the word comes from DRAM, whose poison is a side-band
bit (R25, R27, R30). -/
def decodeCode (dram : Bool) (d : Quad) (c : Nat) : Decoded :=
  let s := checkBits d ^^^ c
  if s = 0 then .clean d
  else if ones9 s = 1 then .corrected d
  else match columns.findIdx? (· == s) with
    | some i => .corrected (d ^^^ BitVec.ofNat 128 (2 ^ i))
    | none => if s = poisonSyndrome && !dram then .storedPoison d else .uncorrectable d

/-- The check bits of a word stored poisoned, outside DRAM (R27). -/
def poisonedCheck (d : Quad) : Nat := checkBits d ^^^ poisonSyndrome

/-- One step of the CRC-12 of the binding field (R31). -/
def bindingStep (crc : Nat) (b : Bool) : Nat :=
  let fb := crc.testBit 11 != b
  let c := crc * 2 % 4096
  if fb then c ^^^ 0x80F else c

/-- The binding field of the burst at a device address (R31). -/
def binding (a : Nat) : Nat :=
  (List.range 34).foldl (fun crc i => bindingStep crc ((a / 32 % 2 ^ 34).testBit (33 - i))) 0

/-- The side-band of a DRAM burst (R30). -/
def sideBand (a : Nat) (lower upper : Quad) (poison : Bool) : Nat :=
  poison.toNat * 2 ^ 30 + binding a * 2 ^ 18 + checkBits upper * 2 ^ 9 + checkBits lower

end Sys2Proof.Machine
end

