-- ==== Sys2Proof/Tests/Slice0.lean ====
section
/-!
SUPPORT. Tests: for each check of Instr.wf a term that it refuses; words written out from the encodings of spec/02_hive.md; the
spec's worked examples; one step of a few commands; and, for each obligation, concrete states and operands that meet the
hypotheses of its clauses. The theorems named _checked do so under a hypothesis that gives an uninterpreted function of Keeper a
value (log entry 17).
-/
namespace Sys2Proof.Tests

section
set_option Elab.async false
open Sys2Proof Sys2Proof.Machine

/-! Well-formedness. -/

/-- A packet of the ring that breaks one bound of its fields at a time. -/
def badPackets : List AdeoftPkt :=
  let p : AdeoftPkt := ⟨0, 0, 0, false, false, 0, false, 0, 0, 0, []⟩
  [{ p with kind := 16 }, { p with origin := 16 }, { p with dest := 16 }, { p with wraps := 4 }, { p with hops := 128 },
   { p with seq := 65536 }, { p with payload := List.replicate 8193 0 }]

theorem test_ill_formed_packets :
    badPackets.all (fun p => [.waggleReceived 0 p, .commitReqReceived 0 p, .prepareReceived 0 p, .decideReceived 0 p,
      .snapPacketReceived 0 p, .adeoftMsgReceived 0 p, .delayReqReceived 0 p, .delayRespReceived 0 p, .adeoftEnumReceived 0 p,
      .frameOpenReceived 0 p, .linePacketReceived 0 p, .frameCloseReceived 0 p].all (fun i => !Instr.wf i)) = true := by
  decide +kernel

theorem test_ill_formed_commands :
    [.absentAccess .host 0x1F_FFFF_FFFF false, .absentAccess .host 0x20_0100_0000 false, .registerWrite .host 0x20_0000_0000 3 0,
      .hostMemoryWrite false 0 [], .hostMemoryRead false 0 0, .paceWindowEnd 0 0 (2 ^ 32) 0, .paceWindowEnd 0 0 0 (2 ^ 32),
      .wdep 0 0 0 97 31, .wext 0 0 0 127 1, .bar 2 0 0 0 0xFB,
      .slvsLine 0 ⟨List.replicate 33 ⟨false, 0, 0, [], 0, [], [], 0, 0⟩, false⟩,
      .slvsLine 0 ⟨[⟨false, 0, 0, [], 0, [65536], [], 0, 0⟩], false⟩, .csi2ShortPacket 0 ⟨0, 16, 0, 0, .ok⟩,
      .csi2ShortPacket 0 ⟨0, 0, 64, 0, .ok⟩, .csi2ShortPacket 0 ⟨0, 0, 0, 65536, .ok⟩,
      .csi2LongPacket 0 ⟨0, 16, 0, [], 0, .ok, false⟩, .csi2LongPacket 0 ⟨0, 0, 64, [], 0, .ok, false⟩,
      .csi2LongPacket 0 ⟨0, 0, 0, List.replicate 65536 0, 0, .ok, false⟩, .csi2LongPacket 0 ⟨0, 0, 0, [], 65536, .ok, false⟩,
      .eyeScanDone 0 [], .encRow 0 ⟨52, false⟩, .encRow 0 ⟨-13, false⟩, .nvmeCompletion 0 65536 true [],
      .ssdTimeout 0 65536, .memRequest ⟨.host, false, 0, [], ⟨.none, .none, false⟩, ⟨.none, .none, false⟩⟩,
      .memRequest ⟨.host, false, 16, List.replicate 17 0, ⟨.none, .none, false⟩, ⟨.none, .none, false⟩⟩,
      .ethFrameReceived 0 (List.replicate 13 0) false 0, .tw4Write [], .sensorRead []].all (fun i => !Instr.wf i) = true := by
  decide +kernel

theorem test_well_formed_neighbours :
    [.wdep 0 0 0 96 31, .wext 0 0 0 127 0, .bar 2 0 0 0 0x04, .encRow 0 ⟨51, false⟩, .encRow 0 ⟨-12, true⟩, .ssdTimeout 0 65535,
      .memRequest ⟨.host, false, 16, List.replicate 16 0, ⟨.none, .none, false⟩, ⟨.none, .none, false⟩⟩,
      .waggleReceived 0 ⟨15, 15, 15, true, true, 3, true, 127, 65535, 0, []⟩].all Instr.wf = true := by decide +kernel

/-! States and operands that the tests use. -/

/-- The device after reset with every domain powered and unfenced, both stacks ready and Comb initialised. -/
def base : State :=
  ({ State.reset with
      doms := { State.reset.doms with powered := 0x3FFFFFFF, fenced := 0 }
      memx := { State.reset.memx with combInit := false } }.setStackState 0 2).setStackState 1 2

/-- A descriptor of opcode `op` with tag 5, completion queue 0, epoch 0, fields `w0` in its word 0 and more words. -/
def cmd (op len w0 : Nat) (more : List Nat) : Desc :=
  { words := BitVec.ofNat 128 (op * 2 ^ 120 + 5 * 2 ^ 96 + len * 2 ^ 94 + w0) :: more.map (BitVec.ofNat 128), cell := 0, dup := false,
    flt := .ok }

/-- `s` with a descriptor alone in queue `q`. -/
def headed (s : State) (q : Nat) (d : Desc) : State := s.setQueue q { s.queue q with waiting := [d] }

/-- Cell `n` runs an image. -/
def running (n : Nat) : State := base.mapCell n (fun c => { c with state := 2, image := true })

/-- A request of the mailbox with its code and parameters. -/
def asked (code : Nat) (pars : List Byte) : KprServe :=
  { tag := none, resp := 0, req := leBytes 2 code ++ leBytes 2 pars.length ++ leBytes 4 0 ++ pars ++ leBytes 200 0, code := code }

/-- Keeper serves a request. -/
def serving (s : State) (k : KprServe) : State := { s with kpr := { s.kpr with serving := some k } }

/-- The device with its governor changed by `f`. -/
def governed (f : Gov → Gov) : State := { base with gov := f { base.gov with xfer := .none } }

/-- The governor is on, and meter 0 of an encoder declares a pace and reported a lowest one. -/
def paced (decl low : Nat) : State :=
  (((governed id).setFld Reg.govCtrl 31 31 1).setFld (Reg.cbPaceDecl 0x40 0) 23 0 decl).setMeter 0x40 0 ⟨true, false, some low, 0, 64⟩

/-- A hive image of 16 bytes of code for cell 0. -/
def image : List Byte :=
  leBytes 4 0x4851564E ++ leBytes 2 1 ++ leBytes 2 0 ++ leBytes 4 180 ++ leBytes 16 0 ++ leBytes 4 16 ++ leBytes 148 0

/-- A load stands at a step. -/
def loading (step : LoadStep) (img : List Byte) : State :=
  let s := (base.store 0x1000 img).setFld Reg.kprStatus 31 28 2
  { s with hive := { s.hive with loader := ⟨step, 0, 0x1000, img, false⟩ }
           kpr := { s.kpr with slots := [(0, some ⟨[], 1⟩)] } }

/-- `s` with sensor port `n` changed by `f`. -/
def ported (s : State) (n : Nat) (f : Port → Port) : State := s.mapPort n f

/-- A setup of one SLVS lane, of 16 × 1 samples of 10 bits. -/
def slvs : PortSetup :=
  { mode := 0, gang := false, split := false, lanes := 1, width := 10, exposures := 1, lineCrc := false, w := 16, h := 1, rate := 100,
    lockLines := 1, weight := 1, highPriority := false, sync := [1023, 0, 0, 8, 9, 10, 11, 12], vc := [0], laneMap := 0, polarity := 0,
    codeMask := 15, lbBase := 0, lbSize := 1, embedded := 0, partner := none }

/-- The same over CSI-2. -/
def csi : PortSetup := { slvs with mode := 1 }

/-- A frame command and the frame it has opened. -/
def frameCmd : FrameCmd :=
  { tag := 5, padLineBlack := false, padFrameBlack := false, padValue := 0, lineBound := 64, sofTimeout := 10, lineTimeout := 1000,
    report := 0, embed := 0 }
def openFrame : OpenFrame :=
  { cmd := frameCmd, number := 0, sof := 0, xtrig := 0, counts := FrameCounts.zero, stored := [0], delivered := 0, started := [0],
    ended := [], last := [], bad := false, closing := none }

/-- A line on lane 0 with the code of a line's start. -/
def slvsLine (code skew : Nat) : SlvsLine :=
  { lanes := [⟨true, 0, skew, [1023, 0, 0], code, List.replicate 16 0, [], 0, 0⟩], cut := false }

theorem none_ne {o : Option (Nat × Nat)} (h : o = none) : ∀ k, o ≠ some (6, k) := by simp [h]

theorem image_verified (he : Config.ecdsaOk = fun _ _ _ => true) : (loading .verifying image).verifyImage image = 0 := by
  simp only [State.verifyImage]; rw [he]; decide +kernel

theorem auto_verified (he : Config.ecdsaOk = fun _ _ _ => true) :
    (loading .verifying (image.set 17 2)).verifyImage (image.set 17 2) = 0 := by
  simp only [State.verifyImage]; rw [he]; decide +kernel

/-- What a parse gives, `c` where it gives an error. -/
def parsed {α : Type} (c : α) : Except Nat α → α
  | .ok a => a
  | .error _ => c

theorem parsed_ok {α : Type} {c : α} {e : Except Nat α} (h : e.isOk = true) : e = .ok (parsed c e) := by
  cases e <;> simp_all [parsed, Except.isOk, Except.toBool]

/-- A memory-sourced front end command on 16 × 1 samples, and its frame. -/
def rfeCmd : RfeCmd :=
  { tag := 5, memory := true, cfa := 0, toClr := false, rawEn := false, rawTap := false, rawShift := 0, statsEn := false, histSrc := 0,
    histShift := 0, zonesX := 1, zonesY := 1, linEn := false, shadeEn := false, sdefEn := false, ddefEn := false, statsAddr := 0,
    rawAddr := 0, rawStride := 0, srcAddr := 0, srcStride := 1, w := 16, h := 1, exposures := 1, width := 10, black := [],
    ratios := [], satS := 0, los := [], his := [], dynAbs := 0, dynRel := 0, staticCount := 0 }
def rfeOpen : RfeOpen :=
  { cmd := rfeCmd, w := 16, h := 1, exposures := 1, width := 10, first := 0, cols := 16, ownFirst := 0, ownCols := 16, right := false,
    number := 0, sof := 0, banks := 0, statics := [], taken := 0, sent := 0, win := [], stats := RfeStats.zero, bad := false }
def liveOpen : RfeOpen := { rfeOpen with cmd := { rfeCmd with memory := false } }

/-- Slot 0 of front end 0 changed by `f`, with `items` in the buffer of its port. -/
def fronted (items : List BufItem) (f : RfeSlot → RfeSlot) : State :=
  (base.mapPort 0 (fun p => { p with setup := some slvs, bufs := sset [] p.bufs 0 items })).mapRfeSlot 0 0 f

/-- A colour engine command without outputs, and its frame. -/
def clrCmd : ClrCmd := { tag := 5, cfa := 0, red := 0, working := 0, highlight := false, wb := [0, 0, 0, 0], mat := [], outs := [] }
def clrOpen : ClrOpen :=
  { cmd := clrCmd, w := 16, h := 1, first := 0, ownFirst := 0, ownCols := 16, split := false, port := 0, number := 0, banks := 0,
    taken := 0, written := 0, win := [], packs := [], ringFirst := [], ended := false, waiting := false, bad := false }

/-- Slot 0 of colour engine 0 changed by `f`, with `items` sent to it. -/
def coloured (items : List ClrItem) (f : ClrSlot → ClrSlot) : State :=
  (base.setClrQueue 0 (items.map (fun i => (0, i)))).mapClrSlot 0 0 f

/-- Generator `g` in a state, changed by `f`. -/
def generating (g st : Nat) (f : Gen → Gen) : State := (base.mapGen g f).setFld (Reg.wloStatus g) 31 28 st

/-- A frame of the compositor, of 2 lines without layers. -/
def cmpFrame : CmpFrame :=
  { memory := false, number := 0, latch := 0, w := 16, h := 2, x0 := 0, layers := [], off := [], line := 0, lateLine := [],
    invalid := 0, held := 0, malformed := 0, poisoned := 0, misses := 0, undelivered := 0, rows := [], malMade := [], enc := none }

/-- What a generator holds of a frame with one receiver, at lane 0 and position 0. -/
def wallRec : WallRec :=
  { number := 0, instant := 0, err := 0, underrun := 0, late := 0, segments := 0, watch := 0, mismatch := 0, missing := 0,
    clipped := 0, receivers := [0], marks := [], reported := [], report := none }

/-- `s` with wall lane 0 up and locked, changed by `f`. -/
def linked (s : State) (f : WallLane → WallLane) : State :=
  ((s.setFld (Reg.lnxWlStatus 0) 31 28 2).setFld (Reg.lnxWlStatus 0) 24 24 1).mapLane 0 f

/-- The PLL of quad `q` is locked. -/
def pllOn (q : Nat) (s : State) : State := s.setFld (Reg.lnxStatus q) 31 31 1

/-- An encode context's parameter block: 64 × 64 samples, profile 0, one reference, a ring of 16 pages. -/
def encBlock : List Nat :=
  [64 * 2 ^ 112 + 64 * 2 ^ 96 + 2 ^ 85, 0, 0, 0x10000 * 2 ^ 80 + 16 * 2 ^ 56 + 0x8000 * 2 ^ 8,
   0x9000 * 2 ^ 80 + 64 * 2 ^ 64 + 0x20000 * 2 ^ 16, 0x40000 * 2 ^ 80, 0, 0]
def encCtx : EncCtx := .make (encBlock.map (BitVec.ofNat 128))

/-- A decode context's parameter block: 8 × 8 samples, two buffers. -/
def decBlock : List Nat :=
  [8 * 2 ^ 112 + 8 * 2 ^ 96 + 2 * 2 ^ 91, 0x40000 * 2 ^ 80 + 2 ^ 56 + 2 * 2 ^ 32, 0x20000 * 2 ^ 80, 0, 0, 0, 0, 0]
def decCtx : DecCtx := .make (decBlock.map (BitVec.ofNat 128)) false

/-- Codec core 0 with context 0 set up, carrying out `r`. -/
def coding (k : VcxCtx) (r : VcxRun) : State := base.mapVcx 0 (fun v => { v with ctxs := [(0, some k)], run := r })

/-- A picture being encoded in context 0. -/
def encPic : EncPic := encPicOf ((cmd 0x11 2 0 [0x1000 * 2 ^ 80 + 4 * 2 ^ 56, 0x2000 * 2 ^ 80]).taken 0)

/-- A decode in context 0. -/
def decRun : DecRun :=
  { tag := 5, ctx := 0, report := 0x2000, flush := false, length := 0, items := [], flags := 0, count := 0, last := none,
    concealed := 0, generated := 0, damaged := 0, status := 0, waiting := true, threshMade := false }

/-- A chain of one part of 4 KiB at 0x3000 described at 0x2000, and a good stream header of one line of 16 samples. -/
def chained : State := base.store 0x2000 (leBytes 16 (0x3000 * 2 ^ 80 + 0x1000 * 2 ^ 48))
def streamHeader : List Byte :=
  let h := leBytes 4 0x314B504C ++ leBytes 2 1 ++ leBytes 1 0 ++ leBytes 1 1 ++ leBytes 2 10 ++ leBytes 2 1 ++ leBytes 2 16 ++
    leBytes 2 1 ++ leBytes 32 0
  h ++ leBytes 4 (crc32c h) ++ leBytes 12 0

/-- The clip store is ready, on one SSD of 4 GiB. -/
def stored : State :=
  let s := (base.setClsState 2).setReg (Reg.clsRpCapLo 0) 0x100000
  s.mapCls (fun x => { x with setup := some ⟨[0], false, 0x100000, 64, 1, 0x8000000, 0⟩ })

/-- Clip 0 is open. -/
def clip0 : Clip := ⟨1, 0, 256, 512, 256, 0, 0⟩
def clipped : State := stored.setClip 0 (some clip0)

theorem storeTakes_device {s : State} {d : Desc} {rest : List Desc} {op : Nat} {lens : List Nat} (h1 : s.clsFetches = true)
    (h : s.Ready 18 op lens d rest) : s.StoreTakes .device op lens (s.run 18 d) (s.taken 18 d rest) := ⟨h1, d, rest, h, rfl, rfl⟩

/-- Host pair 0 is enabled with 16 entries at 0x10000, of which the first, `d`, waits. -/
def hosted (s : State) (d : Desc) : State :=
  ((((s.setFld (Reg.clsHqCtrl 0) 31 31 1).setFld (Reg.clsHqSqSize 0) 12 0 16).setReg (Reg.clsHqSqLo 0) 0x10000).setFld
    (Reg.clsHqSqTail 0) 11 0 1).store 0x10000 (d.words.flatMap (fun w => leBytes 16 w.toNat))

/-- No error in a burst. -/
def clean : BurstErr := ⟨.none, .none, false⟩

/-- A memory request of the host at `a` with the bytes `bs`. -/
def request (write : Bool) (a : Nat) (bs : List Byte) : MemReq := ⟨.host, write, a, bs, clean, clean⟩

/-- Ethernet port 0 is up. -/
def plugged : State := base.setFld (Reg.ethStatus 0) 31 31 1

/-- RTP stream 0, to port 0. -/
def stream : RtpStream :=
  { port := 0, ipv6 := false, dscp := 0, ttl := 64, payloadType := 96, mtu := 1500, dstMac := 0, ssrc := 1, srcPort := 1, dstPort := 2,
    srcIp := 0, dstIp := 0 }

/-- A device of the ring at position 0, both links usable, changed by `f`. -/
def ringed (f : Cas → Cas) : State :=
  let s := base.setFld Reg.casStatus 24 24 0
  { s with cas := f { s.cas with enable := true, usable := [0, 1] } }

/-- A packet of the ring from the device at position 1 to that at position 0. -/
def packet (kind : Nat) (payload : List Byte) : AdeoftPkt := ⟨kind, 1, 0, false, true, 0, false, 0, 0, 0, payload⟩

/-- Export and import streams of 8 × 1 samples over a ring of 4 lines. -/
def exported : CasExp := ⟨true, 1, 0, 8, 1, 0x1000, 0x2000, 4, none, 0⟩
def imported : CasImp := ⟨0, 8, 1, 0x1000, 0x2000, 4, none, none, 0, 0⟩

/-- Two-wire port 0 carries out a transfer of 2 bytes. -/
def twRun : TwRun := ⟨5, true, 3, 0x1A, [0x10, 0x20], false, 0, 0, 1, 0, 0⟩
def onWire (r : TwRun) : State := base.setTw 0 (some r) false

/-- Bytes on the boot flash from `a` on. -/
def flashed (s : State) (a : Nat) (bs : List Byte) : State :=
  { s with hci := { s.hci with flash := s.hci.flash ++ bs.zipIdx.map (fun p => (a + p.2, p.1)) } }

/-- A boot directory with one entry, Comb data of 16 bytes. -/
def directory : List Byte :=
  let h := leBytes 4 0x44425745 ++ leBytes 2 1 ++ leBytes 1 1 ++ leBytes 1 0 ++ leBytes 1 3 ++ leBytes 1 0 ++ leBytes 1 25 ++ leBytes 49 0
  let e := leBytes 4 3 ++ leBytes 4 0x2000 ++ leBytes 4 16 ++ leBytes 6 combBase ++ leBytes 14 0
  h ++ leBytes 4 (crc32c (h ++ e)) ++ e

/-- Boot copies entries: the next is `e`. -/
def booting (e : BootEntry) : State :=
  let s := (base.setBootState 2).setFld Reg.kprStatus 31 28 2
  { s with hci := { s.hci with entries := [e] } }

/-- An entry of the intake. -/
def entry : Entry := ⟨0x10, 0, 0x05, 0, 0, 0, 1, 0, 0, true, none, false⟩
def noted (l : List Entry) : State := { base with fgh := { base.fgh with intake := l } }

/-- The device at a step of the way into Doze or out of it. -/
def dozing (step : Nat) : State := { base with fgh := { base.fgh with dozeStep := step } }

/-- Key slot 0 holds a key for every use. -/
def keyed : State := { base with kpr := { base.kpr with slots := [(0, some ⟨[], 7⟩)] } }

/-- A session, proved or not. -/
def session (proved : Bool) : Session := ⟨proved, 0, [], 0, [], 7, 60, 0, 0, 0, 0⟩
def inSession (x : Session) : State := { keyed with kpr := { keyed.kpr with sessions := [(1, some x)] } }

/-- A Keeper firmware of no code with a signature of zeros. -/
def firmware : List Byte := leBytes 4 0x4B51564E ++ leBytes 2 1 ++ leBytes 2 0 ++ leBytes 4 116 ++ leBytes 4 0 ++ leBytes 4 0xFF ++ leBytes 96 0

theorem proof_ok (he : Config.ecdsaOk = fun _ _ _ => true) :
    (serving (inSession (session false)) (asked 0x11 [1, 0, 1, 0])).proofOk (session false) 0
      ((asked 0x11 [1, 0, 1, 0]).par 4 96) = true := by
  simp only [State.proofOk]; rw [he]; decide +kernel

theorem install_ok (hg : Config.gcmTag = fun _ _ _ _ => 0) (n : Nat) (hn : n < 3) :
    (asked 0x20 [BitVec.ofNat 8 n, 0, 0, 0, 1, 0, 0, 0]).installOk = true := by
  simp only [KprServe.installOk]; rw [hg]; match n with | 0 | 1 | 2 => decide +kernel

theorem tag_ok (hg : Config.gcmTag = fun _ _ _ _ => 0) :
    let k := asked 0x13 (leBytes 8 1 ++ leBytes 8 1)
    let s := serving (inSession (session true)) k
    s.checkTag (k.parNum 0 1) (k.parNum 8 8) (k.parNum 16 16) (k.par 0 16 ++ k.par 32 (k.len - 32)) none =
      (s.setSession 1 (some { session true with counter := 1 }), stSuccess) := by
  intro k s; simp only [State.checkTag]; rw [hg]; decide +kernel

theorem unlock_ok (he : Config.ecdsaOk = fun _ _ _ => true) :
    (serving { keyed with kpr := { keyed.kpr with nonce := some [] } } (asked 0x41 [1])).unlockOk [] 1 ((asked 0x41 [1]).par 1 96) =
      true := by
  simp only [State.unlockOk]; rw [he]; decide +kernel

theorem firmware_ok (he : Config.ecdsaOk = fun _ _ _ => true) (s : State) (h : s.kpr.fwFloor = 0) :
    s.firmwareCheck firmware = stSuccess := by
  simp only [State.firmwareCheck]; rw [he, h]; decide +kernel

theorem firmware_ok' (he : Config.ecdsaOk = fun _ _ _ => true) {s : State} {img : List Byte} (h0 : s.kpr.fwFloor = 0)
    (h : img = firmware) : s.firmwareCheck img = stSuccess := h ▸ firmware_ok he s h0

theorem tag_session (hg : Config.gcmTag = fun _ _ _ _ => 0) :
    let k := asked 0x13 (leBytes 8 1 ++ leBytes 8 1)
    let s := serving (inSession (session true)) k
    (s.checkTag (k.parNum 0 1) (k.parNum 8 8) (k.parNum 16 16) (k.par 0 16 ++ k.par 32 (k.len - 32)) none).1.session 1 =
      some { session true with counter := 1 } := by
  intro k s; simp only [State.checkTag]; rw [hg]; decide +kernel

/-- A NOP that its unit has taken. -/
def nopTaken : Taken :=
  { words := [BitVec.ofNat 128 (0x03 * 2 ^ 120)], cell := 0, tag := 0, cq := 0, epoch := 0, endsTag := true, done := none, aborts := [] }

/-- Cell 0 runs, changed by `f`. -/
def cell0 (f : CellSt → CellSt) : State := (running 0).mapCell 0 f

/-! Words of instructions, by their fields (R60 to R62). -/

theorem test_words_arithmetic :
    hiveDecode 0 (0x01 <<< 26 ||| 3 <<< 21 ||| 1 <<< 16 ||| 2 <<< 11 ||| 0x0D) = some (.divu 0 3 1 2) ∧
    hiveDecode 0 (0x02 <<< 26 ||| 3 <<< 21 ||| 1 <<< 16 ||| 0xFFFF) = some (.addi 0 3 1 0xFFFF) ∧
    hiveDecode 0 (0x08 <<< 26 ||| 3 <<< 21 ||| 1 <<< 16 ||| 0b10 <<< 5 ||| 7) = some (.shi 0 3 1 .rightArith 7) ∧
    hiveDecode 0 (0x01 <<< 26 ||| 3 <<< 21 ||| 1 <<< 16 ||| 2 <<< 11 ||| 0x0F) = none ∧
    hiveDecode 0 (0x09 <<< 26 ||| 3 <<< 21 ||| 1 <<< 16 ||| 5) = none := by decide +kernel

theorem test_words_memory_and_wide :
    hiveDecode 0 (0x0A <<< 26 ||| 31 <<< 21 ||| 1 <<< 16 ||| 8) = some (.lw 0 31 1 8) ∧
    hiveDecode 0 (0x0D <<< 26 ||| 7 <<< 21 ||| 1 <<< 16 ||| 16) = some (.sq 0 7 1 16) ∧
    hiveDecode 0 (0x0D <<< 26 ||| 8 <<< 21 ||| 1 <<< 16 ||| 16) = none ∧
    hiveDecode 0 (0x0E <<< 26 ||| 2 <<< 21 ||| 1 <<< 16 ||| 31 <<< 7 ||| 96) = some (.wdep 0 2 1 96 31) ∧
    hiveDecode 0 (0x0E <<< 26 ||| 2 <<< 21 ||| 1 <<< 16 ||| 31 <<< 7 ||| 97) = none := by decide +kernel

theorem test_words_control :
    hiveDecode 0 (0x13 <<< 26 ||| 3 <<< 21 ||| 1 <<< 16 ||| 0x8000) = some (.blt 0 3 1 0x8000) ∧
    hiveDecode 0 (0x18 <<< 26 ||| 0x3FFFFFF) = some (.jal 0 0x3FFFFFF) ∧
    hiveDecode 0 (0x19 <<< 26 ||| 3 <<< 21 ||| 1 <<< 16) = some (.jalr 0 3 1) := by decide +kernel

theorem test_words_queues_and_time :
    hiveDecode 0 (0x20 <<< 26 ||| 7 <<< 21 ||| 24) = some (.post 0 7 24 .ok) ∧
    hiveDecode 0 (0x22 <<< 26 ||| 1 <<< 21 ||| 2 <<< 16 ||| 7) = some (.take 0 1 2 7) ∧
    hiveDecode 0 (0x25 <<< 26 ||| 1 <<< 21) = some (.time 0 1) ∧
    hiveDecode 0 (0x26 <<< 26 ||| 8 <<< 21 ||| 3 <<< 16 ||| 9 <<< 11 ||| 1 <<< 10 ||| 4) = some (.swarmCommit 0 8 3 9 4) := by
  decide +kernel

theorem test_words_cells_and_csrs :
    hiveDecode 2 (0x29 <<< 26 ||| 1 <<< 21 ||| 3 <<< 8 ||| 0x0C) = some (.bar 2 1 0 3 0x0C) ∧
    hiveDecode 2 (0x29 <<< 26 ||| 1 <<< 21 ||| 3 <<< 8 ||| 0x08) = none ∧
    hiveDecode 0 (0x2B <<< 26 ||| 1 <<< 21 ||| 0xFFF) = some (.csrr 0 1 0xFFF) ∧
    hiveDecode 0 (0x2C <<< 26 ||| 1 <<< 16 ||| 0b01 <<< 12 ||| 4) = some (.csrwSet 0 1 4) ∧
    hiveDecode 0 (0x2C <<< 26 ||| 1 <<< 16 ||| 0b11 <<< 12 ||| 4) = none ∧
    hiveDecode 0 (0x2D <<< 26 ||| 0xBEEF) = some (.stop 0 0xBEEF) := by decide +kernel

/-! The spec's worked examples. -/

/-- spec/11_memory.md, "Worked example: one burst of the replay buffer". -/
theorem test_example_burst : burstOf 6 10 0x28010D2E0 = ⟨36, 0, 10241, 23, 1, 0⟩ ∧ (burstOf 6 10 0x28010D6E0).pc = 37 := by
  decide +kernel

/-- spec/10_recording_replay.md, the worked example of R358 to R361. -/
theorem test_example_packing :
    lpkString 0 [[1000, 2000, 1004, 2002, 1004, 2002]] = [0xD0, 0x0F, 0xA0, 0x1F, 0x08, 0x04, 0x00, 0x00] ∧
    (lpkPayload [208, 15, 160, 31, 8, 4, 0]).take 3 = [0xD0, 0x1E, 0x80] := by decide +kernel

/-- spec/04_raw_front_end.md, "Worked example: an HDR merge", step 6. -/
theorem test_example_merge : blend 58304 58368 58304 52000 60000 = 58355 := by decide +kernel

/-- spec/05_colour_engine.md and spec/06_compositor.md, the roundings of their worked examples. -/
theorem test_example_rn16 :
    half 35391 65536 = 0x3852 ∧ half 19661 65536 = 0x34CD ∧ half 550048828125 1000000000000 = 0x3866 ∧
    half 225067138671875 1000000000000000 = 0x3334 ∧ half 475006103515625 1000000000000000 = 0x379A ∧
    half 124969482421875 1000000000000000 = 0x3000 := by decide +kernel

/-- spec/08_lanes_tile_link.md, "Worked example: one line on WL_9": KEEP and the status entry. -/
theorem test_example_tile_link :
    ctrlBlock 0x66 (200 + 9 <<< 14) = (true, 0x0000_0000_0240_C866) ∧ entryAddr 9 45 = 0x10_03C0_92D0 ∧
    ctrlBlock 0x4B (45 + 84 <<< 17 + 255 <<< 31) = (true, 0x0000_7F80_A800_2D4B) := by decide +kernel

/-- spec/14_safety_power_reset.md, word 0 of the SUPPLY_DIP record of its worked example. -/
theorem test_example_record :
    ofLe ((recordBytes ⟨0x04, 0, 0x13, 0, 5001800000, 706832704, 1, 0, 0, false, none, false⟩ false false 0x2F41).take 16) =
      0x00000001_2A216940_2A216940_00011304 := by decide +kernel

/-! One step of a few commands. -/

/-- `s` with `c` at the front of its queue, one step later. -/
def after (s : State) (c : Instr) : State :=
  match step { s with pending := [c] } with
  | .next t => t
  | _ => s

/-- Cell 0 runs with two values in g1 and g2. -/
def holding (a b : Word) : State := (running 0).mapCell 0 (fun c => (c.putG 1 a).putG 2 b)

theorem test_add_wraps : ((after (holding 0xFFFFFFFF 1) (.add 0 3 1 2)).cell 0).getG 3 = 0 := by decide +kernel
theorem test_divu_by_zero : ((after (holding 7 0) (.divu 0 3 1 2)).cell 0).getG 3 = 0xFFFFFFFF := by decide +kernel
theorem test_g0_reads_zero : ((after (holding 7 1) (.add 0 0 1 2)).cell 0).getG 0 = 0 := by decide +kernel
theorem test_branch_back : ((after (holding 7 7) (.beq 0 1 2 0xFFFF)).cell 0).pc = ((holding 7 7).cell 0).pc := by decide +kernel
theorem test_stop_ends : ((after (holding 0 0) (.stop 0 0xBEEF)).cell 0).state = 4 := by decide +kernel

/-- A descriptor with a wrong length finishes with BAD_LENGTH, 0x07 (R39). -/
theorem test_bad_length :
    ((after (headed base 19 (cmd 0x10 1 0 [0])) .memFill).cq 0).map (fun i => qbits i.word 95 88) = [0x07] := by decide +kernel


/-- The reset values of COMB_CAP, LNX_Q12_CAP and CMP_CAP by variant (R426, R308, R239). -/
theorem test_caps_by_variant :
    regInit .ew9760 Straps.none Reg.combCap = 0xA0010000#32 ∧ regInit .ew9750 Straps.none (Reg.lnxCap 12) = 0xC1400000#32 ∧
    regInit .ew9730 Straps.none Reg.cmpCap = 0xA43F4086#32 := by decide +kernel

/-- The reserved mode 3 of HCI_TW_n_CTRL is taken as mode 0 (R10, R473). -/
theorem test_tw_mode_reserved :
    twTiming (bitsOf (twCtrlValue 0x60000000#32) 30 29) = (0x00FA00FA, 0x0FD7FAD7, 0xFA000000) := by decide +kernel

/-! Witnesses: for each obligation, states and operands that meet the hypotheses of its clauses. -/

theorem test_witness_StepRunsTheFrontCommand :
    (let s : State := { base with pending := [.governorEvaluation] }
    let c : Instr := .governorEvaluation
    let rest : List Instr := []
    s.pending = c :: rest) ∧
    (let s : State := base
    s.Live ∧ s.pending = []) :=
  by and_intros <;> decide +kernel

theorem test_witness_EveryStepAnswersAndKeepsTheDevice :
    let s : State := base
    s.Settled :=
  by decide +kernel

theorem test_witness_CellInstructionsEncodeBothWays :
    (let i : Instr := .add 0 1 2 3
    let c : Cell := 0
    let w : Nat := 0x04221800
    i.wf = true ∧ hiveEncode i = some (c, w)) ∧
    (let i : Instr := .add 0 1 2 3
    let c : Cell := 0
    let w : Nat := 0x04221800
    w < 2 ^ 32 ∧ hiveDecode c w = some i) :=
  by and_intros <;> decide +kernel

theorem test_witness_DramAddressesAndBurstsMatch :
    (let b : Nat := 5
    let g : Nat := 8
    let top := 3 * 2 ^ 28 * 2 ^ b
    let a := 0
    (b = 5 ∨ b = 6) ∧ 8 ≤ g ∧ g ≤ 12 ∧ a < top) ∧
    (let b : Nat := 6
    let g : Nat := 12
    let top := 3 * 2 ^ 28 * 2 ^ b
    let a := 0
    let a' := 1
    (b = 5 ∨ b = 6) ∧ 8 ≤ g ∧ g ≤ 12 ∧ a < top ∧ a' < top) ∧
    (let b : Nat := 6
    let g : Nat := 8
    let x : Burst := { pc := 63, sid := 2, row := 16383, col := 31, bg := 3, ba := 3 }
    (b = 5 ∨ b = 6) ∧ 8 ≤ g ∧ g ≤ 12 ∧ x.pc < 2 ^ b ∧ x.sid < 3 ∧ x.row < 2 ^ 14 ∧ x.col < 32 ∧ x.bg < 4 ∧ x.ba < 4) :=
  by and_intros <;> decide +kernel

theorem test_witness_StoredBytesAreReadBack :
    (let s : State := base
    let a : Nat := 0
    let bs : List Byte := [1]
    let x := 2
    (wordsOf a bs.length).any (fun w => s.discards (w * 16)) = false ∧ (x < a ∨ a + bs.length ≤ x)) ∧
    (let s : State := base
    let a : Nat := 0
    let bs : List Byte := [1]
    (wordsOf a bs.length).any (fun w => s.discards (w * 16)) = false ∧ Memory.wf s.mem = true) ∧
    (let s : State := base
    let a : Nat := 0
    let bs : List Byte := [1]
    let bad : Bool := true
    let w := 0
    (wordsOf a bs.length).any (fun w => s.discards (w * 16)) = false ∧ bad = true ∧ w ∈ wordsOf a bs.length) ∧
    (let s : State := State.reset.powerDown 23
    let a : Nat := combBase
    let bs : List Byte := [1]
    (wordsOf a bs.length).all (fun w => s.discards (w * 16)) = true) :=
  by and_intros <;> decide +kernel

theorem test_witness_InertDeviceIgnoresCommands :
    let s : State := { base with inert := true }
    let i : Instr := .governorEvaluation
    s.inert = true ∧ i ≠ .powerOnReset ∧ i ≠ .resetNAssert ∧ (∀ st, i ≠ .resetRelease st) ∧ (∀ l, i ≠ .sensorRead l) :=
  ⟨by decide +kernel, by intros; simp, by intros; simp, by intros; simp, by intros; simp⟩

theorem test_witness_ContentLockStopsTheHost :
    (let s : State := base.setFld Reg.kprStatus 16 16 1
    let k : Nat := 0xC0000
    s.Live ∧ s.contentLock = true ∧ s.hostOut = false ∧ k % 4 = 0 ∧ lockedWindow (k / 65536) = true ∧ windowAbsent s.variant (k
        / 65536) = false) ∧
    (let s : State := (base.setFld Reg.kprStatus 16 16 1).setReg (Reg.kprProt 0 1) 1
    let bar4 : Bool := true
    let off : Nat := 0
    let bs : List Byte := [1]
    s.Live ∧ s.contentLock = true ∧ s.hostOut = false ∧ s.isPowered 28 = true ∧ (bar4 = true → s.memReady = true) ∧ off +
        bs.length ≤ (if bar4 then 2 ^ 32 else 0x400_0000) ∧ s.protectedRange (s.barAddr bar4 off) bs.length = true) :=
  by and_intros <;> decide +kernel

theorem test_witness_RegisterWriteSetsRwAndClearsW1c :
    (let s : State := base
    let k : Nat := 0x100000
    s.Live ∧ k % 4 = 0 ∧ regsBase + k < regsTop) ∧
    (let s : State := base
    let m : Master := .host
    let k : Nat := 0x100000
    let r := (regRow 0x100000).getD ⟨0, 0, 0, [], 0, 0, 0⟩
    s.Open m k ∧ k / 65536 ∈ [0x10, 0x20, 0x21, 0x22, 0x23, 0x28, 0x2C, 0x2D, 0x40, 0x41, 0x42, 0x43] ∧ k % 65536 < 0xFC00 ∧ k
        % 4 = 0 ∧ regRow k = some r) ∧
    (let s : State := base
    let m : Master := .host
    let k : Nat := 0x10F000
    s.Open m k ∧ k / 65536 ∈ [0x10, 0x20, 0x21, 0x22, 0x23, 0x28, 0x2C, 0x2D, 0x40, 0x41, 0x42, 0x43] ∧ k % 65536 < 0xFC00 ∧ k
        % 4 = 0 ∧ regRow k = none) :=
  by and_intros <;> decide +kernel

theorem test_witness_HostAccessesComplete :
    (let s : State := base
    let a : Nat := regsBase + 0x1F0000
    s.Live ∧ regsBase ≤ a ∧ a < regsTop ∧ windowAbsent s.variant ((a - regsBase) / 65536) = true) ∧
    (let s : State := base
    let off : Nat := 0
    let bs : List Byte := [1]
    s.Live ∧ s.isPowered 28 = true ∧ s.contentLock = false ∧ s.hostOut = false ∧ off + bs.length ≤ 0x400_0000 ∧ s.rangeThere
        (combBase + off) bs.length = true) ∧
    (let s : State := base
    let off : Nat := 0
    let bs : List Byte := [1]
    s.Live ∧ s.isPowered 28 = true ∧ s.contentLock = false ∧ s.hostOut = false ∧ s.memReady = true ∧ off + bs.length ≤ 2 ^ 32 ∧
        s.barAddr true off + bs.length ≤ dramTop s.variant ∧ s.rangeThere (s.barAddr true off) bs.length = true) ∧
    (let s : State := base
    let off : Nat := 0
    let len : Nat := 1
    s.Live ∧ s.isPowered 28 = true ∧ s.hostOut = false ∧ off + len ≤ 0x400_0000 ∧ s.rangeThere (combBase + off) len = true) ∧
    (let s : State := base
    let off : Nat := 0
    let len : Nat := 1
    s.Live ∧ s.isPowered 28 = true ∧ s.hostOut = false ∧ s.memReady = true ∧ off + len ≤ 2 ^ 32 ∧ s.barAddr true off + len ≤
        dramTop s.variant ∧ s.rangeThere (s.barAddr true off) len = true) ∧
    (let s : State := base
    let a : Nat := combBase
    let bs : List Byte := [1]
    s.flaws = [] ∧ s.memGone a = false ∧ s.reg (Reg.memPcFailed 0) = 0 ∧ s.reg (Reg.memPcFailed 1) = 0 ∧ inImem s.variant a =
        false ∧ guardHit a bs.length = none) :=
  by and_intros <;> decide +kernel

theorem test_witness_CommonCommandsComplete :
    (let s : State := (headed base 0 (cmd 0x01 0 0x0 []))
    let q : Fin 64 := 0
    let d : Desc := (cmd 0x01 0 0x0 [])
    let rest : List Desc := []
    q.val < 25 ∧ s.Ready q 0x01 [0] d rest ∧ (q.val ≤ 3 → (s.port q).awaitMap = false) ∧ BitVec.ofNat 8 (qbits d.w0 119 112) =
        s.epoch (queueDomain q)) ∧
    (let s : State := (headed base 0 (cmd 0x03 0 0x0 []))
    let q : Fin 64 := 0
    let d : Desc := (cmd 0x03 0 0x0 [])
    let rest : List Desc := []
    q.val < 25 ∧ s.Ready q 0x03 [0] d rest ∧ (q.val ≤ 3 → (s.port q).awaitMap = false) ∧ (s.queue q).taken = []) ∧
    (let s : State := (headed (base.setQueue 0 { base.queue 0 with taken := [nopTaken] }) 0 (cmd 0x03 0 0x0 []))
    let q : Fin 64 := 0
    let d : Desc := (cmd 0x03 0 0x0 [])
    let rest : List Desc := []
    q.val < 25 ∧ s.Ready q 0x03 [0] d rest ∧ (q.val ≤ 3 → (s.port q).awaitMap = false) ∧ (s.queue q).taken ≠ []) ∧
    (let s : State := base.setQueue 0 { base.queue 0 with taken := [nopTaken] }
    let q : Fin 64 := 0
    let t : Taken := nopTaken
    let l : List Taken := []
    s.Live ∧ (s.queue q).taken = t :: l ∧ w0Opcode (t.word 0) = 0x03 ∧ t.done = none) ∧
    (let s : State := base.setQueue 0 { base.queue 0 with waiting := [cmd 0x10 0 0 [], cmd 0x02 0 (5 * 2 ^ 72 + 2 ^ 96) []] }
    let q : Fin 64 := 0
    let a : Desc := cmd 0x02 0 (5 * 2 ^ 72 + 2 ^ 96) []
    let d : Desc := cmd 0x10 0 0 []
    q.val < 25 ∧ s.Live ∧ s.blocked q = false ∧ (q.val ≤ 3 → (s.port q).awaitMap = false) ∧ (s.queue q).waiting = [d, a] ∧
        w0Opcode a.w0 = 0x02 ∧ a.flt = .ok ∧ s.commonCheck q a = none ∧ w0Len a.w0 = 0 ∧ w0Opcode d.w0 ≠ 0x02 ∧ d.dup = false ∧
        qbits a.w0 87 72 = w0Tag d.w0 ∧ w0Tag d.w0 ≠ w0Tag a.w0) ∧
    (let s : State := base
    s.Live) :=
  by and_intros <;> decide +kernel

theorem test_witness_StagesAndMetersComplete :
    (let s : State := base
    let w : Fin 256 := 0x10
    let g : BitVec 8 := 0
    s.Live ∧ s.unitRuns w = true ∧ (w.val, g.toNat) ∉ s.stalled) ∧
    (let s : State := base
    let w : Fin 256 := 0x10
    s.Live ∧ s.unitRuns w = true ∧ windowStall w = true) ∧
    (let s : State := base
    let w : Fin 256 := 0x40
    let n : Fin 16 := 0
    s.Live ∧ s.unitRuns w = true ∧ hasMeter w n = true) ∧
    (let s : State := base
    let m : Master := .host
    let w : Fin 256 := 0x40
    let n : Fin 16 := 0
    let v : Word := 0x80000000
    s.Open m (Reg.cbPaceCtrl w n) ∧ hasMeter w n = true ∧ bitsOf v 31 31 = 1) :=
  by and_intros <;> decide +kernel

theorem test_witness_GovernorAndCountsComplete :
    (let s : State := ((governed id).setFld Reg.govCtrl 31 31 1).setFld Reg.govLimits 31 22 600
    let s1 := (s.judgeLimits).setFld Reg.govStatus 30 30 0
    s.Live ∧ s.fld Reg.govCtrl 31 31 = 1 ∧ s.gov.settling = false ∧ s.gov.xfer = .none ∧ s.fld Reg.govStatus 29 29 = 0 ∧
        s.gov.heldSetpoint = none ∧ s1.fld Reg.govStatus 28 28 ≠ 0) ∧
    (let s : State := (governed id).setFld Reg.govCtrl 31 31 1
    let s1 := (s.judgeLimits).setFld Reg.govStatus 30 30 0
    let ms := s1.partMeters
    s.Live ∧ s.fld Reg.govCtrl 31 31 = 1 ∧ s.gov.settling = false ∧ s.gov.xfer = .none ∧ s.fld Reg.govStatus 29 29 = 0 ∧
        s.gov.heldSetpoint = none ∧ s1.fld Reg.govStatus 28 28 = 0 ∧ ms = []) ∧
    (let s : State := paced 100 50
    let s1 := (s.judgeLimits).setFld Reg.govStatus 30 30 0
    let ms := s1.partMeters
    s.Live ∧ s.fld Reg.govCtrl 31 31 = 1 ∧ s.gov.settling = false ∧ s.gov.xfer = .none ∧ s.fld Reg.govStatus 29 29 = 0 ∧
        s.gov.heldSetpoint = none ∧ s1.fld Reg.govStatus 28 28 = 0 ∧ ms.any (fun p => decide (p.2 < p.1)) = true) ∧
    (let s : State := paced 100 105
    let s1 := (s.judgeLimits).setFld Reg.govStatus 30 30 0
    let ms := s1.partMeters
    s.Live ∧ s.fld Reg.govCtrl 31 31 = 1 ∧ s.gov.settling = false ∧ s.gov.xfer = .none ∧ s.fld Reg.govStatus 29 29 = 0 ∧
        s.gov.heldSetpoint = none ∧ s1.fld Reg.govStatus 28 28 = 0 ∧ ms.any (fun p => decide (p.2 < p.1)) = false ∧ ms.any (fun
        p => decide (10 * p.2 < 11 * p.1)) = true) ∧
    (let s : State := (paced 100 200).setFld Reg.govCtrl 23 16 1
    let s1 := (s.judgeLimits).setFld Reg.govStatus 30 30 0
    let ms := s1.partMeters
    s.Live ∧ s.fld Reg.govCtrl 31 31 = 1 ∧ s.gov.settling = false ∧ s.gov.xfer = .none ∧ s.fld Reg.govStatus 29 29 = 0 ∧
        s.gov.heldSetpoint = none ∧ s1.fld Reg.govStatus 28 28 = 0 ∧ ms ≠ [] ∧ ms.all (fun p => decide (1155 * p.1 < 1000 *
        p.2)) = true ∧ s1.gov.warnSeen = false ∧ s1.supplyWarn = false ∧ max 1 (s1.fld Reg.govCtrl 23 16) ≤ s1.gov.count + 1) ∧
    (let s : State := (paced 100 200).setFld Reg.govCtrl 23 16 3
    let s1 := (s.judgeLimits).setFld Reg.govStatus 30 30 0
    let ms := s1.partMeters
    s.Live ∧ s.fld Reg.govCtrl 31 31 = 1 ∧ s.gov.settling = false ∧ s.gov.xfer = .none ∧ s.fld Reg.govStatus 29 29 = 0 ∧
        s.gov.heldSetpoint = none ∧ s1.fld Reg.govStatus 28 28 = 0 ∧ ms ≠ [] ∧ ms.all (fun p => decide (1155 * p.1 < 1000 *
        p.2)) = true ∧ s1.gov.warnSeen = false ∧ s1.supplyWarn = false ∧ s1.gov.count + 1 < s1.fld Reg.govCtrl 23 16) ∧
    (let s : State := paced 100 112
    let s1 := (s.judgeLimits).setFld Reg.govStatus 30 30 0
    let ms := s1.partMeters
    s.Live ∧ s.fld Reg.govCtrl 31 31 = 1 ∧ s.gov.settling = false ∧ s.gov.xfer = .none ∧ s.fld Reg.govStatus 29 29 = 0 ∧
        s.gov.heldSetpoint = none ∧ s1.fld Reg.govStatus 28 28 = 0 ∧ ms.all (fun p => decide (11 * p.1 ≤ 10 * p.2)) = true ∧
        ms.any (fun p => decide (1000 * p.2 ≤ 1155 * p.1)) = true) ∧
    (let s : State := governed (fun g => { g with settling := true })
    s.Live ∧ s.gov.settling = true) ∧
    (let s : State := governed (fun g => { g with xfer := .vout 800 1 })
    let mv : Nat := 800
    let n : Nat := 1
    s.Live ∧ s.gov.xfer = .vout mv n ∧ n < 3) ∧
    (let s : State := governed (fun g => { g with xfer := .vout 800 3 })
    let mv : Nat := 800
    let n : Nat := 3
    s.Live ∧ s.gov.xfer = .vout mv n ∧ 3 ≤ n) ∧
    (let s : State := governed (fun g => { g with xfer := .mode 1 })
    let n : Nat := 1
    let mode : Byte := 0
    let kind := if mode.toNat / 32 = 0 then 0 else if mode.toNat / 32 = 3 then 1 else 2
    s.Live ∧ s.gov.xfer = .mode n ∧ kind ≠ 2) ∧
    (let s : State := governed (fun g => { g with xfer := .mode 1 })
    let n : Nat := 1
    let mode : Byte := 0x40
    let kind := if mode.toNat / 32 = 0 then 0 else if mode.toNat / 32 = 3 then 1 else 2
    s.Live ∧ s.gov.xfer = .mode n ∧ kind = 2) ∧
    (let s : State := governed (fun g => { g with xfer := .mode 1 })
    let n : Nat := 1
    s.Live ∧ s.gov.xfer = .mode n ∧ n < 3) ∧
    (let s : State := base.setFld Reg.govStatus 29 29 1
    let m : Master := .host
    let v : Word := 0x20000000
    let s1 := s.maskedWrite Reg.govStatus v
    s.Open m Reg.govStatus ∧ s.fld Reg.govStatus 29 29 = 1 ∧ s1.fld Reg.govStatus 29 29 = 0) ∧
    (let s : State := base
    let m : Master := .host
    s.Open m Reg.govLimits) ∧
    (let s : State := base
    let m : Master := .host
    let w : Fin 256 := 0x40
    s.Open m (Reg.cbEccThresh w)) ∧
    (let s : State := base
    let m : Master := .host
    let w : Fin 256 := 0x40
    let n : Fin 64 := 0
    let v : Word := 0
    let s1 := s.maskedWrite (Reg.cbEcc w n) v
    s.Open m (Reg.cbEcc w n) ∧ s1.fld (Reg.cbEcc w n) 15 0 = 0) ∧
    (let s : State := base.setFld (Reg.cbEcc 0x40 0) 15 0 5
    let m : Master := .host
    let w : Fin 256 := 0x40
    let n : Fin 64 := 0
    let v : Word := 0
    let s1 := s.maskedWrite (Reg.cbEcc w n) v
    s.Open m (Reg.cbEcc w n) ∧ s1.fld (Reg.cbEcc w n) 15 0 ≠ 0) :=
  by and_intros <;> decide +kernel

theorem test_witness_AluFunctionsWriteTheirResult :
    (let func : Nat := 0
    (func < 2 ^ 11)) ∧
    (let s : State := (running 0)
    let c : Cell := 0
    s.Runs c) :=
  by and_intros <;> decide +kernel

theorem test_witness_ImmediateAndWideInstructionsWriteTheirResult :
    let s : State := (running 0)
    let c : Cell := 0
    let p : BitVec 7 := 0
    let l : BitVec 5 := 0
    s.Runs c ∧ fieldFits p l = true :=
  by decide +kernel

theorem test_witness_FieldsLieInsideTheirRegister :
    (let w : Nat := 0x38000FFF
    (wMajor w = 0x0E ∨ wMajor w = 0x0F) ∧ 128 < wImm w % 128 + (wImm w / 128 % 32 + 1)) ∧
    (let s : State := (running 0)
    let c : Cell := 0
    let p : BitVec 7 := 0
    let l : BitVec 5 := 0
    let k := 0
    s.Runs c ∧ fieldFits p l = true ∧ k < 128) :=
  by and_intros <;> decide +kernel

theorem test_witness_BranchesAndJumpsSetPc :
    (let s : State := (running 0)
    let c : Cell := 0
    let rs : Gr := 1
    let s0 := s.cellFetch c
    let t := (s0.cell c).getG rs
    s.Runs c ∧ t.toNat % 4 = 0) ∧
    (let s : State := cell0 (fun c => { c with g := [(1, 2)] })
    let c : Cell := 0
    let rs : Gr := 1
    let s0 := s.cellFetch c
    let t := (s0.cell c).getG rs
    s.Runs c ∧ t.toNat % 4 ≠ 0) :=
  by and_intros <;> decide +kernel

theorem test_witness_LoadsAndStoresReachMemory :
    (let s : State := cell0 (fun c => { c with g := [(1, 0x7FFFFFF0)] })
    let c : Cell := 0
    let rs : Gr := 1
    let i : BitVec 16 := 0
    let s0 := s.cellFetch c
    let a := cellAddress ((s0.cell c).getG rs) i
    let at_ := cellTarget s.variant c (s0.cell c).dramBase a
    s.Runs c ∧ a % 16 = 0 ∧ (at_ = .none ∨ ∃ k, at_ = .reg k)) ∧
    (let s : State := (running 0)
    let c : Cell := 0
    let rs : Gr := 1
    let i : BitVec 16 := 0
    let s0 := s.cellFetch c
    let a := cellAddress ((s0.cell c).getG rs) i
    let at_ := cellTarget s.variant c (s0.cell c).dramBase a
    let x := dmemBase 0
    let s1 := (s0.goneAccess (.cell c) false x).meet x 4
    s.Runs c ∧ at_ = .mem x ∧ s0.rangeThere x 4 = true ∧ a % 4 = 0 ∧ s1.poisonedAt x 4 = false) ∧
    (let s : State := { running 0 with poison := [(dmemBase 0 / 16, true)] }
    let c : Cell := 0
    let rs : Gr := 1
    let i : BitVec 16 := 0
    let s0 := s.cellFetch c
    let a := cellAddress ((s0.cell c).getG rs) i
    let at_ := cellTarget s.variant c (s0.cell c).dramBase a
    let x := dmemBase 0
    let s1 := (s0.goneAccess (.cell c) false x).meet x 4
    s.Runs c ∧ at_ = .mem x ∧ s0.rangeThere x 4 = true ∧ a % 4 = 0 ∧ s1.poisonedAt x 4 = true) ∧
    (let s : State := (running 0)
    let c : Cell := 0
    let rs : Gr := 1
    let i : BitVec 16 := 0
    let s0 := s.cellFetch c
    let a := cellAddress ((s0.cell c).getG rs) i
    let at_ := cellTarget s.variant c (s0.cell c).dramBase a
    let x := dmemBase 0
    let s1 := (s0.goneAccess (.cell c) false x).meet x 16
    s.Runs c ∧ at_ = .mem x ∧ s0.rangeThere x 16 = true ∧ a % 16 = 0 ∧ s1.poisonedAt x 16 = false) ∧
    (let s : State := { running 0 with poison := [(dmemBase 0 / 16, true)] }
    let c : Cell := 0
    let rs : Gr := 1
    let i : BitVec 16 := 0
    let s0 := s.cellFetch c
    let a := cellAddress ((s0.cell c).getG rs) i
    let at_ := cellTarget s.variant c (s0.cell c).dramBase a
    let x := dmemBase 0
    let s1 := (s0.goneAccess (.cell c) false x).meet x 16
    s.Runs c ∧ at_ = .mem x ∧ s0.rangeThere x 16 = true ∧ a % 16 = 0 ∧ s1.poisonedAt x 16 = true) ∧
    (let s : State := cell0 (fun c => { c with g := [(1, 0x08100000)] })
    let c : Cell := 0
    let rs : Gr := 1
    let i : BitVec 16 := 0
    let s0 := s.cellFetch c
    let a := cellAddress ((s0.cell c).getG rs) i
    let at_ := cellTarget s.variant c (s0.cell c).dramBase a
    let k := 0x100000
    s.Runs c ∧ at_ = .reg k ∧ a % 4 = 0) ∧
    (let s : State := (running 0)
    let c : Cell := 0
    let rs : Gr := 1
    let i : BitVec 16 := 1
    let s0 := s.cellFetch c
    let a := cellAddress ((s0.cell c).getG rs) i
    s.Runs c ∧ a % 4 ≠ 0) ∧
    (let s : State := (running 0)
    let c : Cell := 0
    let rs : Gr := 1
    let i : BitVec 16 := 1
    let s0 := s.cellFetch c
    let a := cellAddress ((s0.cell c).getG rs) i
    s.Runs c ∧ a % 16 ≠ 0) ∧
    (let s : State := cell0 (fun c => { c with g := [(1, 0x7FFFFFFC)] })
    let c : Cell := 0
    let rs : Gr := 1
    let i : BitVec 16 := 0
    let s0 := s.cellFetch c
    let a := cellAddress ((s0.cell c).getG rs) i
    let at_ := cellTarget s.variant c (s0.cell c).dramBase a
    s.Runs c ∧ a % 4 = 0 ∧ at_ = .none) :=
  ⟨⟨by decide +kernel, by decide +kernel, Or.inl (by decide +kernel)⟩, by and_intros <;> decide +kernel⟩

theorem test_witness_PostAndTakeComplete :
    (let s : State := (running 0)
    let c : Cell := 0
    let rd : Wr := 0
    let q : Fin 64 := 0
    let s0 := s.cellFetch c
    let len := w0Len ((s0.cell c).getW rd)
    s.Runs c ∧ rd.val + len ≤ 7 ∧ s0.hasRoom q (len + 1) = true) ∧
    (let s : State := (running 0).setQueue 0 { base.queue 0 with waiting := List.replicate 512 (cmd 0x03 0 0 []) }
    let c : Cell := 0
    let rd : Wr := 0
    let q : Fin 64 := 0
    let s0 := s.cellFetch c
    let len := w0Len ((s0.cell c).getW rd)
    s.Runs c ∧ rd.val + len ≤ 7 ∧ s0.hasRoom q (len + 1) = false) ∧
    (let s : State := (running 0)
    let c : Cell := 0
    let rs : Gr := 0
    let q : Fin 64 := 0
    let s0 := s.cellFetch c
    let a := ((s0.cell c).getG rs).toNat
    let x := dmemBase c + a
    let s1 := s0.meet x 16
    let len := w0Len (s1.quadAt x)
    let s2 := (List.range len).foldl (fun s i => s.meet (x + 16 * (i + 1)) 16) s1
    s.Runs c ∧ a % 16 = 0 ∧ a < 0x3_0000 ∧ s1.poisonedAt x 16 = false ∧ s2.poisonedAt x (16 * (len + 1)) = false ∧ s2.hasRoom q
        (len + 1) = true) ∧
    (let s : State := (running 0).setQueue 0 { base.queue 0 with waiting := List.replicate 512 (cmd 0x03 0 0 []) }
    let c : Cell := 0
    let rs : Gr := 0
    let q : Fin 64 := 0
    let s0 := s.cellFetch c
    let a := ((s0.cell c).getG rs).toNat
    let x := dmemBase c + a
    let s1 := s0.meet x 16
    let len := w0Len (s1.quadAt x)
    let s2 := (List.range len).foldl (fun s i => s.meet (x + 16 * (i + 1)) 16) s1
    s.Runs c ∧ a % 16 = 0 ∧ a < 0x3_0000 ∧ s1.poisonedAt x 16 = false ∧ s2.poisonedAt x (16 * (len + 1)) = false ∧ s2.hasRoom q
        (len + 1) = false) ∧
    (let s : State := cell0 (fun c => { c with wait := .post 0 [0] .ok })
    let c : Cell := 0
    let q : Nat := 0
    let words : List Quad := [0]
    let flt : DescFault := .ok
    s.Live ∧ (s.cell c).wait = .post q words flt ∧ s.hasRoom q words.length = true) ∧
    (let s : State := (running 0).setCq 0 [⟨7, true⟩]
    let c : Cell := 0
    let q : Fin 64 := 0
    let s1 := (s.cellFetch c).meetUnit (0x50 + c) (2 + q % 8)
    let i := ⟨7, true⟩
    let rest := []
    s.Runs c ∧ q.val / 8 = c ∧ s1.cq q = i :: rest) ∧
    (let s : State := running 0
    let c : Cell := 0
    let q : Fin 64 := 0
    let s1 := (s.cellFetch c).meetUnit (0x50 + c) (2 + q % 8)
    s.Runs c ∧ q.val / 8 = c ∧ s1.cq q = []) ∧
    (let s : State := (running 0)
    let c : Cell := 0
    let q : Fin 64 := 8
    s.Runs c ∧ q.val / 8 ≠ c) :=
  by and_intros <;> decide +kernel

theorem test_witness_WaitsAndAlarmsComplete :
    (let s : State := cell0 (fun c => { c with evpend := 8, evmask := 8 })
    let c : Cell := 0
    let s0 := s.cellFetch c
    let e := 3
    s.Runs c ∧ (s0.cell c).hit = some e) ∧
    (let s : State := running 0
    let c : Cell := 0
    let s0 := s.cellFetch c
    s.Runs c ∧ (s0.cell c).hit = none) ∧
    (let s : State := cell0 (fun c => { c with evpend := 8, evmask := 8, wait := .event 1 false })
    let c : Cell := 0
    let rd : Nat := 1
    let b : Bool := false
    let e : Nat := 3
    s.Live ∧ (s.cell c).wait = .event rd b ∧ (s.cell c).hit = some e) ∧
    (let s : State := cell0 (fun c => { c with wait := .event 1 true })
    let c : Cell := 0
    let rd : Nat := 1
    s.Live ∧ (s.cell c).wait = .event rd true ∧ (s.cell c).hit = none) ∧
    (let s : State := (running 0)
    let c : Cell := 0
    s.Runs c) ∧
    (let s : State := cell0 (fun c => { c with g := [(1, 1000)] })
    let c : Cell := 0
    let rs : Gr := 1
    let s0 := s.cellFetch c
    s.Runs c ∧ reached s0.bcn.ns ((s0.cell c).getG rs) = false) ∧
    (let s : State := cell0 (fun c => { c with alarm := .armed })
    let c : Cell := 0
    s.Live ∧ (s.cell c).alarm = .armed ∧ reached s.bcn.ns (s.cell c).alarmTime = true ∧ s.isPowered (cellDomain c) = true) :=
  by and_intros <;> decide +kernel

theorem test_witness_CommitsAndSnapshotsComplete :
    (let s : State := (running 0)
    let c : Cell := 0
    let g : Fin 16 := 9
    s.Runs c ∧ 9 ≤ g.val) ∧
    (let s : State := { running 0 with variant := .ew9730 }
    let c : Cell := 0
    let g : Fin 16 := 3
    let s0 := s.cellFetch c
    s.Runs c ∧ g.val < 9 ∧ groupAbsent s0.variant g = true) ∧
    (let s : State := running 0
    let c : Cell := 0
    let g : Fin 16 := 4
    let s0 := s.cellFetch c
    s.Runs c ∧ g.val = 4 ∧ groupAbsent s0.variant g = false ∧ s0.locked = false) ∧
    (let s : State := (running 0)
    let c : Cell := 0
    let g : Fin 16 := 0
    let s0 := s.cellFetch c
    s.Runs c ∧ g.val < 9 ∧ groupAbsent s0.variant g = false ∧ (g.val = 4 → s0.locked = true)) ∧
    (let s : State := { running 0 with cas := { Cas.empty with enable := true } }
    let c : Cell := 0
    let rs : Gr := 1
    let g : Fin 16 := 0
    let s0 := s.cellFetch c
    let f := ((s0.cell c).getG rs).toNat
    s.Runs c ∧ g.val ≤ 4 ∧ groupAbsent s0.variant g = false ∧ (g.val = 4 → s0.locked = true) ∧ s0.commitTooLate g f = true) ∧
    (let s : State := running 0
    let c : Cell := 0
    let rs : Gr := 1
    let g : Fin 16 := 0
    let s0 := s.cellFetch c
    let f := ((s0.cell c).getG rs).toNat
    s.Runs c ∧ g.val ≤ 4 ∧ groupAbsent s0.variant g = false ∧ (g.val = 4 → s0.locked = true) ∧ s0.commitTooLate g f = false) :=
  by and_intros <;> decide +kernel

theorem test_witness_OrderingAndMailboxesComplete :
    (let s : State := (running 0)
    let c : Cell := 0
    let k : BitVec 2 := 0
    let s0 := s.cellFetch c
    s.Runs c ∧ (k.getLsbD 1 = false ∨ s0.cellDrained c = true)) ∧
    (let s : State := (running 0).setQueue 10 { base.queue 10 with taken := [(cmd 0x10 0 0 []).taken 0] }
    let c : Cell := 0
    let k : BitVec 2 := 2
    let s0 := s.cellFetch c
    s.Runs c ∧ k.getLsbD 1 = true ∧ s0.cellDrained c = false) ∧
    (let s : State := cell0 (fun c => { c with wait := .fence })
    let c : Cell := 0
    s.Live ∧ (s.cell c).wait = .fence ∧ s.cellDrained c = true) ∧
    (let s : State := (running 0)
    let c : Cell := 0
    let b : Fin 4 := 0
    let mask : BitVec 8 := 1
    let s0 := s.cellFetch c
    let arrived := (s0.barrier b).arrived ++ [c.val]
    s.Runs c ∧ mask.getLsbD c = true ∧ ((s0.barrier b).arrived = [] ∨ (s0.barrier b).mask = mask) ∧ (∀ n, n < 8 → mask.getLsbD
        n = true → n ∈ arrived)) ∧
    (let s : State := (running 0)
    let c : Cell := 0
    let b : Fin 4 := 0
    let mask : BitVec 8 := 3
    let s0 := s.cellFetch c
    let arrived := (s0.barrier b).arrived ++ [c.val]
    s.Runs c ∧ mask.getLsbD c = true ∧ ((s0.barrier b).arrived = [] ∨ (s0.barrier b).mask = mask) ∧ (∃ n, n < 8 ∧ mask.getLsbD
        n = true ∧ n ∉ arrived)) ∧
    (let s : State := cell0 (fun c => { c with wait := .bar 0 1 true })
    let c : Cell := 0
    let b : Nat := 0
    let rd : Nat := 1
    s.Live ∧ (s.cell c).wait = .bar b rd true) ∧
    (let s : State := (running 0)
    let c : Cell := 0
    let dest : Fin 9 := 8
    let s0 := s.cellFetch c
    s.Runs c ∧ dest.val = 8 ∧ s0.hive.hostBox.length < 16) ∧
    (let s : State := (running 0)
    let c : Cell := 0
    let dest : Fin 9 := 1
    let s0 := s.cellFetch c
    s.Runs c ∧ dest.val < 8 ∧ s0.isPowered (cellDomain dest) = true ∧ (s0.cell dest).inbox.length < 16) ∧
    (let s : State := base.mapCell 0 (fun c => { c with state := 2, inbox := List.replicate 16 0 })
    let c : Cell := 0
    let dest : Fin 9 := 0
    let s0 := s.cellFetch c
    s.Runs c ∧ dest.val < 8 ∧ 16 ≤ (s0.cell dest).inbox.length) ∧
    (let s : State := cell0 (fun c => { c with inbox := [7] })
    let c : Cell := 0
    let s1 := (s.cellFetch c).meetUnit (0x50 + c) 10
    let m := 7
    let rest := []
    s.Runs c ∧ (s1.cell c).inbox = m :: rest) ∧
    (let s : State := running 0
    let c : Cell := 0
    let s1 := (s.cellFetch c).meetUnit (0x50 + c) 10
    s.Runs c ∧ (s1.cell c).inbox = []) ∧
    (let s : State := base
    let m : Master := .host
    let c : Cell := 0
    s.Open m (Reg.hivH2cSend c) ∧ s.isPowered (cellDomain c) = true ∧ (s.cell c).inbox.length < 16) ∧
    (let s : State := base
    let m : Master := .host
    s.Open m Reg.hivC2hPop) :=
  by and_intros <;> decide +kernel

theorem test_witness_CsrsStopsAndFaultsComplete :
    (let s : State := (running 0)
    let c : Cell := 0
    let csr : BitVec 12 := 0
    let s0 := s.cellFetch c
    let v := ((running 0).csrValue 0 0).getD 0
    s.Runs c ∧ s0.csrValue c csr.toNat = some v) ∧
    (let s : State := (running 0)
    let c : Cell := 0
    let csr : BitVec 12 := 0xFFF
    let s0 := s.cellFetch c
    s.Runs c ∧ s0.csrValue c csr.toNat = none) ∧
    (let s : State := (running 0)
    let c : Cell := 0
    let rs : Gr := 1
    let csr : BitVec 12 := 3
    let s0 := s.cellFetch c
    let v := (s0.cell c).getG rs
    let x := { (running 0).cell 0 with wdog := 0 }
    s.Runs c ∧ (s0.cell c).csrWrite csr.toNat .write v = some x) ∧
    (let s : State := (running 0)
    let c : Cell := 0
    let rs : Gr := 1
    let csr : BitVec 12 := 3
    let s0 := s.cellFetch c
    let v := (s0.cell c).getG rs
    let x := { (running 0).cell 0 with wdog := 0 }
    s.Runs c ∧ (s0.cell c).csrWrite csr.toNat .set v = some x) ∧
    (let s : State := (running 0)
    let c : Cell := 0
    let rs : Gr := 1
    let csr : BitVec 12 := 3
    let s0 := s.cellFetch c
    let v := (s0.cell c).getG rs
    let x := { (running 0).cell 0 with wdog := 0 }
    s.Runs c ∧ (s0.cell c).csrWrite csr.toNat .clear v = some x) ∧
    (let s : State := running 0
    let c : Cell := 0
    s.Live ∧ (s.cell c).live = true ∧ s.isPowered (cellDomain c) = true) ∧
    (let s : State := cell0 (fun c => { c with wdog := 5 })
    let c : Cell := 0
    s.Live ∧ (s.cell c).live = true ∧ s.isPowered (cellDomain c) = true ∧ (s.cell c).wdog ≠ 0) ∧
    (let s : State := running 0
    let m : Master := .host
    let c : Cell := 0
    s.Open m (Reg.hivCellCtrl c) ∧ (s.cell c).live = true) ∧
    (let s : State := base.mapCell 0 (fun c => { c with image := true })
    let m : Master := .host
    let c : Cell := 0
    s.Open m (Reg.hivCellCtrl c) ∧ (s.cell c).image = true ∧ (s.cell c).live = false ∧ s.loads c = false ∧ c.val ∉
        s.hive.unloads ∧ s.isPowered (cellDomain c) = true) ∧
    (let s : State := base
    let m : Master := .host
    let c : Cell := 0
    s.Open m (Reg.hivCellCtrl c) ∧ s.loads c = false ∧ c.val ∉ s.hive.unloads ∧ (s.stopForLoad c).cellDrained c = true) ∧
    (let s : State := base.setQueue 10 { base.queue 10 with taken := [(cmd 0x10 0 0 []).taken 0] }
    let m : Master := .host
    let c : Cell := 0
    s.Open m (Reg.hivCellCtrl c) ∧ s.loads c = false ∧ c.val ∉ s.hive.unloads ∧ (s.stopForLoad c).cellDrained c = false) :=
  by and_intros <;> decide +kernel

theorem test_witness_StopEndsTheCell :
    (let s : State := (running 0)
    let c : Cell := 0
    s.Runs c) ∧
    (let w : Nat := 0xB4000007
    wMajor w = 0x2D) :=
  by and_intros <;> decide +kernel

theorem test_witness_ImageLoadCompletes :
    (let s : State := base
    let m : Master := .host
    s.Open m Reg.hivLoadCtrl ∧ s.hive.loader.step = .idle) ∧
    (let s : State := loading .draining image
    s.Live ∧ s.hive.unloads = [] ∧ s.hive.loader.step = .draining ∧ s.cellDrained s.hive.loader.cell = true) ∧
    (let s : State := (loading .draining image).setQueue 10 { base.queue 10 with taken := [(cmd 0x10 0 0 []).taken 0] }
    s.Live ∧ s.hive.unloads = [] ∧ s.hive.loader.step = .draining ∧ s.cellDrained s.hive.loader.cell = false) ∧
    (let s : State := loading .copying image
    let l := s.hive.loader
    let h := readHead (s.bytes l.src 0x40)
    let s1 := s.meet l.src h.length
    s.Live ∧ s.hive.loader.step = .copying ∧ (s.kprState = 2 ∨ s.kprState = 3) ∧ s.rangeThere l.src 0x40 = true ∧ inDramComb
        s.variant l.src h.length = true ∧ s.rangeThere l.src h.length = true ∧ s1.poisonedAt l.src h.length = false ∧
        s1.checkHead l.src = 0 ∧ h.cell = l.cell) ∧
    (let s : State := { loading .copying image with poison := [(0x1000 / 16, true)] }
    let l := s.hive.loader
    let h := readHead (s.bytes l.src 0x40)
    let s1 := s.meet l.src h.length
    s.Live ∧ s.hive.loader.step = .copying ∧ (s.kprState = 2 ∨ s.kprState = 3) ∧ s.rangeThere l.src 0x40 = true ∧ inDramComb
        s.variant l.src h.length = true ∧ s.rangeThere l.src h.length = true ∧ s1.poisonedAt l.src h.length = true) ∧
    (let s : State := loading .verifying []
    let l := s.hive.loader
    s.Live ∧ s.hive.loader.step = .verifying ∧ s.verifyImage l.image ≠ 0) :=
  by and_intros <;> decide +kernel

theorem test_witness_ImageLoadCompletes_checked (he : Config.ecdsaOk = fun _ _ _ => true) :
    (let s : State := loading .verifying image
    let l := s.hive.loader
    s.Live ∧ s.hive.loader.step = .verifying ∧ s.verifyImage l.image = 0 ∧ (readHead l.image).auto = false) ∧
    (let s : State := loading .verifying (image.set 17 2)
    let l := s.hive.loader
    s.Live ∧ s.hive.loader.step = .verifying ∧ s.verifyImage l.image = 0 ∧ (readHead l.image).auto = true ∧ s.isPowered
        (cellDomain l.cell) = true) :=
  ⟨⟨by decide +kernel, by decide +kernel, image_verified he, by decide +kernel⟩, ⟨by decide +kernel, by decide +kernel,
      auto_verified he, by decide +kernel⟩⟩

theorem test_witness_SensorDescriptorsComplete :
    (let s : State := (headed base 0 (cmd 0x10 3 0x80000010000106400000 [0x0, 0x0, 0x1000000000]))
    let n : Fin 4 := 0
    let d : Desc := (cmd 0x10 3 0x80000010000106400000 [0x0, 0x0, 0x1000000000])
    let rest : List Desc := []
    let t := s.run n d
    let v := decodeSetup t
    let u : PortSetup := { v with split := v.gang && n.val == 0 && !s.variant.small && (v.split || overSix v) }
    s.Ready n 0x10 [3] d rest ∧ (s.port n).armed = none ∧ (s.port n).frame = none ∧ (s.port n).awaitMap = false ∧ s.gangPartner
        n = false ∧ (2 ≤ n.val → s.splitOn = false) ∧ setupOk n s.variant t v = true ∧ s.bufferOverlaps n u = false ∧ (u.gang =
        true → (s.port (n.val + 1)).setup = none ∧ s.isPowered (n.val + 3) = true) ∧ (u.split = true → (s.port 2).setup = none
        ∧ (s.port 3).setup = none ∧ s.isPowered 7 = true ∧ s.isPowered 9 = true)) ∧
    (let s : State := (headed (ported base 0 (fun p => { p with setup := some slvs, awaitMap := true })) 0 (cmd 0x15 1 0x0
        [0x0]))
    let n : Fin 4 := 0
    let d : Desc := (cmd 0x15 1 0x0 [0x0])
    let rest : List Desc := []
    let u : PortSetup := slvs
    let t := s.run n d
    s.Ready n 0x15 [1] d rest ∧ s.gangPartner n = false ∧ (s.port n).setup = some u ∧ (s.port n).awaitMap = true ∧ laneMapOk
        u.mode u.lanes (t.fld 1 127 64) = true ∧ t.zeros [(0, 87, 0), (1, 47, 0)] = true) ∧
    (let s : State := (headed (ported base 0 (fun p => { p with setup := some slvs })) 0 (cmd 0x11 1 0x0 [0x0]))
    let n : Fin 4 := 0
    let d : Desc := (cmd 0x11 1 0x0 [0x0])
    let rest : List Desc := []
    let u : PortSetup := slvs
    let t := s.run n d
    let report := t.fld 1 127 80
    let embed := t.fld 1 79 32
    s.Ready n 0x11 [1] d rest ∧ (s.port n).armed = none ∧ (s.port n).frame = none ∧ (s.port n).awaitMap = false ∧ s.gangPartner
        n = false ∧ (2 ≤ n.val → s.splitOn = false) ∧ (s.port n).setup = some u ∧ t.zeros [(0, 23, 0), (1, 31, 0)] = true ∧
        report % 64 = 0 ∧ inMemory s.variant report 64 = true ∧ (u.embedded ≠ 0 → embed % 64 = 0 ∧ inMemory s.variant embed
        (u.embedded * u.w * 2) = true)) ∧
    (let s : State := (headed (ported base 0 (fun p => { p with pulse := true })) 0 (cmd 0x12 0 0x200000000000000 []))
    let n : Fin 4 := 0
    let d : Desc := (cmd 0x12 0 0x200000000000000 [])
    let rest : List Desc := []
    let t := s.run n d
    let p := s.port n
    s.Ready n 0x12 [0] d rest ∧ (s.port n).awaitMap = false ∧ t.fld 0 80 57 ≠ 0 ∧ t.fld 0 56 0 = 0 ∧ p.pulse = true) ∧
    (let s : State := (headed base 0 (cmd 0x12 0 0x200000000000000 []))
    let n : Fin 4 := 0
    let d : Desc := (cmd 0x12 0 0x200000000000000 [])
    let rest : List Desc := []
    let t := s.run n d
    let x : Xtrig := ⟨t.fld 0 87 84, t.fld 0 83 83 == 1, t.fld 0 82 82 == 1, t.fld 0 81 81 == 1, t.fld 0 80 57⟩
    let p := s.port n
    s.Ready n 0x12 [0] d rest ∧ (s.port n).awaitMap = false ∧ t.fld 0 80 57 ≠ 0 ∧ t.fld 0 56 0 = 0 ∧ p.pulse = false ∧
        p.xtrigRest = x.low) ∧
    (let s : State := (headed base 0 (cmd 0x12 0 0x400000200000000000000 []))
    let n : Fin 4 := 0
    let d : Desc := (cmd 0x12 0 0x400000200000000000000 [])
    let rest : List Desc := []
    let t := s.run n d
    let x : Xtrig := ⟨t.fld 0 87 84, t.fld 0 83 83 == 1, t.fld 0 82 82 == 1, t.fld 0 81 81 == 1, t.fld 0 80 57⟩
    let p := s.port n
    s.Ready n 0x12 [0] d rest ∧ (s.port n).awaitMap = false ∧ t.fld 0 80 57 ≠ 0 ∧ t.fld 0 56 0 = 0 ∧ p.pulse = false ∧
        p.xtrigRest ≠ x.low) ∧
    (let s : State := (headed base 0 (cmd 0x13 0 0x2EE000000000000000000 []))
    let n : Fin 4 := 0
    let d : Desc := (cmd 0x13 0 0x2EE000000000000000000 [])
    let rest : List Desc := []
    let t := s.run n d
    let f := t.fld 0 85 69
    s.Ready n 0x13 [0] d rest ∧ (s.port n).awaitMap = false ∧ 6000 ≤ f ∧ f ≤ 74250 ∧ t.fld 0 68 0 = 0) ∧
    (let s : State := (headed base 0 (cmd 0x14 0 0x0 []))
    let n : Fin 4 := 0
    let d : Desc := (cmd 0x14 0 0x0 [])
    let rest : List Desc := []
    s.Ready n 0x14 [0] d rest ∧ (s.port n).awaitMap = false ∧ (s.run n d).fld 0 87 0 = 0 ∧ (s.port n).armed = none ∧ (s.port
        n).frame = none) ∧
    (let s : State := (headed (ported base 0 (fun p => { p with armed := some frameCmd })) 0 (cmd 0x14 0 0x0 []))
    let n : Fin 4 := 0
    let d : Desc := (cmd 0x14 0 0x0 [])
    let rest : List Desc := []
    s.Ready n 0x14 [0] d rest ∧ (s.port n).awaitMap = false ∧ (s.run n d).fld 0 87 0 = 0 ∧ ((s.port n).armed.isSome ∨ (s.port
        n).frame.isSome)) :=
  by and_intros <;> decide +kernel

theorem test_witness_SensorEventsComplete :
    (let s : State := ported base 0 (fun p => { p with setup := some slvs })
    let n : Fin 4 := 0
    let line : SlvsLine := slvsLine 0 0
    let u : PortSetup := slvs
    let ls := (List.range (if u.gang then 2 * u.lanes else u.lanes)).map (logicalLane u line.lanes)
    let s1 := (s.intake n line.cut).lockLanes n u ls (fun l => hasSequence u l.pre l.code)
    s.Live ∧ (s.port n).setup = some u ∧ u.mode = 0 ∧ (s.port n).awaitMap = false ∧ s.isPowered (n.val + 2) = true ∧ s.isFenced
        (n.val + 2) = false ∧ s.unitStalled (0x20 + n) = false ∧ ls.all (fun p => (sget LaneSt.empty (s1.port n).lanes
        p.2).locked) = false) ∧
    (let s : State := ported base 0 (fun p =>
        { p with setup := some { slvs with lanes := 2, laneMap := 0x10 }, lanes := [(0, ⟨true, 0, 0, 0⟩), (1, ⟨true, 0, 0, 0⟩)] })
    let n : Fin 4 := 0
    let line :
        SlvsLine := { lanes := [⟨true, 0, 0, [1023, 0, 0], 0, List.replicate 16 0, [], 0, 0⟩, ⟨true, 0, 40, [1023, 0, 0], 0, List.replicate 16 0, [], 0, 0⟩], cut := false }
    let u : PortSetup := { slvs with lanes := 2, laneMap := 0x10 }
    let ls := (List.range (if u.gang then 2 * u.lanes else u.lanes)).map (logicalLane u line.lanes)
    let s1 := (s.intake n line.cut).lockLanes n u ls (fun l => hasSequence u l.pre l.code)
    let skews := ls.map (fun p => p.1.skew)
    let skew := skews.foldl max 0 - skews.foldl min (skews.headD 0)
    s.Live ∧ (s.port n).setup = some u ∧ u.mode = 0 ∧ (s.port n).awaitMap = false ∧ s.isPowered (n.val + 2) = true ∧ s.isFenced
        (n.val + 2) = false ∧ s.unitStalled (0x20 + n) = false ∧ ls.all (fun p => (sget LaneSt.empty (s1.port n).lanes
        p.2).locked) = true ∧ 32 < skew) ∧
    (let s : State := ported base 0 (fun p => { p with setup := some slvs, lanes := [(0, ⟨true, 0, 0, 0⟩)], aligned := true })
    let n : Fin 4 := 0
    let line : SlvsLine := slvsLine 8 0
    let u : PortSetup := slvs
    let ls := (List.range (if u.gang then 2 * u.lanes else u.lanes)).map (logicalLane u line.lanes)
    let s1 := (s.intake n line.cut).lockLanes n u ls (fun l => hasSequence u l.pre l.code)
    let skews := ls.map (fun p => p.1.skew)
    let skew := skews.foldl max 0 - skews.foldl min (skews.headD 0)
    let s2 := s1.setFld (Reg.spLaneLock n) 31 16 (min skew 65535)
    let code : Nat := 3
    let e : Nat := 0
    s.Live ∧ (s.port n).setup = some u ∧ u.mode = 0 ∧ (s.port n).awaitMap = false ∧ s.isPowered (n.val + 2) = true ∧ s.isFenced
        (n.val + 2) = false ∧ s.unitStalled (0x20 + n) = false ∧ ls.all (fun p => (sget LaneSt.empty (s1.port n).lanes
        p.2).locked) = true ∧ skew ≤ 32 ∧ (s2.port n).aligned = true ∧ startCode u ls = some (code, e) ∧ code ≤ 4 ∧ e <
        u.exposures) ∧
    (let s : State := ported base 0 (fun p => { p with setup := some slvs, frame := some openFrame })
    let n : Fin 4 := 0
    let u : PortSetup := slvs
    let ls : List (LaneLine × Nat) := []
    let e : Nat := 0
    let fr : OpenFrame := openFrame
    (s.port n).live = some fr ∧ u.lineCrc = false ∧ ¬(e = 0 ∧ fr.counts.embedded < u.embedded) ∧ endCode u ls = none) ∧
    (let s : State := ported base 0 (fun p => { p with setup := some csi })
    let n : Fin 4 := 0
    let u : PortSetup := csi
    let vc : Nat := 0
    let e : Nat := 0
    let h : CsiHeader := .ok
    s.Live ∧ s.csiSetup n = some u ∧ h = .ok ∧ s.unitStalled (0x20 + n) = false ∧ vcExposure u vc = some e) ∧
    (let s : State := ported base 0 (fun p => { p with setup := some csi, frame := some openFrame })
    let n : Fin 4 := 0
    let u : PortSetup := csi
    let pkt : Csi2Long := { link := 0, vc := 0, dt := 0x2B, payload := [], crc := 0xFFFF, header := .ok, cut := false }
    let e : Nat := 0
    let fr : OpenFrame := openFrame
    let s1 := (s.intake n pkt.cut).tally (0x20 + n) (csiPixels pkt.dt pkt.payload).length
    s.Live ∧ s.csiSetup n = some u ∧ (u.mode = 1 → pkt.link = 0) ∧ pkt.header = .ok ∧ s.unitStalled (0x20 + n) = false ∧
        vcExposure u pkt.vc = some e ∧ rawWidth pkt.dt = some u.width ∧ (s1.port n).live = some fr) ∧
    (let u : PortSetup := csi
    u.mode = 1) ∧
    (let s : State := ported base 0 (fun p =>
        { p with setup := some slvs, lanes := [(0, ⟨true, 0, 0, 0⟩)], aligned := true, frame := some openFrame })
    let n : Fin 4 := 0
    let k : Fin 16 := 0
    s.Live ∧ s.gangPartner n = false ∧ (sget LaneSt.empty (s.port n).lanes k).locked = true) ∧
    (let s : State := ported base 0 (fun p => { p with armed := some frameCmd })
    let n : Fin 4 := 0
    let cmd : FrameCmd := frameCmd
    s.Live ∧ (s.port n).armed = some cmd ∧ cmd.sofTimeout ≠ 0) ∧
    (let s : State := ported base 0 (fun p => { p with pulse := true, xtrig := some ⟨0, true, false, false, 1⟩ })
    let n : Fin 4 := 0
    let x : Xtrig := ⟨0, true, false, false, 1⟩
    s.Live ∧ (s.port n).pulse = true ∧ (s.port n).xtrig = some x ∧ (s.port n).xtrigNext = none) ∧
    (let s : State := ported base 0 (fun p => { p with pulse := true, xtrigNext := some ⟨0, true, false, false, 1⟩ })
    let n : Fin 4 := 0
    let x : Xtrig := ⟨0, true, false, false, 1⟩
    s.Live ∧ (s.port n).pulse = true ∧ (s.port n).xtrigNext = some x) ∧
    (let s : State := base.setTrig 0 { base.trig 0 with st := .armed }
    let n : Fin 16 := 0
    s.Live ∧ (s.trig n).st = .armed ∧ reached s.bcn.ns (s.trig n).time = true) :=
  by and_intros <;> decide +kernel

theorem test_witness_FrontEndCommandsComplete :
    (let s : State := (headed base 4 (cmd 0x10 3 0x4000000000000000000000 [0x0, 0x100000000000000, 0x100100001000000]))
    let x : Fin 2 := 0
    let d : Desc := (cmd 0x10 3 0x4000000000000000000000 [0x0, 0x100000000000000, 0x100100001000000])
    let rest : List Desc := []
    let c : RfeCmd := parsed rfeCmd ((s.taken 4 d []).rfeParse 0 (s.run 4 d))
    let t := s.run (4 + x.val) d
    let sl := t.fld 0 87 87
    let s0 := s.taken (4 + x.val) d rest
    s.Ready (4 + x.val) 0x10 [2, 3] d rest ∧ (s.rfeSlot x sl).armed = none ∧ (t.fld 0 86 86 = 1 → (s.rfeSlot x sl).frame =
        none) ∧ s0.rfeParse x t = .ok c ∧ c.memory = true) ∧
    (let s : State := (headed (fronted [] id) 4 (cmd 0x10 2 0x0 [0x0, 0x0]))
    let x : Fin 2 := 0
    let d : Desc := (cmd 0x10 2 0x0 [0x0, 0x0])
    let rest : List Desc := []
    let c : RfeCmd := parsed rfeCmd ((s.taken 4 d []).rfeParse 0 (s.run 4 d))
    let t := s.run (4 + x.val) d
    let sl := t.fld 0 87 87
    let s0 := s.taken (4 + x.val) d rest
    s.Ready (4 + x.val) 0x10 [2, 3] d rest ∧ (s.rfeSlot x sl).armed = none ∧ (t.fld 0 86 86 = 1 → (s.rfeSlot x sl).frame =
        none) ∧ s0.rfeParse x t = .ok c ∧ c.memory = false) ∧
    (let s : State := (headed base 4 (cmd 0x11 0 0x1000000000000000000000 []))
    let x : Fin 2 := 0
    let d : Desc := (cmd 0x11 0 0x1000000000000000000000 [])
    let rest : List Desc := []
    let t := s.run (4 + x.val) d
    let tab := t.fld 0 87 86
    let sl := t.fld 0 85 85
    let b := t.fld 0 84 84
    let first := t.fld 0 83 70
    let count := t.fld 0 69 56 + 1
    let src := t.fld 0 55 8
    let s0 := s.taken (4 + x.val) d rest
    let s1 := s0.meet src (16 * count)
    s.Ready (4 + x.val) 0x11 [0] d rest ∧ tab ≠ 3 ∧ t.fld 0 7 0 = 0 ∧ t.fld 0 11 8 = 0 ∧ first + count ≤ rfeTblSize tab ∧
        inMemory s.variant src (16 * count) = true ∧ s0.rfeInUse x sl tab b = false ∧ s1.poisonedAt src (16 * count) = false) ∧
    (let s : State := (headed ({ base with poison := [(0, true)] }) 4 (cmd 0x11 0 0x1000000000000000000000 []))
    let x : Fin 2 := 0
    let d : Desc := (cmd 0x11 0 0x1000000000000000000000 [])
    let rest : List Desc := []
    let t := s.run (4 + x.val) d
    let tab := t.fld 0 87 86
    let sl := t.fld 0 85 85
    let b := t.fld 0 84 84
    let first := t.fld 0 83 70
    let count := t.fld 0 69 56 + 1
    let src := t.fld 0 55 8
    let s0 := s.taken (4 + x.val) d rest
    let s1 := s0.meet src (16 * count)
    s.Ready (4 + x.val) 0x11 [0] d rest ∧ tab ≠ 3 ∧ t.fld 0 7 0 = 0 ∧ t.fld 0 11 8 = 0 ∧ first + count ≤ rfeTblSize tab ∧
        inMemory s.variant src (16 * count) = true ∧ s0.rfeInUse x sl tab b = false ∧ s1.poisonedAt src (16 * count) = true) ∧
    (let s : State := base.setReg (Reg.rfeTblAddr 0) 0x10000000
    let m : Master := .host
    let x : Fin 2 := 0
    let a := s.reg (Reg.rfeTblAddr x)
    let tab := bitsOf a 31 30
    s.Open m (Reg.rfeTblData x 3) ∧ bitsOf a 13 0 < rfeTblSize tab ∧ s.rfeInUse x (bitsOf a 29 29) tab (bitsOf a 28 28) = false) ∧
    (let s : State := fronted [] (fun r => { r with frame := some rfeOpen })
    let x : Fin 2 := 0
    let sl : Fin 2 := 0
    let f : RfeOpen := rfeOpen
    let y := (s.rfeSlot x sl).fetched
    let line (k : Nat) : Nat := f.cmd.srcAddr + (y * f.exposures + k) * f.cmd.srcStride * 64
    s.Live ∧ (s.rfeSlot x sl).frame = some f ∧ s.rfeRuns x = true ∧ f.cmd.memory = true ∧ (s.rfeSlot x sl).fetched < f.h ∧ (∀
        k, k < f.exposures → s.rangeThere (line k) (2 * f.w) = true)) :=
  ⟨⟨by decide +kernel, by decide +kernel, by decide +kernel, parsed_ok (by decide +kernel), by decide +kernel⟩,
      ⟨by decide +kernel, by decide +kernel, by decide +kernel, parsed_ok (by decide +kernel), by decide +kernel⟩,
      by and_intros <;> decide +kernel⟩

theorem test_witness_FrontEndFramesComplete :
    (let s : State := fronted [.held 0 [combBase] 16] (fun r => { r with frame := some liveOpen })
    let x : Fin 2 := 0
    let sl : Nat := 0
    let a : Arb := ⟨0, 1⟩
    let f : RfeOpen := liveOpen
    let s1 : State := { s with arbs := sset Arb.empty s.arbs x a }
    let y := 0
    let slots := [combBase]
    let k := 16
    s.Live ∧ s.rfeRuns x = true ∧ s.rfeArbitrate x = some (sl, a) ∧ (s.rfeSlot x sl).frame = some f ∧ f.cmd.memory = false ∧
        s1.rfeHead x sl = some (.held y slots k)) ∧
    (let s : State := fronted [] (fun r => { r with frame := some rfeOpen, feed := [.set 0 [List.replicate 16 (0, false)]] })
    let x : Fin 2 := 0
    let sl : Nat := 0
    let a : Arb := ⟨0, 1⟩
    let f : RfeOpen := rfeOpen
    let s1 : State := { s with arbs := sset Arb.empty s.arbs x a }
    let y := 0
    let exps := [List.replicate 16 (0, false)]
    let rest := ([] : List BufItem)
    s.Live ∧ s.rfeRuns x = true ∧ s.rfeArbitrate x = some (sl, a) ∧ (s.rfeSlot x sl).frame = some f ∧ f.cmd.memory = true ∧
        (s.rfeSlot x sl).feed = .set y exps :: rest ∧ (f.cmd.toClr = true → s1.clrAccepts x sl = true)) ∧
    (let s : State := fronted [.start 16 1 1 10 0 0 false] (fun r => { r with armed := some rfeCmd })
    let x : Fin 2 := 0
    let sl : Fin 2 := 0
    let w : Nat := 16
    let h : Nat := 1
    let e : Nat := 1
    let width : Nat := 10
    let number : Nat := 0
    let sof : Nat := 0
    let split : Bool := false
    let c := rfeCmd
    s.Live ∧ s.rfeRuns x = true ∧ s.rfeHead x sl = some (.start w h e width number sof split) ∧ (s.rfeSlot x sl).armed = some c
        ∧ (s.rfeSlot x sl).frame = none) ∧
    (let s : State := fronted [.start 16 1 1 10 0 0 false] id
    let x : Fin 2 := 0
    let sl : Fin 2 := 0
    let w : Nat := 16
    let h : Nat := 1
    let e : Nat := 1
    let width : Nat := 10
    let number : Nat := 0
    let sof : Nat := 0
    let split : Bool := false
    s.Live ∧ s.rfeRuns x = true ∧ s.rfeHead x sl = some (.start w h e width number sof split) ∧ ((s.rfeSlot x sl).armed = none
        ∨ (s.rfeSlot x sl).frame ≠ none)) ∧
    (let s : State := fronted [.finish false] (fun r => { r with frame := some liveOpen })
    let x : Fin 2 := 0
    let sl : Fin 2 := 0
    let f : RfeOpen := liveOpen
    let dropped : Bool := false
    s.Live ∧ s.rfeRuns x = true ∧ (s.rfeSlot x sl).frame = some f ∧ f.cmd.memory = false ∧ (s.rfeSlot x sl).unclaimed = false ∧
        s.rfeHead x sl = some (.finish dropped)) ∧
    (let s : State := fronted [] (fun r => { r with frame := some rfeOpen, feed := [.finish false] })
    let x : Fin 2 := 0
    let sl : Fin 2 := 0
    let f : RfeOpen := rfeOpen
    let b : Bool := false
    let rest : List BufItem := []
    s.Live ∧ s.rfeRuns x = true ∧ (s.rfeSlot x sl).frame = some f ∧ f.cmd.memory = true ∧ (s.rfeSlot x sl).feed = .finish b ::
        rest) :=
  by and_intros <;> decide +kernel

theorem test_witness_ColourEngineCommandsComplete :
    (let s : State := (headed (base.store (0x1000 + 16 * 4) (leBytes 0 0)) 6 (cmd 0x10 1 0x20000000000000000000
        [0x100000000000000000000000]))
    let x : Fin 2 := 0
    let d : Desc := (cmd 0x10 1 0x20000000000000000000 [0x100000000000000000000000])
    let rest : List Desc := []
    let c : ClrCmd := parsed clrCmd ((s.taken 6 d []).clrParse (s.run 6 d))
    let t := s.run (6 + x.val) d
    let sl := t.fld 0 87 87
    let s0 := s.taken (6 + x.val) d rest
    s.Ready (6 + x.val) 0x10 [1] d rest ∧ (s.clrSlot x sl).armed = none ∧ s0.clrParse t = .ok c) ∧
    (let s : State := (headed base 6 (cmd 0x11 0 0x800000000000000000000 []))
    let x : Fin 2 := 0
    let d : Desc := (cmd 0x11 0 0x800000000000000000000 [])
    let rest : List Desc := []
    let t := s.run (6 + x.val) d
    let id := t.fld 0 87 84
    let b := t.fld 0 83 83
    let first := t.fld 0 82 65
    let count := t.fld 0 64 47 + 1
    let src := t.fld 0 46 3 * 16
    let s0 := s.taken (6 + x.val) d rest
    let s1 := s0.meet src (16 * count)
    s.Ready (6 + x.val) 0x11 [0] d rest ∧ id % 4 ≠ 3 ∧ t.fld 0 2 0 = 0 ∧ first + count ≤ clrTblSize (id % 4) ∧ inMemory
        s.variant src (16 * count) = true ∧ s0.clrInUse x (id / 4) (id % 4) b = false ∧ s1.poisonedAt src (16 * count) = false) ∧
    (let s : State := (headed ({ base with poison := [(0, true)] }) 6 (cmd 0x11 0 0x800000000000000000000 []))
    let x : Fin 2 := 0
    let d : Desc := (cmd 0x11 0 0x800000000000000000000 [])
    let rest : List Desc := []
    let t := s.run (6 + x.val) d
    let id := t.fld 0 87 84
    let b := t.fld 0 83 83
    let first := t.fld 0 82 65
    let count := t.fld 0 64 47 + 1
    let src := t.fld 0 46 3 * 16
    let s0 := s.taken (6 + x.val) d rest
    let s1 := s0.meet src (16 * count)
    s.Ready (6 + x.val) 0x11 [0] d rest ∧ id % 4 ≠ 3 ∧ t.fld 0 2 0 = 0 ∧ first + count ≤ clrTblSize (id % 4) ∧ inMemory
        s.variant src (16 * count) = true ∧ s0.clrInUse x (id / 4) (id % 4) b = false ∧ s1.poisonedAt src (16 * count) = true) ∧
    (let s : State := base.setReg (Reg.clrTblAddr 0) 0x08000000
    let m : Master := .host
    let x : Fin 2 := 0
    let a := s.reg (Reg.clrTblAddr x)
    let id := bitsOf a 31 28
    s.Open m (Reg.clrTblData x 3) ∧ bitsOf a 17 0 < clrTblSize (id % 4) ∧ s.clrInUse x (id / 4) (id % 4) (bitsOf a 27 27) =
        false) ∧
    (let s : State := coloured [.start 16 1 0 0 16 false 0] (fun r => { r with armed := some clrCmd })
    let x : Fin 2 := 0
    let sl : Fin 2 := 0
    let w : Nat := 16
    let h : Nat := 1
    let first : Nat := 0
    let ownFirst : Nat := 0
    let ownCols : Nat := 16
    let port : Nat := 0
    let split : Bool := false
    let c := clrCmd
    s.Live ∧ s.clrRuns x = true ∧ s.clrWaits x sl = false ∧ s.clrHead x sl = some (.start w h first ownFirst ownCols split
        port) ∧ (s.clrSlot x sl).armed = some c ∧ (s.clrSlot x sl).frame = none ∧ (s.clrPop x sl).clrFits c w h split = 0) ∧
    (let s : State := coloured [.start 16 1 0 0 16 false 0] id
    let x : Fin 2 := 0
    let sl : Fin 2 := 0
    let w : Nat := 16
    let h : Nat := 1
    let first : Nat := 0
    let ownFirst : Nat := 0
    let ownCols : Nat := 16
    let port : Nat := 0
    let split : Bool := false
    s.Live ∧ s.clrRuns x = true ∧ s.clrWaits x sl = false ∧ s.clrHead x sl = some (.start w h first ownFirst ownCols split
        port) ∧ ((s.clrSlot x sl).armed = none ∨ (s.clrSlot x sl).frame ≠ none)) ∧
    (let s : State := coloured [.finish true] (fun r => { r with frame := some clrOpen })
    let x : Fin 2 := 0
    let sl : Fin 2 := 0
    let f : ClrOpen := clrOpen
    s.Live ∧ s.clrRuns x = true ∧ s.clrWaits x sl = false ∧ (s.clrSlot x sl).frame = some f ∧ s.clrHead x sl = some (.finish
        true)) ∧
    (let s : State := coloured [.finish false] (fun r => { r with frame := some clrOpen })
    let x : Fin 2 := 0
    let sl : Fin 2 := 0
    let f : ClrOpen := clrOpen
    s.Live ∧ s.clrRuns x = true ∧ s.clrWaits x sl = false ∧ (s.clrSlot x sl).frame = some f ∧ s.clrHead x sl = some (.finish
        false)) ∧
    (let s : State := coloured [.line 0 []] (fun r => { r with frame := some clrOpen })
    let x : Fin 2 := 0
    let sl : Fin 2 := 0
    let y : Nat := 0
    let row : List Smp := []
    let rest : List (Nat × ClrItem) := []
    let f : ClrOpen := clrOpen
    s.Live ∧ s.clrRuns x = true ∧ s.clrWaits x sl = false ∧ s.clrQueue x = (sl.val, .line y row) :: rest ∧ (s.clrSlot x
        sl).frame = some f) ∧
    (let s : State := coloured [] (fun r => { r with frame := some { clrOpen with waiting := true } })
    let x : Fin 2 := 0
    let sl : Fin 2 := 0
    let f : ClrOpen := { clrOpen with waiting := true }
    s.Live ∧ s.clrRuns x = true ∧ (s.clrSlot x sl).frame = some f ∧ f.waiting = true) ∧
    (let s : State := (coloured [] (fun r => { r with frame := some { clrOpen with waiting := true } })).setFld
        (Reg.clrRingThresh 0) 15 0 1
    let x : Fin 2 := 0
    let sl : Fin 2 := 0
    s.Live ∧ s.clrWaits x sl = true ∧ (s.clrSlot x sl).threshMade = false ∧ s.fld (Reg.clrRingThresh x) 15 0 ≠ 0) :=
  ⟨⟨by decide +kernel, by decide +kernel, parsed_ok (by decide +kernel)⟩, by and_intros <;> decide +kernel⟩

theorem test_witness_CompositorCommandsComplete :
    (let s : State := (headed (generating 0 2 id) 8 (cmd 0x10 2 0x0 [0x100000000200000000000000, 0x1000010000000000000000]))
    let d : Desc := (cmd 0x10 2 0x0 [0x100000000200000000000000, 0x1000010000000000000000])
    let rest : List Desc := []
    let t := s.run 8 d
    let o := t.fld 0 87 87
    s.Ready 8 0x10 [2] d rest ∧ (s.cmpOut o).wbArmed = none ∧ s.wbCheck t false = none ∧ s.genRuns o = true) ∧
    (let s : State := (headed base 8 (cmd 0x12 2 0x10000100000000 [0x100000000200000000000000, 0x1000010000000000000000]))
    let d : Desc := (cmd 0x12 2 0x10000100000000 [0x100000000200000000000000, 0x1000010000000000000000])
    let rest : List Desc := []
    let t := s.run 8 d
    let o := t.fld 0 87 87
    s.Ready 8 0x12 [2] d rest ∧ s.wbCheck t true = none ∧ s.genRuns o = false ∧ (s.cmpOut o).wbOpen = none ∧ (∀ f, (s.cmpOut
        o).frame = some f → f.memory = false)) ∧
    (let s : State := (headed (generating 0 2 id) 8 (cmd 0x13 1 0x0 [0x100000000000000000000000]))
    let d : Desc := (cmd 0x13 1 0x0 [0x100000000000000000000000])
    let rest : List Desc := []
    let t := s.run 8 d
    let o := t.fld 0 87 87
    let addr := t.fld 1 127 80
    s.Ready 8 0x13 [1] d rest ∧ (s.cmpOut o).repArmed = none ∧ outputAbsent s.variant o = false ∧ t.zeros [(0, 86, 0), (1, 79,
        0)] = true ∧ addr % 64 = 0 ∧ s.genRuns o = true ∧ inMemory s.variant addr 64 = true) ∧
    (let s : State := (headed base 8 (cmd 0x11 0 0x0 []))
    let d : Desc := (cmd 0x11 0 0x0 [])
    let rest : List Desc := []
    let t := s.run 8 d
    let id := t.fld 0 87 83
    let b := t.fld 0 82 82
    let first := t.fld 0 81 64
    let count := t.fld 0 63 46 + 1
    let src := t.fld 0 45 2 * 16
    let s0 := s.taken 8 d rest
    let s1 := s0.meet src (16 * count)
    s.Ready 8 0x11 [0] d rest ∧ id < 18 ∧ t.fld 0 1 0 = 0 ∧ first + count ≤ cmpTblSize id ∧ inMemory s.variant src (16 * count)
        = true ∧ s0.cmpInUse id b = false ∧ s1.poisonedAt src (16 * count) = false) ∧
    (let s : State := (headed ({ base with poison := [(0, true)] }) 8 (cmd 0x11 0 0x0 []))
    let d : Desc := (cmd 0x11 0 0x0 [])
    let rest : List Desc := []
    let t := s.run 8 d
    let id := t.fld 0 87 83
    let b := t.fld 0 82 82
    let first := t.fld 0 81 64
    let count := t.fld 0 63 46 + 1
    let src := t.fld 0 45 2 * 16
    let s0 := s.taken 8 d rest
    let s1 := s0.meet src (16 * count)
    s.Ready 8 0x11 [0] d rest ∧ id < 18 ∧ t.fld 0 1 0 = 0 ∧ first + count ≤ cmpTblSize id ∧ inMemory s.variant src (16 * count)
        = true ∧ s0.cmpInUse id b = false ∧ s1.poisonedAt src (16 * count) = true) ∧
    (let s : State := base
    let m : Master := .host
    let a := s.reg Reg.cmpTblAddr
    let id := bitsOf a 31 27
    let b := bitsOf a 26 26
    s.Open m (Reg.cmpTblData 3) ∧ id < 18 ∧ bitsOf a 10 0 < cmpTblSize id ∧ s.cmpInUse id b = false) ∧
    (let s : State := (generating 0 2 id).mapCmpOut 0 (fun c => { c with frame := some cmpFrame })
    let o : Fin 2 := 0
    let f : CmpFrame := cmpFrame
    let full : Bool := false
    s.Live ∧ s.cmpDueFrame o = some f ∧ (s.ringsFor f f.line).2 = [] ∧ (f.memory && full) = false) ∧
    (let s : State := (generating 0 2 id).mapCmpOut 0 (fun c => { c with frame := some cmpFrame })
    let o : Fin 2 := 0
    let f : CmpFrame := cmpFrame
    s.Live ∧ s.cmpDueFrame o = some f ∧ f.memory = false) :=
  by and_intros <;> decide +kernel

theorem test_witness_WallDescriptorsComplete :
    (let s : State := (headed base 9 (cmd 0x10 0 0x0 []))
    let g : Fin 2 := 0
    let d : Desc := (cmd 0x10 0 0x0 [])
    let rest : List Desc := []
    let t := s.run (9 + g.val) d
    let b := t.fld 0 87 87
    let count := t.fld 0 86 71 + 1
    let src := t.fld 0 70 27 * 16
    let s0 := s.taken (9 + g.val) d rest
    let r := s0.meet src (16 * count)
    let es := (List.range count).map (fun i => decodeTile (r.quadAt (src + 16 * i)))
    s.Ready (9 + g.val) 0x10 [0] d rest ∧ t.fld 0 26 0 = 0 ∧ inMemory s.variant src (16 * count) = true ∧ s0.wallBankInUse 26 b
        = false ∧ r.poisonedAt src (16 * count) = false ∧ mapFirstBad s.variant [] es = none) ∧
    (let s : State := (headed (base.store 0 (leBytes 16 (2 ^ 128 - 1))) 9 (cmd 0x10 0 0x0 []))
    let g : Fin 2 := 0
    let d : Desc := (cmd 0x10 0 0x0 [])
    let rest : List Desc := []
    let t := s.run (9 + g.val) d
    let b := t.fld 0 87 87
    let count := t.fld 0 86 71 + 1
    let src := t.fld 0 70 27 * 16
    let s0 := s.taken (9 + g.val) d rest
    let r := s0.meet src (16 * count)
    let es := (List.range count).map (fun i => decodeTile (r.quadAt (src + 16 * i)))
    let i := 0
    s.Ready (9 + g.val) 0x10 [0] d rest ∧ t.fld 0 26 0 = 0 ∧ inMemory s.variant src (16 * count) = true ∧ s0.wallBankInUse 26 b
        = false ∧ r.poisonedAt src (16 * count) = false ∧ mapFirstBad s.variant [] es = some i) ∧
    (let s : State := (headed base 9 (cmd 0x11 0 0x0 []))
    let g : Fin 2 := 0
    let d : Desc := (cmd 0x11 0 0x0 [])
    let rest : List Desc := []
    let t := s.run (9 + g.val) d
    let b := t.fld 0 87 87
    let first := t.fld 0 86 73
    let count := t.fld 0 72 59 + 1
    let src := t.fld 0 58 15 * 16
    let s0 := s.taken (9 + g.val) d rest
    let r := s0.meet src (32 * count)
    s.Ready (9 + g.val) 0x11 [0] d rest ∧ t.fld 0 14 0 = 0 ∧ first + count ≤ 16384 ∧ inMemory s.variant src (32 * count) = true
        ∧ s0.wallBankInUse 25 b = false ∧ r.poisonedAt src (32 * count) = false) ∧
    (let s : State := (headed (generating 0 4 id) 9 (cmd 0x12 0 0x0 []))
    let g : Fin 2 := 0
    let d : Desc := (cmd 0x12 0 0x0 [])
    let rest : List Desc := []
    s.Ready (9 + g.val) 0x12 [0] d rest ∧ (s.gen g).startWait = none ∧ (s.run (9 + g.val) d).fld 0 87 0 = 0 ∧ ¬(s.locked = true
        ∧ g.val = 1) ∧ (s.genState g = 4 ∨ (1 ≤ s.genState g ∧ s.genState g ≤ 3 ∧ (s.gen g).holdAsked = true))) ∧
    (let s : State := (headed (generating 0 2 id) 9 (cmd 0x12 0 0x0 []))
    let g : Fin 2 := 0
    let d : Desc := (cmd 0x12 0 0x0 [])
    let rest : List Desc := []
    s.Ready (9 + g.val) 0x12 [0] d rest ∧ (s.gen g).startWait = none ∧ (s.run (9 + g.val) d).fld 0 87 0 = 0 ∧ ¬(s.locked = true
        ∧ g.val = 1) ∧ 1 ≤ s.genState g ∧ s.genState g ≤ 3 ∧ (s.gen g).holdAsked = false) ∧
    (let s : State := (headed base 9 (cmd 0x12 0 0x0 []))
    let g : Fin 2 := 0
    let d : Desc := (cmd 0x12 0 0x0 [])
    let rest : List Desc := []
    s.Ready (9 + g.val) 0x12 [0] d rest ∧ (s.gen g).startWait = none ∧ (s.run (9 + g.val) d).fld 0 87 0 = 0 ∧ ¬(s.locked = true
        ∧ g.val = 1) ∧ (s.genState g = 0 ∨ s.genState g = 5)) ∧
    (let s : State := (headed (generating 0 2 id) 9 (cmd 0x13 0 0x0 []))
    let g : Fin 2 := 0
    let d : Desc := (cmd 0x13 0 0x0 [])
    let rest : List Desc := []
    s.Ready (9 + g.val) 0x13 [0] d rest ∧ (s.run (9 + g.val) d).fld 0 71 0 = 0 ∧ ¬(s.locked = true ∧ g.val = 1) ∧ 1 ≤
        s.genState g ∧ s.genState g ≤ 3 ∧ (s.gen g).holdAsked = false) ∧
    (let s : State := (headed (generating 0 2 id) 9 (cmd 0x14 1 0x0 [0x100000000000000000000000]))
    let g : Fin 2 := 0
    let d : Desc := (cmd 0x14 1 0x0 [0x100000000000000000000000])
    let rest : List Desc := []
    let t := s.run (9 + g.val) d
    let addr := t.fld 1 127 80
    s.Ready (9 + g.val) 0x14 [1] d rest ∧ (s.gen g).repArmed = [] ∧ t.zeros [(0, 87, 0), (1, 79, 0)] = true ∧ addr % 64 = 0 ∧
        s.genRuns g = true ∧ inMemory s.variant addr 64 = true) :=
  by and_intros <;> decide +kernel

theorem test_witness_GeneratorsAndWallReportsComplete :
    (let s : State := generating 0 4 (fun x => { x with holdAsked := true })
    let g : Fin 2 := 0
    s.Live ∧ s.atLatch g = true ∧ (s.gen g).holdAsked = true) ∧
    (let s : State := generating 0 2 id
    let g : Fin 2 := 0
    let r := ((s.stepFrames (s.pairOf g)).dropPrepared (s.pairOf g)).dueSets (s.pairOf g) false
    s.Live ∧ s.atLatch g = true ∧ (s.gen g).holdAsked = false ∧ r.1 = [] ∧ (s.gen g).reland = false) ∧
    (let s : State := generating 0 3 (fun x => { x with phase := 1 })
    let g : Fin 2 := 0
    s.Live ∧ s.genHere g = true ∧ (s.gen g).phase = 1 ∧ (s.genState g = 1 ∨ s.genState g = 3)) ∧
    (let s : State := generating 0 1 (fun x => { x with phase := 2 })
    let g : Fin 2 := 0
    s.Live ∧ s.genHere g = true ∧ ¬(s.locked = true ∧ g.val = 1) ∧ (s.gen g).phase = 2 ∧ s.genState g = 1) ∧
    (let s : State := generating 0 3 (fun x => { x with phase := 2 })
    let g : Fin 2 := 0
    s.Live ∧ s.genHere g = true ∧ ¬(s.locked = true ∧ g.val = 1) ∧ (s.gen g).phase = 2 ∧ s.genState g = 3) ∧
    (let s : State := generating 0 2 (fun x => { x with phase := 3 })
    let g : Fin 2 := 0
    s.Live ∧ s.genHere g = true ∧ ¬(s.locked = true ∧ g.val = 1) ∧ (s.gen g).phase = 3) ∧
    (let s : State := (generating 0 2 id).setReg (Reg.wloAct 0 1) 4
    let g : Fin 2 := 0
    s.Live ∧ s.scanDue g = true) ∧
    (let s : State := ((generating 0 2 id).setReg (Reg.wloActCtrl 0) 0x08000000).setReg (Reg.wloAct 0 4) 0x30000000
    let stamp : Nat := 1000
    let t := s.activeSet 0
    let x := s.gen 0
    let grid := ((stamp : Int) + signed 32 (t.getD 9 0).toNat).toNat * 65536
    s.Live ∧ s.genHere 0 = true ∧ s.genRuns 0 = true ∧ (s.activeSet 0).frameRef = 1 ∧ (s.activeSet 1).frameRef = 0 ∧
        x.lastPulse = none ∧ 4 * gridGap t.period grid x.grid ≤ t.period) ∧
    (let s : State := ((generating 0 2 id).setReg (Reg.wloActCtrl 0) 0x08000000).setReg (Reg.wloAct 0 4) 0x30000000
    let stamp : Nat := 6000
    let t := s.activeSet 0
    let x := s.gen 0
    let grid := ((stamp : Int) + signed 32 (t.getD 9 0).toNat).toNat * 65536
    s.Live ∧ s.genHere 0 = true ∧ s.genRuns 0 = true ∧ (s.activeSet 0).frameRef = 1 ∧ (s.activeSet 1).frameRef = 0 ∧
        x.lastPulse = none ∧ t.period < 4 * gridGap t.period grid x.grid) ∧
    (let s : State := ((generating 0 2 (fun x => { x with lastPulse := some 1000 })).setReg (Reg.wloActCtrl 0)
        0x08000000).setReg (Reg.wloAct 0 4) 0x30000000
    let stamp : Nat := 13288
    let t := s.activeSet 0
    let x := s.gen 0
    let near (p : Nat) : Prop := ((stamp : Int) - (p + t.frefDiv * t.period / 65536 : Nat)).natAbs * 1000 ≤ t.frefDiv *
        t.period / 65536
    let p := 1000
    s.Live ∧ s.genHere 0 = true ∧ s.genRuns 0 = true ∧ (s.activeSet 0).frameRef = 1 ∧ (s.activeSet 1).frameRef = 0 ∧
        x.lastPulse = some p ∧ near p) ∧
    (let s : State := ((generating 0 2 (fun x => { x with lastPulse := some 1000 })).setReg (Reg.wloActCtrl 0)
        0x08000000).setReg (Reg.wloAct 0 4) 0x30000000
    let stamp : Nat := 20000
    let t := s.activeSet 0
    let x := s.gen 0
    let near (p : Nat) : Prop := ((stamp : Int) - (p + t.frefDiv * t.period / 65536 : Nat)).natAbs * 1000 ≤ t.frefDiv *
        t.period / 65536
    let p := 1000
    s.Live ∧ s.genHere 0 = true ∧ s.genRuns 0 = true ∧ (s.activeSet 0).frameRef = 1 ∧ (s.activeSet 1).frameRef = 0 ∧
        x.lastPulse = some p ∧ ¬near p) ∧
    (let s : State := (generating 0 2 id).setReg (Reg.wloActCtrl 0) 0x08000000
    let g : Fin 2 := 0
    s.Live ∧ s.genHere g = true ∧ s.genRuns g = true ∧ (s.activeSet g).frameRef = 1 ∧ s.fld (Reg.wloStatus g) 25 25 = 0) ∧
    (let s : State := (generating 0 4 id).setReg (Reg.wloActCtrl 0) 0x08000000
    let g : Fin 2 := 0
    s.Live ∧ s.genHere g = true ∧ ¬(s.locked = true ∧ g.val = 1) ∧ s.genState g = 4 ∧ (s.gen g).holdAsked = false) ∧
    (let s : State := linked base id
    let l : Fin 24 := 0
    s.Live ∧ s.reportsIn l = true ∧ (∀ g, g < 2 → s.genState g ≤ 2)) ∧
    (let s : State := linked base id
    let l : Fin 24 := 0
    s.Live ∧ s.reportsIn l = true ∧ (∀ g, g < 2 → (s.gen g).recs = [])) ∧
    (let s : State := (linked (generating 0 4 id) id).setReg (Reg.wloActCtrl 0) 0 |>.setReg (Reg.wloShMap 0) 0x80000001 |>.store
        (mapBase 0) (leBytes 16 (16 * 2 ^ 80 + 1 * 2 ^ 64 + 2 ^ 60))
    let l : Fin 24 := 0
    let f : BitVec 56 := 0
    let g : Fin 2 := 0
    let key := l.val * 256 + nbits f.toNat 7 0
    let s1 := s.statusEntry l (nbits f.toNat 7 0) [(31, 16, nbits f.toNat 23 8)]
    s.Live ∧ s.reportsIn l = true ∧ s.locked = false ∧ s.genState g = 4 ∧ s.genState (1 - g.val) ≤ 2 ∧ (s.gen g).holdAsked =
        false ∧ s1.receiversOf g = [key] ∧ (s.gen g).heldFrom = []) ∧
    (let s : State := linked (generating 0 2 (fun x => { x with recs := [wallRec] })) id
    let l : Fin 24 := 0
    let f : BitVec 56 := 0
    let r : WallRec := wallRec
    let key := l.val * 256 + nbits f.toNat 7 0
    let mark := nbits f.toNat 55 24
    let crc := sget 0xFFFFFFFF r.marks key ^^^ 0xFFFFFFFF
    s.Live ∧ s.reportsIn l = true ∧ (s.gen 0).recs = [r] ∧ (s.gen 1).recs = [] ∧ r.number % 65536 = nbits f.toNat 23 8 ∧
        r.receivers.contains key = true ∧ r.reported.contains key = false ∧ crc = mark) ∧
    (let s : State := linked (generating 0 2 (fun x => { x with recs := [wallRec] })) id
    let l : Fin 24 := 0
    let f : BitVec 56 := 0xFFFFFFFF000000
    let r : WallRec := wallRec
    let key := l.val * 256 + nbits f.toNat 7 0
    let mark := nbits f.toNat 55 24
    let crc := sget 0xFFFFFFFF r.marks key ^^^ 0xFFFFFFFF
    s.Live ∧ s.reportsIn l = true ∧ (s.gen 0).recs = [r] ∧ (s.gen 1).recs = [] ∧ r.number % 65536 = nbits f.toNat 23 8 ∧
        r.receivers.contains key = true ∧ r.reported.contains key = false ∧ crc ≠ mark) ∧
    (let s : State := generating 0 0 (fun x => { x with recs := [wallRec] })
    let g : Fin 2 := 0
    let r : WallRec := wallRec
    let rest : List WallRec := []
    s.Live ∧ (s.gen g).recs = r :: rest ∧ s.genHere g = true ∧ s.genRuns g = false) :=
  by and_intros <;> decide +kernel

theorem test_witness_LaneDescriptorsComplete :
    (let s : State := (headed base 11 (cmd 0x10 0 0x0 []))
    let d : Desc := (cmd 0x10 0 0x0 [])
    let rest : List Desc := []
    let t := s.run 11 d
    let l := t.fld 0 87 83
    let mode := t.fld 0 82 81
    let guard := t.fld 0 80 80 == 1
    let s0 := s.taken 11 d rest
    s.Ready 11 0x10 [0] d rest ∧ wallAbsent s.variant l = false ∧ mode ≠ 3 ∧ t.fld 0 72 68 < 24 ∧ t.fld 0 48 0 = 0 ∧ ¬(mode = 2
        ∧ guard = true) ∧ s0.laneInUse l = false ∧ (guard = true → s.fld Reg.kprStatus 19 19 ≠ 0)) ∧
    (let s : State := (headed (linked base id) 11 (cmd 0x11 1 0x0 [0x100000000000000000000000]))
    let d : Desc := (cmd 0x11 1 0x0 [0x100000000000000000000000])
    let rest : List Desc := []
    let t := s.run 11 d
    let l := t.fld 0 87 83
    let dest := t.fld 1 127 80
    s.Ready 11 0x11 [1] d rest ∧ wallAbsent s.variant l = false ∧ t.zeros [(0, 66, 0), (1, 79, 0)] = true ∧ dest % 64 = 0 ∧
        s.laneUp l = true ∧ s.mgmtRoom l = true ∧ inMemory s.variant dest 2048 = true) ∧
    (let s : State := (headed (linked base id) 11 (cmd 0x12 0 0x0 []))
    let d : Desc := (cmd 0x12 0 0x0 [])
    let rest : List Desc := []
    let t := s.run 11 d
    let l := t.fld 0 87 83
    s.Ready 11 0x12 [0] d rest ∧ wallAbsent s.variant l = false ∧ t.fld 0 26 0 = 0 ∧ s.laneUp l = true ∧ s.mgmtRoom l = true) ∧
    (let s : State := (headed (linked base id) 11 (cmd 0x13 0 0x0 []))
    let d : Desc := (cmd 0x13 0 0x0 [])
    let rest : List Desc := []
    let t := s.run 11 d
    let l := t.fld 0 87 83
    s.Ready 11 0x13 [0] d rest ∧ wallAbsent s.variant l = false ∧ t.fld 0 43 0 = 0 ∧ s.laneUp l = true ∧ s.mgmtRoom l = true) ∧
    (let s : State := (headed base 11 (cmd 0x14 1 0x0 [0x100000000000000000000000]))
    let d : Desc := (cmd 0x14 1 0x0 [0x100000000000000000000000])
    let rest : List Desc := []
    let t := s.run 11 d
    let n := t.fld 0 87 82
    let dest := t.fld 1 127 80
    s.Ready 11 0x14 [1] d rest ∧ n < 52 ∧ laneAbsent s.variant n = false ∧ t.fld 0 81 78 ≤ 10 ∧ t.zeros [(0, 77, 0), (1, 79,
        0)] = true ∧ dest % 64 = 0 ∧ s.isPowered (quadDomain (n / 4)) = true ∧ inMemory s.variant dest 16256 = true) ∧
    (let s : State := { base with eyeScans := [(0, 5, 0x1000)] }
    let n : Fin 52 := 0
    let tag : Nat := 5
    let dest : Nat := 0x1000
    s.Live ∧ s.eyeScans.find? (fun e => e.1 == n.val) = some (n.val, tag, dest)) ∧
    (let s : State := linked base (fun w => { w with mgmt := [.block 0xCC 1] })
    let l : Fin 24 := 0
    let blocks : List (Nat × Nat) := [(0xCC, 1)]
    let rest : List Mgmt := []
    s.Live ∧ s.laneUp l = true ∧ blocks ≠ [] ∧ blocks.length ≤ 8 ∧ (blocks.length = 8 ∨ rest = []) ∧ (s.lane l).mgmt =
        blocks.map (fun b => .block b.1 b.2) ++ rest ∧ s.laneScanned l = false ∧ s.unitStalled 0x3D = false) :=
  by and_intros <;> decide +kernel

theorem test_witness_LaneAndTileEventsComplete :
    (let s : State := linked base id
    let l : Fin 24 := 0
    s.Live ∧ s.reportsIn l = true ∧ (s.lane l).enumHigh = none) ∧
    (let s : State := linked base id
    let l : Fin 24 := 0
    s.Live ∧ s.reportsIn l = true ∧ (s.lane l).enums = []) ∧
    (let s : State := linked base (fun w => { w with enums := [(5, 0x1000, [])] })
    let l : Fin 24 := 0
    let tag := 5
    let dest := 0x1000
    let seen := ([] : List Nat)
    let rest := ([] : List (Nat × Nat × List Nat))
    s.Live ∧ s.reportsIn l = true ∧ (s.lane l).enums = (tag, dest, seen) :: rest) ∧
    (let s : State := linked base id
    let l : Fin 24 := 0
    let f : BitVec 56 := 0
    let v := f.toNat
    let p := nbits v 7 0
    s.Live ∧ s.reportsIn l = true ∧ (s.lane l).reads.find? (fun r => r.2.1 == p && r.2.2 == nbits v 22 8) = none) ∧
    (let s : State := linked base (fun w => { w with reads := [(5, 0, 0)] })
    let l : Fin 24 := 0
    let f : BitVec 56 := 0x800000
    let v := f.toNat
    let p := nbits v 7 0
    let r := (5, 0, 0)
    s.Live ∧ s.reportsIn l = true ∧ (s.lane l).reads.find? (fun r => r.2.1 == p && r.2.2 == nbits v 22 8) = some r ∧ nbits v 23
        23 = 1) ∧
    (let s : State := linked base (fun w => { w with reads := [(5, 0, 0)] })
    let l : Fin 24 := 0
    let f : BitVec 56 := 0
    let v := f.toNat
    let p := nbits v 7 0
    let r := (5, 0, 0)
    s.Live ∧ s.reportsIn l = true ∧ (s.lane l).reads.find? (fun r => r.2.1 == p && r.2.2 == nbits v 22 8) = some r ∧ nbits v 23
        23 = 0) ∧
    (let s : State := linked base (fun w => { w with enums := [(5, 0x1000, [])] })
    let l : Fin 24 := 0
    let tag : Nat := 5
    let dest : Nat := 0x1000
    let replies : List Nat := []
    let rest : List (Nat × Nat × List Nat) := ([] : List (Nat × Nat × List Nat))
    s.Live ∧ (s.lane l).enums = (tag, dest, replies) :: rest) ∧
    (let s : State := linked base (fun w => { w with reads := [(5, 0, 0)] })
    let l : Fin 24 := 0
    let p : BitVec 8 := 0
    let r : Nat × Nat × Nat := (5, 0, 0)
    s.Live ∧ (s.lane l).reads.find? (fun r => r.2.1 == p.toNat) = some r) ∧
    (let s : State := ((pllOn 4 base).setFld (Reg.lnxWlStatus 0) 31 28 1).mapLane 0 (fun w => { w with mode := 2 })
    let n : Fin 52 := 16
    let st := Reg.lnxStatus (n.val / 4)
    let bits := ((List.replicate 64 (true :: false :: List.replicate 64 false)).flatten)
    s.Live ∧ s.laneRuns n = true ∧ 16 ≤ n.val ∧ s.fld st (4 + n.val % 4) (4 + n.val % 4) = 0 ∧ s.streamLocks n bits = true ∧
        n.val < 40) ∧
    (let s : State := pllOn 12 base
    let n : Fin 52 := 48
    let st := Reg.lnxStatus (n.val / 4)
    let bits := ([] : List Bool)
    s.Live ∧ s.laneRuns n = true ∧ 16 ≤ n.val ∧ s.fld st (4 + n.val % 4) (4 + n.val % 4) = 0 ∧ s.streamLocks n bits = true ∧ 40
        ≤ n.val) ∧
    (let s : State := pllOn 0 base
    let n : Fin 52 := 0
    let bits := ([] : List Bool)
    s.Live ∧ s.laneRuns n = true ∧ (n.val < 16 ∨ s.streamLocks n bits = false)) ∧
    (let s : State := ((pllOn 4 base).setFld (Reg.lnxStatus 4) 4 4 1).setFld (Reg.lnxWlStatus 0) 31 28 1
    let n : Fin 52 := 16
    let st := Reg.lnxStatus (n.val / 4)
    let heads := [true]
    let r := headRun (s.serialLane n).heads 0 heads
    let lost := r.2.2 || !plepor n
    s.Live ∧ s.laneRuns n = true ∧ s.fld st (4 + n.val % 4) (4 + n.val % 4) = 1 ∧ lost = false) ∧
    (let s : State := ((pllOn 4 base).setFld (Reg.lnxStatus 4) 4 4 1).setFld (Reg.lnxWlStatus 0) 31 28 1
    let n : Fin 52 := 16
    let st := Reg.lnxStatus (n.val / 4)
    let heads := (List.replicate 16 false)
    let r := headRun (s.serialLane n).heads 0 heads
    let lost := r.2.2 || !plepor n
    s.Live ∧ s.laneRuns n = true ∧ s.fld st (4 + n.val % 4) (4 + n.val % 4) = 1 ∧ lost = true ∧ 16 ≤ n.val ∧ n.val < 40) ∧
    (let s : State := (pllOn 0 base).setFld (Reg.lnxStatus 0) 4 4 1
    let n : Fin 52 := 0
    let st := Reg.lnxStatus (n.val / 4)
    let heads := ([] : List Bool)
    let r := headRun (s.serialLane n).heads 0 heads
    let lost := r.2.2 || !plepor n
    s.Live ∧ s.laneRuns n = true ∧ s.fld st (4 + n.val % 4) (4 + n.val % 4) = 1 ∧ lost = true ∧ (n.val < 16 ∨ 40 ≤ n.val)) ∧
    (let s : State := pllOn 4 (linked base id)
    let n : Fin 52 := 16
    s.Live ∧ s.laneRuns n = true ∧ (s.serialLane n).adapted = false ∧ 16 ≤ n.val ∧ n.val < 40) ∧
    (let s : State := pllOn 0 base
    let n : Fin 52 := 0
    s.Live ∧ s.laneRuns n = true ∧ (s.serialLane n).adapted = false ∧ (n.val < 16 ∨ 40 ≤ n.val)) ∧
    (let s : State := pllOn 0 base
    let n : Fin 52 := 0
    let rx := Reg.lnxRx (n.val / 4) (n.val % 4)
    s.Live ∧ s.laneRuns n = true ∧ s.fld rx 27 27 = 0) ∧
    (let s : State := pllOn 4 base
    let q : Fin 13 := 4
    s.Live ∧ quadAbsent s.variant q = false ∧ s.fld (Reg.lnxStatus q) 31 31 = 1) ∧
    (let s : State := base
    let q : Fin 13 := 4
    s.Live ∧ quadAbsent s.variant q = false ∧ s.isPowered (quadDomain q) = true ∧ s.fld (Reg.lnxStatus q) 31 31 = 0) ∧
    (let s : State := (pllOn 4 (linked base (fun w => { w with mode := 2 }))).setFld (Reg.lnxWlStatus 0) 24 24 0
    let l : Fin 24 := 0
    s.Live ∧ (s.lane l).mode = 2 ∧ s.laneRuns (16 + l.val) = true ∧ s.wlLocked l = false) :=
  by and_intros <;> decide +kernel

theorem test_witness_CodecDescriptorsComplete :
    (let s : State := (headed (base.store 0x1000 (encBlock.flatMap (leBytes 16))) 12 (cmd 0x10 1 0x0
        [0x100000000000000000000000]))
    let x : Fin 4 := 0
    let d : Desc := (cmd 0x10 1 0x0 [0x100000000000000000000000])
    let rest : List Desc := []
    let t := s.run (12 + x.val) d
    let s0 := s.taken (12 + x.val) d rest
    let s1 := s0.meet (t.fld 1 127 80) 128
    s.Ready (12 + x.val) 0x10 [1] d rest ∧ s.vcxIdle x = true ∧ s1.ctxRefused x t = none) ∧
    (let s : State := (headed base 12 (cmd 0x10 1 0x0 [0x100000000000000000000000]))
    let x : Fin 4 := 0
    let d : Desc := (cmd 0x10 1 0x0 [0x100000000000000000000000])
    let rest : List Desc := []
    let t := s.run (12 + x.val) d
    let s0 := s.taken (12 + x.val) d rest
    let s1 := s0.meet (t.fld 1 127 80) 128
    let st := vcxBadParams
    s.Ready (12 + x.val) 0x10 [1] d rest ∧ s.vcxIdle x = true ∧ s1.ctxRefused x t = some st) ∧
    (let s : State := (headed (coding (.enc encCtx) .idle) 12 (cmd 0x11 2 0x0 [0x100000000400000000000000,
        0x200000000000000000000000]))
    let x : Fin 4 := 0
    let d : Desc := (cmd 0x11 2 0x0 [0x100000000400000000000000, 0x200000000000000000000000])
    let rest : List Desc := []
    let e : EncCtx := encCtx
    let t := s.run (12 + x.val) d
    let c := t.fld 0 87 83
    let s0 := s.taken (12 + x.val) d rest
    let s1 := if t.fld 0 80 80 = 1 then s0.meet (t.fld 2 79 32) 256 else s0
    s.Ready (12 + x.val) 0x11 [2] d rest ∧ s.vcxIdle x = true ∧ s.isPartner x = false ∧ (s.vcx x).ctx c = some (.enc e) ∧
        s1.encRefused e t = none) ∧
    (let s : State := (headed (coding (.dec decCtx) .idle) 12 (cmd 0x12 1 0x0 [0x200000000000]))
    let x : Fin 4 := 0
    let d : Desc := (cmd 0x12 1 0x0 [0x200000000000])
    let rest : List Desc := []
    let c : DecCtx := decCtx
    let t := s.run (12 + x.val) d
    let s0 := s.taken (12 + x.val) d rest
    s.Ready (12 + x.val) 0x12 [1] d rest ∧ s.vcxIdle x = true ∧ s.isPartner x = false ∧ (s.vcx x).ctx (t.fld 0 87 83) = some
        (.dec c) ∧ s0.decRefused c t = none) ∧
    (let s : State := (headed (coding (.dec { decCtx with dpb := [⟨0, 0, false, false, true, false, false, false, 0, 0⟩] })
        .idle) 12 (cmd 0x13 0 0x0 []))
    let x : Fin 4 := 0
    let d : Desc := (cmd 0x13 0 0x0 [])
    let rest : List Desc := []
    let c : DecCtx := { decCtx with dpb := [⟨0, 0, false, false, true, false, false, false, 0, 0⟩] }
    let t := s.run (12 + x.val) d
    let b := t.fld 0 82 78
    s.Ready (12 + x.val) 0x13 [0] d rest ∧ s.isPartner x = false ∧ (s.vcx x).ctx (t.fld 0 87 83) = some (.dec c) ∧ c.mirror =
        false ∧ t.fld 0 77 0 = 0 ∧ c.dpb.any (fun e => e.buffer == b && e.held && !c.owed.contains e.number) = true) ∧
    (let s : State := (headed (coding (.dec decCtx) .idle) 12 (cmd 0x14 0 0x0 []))
    let x : Fin 4 := 0
    let d : Desc := (cmd 0x14 0 0x0 [])
    let rest : List Desc := []
    let k : VcxCtx := VcxCtx.dec decCtx
    let t := s.run (12 + x.val) d
    s.Ready (12 + x.val) 0x14 [0] d rest ∧ s.vcxIdle x = true ∧ (s.vcx x).ctx (t.fld 0 87 83) = some k ∧ t.fld 0 81 0 = 0 ∧
        ((s.vcx x).enc? (t.fld 0 87 83) = none ∨ t.fld 0 82 82 = 0)) ∧
    (let s : State := (headed (coding (.enc encCtx) .idle) 12 (cmd 0x14 0 0x400000000000000000000 []))
    let x : Fin 4 := 0
    let d : Desc := (cmd 0x14 0 0x400000000000000000000 [])
    let rest : List Desc := []
    let k : VcxCtx := VcxCtx.enc encCtx
    let t := s.run (12 + x.val) d
    let e := encCtx
    s.Ready (12 + x.val) 0x14 [0] d rest ∧ s.vcxIdle x = true ∧ (s.vcx x).ctx (t.fld 0 87 83) = some k ∧ t.fld 0 81 0 = 0 ∧ k =
        .enc e ∧ t.fld 0 82 82 = 1 ∧ s.nalRoom e 5 = true) :=
  by and_intros <;> decide +kernel

theorem test_witness_CodecRunsComplete :
    (let s : State := coding (.enc encCtx) (.enc { encPic with waiting := true })
    let x : Fin 4 := 0
    let p : EncPic := { encPic with waiting := true }
    let e : EncCtx := encCtx
    s.Live ∧ (s.vcx x).run = .enc p ∧ (s.vcx x).enc? p.ctx = some e ∧ p.waiting = true) ∧
    (let s : State := coding (.enc encCtx) (.enc { encPic with waiting := false })
    let x : Fin 4 := 0
    let p : EncPic := { encPic with waiting := false }
    let e : EncCtx := encCtx
    s.Live ∧ (s.vcx x).run = .enc p ∧ (s.vcx x).enc? p.ctx = some e ∧ p.waiting = false ∧ p.out = [] ∧ p.row < e.rows ∧
        s.srcHas p (e.rowLines p.row).2 = true ∧ s.unitStalled (0x40 + e.coder x p.row) = false) ∧
    (let s : State := coding (.enc encCtx) (.enc { encPic with out := [⟨[], 0, 0⟩] })
    let x : Fin 4 := 0
    let p : EncPic := { encPic with out := [⟨[], 0, 0⟩] }
    let e : EncCtx := encCtx
    s.Live ∧ (s.vcx x).run = .enc p ∧ (s.vcx x).enc? p.ctx = some e ∧ p.out ≠ []) ∧
    (let s : State := (coding (.enc encCtx) (.enc { encPic with out := [⟨[], 0, 0⟩] })).setFld (Reg.vcxWaitThresh 0) 15 0 1
    let x : Fin 4 := 0
    let p := { encPic with out := [⟨[], 0, 0⟩] }
    s.Live ∧ s.fld (Reg.vcxWaitThresh x) 15 0 ≠ 0 ∧ (s.vcx x).run = .enc p ∧ p.out ≠ [] ∧ p.threshMade = false) ∧
    (let s : State := (coding (.dec decCtx) (.dec decRun)).setFld (Reg.vcxWaitThresh 0) 15 0 1
    let x : Fin 4 := 0
    let c := decRun
    s.Live ∧ s.fld (Reg.vcxWaitThresh x) 15 0 ≠ 0 ∧ (s.vcx x).run = .dec c ∧ c.waiting = true ∧ c.threshMade = false) ∧
    (let s : State := coding (.dec decCtx) (.dec decRun)
    let x : Fin 4 := 0
    let r : DecRun := decRun
    let c : DecCtx := decCtx
    s.Live ∧ (s.vcx x).run = .dec r ∧ (s.vcx x).dec? r.ctx = some c ∧ r.waiting = true ∧ s.unitStalled (0x40 + x.val) = false) ∧
    (let s : State := (coding (.enc { encCtx with slices := 1 }) .idle).setCtx 1 0 (some (.dec
        { decCtx with params := decCtx.params.set 0 ((8 * 2 ^ 112 + 8 * 2 ^ 96 + 2 * 2 ^ 91 + 2 ^ 88 : Nat) : BitVec 128), attached := true }))
    let x : Fin 4 := 1
    let c : Nat := 0
    let d :
        DecCtx := { decCtx with params := decCtx.params.set 0 ((8 * 2 ^ 112 + 8 * 2 ^ 96 + 2 * 2 ^ 91 + 2 ^ 88 : Nat) : BitVec 128), attached := true }
    let e : EncCtx := { encCtx with slices := 1 }
    s.Live ∧ s.isPowered (13 + x.val) = true ∧ s.isFenced (13 + x.val) = false ∧ s.unitStalled (0x40 + x.val) = false ∧
        s.vcxIdle x = true ∧ s.mirrorDue x = some (c, d, e)) :=
  by and_intros <;> decide +kernel

theorem test_witness_LosslessPackerCommandsComplete :
    (let s : State := (headed chained 16 (cmd 0x10 2 0x0 [0x100000000100100001000000, 0x200001000000000000000000]))
    let n : Fin 2 := 0
    let d : Desc := (cmd 0x10 2 0x0 [0x100000000100100001000000, 0x200001000000000000000000])
    let rest : List Desc := []
    let r : LpkRun := ⟨5, 0, 1, 10, 0, 0, 0x1000, 1, 16, 1, [(0x3000, 0x1000)], 0, 64, 0, false⟩
    let s0 := s.taken (16 + n.val) d rest
    let t := s.run (16 + n.val) d
    let s1 := s0.meet (t.fld 2 127 80) (16 * t.fld 2 79 72)
    s.Ready (16 + n.val) 0x10 [2] d rest ∧ s.lpk n = none ∧ s1.packOf t = some r ∧ s1.poisonedAt (t.fld 2 127 80) (16 * t.fld 2
        79 72) = false) ∧
    (let s : State := base.setLpk 0 (some ⟨5, 0, 1, 10, 0, 0, 0x1000, 1, 16, 1, [(0x3000, 0x1000)], 0, 64, 0, false⟩)
    let n : Fin 2 := 0
    let r : LpkRun := ⟨5, 0, 1, 10, 0, 0, 0x1000, 1, 16, 1, [(0x3000, 0x1000)], 0, 64, 0, false⟩
    s.Live ∧ s.isPowered 17 = true ∧ s.isFenced 17 = false ∧ s.unitStalled (0x44 + n.val) = false ∧ s.lpk n = some r) ∧
    (let s : State := (headed (chained.store 0x3000 streamHeader) 16 (cmd 0x11 1 0x0 [0x400000000100000000200001]))
    let n : Fin 2 := 0
    let d : Desc := (cmd 0x11 1 0x0 [0x400000000100000000200001])
    let rest : List Desc := []
    let c : List (Nat × Nat) := [(0x3000, 0x1000)]
    let t := s.run (16 + n.val) d
    let s0 := s.taken (16 + n.val) d rest
    let dest := t.fld 1 127 80
    let stride := t.fld 1 79 56
    let s1 := s0.meet (t.fld 1 55 8) (16 * t.fld 1 7 0)
    let s2 := s1.meetChain c 0 64
    let h := s2.chainGet c 0 64
    let total := hdrField h.1 14 2 * hdrField h.1 7 1
    s.Ready (16 + n.val) 0x11 [1] d rest ∧ s.lpk n = none ∧ s1.readChain (t.fld 1 55 8) (t.fld 1 7 0) = some c ∧ t.fld 0 87 0 =
        0 ∧ dest % 64 = 0 ∧ s2.poisonedAt (t.fld 1 55 8) (16 * t.fld 1 7 0) = false ∧ headerBad h = false ∧ 2 * hdrField h.1 12
        2 ≤ stride * 64 ∧ (total = 0 ∨ inMemory s.variant dest ((total - 1) * stride * 64 + 2 * hdrField h.1 12 2) = true)) ∧
    (let s : State := (headed chained 16 (cmd 0x11 1 0x0 [0x400000000100000000200001]))
    let n : Fin 2 := 0
    let d : Desc := (cmd 0x11 1 0x0 [0x400000000100000000200001])
    let rest : List Desc := []
    let c : List (Nat × Nat) := [(0x3000, 0x1000)]
    let t := s.run (16 + n.val) d
    let s0 := s.taken (16 + n.val) d rest
    let dest := t.fld 1 127 80
    let s1 := s0.meet (t.fld 1 55 8) (16 * t.fld 1 7 0)
    let s2 := s1.meetChain c 0 64
    let h := s2.chainGet c 0 64
    s.Ready (16 + n.val) 0x11 [1] d rest ∧ s.lpk n = none ∧ s1.readChain (t.fld 1 55 8) (t.fld 1 7 0) = some c ∧ t.fld 0 87 0 =
        0 ∧ dest % 64 = 0 ∧ s2.poisonedAt (t.fld 1 55 8) (16 * t.fld 1 7 0) = false ∧ headerBad h = true) :=
  by and_intros <;> decide +kernel

theorem test_witness_ClipCommandsComplete :
    (let s : State := (headed stored 18 (cmd 0x11 2 0x0 [0x1000000020000000100, 0x0]))
    let s0 : State := (s.taken 18 (cmd 0x11 2 0x0 [0x1000000020000000100, 0x0]) [])
    let src : ClsSrc := (ClsSrc.device)
    let t : Taken := (s.run 18 (cmd 0x11 2 0x0 [0x1000000020000000100, 0x0]))
    s.StoreTakes src 0x11 [2] t s0 ∧ s0.openRefused t = none) ∧
    (let s : State := (headed clipped 18 (cmd 0x12 2 0x0 [0x100000004000000000000000, 0x0]))
    let s0 : State := (s.taken 18 (cmd 0x12 2 0x0 [0x100000004000000000000000, 0x0]) [])
    let src : ClsSrc := (ClsSrc.device)
    let t : Taken := (s.run 18 (cmd 0x12 2 0x0 [0x100000004000000000000000, 0x0]))
    let k := clip0
    s.StoreTakes src 0x12 [2] t s0 ∧ s0.clsReady = true ∧ clipWriteOk s0.variant t = true ∧ s0.clip (t.fld 0 87 78) = some k ∧
        k.state = 1) ∧
    (let s : State := (headed clipped 18 (cmd 0x13 1 0x0 [0x4000000000100000]))
    let s0 : State := (s.taken 18 (cmd 0x13 1 0x0 [0x4000000000100000]) [])
    let src : ClsSrc := (ClsSrc.device)
    let t : Taken := (s.run 18 (cmd 0x13 1 0x0 [0x4000000000100000]))
    let k := clip0
    s.StoreTakes src 0x13 [1] t s0 ∧ s0.clsReady = true ∧ t.zeros [(0, 76, 0), (1, 7, 0)] = true ∧ t.fld 1 79 56 ≠ 0 ∧ inMemory
        s0.variant (t.fld 1 55 8) (t.fld 1 79 56) = true ∧ s0.clip (t.fld 0 87 78) = some k) ∧
    (let s : State := (headed clipped 18 (cmd 0x14 1 0x0 [0x100000000100000000000000]))
    let s0 : State := (s.taken 18 (cmd 0x14 1 0x0 [0x100000000100000000000000]) [])
    let src : ClsSrc := (ClsSrc.device)
    let t : Taken := (s.run 18 (cmd 0x14 1 0x0 [0x100000000100000000000000]))
    let k := clip0
    s.StoreTakes src 0x14 [1] t s0 ∧ s0.clsReady = true ∧ t.zeros [(0, 76, 0), (1, 23, 0)] = true ∧ t.fld 1 79 56 ≠ 0 ∧ t.fld 1
        127 80 % 16 = 0 ∧ inMemory s0.variant (t.fld 1 127 80) (16 * t.fld 1 79 56) = true ∧ s0.clip (t.fld 0 87 78) = some k) ∧
    (let s : State := (headed clipped 18 (cmd 0x15 0 0x0 []))
    let s0 : State := (s.taken 18 (cmd 0x15 0 0x0 []) [])
    let src : ClsSrc := (ClsSrc.device)
    let t : Taken := (s.run 18 (cmd 0x15 0 0x0 []))
    s.StoreTakes src 0x15 [0] t s0 ∧ s0.clsReady = true ∧ t.fld 0 87 0 = 0) ∧
    (let s : State := (headed clipped 18 (cmd 0x16 0 0x0 []))
    let s0 : State := (s.taken 18 (cmd 0x16 0 0x0 []) [])
    let src : ClsSrc := (ClsSrc.device)
    let t : Taken := (s.run 18 (cmd 0x16 0 0x0 []))
    let k := clip0
    s.StoreTakes src 0x16 [0] t s0 ∧ s0.clsReady = true ∧ t.fld 0 77 0 = 0 ∧ s0.clip (t.fld 0 87 78) = some k) ∧
    (let s : State := (headed clipped 18 (cmd 0x17 0 0x0 []))
    let s0 : State := (s.taken 18 (cmd 0x17 0 0x0 []) [])
    let src : ClsSrc := (ClsSrc.device)
    let t : Taken := (s.run 18 (cmd 0x17 0 0x0 []))
    let k := clip0
    s.StoreTakes src 0x17 [0] t s0 ∧ s0.clsReady = true ∧ t.fld 0 77 0 = 0 ∧ s0.clip (t.fld 0 87 78) = some k) ∧
    (let s : State := (headed clipped 18 (cmd 0x18 1 0x0 [0x100000000000000000000000]))
    let s0 : State := (s.taken 18 (cmd 0x18 1 0x0 [0x100000000000000000000000]) [])
    let src : ClsSrc := (ClsSrc.device)
    let t : Taken := (s.run 18 (cmd 0x18 1 0x0 [0x100000000000000000000000]))
    let k := clip0
    s.StoreTakes src 0x18 [1] t s0 ∧ s0.clsReady = true ∧ t.zeros [(0, 77, 0), (1, 79, 0)] = true ∧ t.fld 1 127 80 % 16 = 0 ∧
        inMemory s0.variant (t.fld 1 127 80) 16 = true ∧ s0.clip (t.fld 0 87 78) = some k) ∧
    (let s : State := (headed ((stored.setQueue 18 { stored.queue 18 with tags := [7] }).mapCls (fun x =>
        { x with ages := [⟨18, 7, 0, false⟩] })) 18 (cmd 0x19 0 0x48001C0000000000000000 []))
    let s0 : State := (s.taken 18 (cmd 0x19 0 0x48001C0000000000000000 []) [])
    let src : ClsSrc := (ClsSrc.device)
    let t : Taken := (s.run 18 (cmd 0x19 0 0x48001C0000000000000000 []))
    let a := 0
    s.StoreTakes src 0x19 [0] t s0 ∧ t.fld 0 65 0 = 0 ∧ s0.ageOf (t.fld 0 87 82) (t.fld 0 81 66) = some a) ∧
    (let s :
        State := { ((stored.setQueue 18 { stored.queue 18 with tags := [7] }).mapCls (fun x => { x with ages := [⟨18, 7, 0, false⟩] })).setReg Reg.clsAgeThresh 1000 with bcn := { base.bcn with ns := 2000000 } }
    let src : ClsSrc := (ClsSrc.device)
    let q := srcQueue src
    let tag : BitVec 16 := 7
    let age : Nat := 2000
    let a : ClsAge := ⟨18, 7, 0, false⟩
    s.Live ∧ s.ageOf q tag.toNat = some age ∧ s.cls.ages.find? (fun a => a.q == q && a.tag == tag.toNat) = some a ∧ (s.reg
        Reg.clsAgeThresh).toNat ≠ 0 ∧ (s.reg Reg.clsAgeThresh).toNat < age ∧ a.fired = false) :=
  ⟨⟨storeTakes_device (d := (cmd 0x11 2 0x0 [0x1000000020000000100, 0x0]))
      (rest := []) (by decide +kernel) (by decide +kernel), by decide +kernel⟩, ⟨storeTakes_device (d := (cmd 0x12 2 0x0
      [0x100000004000000000000000, 0x0])) (rest := []) (by decide +kernel) (by decide +kernel), by decide +kernel⟩,
      ⟨storeTakes_device (d := (cmd 0x13 1 0x0 [0x4000000000100000])) (rest := []) (by decide +kernel) (by decide +kernel),
      by decide +kernel⟩, ⟨storeTakes_device (d := (cmd 0x14 1 0x0 [0x100000000100000000000000]))
      (rest := []) (by decide +kernel) (by decide +kernel), by decide +kernel⟩, ⟨storeTakes_device (d := (cmd 0x15 0 0x0 []))
      (rest := []) (by decide +kernel) (by decide +kernel), by decide +kernel⟩, ⟨storeTakes_device (d := (cmd 0x16 0 0x0 []))
      (rest := []) (by decide +kernel) (by decide +kernel), by decide +kernel⟩, ⟨storeTakes_device (d := (cmd 0x17 0 0x0 []))
      (rest := []) (by decide +kernel) (by decide +kernel), by decide +kernel⟩, ⟨storeTakes_device (d := (cmd 0x18 1 0x0
      [0x100000000000000000000000])) (rest := []) (by decide +kernel) (by decide +kernel), by decide +kernel⟩,
      ⟨storeTakes_device (d := (cmd 0x19 0 0x48001C0000000000000000 [])) (rest := []) (by decide +kernel) (by decide +kernel),
      by decide +kernel⟩, by decide +kernel⟩

theorem test_witness_StorageDevicesComplete :
    (let s : State := (headed stored 18 (cmd 0x10 2 0x4000000000000000000000 [0x10000000400001000000000000,
        0x800000000000000000000000000]))
    let s0 : State := (s.taken 18 (cmd 0x10 2 0x4000000000000000000000 [0x10000000400001000000000000,
        0x800000000000000000000000000]) [])
    let src : ClsSrc := (ClsSrc.device)
    let t : Taken := (s.run 18 (cmd 0x10 2 0x4000000000000000000000 [0x10000000400001000000000000,
        0x800000000000000000000000000]))
    s.StoreTakes src 0x10 [2] t s0 ∧ s0.setupRefused t = none) ∧
    (let s : State := stored.setSsd 0 1
    let r : Fin 2 := 0
    s.Live ∧ s.isPowered 18 = true ∧ s.ssd r = 1) ∧
    (let s : State := stored.setSsd 0 2
    let r : Fin 2 := 0
    s.Live ∧ s.isPowered 18 = true ∧ s.ssd r = 2) ∧
    (let s : State := stored.setSsd 0 1
    let r : Fin 2 := 0
    s.Live ∧ s.isPowered 18 = true ∧ (s.ssd r = 1 ∨ s.ssd r = 2)) ∧
    (let s : State := stored.setSsd 0 3
    let r : Fin 2 := 0
    let warning : Byte := 1
    s.Live ∧ s.isPowered 18 = true ∧ (s.ssd r = 3 ∨ s.ssd r = 4) ∧ warning ≠ 0) ∧
    (let s : State := stored.setSsd 0 3
    let r : Fin 2 := 0
    s.Live ∧ s.isPowered 18 = true ∧ 2 ≤ s.ssd r ∧ s.ssd r ≤ 5) ∧
    (let s : State := (stored.setSsd 0 3).mapCls (fun x => { x with nvme := [⟨0, 5, true, [], false, 0⟩] })
    let r : Fin 2 := 0
    let cid : Nat := 5
    let n : NvmeCmd := ⟨0, 5, true, [], false, 0⟩
    let u : ClsSetup := ⟨[0], false, 0x100000, 64, 1, 0x8000000, 0⟩
    s.Live ∧ s.cls.setup = some u ∧ s.cls.nvme.find? (fun n => n.port == r.val && n.cid == cid) = some n ∧ n.write = true ∧
        n.retried = false) ∧
    (let s : State := (stored.setSsd 0 3).mapCls (fun x => { x with nvme := [⟨0, 5, false, [], false, 0⟩] })
    let r : Fin 2 := 0
    let cid : Nat := 5
    let n : NvmeCmd := ⟨0, 5, false, [], false, 0⟩
    let u : ClsSetup := ⟨[0], false, 0x100000, 64, 1, 0x8000000, 0⟩
    s.Live ∧ s.cls.setup = some u ∧ s.cls.nvme.find? (fun n => n.port == r.val && n.cid == cid) = some n ∧ n.write = false) ∧
    (let s : State := (stored.setSsd 0 3).mapCls (fun x => { x with nvme := [⟨0, 5, true, [], true, 0⟩] })
    let r : Fin 2 := 0
    let cid : Nat := 5
    let n : NvmeCmd := ⟨0, 5, true, [], true, 0⟩
    let u : ClsSetup := ⟨[0], false, 0x100000, 64, 1, 0x8000000, 0⟩
    s.Live ∧ s.cls.setup = some u ∧ s.cls.nvme.find? (fun n => n.port == r.val && n.cid == cid) = some n ∧ n.write = true ∧
        n.retried = true) ∧
    (let s : State := (stored.setSsd 0 3).mapCls (fun x => { x with nvme := [⟨0, 5, true, [], false, 0⟩] })
    let r : Fin 2 := 0
    let cid : Nat := 5
    let n : NvmeCmd := ⟨0, 5, true, [], false, 0⟩
    let u : ClsSetup := ⟨[0], false, 0x100000, 64, 1, 0x8000000, 0⟩
    s.Live ∧ s.cls.setup = some u ∧ s.cls.nvme.find? (fun n => n.port == r.val && n.cid == cid) = some n ∧ s.ssd r = 3) ∧
    (let s : State := stored
    s.Live ∧ s.isPowered 18 = true) :=
  ⟨⟨storeTakes_device (d := (cmd 0x10 2 0x4000000000000000000000 [0x10000000400001000000000000,
      0x800000000000000000000000000])) (rest := []) (by decide +kernel) (by decide +kernel), by decide +kernel⟩,
      by and_intros <;> decide +kernel⟩

theorem test_witness_StoreControlsComplete :
    (let s : State := stored.setFld (Reg.clsHqSqSize 0) 12 0 16
    let m : Master := .host
    let n : Fin 4 := 0
    let v : Word := 1
    s.Open m (Reg.clsHqSqTail n) ∧ v.toNat < s.fld (Reg.clsHqSqSize n) 12 0 ∧ s.clsFetches = true) ∧
    (let s : State := stored.setFld (Reg.clsHqSqSize 0) 12 0 16
    let m : Master := .host
    let n : Fin 4 := 0
    let v : Word := 16
    s.Open m (Reg.clsHqSqTail n) ∧ s.fld (Reg.clsHqSqSize n) 12 0 ≤ v.toNat) ∧
    (let s : State := stored.setFld (Reg.clsHqCqSize 0) 12 0 16
    let m : Master := .host
    let n : Fin 4 := 0
    let v : Word := 1
    s.Open m (Reg.clsHqCqHead n) ∧ v.toNat < s.fld (Reg.clsHqCqSize n) 12 0) ∧
    (let s : State := stored.setFld (Reg.clsHqCqSize 0) 12 0 16
    let m : Master := .host
    let n : Fin 4 := 0
    let v : Word := 16
    s.Open m (Reg.clsHqCqHead n) ∧ s.fld (Reg.clsHqCqSize n) 12 0 ≤ v.toNat) ∧
    (let s : State := stored
    let m : Master := .host
    let n : Fin 4 := 0
    let v : Word := 0
    s.Open m (Reg.clsHqCtrl n) ∧ bitsOf v 31 31 = 0) ∧
    (let s : State := (((stored.setFld (Reg.clsHqSqSize 0) 12 0 16).setFld (Reg.clsHqCqSize 0) 12 0 16).setReg (Reg.clsHqSqLo 0)
        0x10000).setReg (Reg.clsHqCqLo 0) 0x20000
    let m : Master := .host
    let n : Fin 4 := 0
    let v : Word := 0x80000000
    let i := 4
    let j := 4
    let sq := 0x10000
    let cq := 0x20000
    s.Open m (Reg.clsHqCtrl n) ∧ bitsOf v 31 31 = 1 ∧ s.fld (Reg.clsHqSqSize n) 12 0 = 2 ^ i ∧ s.fld (Reg.clsHqCqSize n) 12 0 =
        2 ^ j ∧ 4 ≤ i ∧ i ≤ 12 ∧ 4 ≤ j ∧ j ≤ 12 ∧ sq = s.fld (Reg.clsHqSqLo n) 31 6 * 64 + s.fld (Reg.clsHqSqHi n) 15 0 * 2 ^
        32 ∧ cq = s.fld (Reg.clsHqCqLo n) 31 6 * 64 + s.fld (Reg.clsHqCqHi n) 15 0 * 2 ^ 32 ∧ inMemory s.variant sq (64 * 2 ^
        i) = true ∧ inMemory s.variant cq (16 * 2 ^ j) = true ∧ s.clsFetches = true) ∧
    (let s : State := stored
    let m : Master := .host
    let n : Fin 4 := 0
    let v : Word := 0x80000000
    s.Open m (Reg.clsHqCtrl n) ∧ bitsOf v 31 31 = 1 ∧ s.fld (Reg.clsHqSqSize n) 12 0 < 16) ∧
    (let s : State := stored
    let m : Master := .host
    let v : Word := 0x80000000
    s.Open m Reg.clsCtrl ∧ bitsOf v 31 31 = 1 ∧ s.isPowered 18 = true ∧ s.clsState ≠ 3) ∧
    (let s : State := stored
    let m : Master := .host
    let v : Word := 0x40000000
    s.Open m Reg.clsCtrl ∧ bitsOf v 30 30 = 1 ∧ s.isPowered 18 = true ∧ s.clsState ≤ 2) ∧
    (let s : State := stored.setClsState 5
    let m : Master := .host
    let v : Word := 0x20000000
    s.Open m Reg.clsCtrl ∧ bitsOf v 29 29 = 1 ∧ s.clsState = 5) ∧
    (let s : State := stored.setClsState 4
    s.Live ∧ s.clsState = 4 ∧ s.cls.setupTag = none ∧ (∀ j ∈ s.cls.jobs, s.holdsActivation j = false)) ∧
    (let s : State := ((hosted (stored.setClsState 3) (cmd 0x03 0 0 [])).setFld (Reg.clsHqSqTail 0) 11 0 3)
    let s1 := ((s.losePages (fun _ => true)).resetTaken 18).resetWaiting
    let s2 := ((List.range 4).foldl (fun s n => s.resetTaken (60 + n)) s1).mapCls (fun x =>
        { x with jobs := [], resetStep := 4 })
    let s3 := (List.range 4).foldl (fun s n => State.resetEntries n 4096 s) s2
    s.Live ∧ s.clsState = 3 ∧ s.resetWrites = false ∧ s.cls.resetStep = 0 ∧ s2.clsState = 3 ∧ s2.cls.resetStep = 4 ∧
        s3.resetOwed = true) ∧
    (let s : State := stored.setClsState 3
    let s1 := ((s.losePages (fun _ => true)).resetTaken 18).resetWaiting
    let s2 := ((List.range 4).foldl (fun s n => s.resetTaken (60 + n)) s1).mapCls (fun x =>
        { x with jobs := [], resetStep := 4 })
    let s3 := (List.range 4).foldl (fun s n => State.resetEntries n 4096 s) s2
    let s4 := s3.setupAborted.mapCls (fun x => { x with clips := [], pages := [], nvme := [], jobs := [], resetStep := 5 })
    let again := match s4.cls.setup with | some u => u.ssds.filter (fun r => s4.ssd r == 4 || s4.ssd r == 5) | none => []
    s.Live ∧ s.clsState = 3 ∧ s.resetWrites = false ∧ s.cls.resetStep = 0 ∧ s2.clsState = 3 ∧ s2.cls.resetStep = 4 ∧
        s3.resetOwed = false ∧ again = []) ∧
    (let s : State := ((stored.setSsd 0 5).setClsState 3)
    let s1 := ((s.losePages (fun _ => true)).resetTaken 18).resetWaiting
    let s2 := ((List.range 4).foldl (fun s n => s.resetTaken (60 + n)) s1).mapCls (fun x =>
        { x with jobs := [], resetStep := 4 })
    let s3 := (List.range 4).foldl (fun s n => State.resetEntries n 4096 s) s2
    let s4 := s3.setupAborted.mapCls (fun x => { x with clips := [], pages := [], nvme := [], jobs := [], resetStep := 5 })
    let again := match s4.cls.setup with | some u => u.ssds.filter (fun r => s4.ssd r == 4 || s4.ssd r == 5) | none => []
    s.Live ∧ s.clsState = 3 ∧ s.resetWrites = false ∧ s.cls.resetStep = 0 ∧ s2.clsState = 3 ∧ s2.cls.resetStep = 4 ∧
        s3.resetOwed = false ∧ again ≠ []) :=
  by and_intros <;> decide +kernel

theorem test_witness_MemoryCommandsComplete :
    (let s : State := (headed base 19 (cmd 0x10 2 0x0 [0x100000000000400000000000, 0x0]))
    let d : Desc := (cmd 0x10 2 0x0 [0x100000000000400000000000, 0x0])
    let rest : List Desc := []
    let t := s.run 19 d
    let a := t.fld 1 127 80
    let len := t.fld 1 79 40
    let s0 := s.taken 19 d rest
    s.Ready 19 0x10 [2] d rest ∧ memRangeOk s.variant t = true ∧ s0.rangeReady a len = true) ∧
    (let s : State := (headed base 19 (cmd 0x11 1 0x0 [0x100000000000400000000000]))
    let d : Desc := (cmd 0x11 1 0x0 [0x100000000000400000000000])
    let rest : List Desc := []
    let t := s.run 19 d
    let a := t.fld 1 127 80
    let len := t.fld 1 79 40
    let s0 := s.taken 19 d rest
    s.Ready 19 0x11 [1] d rest ∧ memRangeOk s.variant t = true ∧ s0.rangeReady a len = true) ∧
    (let s : State := (headed base 19 (cmd 0x12 0 0x0 []))
    let d : Desc := (cmd 0x12 0 0x0 [])
    let rest : List Desc := []
    let t := s.run 19 d
    let x := t.fld 0 87 87
    s.Ready 19 0x12 [0] d rest ∧ t.fld 0 54 0 = 0 ∧ (stackList s.variant).contains x = true ∧ (s.stackState x = 2 ∨
        s.stackState x = 4)) ∧
    (let s : State := base.setFld Reg.memMap 31 31 0
    let m : Master := .host
    s.Open m Reg.memMap ∧ s.fld Reg.memMap 31 31 = 0) ∧
    (let s : State := base.setFld Reg.memMap 31 31 1
    let m : Master := .host
    s.Open m Reg.memMap ∧ s.fld Reg.memMap 31 31 = 1) :=
  by and_intros <;> decide +kernel

theorem test_witness_MemoryRequestsComplete :
    (let s : State := base
    let r : MemReq := (request true 0xFF00000000 (leBytes 16 1))
    s.Live ∧ (r.master = .host → s.hostOut = false) ∧ regionOf s.variant r.addr = .none ∧ r.write = true) ∧
    (let s : State := base
    let r : MemReq := (request false 0xFF00000000 (leBytes 16 1))
    s.Live ∧ (r.master = .host → s.hostOut = false) ∧ regionOf s.variant r.addr = .none ∧ r.write = false) ∧
    (let s : State := base
    let r : MemReq := (request true 0x1000 (leBytes 32 1))
    let bs := r.bytes.take (32 - r.addr % 32)
    let p := s.pcOf r.addr
    let s0 := s.refreshFirst r.addr
    s.Live ∧ (r.master = .host → s.hostOut = false) ∧ regionOf s.variant r.addr = .dram ∧ s.memGone r.addr = false ∧
        s.stackState (p / 32) = 2 ∧ s0.pcFailed p = false ∧ r.write = true ∧ bs.length = 32) ∧
    (let s : State := base
    let r : MemReq := (request true 0x1000 (leBytes 8 1))
    let bs := r.bytes.take (32 - r.addr % 32)
    let p := s.pcOf r.addr
    let s0 := s.refreshFirst r.addr
    s.Live ∧ (r.master = .host → s.hostOut = false) ∧ regionOf s.variant r.addr = .dram ∧ s.memGone r.addr = false ∧
        s.stackState (p / 32) = 2 ∧ s0.pcFailed p = false ∧ r.write = true ∧ bs.length ≠ 32) ∧
    (let s : State := base
    let r : MemReq := (request false 0x1000 (leBytes 32 0))
    let p := s.pcOf r.addr
    let s0 := s.refreshFirst r.addr
    s.Live ∧ (r.master = .host → s.hostOut = false) ∧ regionOf s.variant r.addr = .dram ∧ s.memGone r.addr = false ∧
        s.stackState (p / 32) = 2 ∧ s0.pcFailed p = false ∧ r.write = false) ∧
    (let s : State := base.setReg (Reg.memPcFailed 0) 0xFFFFFFFF
    let r : MemReq := (request false 0x1000 (leBytes 32 0))
    let p := s.pcOf r.addr
    let s0 := s.refreshFirst r.addr
    s.Live ∧ (r.master = .host → s.hostOut = false) ∧ regionOf s.variant r.addr = .dram ∧ s.memGone r.addr = false ∧
        (s.stackState (p / 32) = 2 ∨ s.stackState (p / 32) = 4) ∧ s0.pcFailed p = true ∧ r.write = false) ∧
    (let s : State := base
    let r : MemReq := (request true 0x1000000000 (leBytes 16 1))
    s.Live ∧ (r.master = .host → s.hostOut = false) ∧ regionOf s.variant r.addr = .comb ∧ s.isPowered 23 = true ∧
        s.memx.combInit = false ∧ r.write = true) ∧
    (let s : State := base
    let r : MemReq := (request false 0x1000000000 (leBytes 16 1))
    s.Live ∧ (r.master = .host → s.hostOut = false) ∧ regionOf s.variant r.addr = .comb ∧ s.isPowered 23 = true ∧
        s.memx.combInit = false ∧ r.write = false) :=
  by and_intros <;> decide +kernel

theorem test_witness_MemoryUpkeepCompletes :
    (let s : State := base
    let x : Fin 2 := 0
    let pc : Fin 32 := 0
    s.Live ∧ (stackList s.variant).contains x.val = true ∧ s.pcFailed (32 * x.val + pc.val) = false) ∧
    (let s : State := base
    let x : Fin 2 := 0
    let pc : Fin 32 := 0
    let ok := true
    s.Live ∧ s.stackState x = 2 ∧ s.pcFailed (32 * x.val + pc.val) = false ∧ ok = true) ∧
    (let s : State := base
    let x : Fin 2 := 0
    let pc : Fin 32 := 0
    let ok := false
    s.Live ∧ s.stackState x = 2 ∧ s.pcFailed (32 * x.val + pc.val) = false ∧ ok = false) ∧
    (let s : State := base
    let x : Fin 2 := 0
    let pc : Fin 32 := 0
    let again := true
    let run := if again then sget 0 s.memx.alerts (32 * x.val + pc.val) else 0
    s.Live ∧ s.stackState x = 2 ∧ s.pcFailed (32 * x.val + pc.val) = false ∧ run < 2) ∧
    (let s : State := { base with memx := { base.memx with alerts := [(0, 2)] } }
    let x : Fin 2 := 0
    let pc : Fin 32 := 0
    let again := true
    let run := if again then sget 0 s.memx.alerts (32 * x.val + pc.val) else 0
    s.Live ∧ s.stackState x = 2 ∧ s.pcFailed (32 * x.val + pc.val) = false ∧ run = 2) ∧
    (let s : State := { base with memx := { base.memx with alerts := [(0, 3)] } }
    let x : Fin 2 := 0
    let pc : Fin 32 := 0
    let again := true
    let run := if again then sget 0 s.memx.alerts (32 * x.val + pc.val) else 0
    s.Live ∧ s.stackState x = 2 ∧ s.pcFailed (32 * x.val + pc.val) = false ∧ run = 3) ∧
    (let s : State := base
    let x : Fin 2 := 0
    let t : BitVec 8 := 90
    let s1 := s.setFld (Reg.memStatus x) 23 16 t.toNat
    let hot := s1.fld (Reg.memStatus x) 27 27
    s.Live ∧ (stackList s.variant).contains x.val = true ∧ hot = 0 ∧ 85 ≤ t.toInt) ∧
    (let s : State := base.setFld (Reg.memStatus 0) 27 27 1
    let x : Fin 2 := 0
    let t : BitVec 8 := 60
    let s1 := s.setFld (Reg.memStatus x) 23 16 t.toNat
    let hot := s1.fld (Reg.memStatus x) 27 27
    s.Live ∧ (stackList s.variant).contains x.val = true ∧ hot = 1 ∧ t.toInt < 82) ∧
    (let s : State := base
    let x : Fin 2 := 0
    let t : BitVec 8 := 60
    let s1 := s.setFld (Reg.memStatus x) 23 16 t.toNat
    let hot := s1.fld (Reg.memStatus x) 27 27
    s.Live ∧ (stackList s.variant).contains x.val = true ∧ hot = 0 ∧ t.toInt < 85) ∧
    (let s : State := base.setFld (Reg.memStatus 0) 27 27 1
    let x : Fin 2 := 0
    let t : BitVec 8 := 83
    let s1 := s.setFld (Reg.memStatus x) 23 16 t.toNat
    let hot := s1.fld (Reg.memStatus x) 27 27
    s.Live ∧ (stackList s.variant).contains x.val = true ∧ hot = 1 ∧ 82 ≤ t.toInt) ∧
    (let s : State := base.setStackState 0 1
    s.Live ∧ s.stackState 0 = 1 ∧ s.stackState 1 ≠ 1) ∧
    (let s : State := base.setStackState 0 3
    let x : Fin 2 := 0
    s.Live ∧ s.stackState x = 3 ∧ s.isPowered (21 + x.val) = true) ∧
    (let s : State := base.setFld Reg.memScrub 31 31 1
    let x : Fin 2 := 0
    let at_ := sget 0 s.memx.patrol x
    let p := 32 * x.val + at_ % 32
    s.Live ∧ (stackList s.variant).contains x.val = true ∧ s.fld Reg.memScrub 31 31 = 1 ∧ s.stackState x = 2 ∧ s.fld
        (Reg.memStatus x) 27 27 = 0 ∧ s.pcFailed p = false ∧ at_ + 1 < 32 * pcBursts) ∧
    (let s : State := base.setFld Reg.combScrub 31 31 1
    s.Live ∧ s.isPowered 23 = true ∧ s.fld Reg.combScrub 31 31 = 1 ∧ s.memx.combInit = false) :=
  by and_intros <;> decide +kernel

theorem test_witness_BeaconCommandsComplete :
    (let s : State := base
    s.Live) ∧
    (let s : State := base
    let m : Master := .host
    let v : Word := 0x80000000
    s.Open m Reg.bcnInc ∧ 0x7FDF3B64 ≤ v.toNat ∧ v.toNat ≤ 0x8020C49C) ∧
    (let s : State := base
    let m : Master := .host
    let v : Word := 0x90000000
    s.Open m Reg.bcnInc ∧ (v.toNat < 0x7FDF3B64 ∨ 0x8020C49C < v.toNat)) ∧
    (let s : State := base
    let m : Master := .host
    s.Open m Reg.bcnPtpBaseHi) ∧
    (let s : State := base
    let m : Master := .host
    s.Open m Reg.bcnStepHi ∧ (∀ n, n < 16 → (s.trig n).st ≠ .armed) ∧ (∀ n, n < 8 → (s.cell n).alarm ≠ .armed)) ∧
    (let s : State := base.setReg (Reg.bcnTrigTime 0) 0
    let m : Master := .host
    let n : Fin 16 := 0
    let v : Word := 0x80000000
    let time := s.reg (Reg.bcnTrigTime n)
    s.Open m (Reg.bcnTrigArm n) ∧ s.trigOwner n = none ∧ bitsOf v 31 30 = 2 ∧ reached s.bcn.ns time = true) ∧
    (let s : State := base.setReg (Reg.bcnTrigTime 0) 5
    let m : Master := .host
    let n : Fin 16 := 0
    let v : Word := 0x80000000
    let time := s.reg (Reg.bcnTrigTime n)
    s.Open m (Reg.bcnTrigArm n) ∧ s.trigOwner n = none ∧ bitsOf v 31 30 = 2 ∧ reached s.bcn.ns time = false) ∧
    (let s : State := base
    let m : Master := .host
    let n : Fin 16 := 0
    let v : Word := 0x40000000
    s.Open m (Reg.bcnTrigArm n) ∧ s.trigOwner n = none ∧ bitsOf v 31 30 = 1) ∧
    (let s : State := base.mapCell 0 (fun c => { c with trigClaims := 1 })
    let m : Master := .host
    let n : Fin 16 := 0
    s.Open m (Reg.bcnTrigArm n) ∧ (s.trigOwner n).isSome = true) ∧
    (let s : State := base.setTrig 0 { base.trig 0 with pulse := true }
    let n : Fin 16 := 0
    s.Live ∧ (s.trig n).pulse = true) :=
  by and_intros <;> decide +kernel

theorem test_witness_EthernetCommandsComplete :
    (let s : State := (headed base 21 (cmd 0x10 1 0x0 [0x0]))
    let d : Desc := (cmd 0x10 1 0x0 [0x0])
    let rest : List Desc := []
    let t := s.run 21 d
    let p := t.fld 0 87 86
    s.Ready 21 0x10 [1] d rest ∧ ethAbsent s.variant p = false ∧ t.zeros [(0, 67, 0), (1, 79, 0)] = true) ∧
    (let s : State := (headed base 21 (cmd 0x11 0 0x80000000000000000000 []))
    let d : Desc := (cmd 0x11 0 0x80000000000000000000 [])
    let rest : List Desc := []
    let t := s.run 21 d
    let mask := t.fld 0 82 79
    s.Ready 21 0x11 [0] d rest ∧ t.fld 0 60 0 = 0 ∧ t.fld 0 78 77 ≠ 3 ∧ (∀ p, p < 4 → mask.testBit p = true → ethAbsent
        s.variant p = false)) ∧
    (let s : State := (headed base 21 (cmd 0x12 1 0x0 [0x1000000100000000080000000]))
    let d : Desc := (cmd 0x12 1 0x0 [0x1000000100000000080000000])
    let rest : List Desc := []
    let t := s.run 21 d
    let base := t.fld 1 127 80
    let n := t.fld 1 79 64
    let ctrl := t.fld 1 63 16
    s.Ready 21 0x12 [1] d rest ∧ t.fld 1 15 0 = 0 ∧ base % 2048 = 0 ∧ ringEntriesOk n = true ∧ ctrl % 64 = 0 ∧ inMemory
        s.variant base (2048 * n) = true ∧ inMemory s.variant ctrl 64 = true) ∧
    (let s : State := (headed base 21 (cmd 0x13 2 0x0 [0x100004000000000000000000, 0x0]))
    let d : Desc := (cmd 0x13 2 0x0 [0x100004000000000000000000, 0x0])
    let rest : List Desc := []
    let t := s.run 21 d
    let s0 := s.taken 21 d rest
    let st := bcnPortDown
    s.Ready 21 0x13 [2] d rest ∧ s0.pktRefused t = some st) ∧
    (let s : State := (headed { plugged with poison := [(256, true)] } 21 (cmd 0x13 2 0x0 [0x100004000000000000000000, 0x0]))
    let d : Desc := (cmd 0x13 2 0x0 [0x100004000000000000000000, 0x0])
    let rest : List Desc := []
    let t := s.run 21 d
    let s0 := s.taken 21 d rest
    let s1 := s0.meet (t.fld 1 127 80) (t.fld 1 79 68)
    let st := stPoisoned
    s.Ready 21 0x13 [2] d rest ∧ s0.pktRefused t = none ∧ s1.pktBad t = some st) ∧
    (let s : State := (headed plugged 21 (cmd 0x13 2 0x0 [0x100004000000000000000000, 0x0]))
    let d : Desc := (cmd 0x13 2 0x0 [0x100004000000000000000000, 0x0])
    let rest : List Desc := []
    let t := s.run 21 d
    let s0 := s.taken 21 d rest
    let s1 := s0.meet (t.fld 1 127 80) (t.fld 1 79 68)
    s.Ready 21 0x13 [2] d rest ∧ s0.pktRefused t = none ∧ s1.pktBad t = none) ∧
    (let s : State := plugged.setTxq 0 [⟨none, leBytes 64 0, 0, 0, 0⟩]
    let p : Fin 4 := 0
    let i : TxItem := ⟨none, leBytes 64 0, 0, 0, 0⟩
    let rest : List TxItem := []
    s.Live ∧ s.txq p = i :: rest ∧ s.unitStalled 0x0E = false ∧ i.tag = none) ∧
    (let s : State := plugged.setTxq 0 [⟨(some 5), leBytes 64 0, 0, 0, 0⟩]
    let p : Fin 4 := 0
    let i : TxItem := ⟨(some 5), leBytes 64 0, 0, 0, 0⟩
    let rest : List TxItem := []
    let tag := 5
    s.Live ∧ s.txq p = i :: rest ∧ s.unitStalled 0x0E = false ∧ i.tag = some tag) ∧
    (let s : State := (headed base 21 (cmd 0x14 3 0xBB8000000000000 [0x0, 0x0, 0x0]))
    let d : Desc := (cmd 0x14 3 0xBB8000000000000 [0x0, 0x0, 0x0])
    let rest : List Desc := []
    let t := s.run 21 d
    s.Ready 21 0x14 [3] d rest ∧ ethAbsent s.variant (t.fld 0 83 82) = false ∧ t.fld 0 48 0 = 0 ∧ 576 ≤ t.fld 0 59 49 ∧ t.fld 0
        59 49 ≤ 1500) ∧
    (let s : State := (headed ((plugged.mapBcn (fun b => { b with rtp := [(0, some stream)] })).store 0x1000 [0, 0, 1]) 21 (cmd
        0x15 2 0x0 [0x100000004000000000000000, 0x0]))
    let d : Desc := (cmd 0x15 2 0x0 [0x100000004000000000000000, 0x0])
    let rest : List Desc := []
    let r : RtpStream := stream
    let t := s.run 21 d
    let s0 := s.taken 21 d rest
    let s1 := s0.meetWrap (t.fld 1 127 80) (t.fld 2 127 80) (t.fld 2 79 56 * 4096) (t.fld 1 79 56)
    s.Ready 21 0x15 [2] d rest ∧ sget none s.bcn.rtp (t.fld 0 87 84) = some r ∧ s0.rtpRefused r t = none ∧ s1.rtpBad t = none) ∧
    (let s : State := plugged
    let p : Fin 4 := 0
    let bytes : List Byte := List.replicate 2017 0
    s.Live ∧ ethAbsent s.variant p = false ∧ s.ethUp p = true ∧ 2016 < bytes.length) ∧
    (let s : State := plugged
    let p : Fin 4 := 0
    let bytes : List Byte := (leBytes 12 0 ++ [(0x88 : Byte), 0x08, 0, 1] ++ leBytes 48 0)
    s.Live ∧ ethAbsent s.variant p = false ∧ s.ethUp p = true ∧ bytes.length ≤ 2016 ∧ (etherType bytes).1 = 0x8808 ∧ be16 bytes
        (etherType bytes).2 = 1) ∧
    (let s : State := plugged
    let p : Fin 4 := 0
    let bytes : List Byte := leBytes 64 0
    let hit := (List.range 16).find? (fun k => (sget ⟨false, 0, 0, 0⟩ s.bcn.filters k).matches p bytes)
    s.Live ∧ ethAbsent s.variant p = false ∧ s.ethUp p = true ∧ bytes.length ≤ 2016 ∧ ¬((etherType bytes).1 = 0x8808 ∧ be16
        bytes (etherType bytes).2 = 1) ∧ s.unitStalled 0x0E = false ∧ hit = none) ∧
    (let s : State := plugged.mapBcn (fun b => { b with filters := [(0, ⟨true, 1, 2, 0⟩)], ring := some ⟨0x10000, 0, 0x8000⟩ })
    let p : Fin 4 := 0
    let bytes : List Byte := (leBytes 12 0 ++ [(0x88 : Byte), 0xF7] ++ leBytes 50 0)
    let hit := (List.range 16).find? (fun k => (sget ⟨false, 0, 0, 0⟩ s.bcn.filters k).matches p bytes)
    let k := 0
    let r := (⟨0x10000, 0, 0x8000⟩ : MemRing)
    let s1 := s.meet (r.ctrl + 16) 16
    s.Live ∧ ethAbsent s.variant p = false ∧ s.ethUp p = true ∧ bytes.length ≤ 2016 ∧ ¬((etherType bytes).1 = 0x8808 ∧ be16
        bytes (etherType bytes).2 = 1) ∧ s.unitStalled 0x0E = false ∧ hit = some k ∧ s.bcn.ring = some r ∧ s1.ringSlot r 2048 =
        none) ∧
    (let s : State := plugged.mapBcn (fun b => { b with filters := [(0, ⟨true, 1, 2, 0⟩)], ring := some ⟨0x10000, 8, 0x8000⟩ })
    let p : Fin 4 := 0
    let bytes : List Byte := (leBytes 12 0 ++ [(0x88 : Byte), 0xF7] ++ leBytes 50 0)
    let hit := (List.range 16).find? (fun k => (sget ⟨false, 0, 0, 0⟩ s.bcn.filters k).matches p bytes)
    let k := 0
    let r := (⟨0x10000, 8, 0x8000⟩ : MemRing)
    let s1 := s.meet (r.ctrl + 16) 16
    let w := 0
    let a := 0x10000
    s.Live ∧ ethAbsent s.variant p = false ∧ s.ethUp p = true ∧ bytes.length ≤ 2016 ∧ ¬((etherType bytes).1 = 0x8808 ∧ be16
        bytes (etherType bytes).2 = 1) ∧ s.unitStalled 0x0E = false ∧ hit = some k ∧ s.bcn.ring = some r ∧ s1.ringSlot r 2048 =
        some (w, a)) ∧
    (let s : State := base.setFld (Reg.ethStatus 0) 29 29 1
    let p : Fin 4 := 0
    s.Live ∧ ethAbsent s.variant p = false ∧ s.fld (Reg.ethStatus p) 29 29 = 1) :=
  by and_intros <;> decide +kernel

theorem test_witness_CascadeDescriptorsComplete :
    (let s : State := (headed base 20 (cmd 0x10 2 0x0 [0x0, 0x0]))
    let d : Desc := (cmd 0x10 2 0x0 [0x0, 0x0])
    let rest : List Desc := []
    let t := s.run 20 d
    s.Ready 20 0x10 [2] d rest ∧ casSetupBad s.variant t = false ∧ t.fld 0 87 87 = 0) ∧
    (let s : State := (headed base 20 (cmd 0x10 2 0x801F400000000000000000 [0x0, 0x1000000100000000080000000]))
    let d : Desc := (cmd 0x10 2 0x801F400000000000000000 [0x0, 0x1000000100000000080000000])
    let rest : List Desc := []
    let t := s.run 20 d
    let s0 := s.taken 20 d rest
    s.Ready 20 0x10 [2] d rest ∧ casSetupBad s.variant t = false ∧ t.fld 0 87 87 = 1 ∧ s0.joinRefused t = none ∧ t.fld 0 85 85
        = 0) ∧
    (let s : State := (headed ((ringed id).setFld Reg.casStatus 27 26 1) 20 (cmd 0x10 2 0xA01F400000000000000000 [0x0,
        0x1000000100000000080000000]))
    let d : Desc := (cmd 0x10 2 0xA01F400000000000000000 [0x0, 0x1000000100000000080000000])
    let rest : List Desc := []
    let t := s.run 20 d
    let s0 := s.taken 20 d rest
    s.Ready 20 0x10 [2] d rest ∧ casSetupBad s.variant t = false ∧ t.fld 0 87 87 = 1 ∧ s0.joinRefused t = none ∧ t.fld 0 85 85
        = 1) ∧
    (let s : State := (headed (ringed id) 20 (cmd 0x11 1 0x2000000400000000 [0x100000000000200000040000]))
    let d : Desc := (cmd 0x11 1 0x2000000400000000 [0x100000000000200000040000])
    let rest : List Desc := []
    let f : Nat := 0
    let w : Nat := 8
    let stride : Nat := 1
    let ctrl : Nat := 0x1000
    let base : Nat := 0x2000
    let lines : Nat := 4
    let t := s.run 20 d
    let k := t.fld 0 87 82
    let s0 := s.taken 20 d rest
    s.Ready 20 0x11 [1] d rest ∧ s0.casStreamFields t = some (f, w, stride, ctrl, base, lines) ∧ s.casExport k = none ∧
        s.casImport k = none ∧ s.cas.usable ≠ []) ∧
    (let s : State := (headed (ringed id) 20 (cmd 0x12 1 0x2000000400000000 [0x100000000000200000040000]))
    let d : Desc := (cmd 0x12 1 0x2000000400000000 [0x100000000000200000040000])
    let rest : List Desc := []
    let f : Nat := 0
    let w : Nat := 8
    let stride : Nat := 1
    let ctrl : Nat := 0x1000
    let base : Nat := 0x2000
    let lines : Nat := 4
    let t := s.run 20 d
    let k := t.fld 0 87 82
    let s0 := s.taken 20 d rest
    s.Ready 20 0x12 [1] d rest ∧ s0.casStreamFields t = some (f, w, stride, ctrl, base, lines) ∧ t.fld 0 81 77 = 0 ∧
        s.casExport k = none ∧ s.casImport k = none ∧ s.cas.usable ≠ []) ∧
    (let s : State := (headed (ringed id) 20 (cmd 0x13 0 0x0 []))
    let d : Desc := (cmd 0x13 0 0x0 [])
    let rest : List Desc := []
    let t := s.run 20 d
    s.Ready 20 0x13 [0] d rest ∧ t.fld 0 80 0 = 0 ∧ t.fld 0 81 81 = 0) ∧
    (let s : State := (headed (ringed id) 20 (cmd 0x13 0 0x200000000000000000000 []))
    let d : Desc := (cmd 0x13 0 0x200000000000000000000 [])
    let rest : List Desc := []
    let t := s.run 20 d
    s.Ready 20 0x13 [0] d rest ∧ t.fld 0 80 0 = 0 ∧ t.fld 0 81 81 = 1) ∧
    (let s : State := (headed (ringed id) 20 (cmd 0x14 3 0x0 [0x0, 0x0, 0x0]))
    let d : Desc := (cmd 0x14 3 0x0 [0x0, 0x0, 0x0])
    let rest : List Desc := []
    let t := s.run 20 d
    s.Ready 20 0x14 [3] d rest ∧ t.fld 0 83 0 = 0 ∧ s.cas.enable = true ∧ s.casAssigned = true ∧ t.fld 0 87 84 < s.ringSize ∧
        s.cas.usable ≠ []) ∧
    (let s : State := ringed (fun c => { c with exports := [(0, some exported)] })
    let k : Fin 64 := 0
    let x : CasExp := exported
    s.Live ∧ s.casExport k = some x ∧ s.casRuns = true) ∧
    (let s : State := base
    let k : Fin 6 := 0
    s.Live ∧ k = 0 ∧ s.cas.held = false) ∧
    (let s : State := base
    let k : Fin 6 := 1
    s.Live ∧ 0 < k.val ∧ k.val < 5) ∧
    (let s : State := ringed (fun c => { c with held := true })
    let k : Fin 6 := 5
    s.Live ∧ k = 5 ∧ s.cas.held = true) :=
  by and_intros <;> decide +kernel

theorem test_witness_CascadeTrafficCompletes :
    (let s : State := ringed id
    let l : Fin 2 := 0
    let p : AdeoftPkt := (packet 0 [])
    s.Live ∧ s.casRuns = true ∧ s.cas.usable.contains l.val = true ∧ p.kind = 0 ∧ s.addressed p = true ∧ s.sawPacket p = false) ∧
    (let s : State := (ringed id).setFld Reg.casStatus 27 26 1
    let l : Fin 2 := 0
    let p : AdeoftPkt := (packet 1 [])
    s.Live ∧ s.casRuns = true ∧ s.cas.usable.contains l.val = true ∧ p.kind = 1 ∧ s.casAssigned = true ∧ p.dest = s.casPos ∧
        s.holdsRole = true ∧ s.sawPacket p = false) ∧
    (let s : State := ringed id
    let l : Fin 2 := 0
    let p : AdeoftPkt := (packet 2 [])
    s.Live ∧ s.casRuns = true ∧ s.cas.usable.contains l.val = true ∧ p.kind = 2 ∧ s.ownPacket p = false ∧ s.sawPacket p = false) ∧
    (let s : State := ringed (fun c => { c with prepOut := some (⟨0, 0, 0, 0, 0⟩ : PrepOut) })
    let l : Fin 2 := 0
    let p : AdeoftPkt := { packet 2 [] with origin := 0 }
    let o := (⟨0, 0, 0, 0, 0⟩ : PrepOut)
    s.Live ∧ s.casRuns = true ∧ s.cas.usable.contains l.val = true ∧ p.kind = 2 ∧ s.ownPacket p = true ∧ s.cas.prepOut = some o
        ∧ o.id = pktNum p 16 4 ∧ (p.wraps = 0 ∨ p.wraps = 2)) ∧
    (let s : State := ringed id
    let l : Fin 2 := 0
    let p : AdeoftPkt := (packet 3 [])
    s.Live ∧ s.casRuns = true ∧ s.cas.usable.contains l.val = true ∧ p.kind = 3 ∧ s.addressed p = true ∧ s.sawPacket p = false) ∧
    (let s : State := ringed id
    let l : Fin 2 := 0
    let p : AdeoftPkt := (packet 4 [])
    s.Live ∧ s.casRuns = true ∧ s.cas.usable.contains l.val = true ∧ p.kind = 4 ∧ s.addressed p = true ∧ s.sawPacket p = false) ∧
    (let s : State := ringed id
    let l : Fin 2 := 0
    let p : AdeoftPkt := (packet 5 [])
    s.Live ∧ s.casRuns = true ∧ s.cas.usable.contains l.val = true ∧ p.kind = 5 ∧ s.casAssigned = true ∧ p.dest = s.casPos ∧
        s.sawPacket p = false) ∧
    (let s : State := ringed (fun c => { c with imports := [(0, some imported)] })
    let l : Fin 2 := 0
    let p : AdeoftPkt := (packet 9 [])
    let x := imported
    s.Live ∧ s.casRuns = true ∧ s.cas.usable.contains l.val = true ∧ (p.kind = 9 ∨ p.kind = 10 ∨ p.kind = 11) ∧ s.casImport
        (pktByte p 0) = some x ∧ s.casAssigned = true ∧ s.sawPacket p = false ∧ s.imageDone p = true ∧ p.kind = 9 ∧ x.frameOpen
        = none ∧ x.lastFrame = none) ∧
    (let s : State := ringed (fun c => { c with imports := [(0, some { imported with frameOpen := some 0, got := 64 })] })
    let l : Fin 2 := 0
    let p : AdeoftPkt := (packet 10 [0, 1, 0, 0, 64, 0, 0, 0])
    let s1 := s.notePacket p
    let x := { imported with frameOpen := some 0, got := 64 }
    let n := 0
    let s3 := s1.meet (x.ctrl + 16) 16
    let w := s3.ringWritten x.ctrl
    s.Live ∧ s.casRuns = true ∧ s.cas.usable.contains l.val = true ∧ (p.kind = 9 ∨ p.kind = 10 ∨ p.kind = 11) ∧ s.casImport
        (pktByte p 0) = some x ∧ s.casAssigned = true ∧ s.sawPacket p = false ∧ s.imageDone p = true ∧ p.kind = 10 ∧
        x.frameOpen = some n ∧ pktNum p 2 2 = x.line % 65536 ∧ pktNum p 4 4 = x.got ∧ (w + 2 ^ 32 - s3.ringReleased x.ctrl) % 2
        ^ 32 < x.lines ∧ pktByte p 1 = 1 ∧ x.got + (p.payload.drop 8).length = x.width * bytesPerPixel x.format) ∧
    (let s : State := ringed (fun c => { c with imports := [(0, some { imported with frameOpen := some 0 })] })
    let l : Fin 2 := 0
    let p : AdeoftPkt := (packet 11 [])
    let x := { imported with frameOpen := some 0 }
    s.Live ∧ s.casRuns = true ∧ s.cas.usable.contains l.val = true ∧ (p.kind = 9 ∨ p.kind = 10 ∨ p.kind = 11) ∧ s.casImport
        (pktByte p 0) = some x ∧ s.casAssigned = true ∧ s.sawPacket p = false ∧ s.imageDone p = true ∧ p.kind = 11 ∧
        x.frameOpen = some (pktNum p 4 4) ∧ x.got = 0) ∧
    (let s : State := ringed (fun c => { c with enumTag := some 5 })
    let l : Fin 2 := 0
    let p : AdeoftPkt := (packet 8 [])
    let tag := 5
    s.Live ∧ s.casRuns = true ∧ s.cas.usable.contains l.val = true ∧ p.kind = 8 ∧ s.cas.enumTag = some tag ∧ (p.wraps = 0 ∨
        p.wraps = 2)) ∧
    (let s : State := ringed id
    let l : Fin 2 := 0
    let p : AdeoftPkt := (packet 8 [])
    s.Live ∧ s.casRuns = true ∧ s.cas.usable.contains l.val = true ∧ p.kind = 8 ∧ s.cas.enumTag = none ∧ s.sawPacket p = false
        ∧ pktByte p 0 < 16) ∧
    (let s : State := (ringed id).setFld (Reg.casLinkStatus 0) 31 31 1
    let d : Fin 2 := 0
    let p : AdeoftPkt := (packet 6 [])
    s.Live ∧ s.casRuns = true ∧ s.linkUpNow d = true ∧ p.kind = 6) ∧
    (let s : State := (ringed id).setFld (Reg.lnxStatus 10) 7 4 15
    let d : Fin 2 := 0
    s.Live ∧ s.casRuns = true ∧ s.linkUpNow d = false ∧ s.linkLocks d = 15 ∧ (s.cas.guard.isSome = true ∨ s.fld Reg.kprStatus
        17 17 = 0)) ∧
    (let s : State := (ringed (fun c => { c with usable := [] })).setFld (Reg.casLinkStatus 0) 31 31 1
    let d : Fin 2 := 0
    s.Live ∧ s.casRuns = true ∧ s.linkUpNow d = true ∧ s.cas.usable.contains d.val = false) ∧
    (let s : State := ringed id
    let d : Fin 2 := 0
    s.Live ∧ s.casRuns = true ∧ s.cas.txOn.contains d.val = false) ∧
    (let s : State := (ringed id).setFld (Reg.casLinkStatus 0) 31 31 1
    let d : Fin 2 := 0
    let p : AdeoftPkt := (packet 7 [])
    s.Live ∧ s.casRuns = true ∧ s.linkUpNow d = true ∧ p.kind = 7) ∧
    (let s : State := (ringed id).setFld (Reg.casLinkStatus 0) 31 31 1
    s.Live ∧ s.casRuns = true ∧ s.linkUpNow 0 = true ∧ s.linkUpNow 1 = false) ∧
    (let s : State := (ringed id).setFld Reg.casStatus 27 26 1
    s.Live ∧ s.casRuns = true ∧ s.casRole ≠ 0 ∧ s.casAssigned = true) ∧
    (let s : State := ringed id
    s.Live ∧ s.casRuns = true ∧ s.casRole = 0 ∧ s.casAssigned = true ∧ s.cas.misses < 2) ∧
    (let s : State := ringed (fun c => { c with misses := 2 })
    s.Live ∧ s.casRuns = true ∧ s.casRole = 0 ∧ s.casAssigned = true ∧ 2 ≤ s.cas.misses ∧ s.fld Reg.casStatus 11 8 = s.casPos) ∧
    (let s :
        State := { ringed (fun c => { c with prepOut := some (⟨0, 0, 0, 0, 0⟩ : PrepOut) }) with bcn := { base.bcn with wrap := 1 } }
    let o : PrepOut := (⟨0, 0, 0, 0, 0⟩ : PrepOut)
    s.Live ∧ s.cas.prepOut = some o ∧ o.tp + s.lead / 2 < s.now) ∧
    (let s : State := ringed (fun c => { c with snaps := [(0, 1)] })
    let t : Nat := 0
    let origin : Nat := 1
    s.Live ∧ s.cas.snaps = [(t, origin)] ∧ t ≤ s.now) :=
  by and_intros <;> decide +kernel

theorem test_witness_TwoWireCommandsComplete :
    (let s : State := (headed base 22 (cmd 0x10 1 0xE000002000000000000000 [0x100000000000000000000000]))
    let d : Desc := (cmd 0x10 1 0xE000002000000000000000 [0x100000000000000000000000])
    let rest : List Desc := []
    let t := s.run 22 d
    let p := t.fld 0 87 85
    let s0 := s.taken 22 d rest
    let st := hciBadParams
    s.Ready 22 0x10 [1] d rest ∧ s.twBusy p = false ∧ s0.twRefused t = some st) ∧
    (let s : State := (headed { base with poison := [(256, true)] } 22 (cmd 0x10 1 0x2000000000000000
        [0x100000000000000000000000]))
    let d : Desc := (cmd 0x10 1 0x2000000000000000 [0x100000000000000000000000])
    let rest : List Desc := []
    let t := s.run 22 d
    let p := t.fld 0 87 85
    let s0 := s.taken 22 d rest
    let s1 := s0.meet (t.fld 1 127 80) (t.fld 0 71 60)
    let st := stPoisoned
    s.Ready 22 0x10 [1] d rest ∧ s.twBusy p = false ∧ s0.twRefused t = none ∧ s1.twBad t = some st) ∧
    (let s : State := (headed base 22 (cmd 0x10 1 0x2000000000000000 [0x100000000000000000000000]))
    let d : Desc := (cmd 0x10 1 0x2000000000000000 [0x100000000000000000000000])
    let rest : List Desc := []
    let t := s.run 22 d
    let p := t.fld 0 87 85
    let s0 := s.taken 22 d rest
    let s1 := s0.meet (t.fld 1 127 80) (t.fld 0 71 60)
    s.Ready 22 0x10 [1] d rest ∧ s.twBusy p = false ∧ s0.twRefused t = none ∧ s1.twBad t = none) ∧
    (let s : State := onWire twRun
    let p : Fin 6 := 0
    let r : TwRun := twRun
    let i := 1
    s.Live ∧ s.twRun p = some r ∧ 1 ≤ i ∧ i ≤ r.wr.length) ∧
    (let s : State := onWire twRun
    let p : Fin 6 := 0
    let r : TwRun := twRun
    s.Live ∧ s.twRun p = some r ∧ r.retry = true ∧ r.made ≤ r.attempts) ∧
    (let s : State := onWire { twRun with retry := false }
    let p : Fin 6 := 0
    let r : TwRun := { twRun with retry := false }
    s.Live ∧ s.twRun p = some r ∧ (r.retry = false ∨ r.attempts < r.made)) ∧
    (let s : State := (onWire twRun).setFld (Reg.twTimeout 0) 31 16 1
    let p : Fin 6 := 0
    let r : TwRun := twRun
    s.Live ∧ s.twRun p = some r ∧ twController p = true ∧ s.fld (Reg.twTimeout p) 31 16 ≠ 0 ∧ s.isPowered 28 = true) ∧
    (let s : State := (onWire twRun).setFld (Reg.twTimeout 0) 15 0 1
    let p : Fin 6 := 0
    let r : TwRun := twRun
    s.Live ∧ s.twRun p = some r ∧ s.fld (Reg.twTimeout p) 15 0 ≠ 0) ∧
    (let s : State := (headed base 22 (cmd 0x11 0 0x0 []))
    let d : Desc := (cmd 0x11 0 0x0 [])
    let rest : List Desc := []
    let t := s.run 22 d
    let p := t.fld 0 87 85
    s.Ready 22 0x11 [0] d rest ∧ s.twBusy p = false ∧ twController p = true ∧ t.fld 0 84 0 = 0) ∧
    (let s : State := base
    let m : Master := .host
    let p : Fin 6 := 0
    let v : Word := 0x20000000
    s.Open m (Reg.twCtrl p) ∧ p.val ≠ 4 ∧ bitsOf v 31 31 = 0) ∧
    (let s : State := base
    let m : Master := .host
    let p : Fin 6 := 0
    let v : Word := 0xA0000000
    s.Open m (Reg.twCtrl p) ∧ p.val ≠ 4 ∧ bitsOf v 31 31 = 1) ∧
    (let s : State := base
    let m : Master := .host
    let v : Word := 0
    s.Open m (Reg.twCtrl 4) ∧ bitsOf v 31 31 = 0) ∧
    (let s : State := base
    let m : Master := .host
    let v : Word := 0x80000000
    s.Open m (Reg.twCtrl 4) ∧ bitsOf v 31 31 = 1) :=
  by and_intros <;> decide +kernel

theorem test_witness_TargetPortCommandsComplete :
    (let s : State := base
    s.Live ∧ s.isPowered 28 = true ∧ s.hci.ignoring = false) ∧
    (let s : State := { base with hci := { base.hci with ignoring := true } }
    s.Live ∧ s.isPowered 28 = true ∧ s.hci.ignoring = true) ∧
    (let s : State := base
    let m : Master := .host
    s.Live ∧ s.Open m Reg.tw4Status) ∧
    (let s : State := dozing 3
    s.Live ∧ 1 ≤ s.fgh.dozeStep ∧ s.fgh.dozeStep ≤ 7) ∧
    (let s : State := (base.setPowerState 4).setFld Reg.tw4Cfg 31 31 0
    s.Live ∧ s.fld Reg.fghStatus 31 28 = 4 ∧ s.fld Reg.tw4Cfg 31 31 = 0) :=
  by and_intros <;> decide +kernel

theorem test_witness_BootFlashCommandsComplete :
    (let s : State := (headed base 22 (cmd 0x12 1 0x1000000000 [0x100000000000000000000000]))
    let d : Desc := (cmd 0x12 1 0x1000000000 [0x100000000000000000000000])
    let rest : List Desc := []
    let t := s.run 22 d
    let off := t.fld 0 87 56
    let n := t.fld 0 55 32
    let dst := t.fld 1 127 80
    s.Ready 22 0x12 [1] d rest ∧ s.hci.flashRun = none ∧ n ≠ 0 ∧ t.zeros [(0, 31, 0), (1, 79, 0)] = true ∧ inMemory s.variant
        dst n = true ∧ off + n ≤ flashTop) ∧
    (let s : State := (headed base 22 (cmd 0x13 1 0x1000000000 [0x100000000000000000000000]))
    let d : Desc := (cmd 0x13 1 0x1000000000 [0x100000000000000000000000])
    let rest : List Desc := []
    let t := s.run 22 d
    let off := t.fld 0 87 56
    let n := t.fld 0 55 32
    let src := t.fld 1 127 80
    let s0 := s.taken 22 d rest
    s.Ready 22 0x13 [1] d rest ∧ s.hci.flashRun = none ∧ n ≠ 0 ∧ t.zeros [(0, 31, 0), (1, 79, 0)] = true ∧ inMemory s.variant
        src n = true ∧ off + n ≤ flashTop ∧ s.flashLocked off = false ∧ (s0.meet src n).poisonedAt src n = false) ∧
    (let s : State := (headed base 22 (cmd 0x14 0 0x10000000000 []))
    let d : Desc := (cmd 0x14 0 0x10000000000 [])
    let rest : List Desc := []
    let t := s.run 22 d
    let off := t.fld 0 87 56
    let n := t.fld 0 55 40
    s.Ready 22 0x14 [0] d rest ∧ s.hci.flashRun = none ∧ off % 4096 = 0 ∧ t.fld 0 39 0 = 0 ∧ off + 4096 * n ≤ flashTop ∧ (n ≠ 0
        → s.flashLocked off = false)) ∧
    (let s : State := { base with hci := { base.hci with flashRun := some ⟨5, true, 0, 16, 0, 0x1000, 16, false⟩ } }
    let r : FlashRun := (⟨5, true, 0, 16, 0, 0x1000, 16, false⟩ : FlashRun)
    s.Live ∧ s.hci.flashRun = some r ∧ r.erase = true) ∧
    (let s : State := { base with hci := { base.hci with flashRun := some ⟨5, false, 0, 16, 0, 0x1000, 16, false⟩ } }
    let r : FlashRun := (⟨5, false, 0, 16, 0, 0x1000, 16, false⟩ : FlashRun)
    s.Live ∧ s.hci.flashRun = some r ∧ r.erase = false) :=
  by and_intros <;> decide +kernel

theorem test_witness_EndpointAndBootComplete :
    (let s : State := base.setReg Reg.gpioWake 0
    let p : Fin 16 := 0
    let level : Bool := true
    let mask : BitVec 16 := BitVec.ofNat 16 (2 ^ p.val)
    let balls := if level then s.hci.balls ||| mask else s.hci.balls &&& ~~~mask
    let s1 := ({ s with hci := { s.hci with balls := balls } } : State).gpioShow
    s.Live ∧ s1.fld Reg.gpioWake p p = 0) ∧
    (let s : State := (base.setReg Reg.gpioWake 0xFFFF).setReg Reg.gpioEdge 0xFFFFFFFF
    let p : Fin 16 := 0
    let level : Bool := true
    let mask : BitVec 16 := BitVec.ofNat 16 (2 ^ p.val)
    let balls := if level then s.hci.balls ||| mask else s.hci.balls &&& ~~~mask
    let s1 := ({ s with hci := { s.hci with balls := balls } } : State).gpioShow
    let e := if level then 16 + p.val else p.val
    s.Live ∧ s.hci.balls.getLsbD p ≠ level ∧ s1.fld Reg.gpioEdge e e = 1 ∧ s1.fld Reg.gpioWake p p = 1) ∧
    (let s : State := base.setFld Reg.hciPcieStatus 31 31 0
    let up : Bool := false
    let was := s.fld Reg.hciPcieStatus 31 31
    s.Live ∧ s.isPowered 28 = true ∧ was = up.toNat) ∧
    (let s : State := base.setFld Reg.hciPcieStatus 31 31 0
    let up : Bool := true
    let was := s.fld Reg.hciPcieStatus 31 31
    s.Live ∧ s.isPowered 28 = true ∧ was = 0 ∧ up = true) ∧
    (let s : State := base.setFld Reg.hciPcieStatus 31 31 1
    let up : Bool := false
    let was := s.fld Reg.hciPcieStatus 31 31
    s.Live ∧ s.isPowered 28 = true ∧ was = 1 ∧ up = false) ∧
    (let s : State := base
    s.Live) ∧
    (let s : State := base
    let m : Master := .host
    s.Open m Reg.hciBar4Base) ∧
    (let s : State := flashed (base.setBootState 1) 0 directory
    let p1 : Bool := false
    let a := s.flashBytes 0 1088
    s.Live ∧ s.bootState < 2 ∧ p1 = false ∧ directoryOk s.variant a = true) ∧
    (let s : State := flashed (base.setBootState 1) 0x10000 directory
    let p1 : Bool := true
    let p2 : Bool := false
    let a := s.flashBytes 0 1088
    let b := s.flashBytes 0x10000 1088
    s.Live ∧ s.bootState < 2 ∧ (p1 = true ∨ directoryOk s.variant a = false) ∧ p2 = false ∧ directoryOk s.variant b = true) ∧
    (let s : State := base.setBootState 1
    let p1 : Bool := true
    let p2 : Bool := true
    let a := s.flashBytes 0 1088
    let b := s.flashBytes 0x10000 1088
    s.Live ∧ s.bootState < 2 ∧ (p1 = true ∨ directoryOk s.variant a = false) ∧ (p2 = true ∨ directoryOk s.variant b = false)) ∧
    (let s : State := booting ⟨3, 0x2000, 16, combBase⟩
    let e : BootEntry := ⟨3, 0x2000, 16, combBase⟩
    let rest : List BootEntry := []
    s.Live ∧ s.bootState = 2 ∧ s.hci.bootWait = false ∧ (s.kprState = 2 ∨ s.kprState = 3) ∧ s.hci.entries.drop s.hci.bootNext =
        e :: rest ∧ (combBase ≤ e.dest ∨ s.memReady = true) ∧ (combBase ≤ e.dest → s.memx.combInit = false) ∧ e.type = 3) ∧
    (let s : State := booting ⟨2, 0x2000, 16, combBase⟩
    let e : BootEntry := ⟨2, 0x2000, 16, combBase⟩
    let rest : List BootEntry := []
    s.Live ∧ s.bootState = 2 ∧ s.hci.bootWait = false ∧ (s.kprState = 2 ∨ s.kprState = 3) ∧ s.hci.entries.drop s.hci.bootNext =
        e :: rest ∧ (combBase ≤ e.dest ∨ s.memReady = true) ∧ (combBase ≤ e.dest → s.memx.combInit = false) ∧ e.type = 2 ∧
        s.hive.loader.step = .idle) :=
  by and_intros <;> decide +kernel

theorem test_witness_RecordsComplete :
    (let s : State := noted [entry]
    let i : Nat := 0
    let e : Entry := entry
    s.Live ∧ s.fgh.intake[i]? = some e ∧ e.windowOpen = true ∧ (s.fgh.intake.take i).any (·.windowOpen) = false ∧ (e.written =
        none ∨ e.again = true)) ∧
    (let s : State := noted [{ entry with written := some 0 }]
    let i : Nat := 0
    let e : Entry := { entry with written := some 0 }
    s.Live ∧ s.fgh.intake[i]? = some e ∧ e.windowOpen = true ∧ (s.fgh.intake.take i).any (·.windowOpen) = false ∧ e.written ≠
        none ∧ e.again = false) ∧
    (let s : State := noted [{ entry with windowOpen := false }]
    let i : Nat := 0
    s.Live ∧ s.fld Reg.fghStatus 20 20 = 0 ∧ nextRecord s.fgh.intake = some i) ∧
    (let s : State := base.setFld Reg.fghCtrl 30 30 1
    s.Live ∧ s.fld Reg.fghCtrl 30 30 = 1) ∧
    (let s : State := base
    let d : Fin 60 := 0
    let n := min 5 (sget 0 s.fgh.clockBad d.val + 1)
    s.Live ∧ n < 5) ∧
    (let s : State := { base with fgh := { base.fgh with clockBad := [(0, 4)] } }
    let d : Fin 60 := 0
    let n := min 5 (sget 0 s.fgh.clockBad d.val + 1)
    s.Live ∧ n = 5 ∧ s.fgh.clockReported.contains d.val = false) ∧
    (let s : State := { base with fgh := { base.fgh with clockBad := [(0, 5)], clockReported := [0] } }
    let d : Fin 60 := 0
    let n := min 5 (sget 0 s.fgh.clockBad d.val + 1)
    s.Live ∧ n = 5 ∧ s.fgh.clockReported.contains d.val = true) ∧
    (let s : State := base
    let m : Master := .host
    let v : Word := 0
    s.Open m Reg.fghCtrl ∧ bitsOf v 27 27 = 0) ∧
    (let s : State := base.setFld Reg.fghStatus 22 22 1
    let m : Master := .host
    let v : Word := 0x08000000
    let s1 := s.maskedWrite Reg.fghCtrl v
    s.Open m Reg.fghCtrl ∧ bitsOf v 27 27 = 1 ∧ s1.fld Reg.fghStatus 22 22 = 1 ∧ s.fgh.faultStuck = false) ∧
    (let s : State := base
    let m : Master := .host
    let v : Word := 0x08000000
    let s1 := s.maskedWrite Reg.fghCtrl v
    s.Open m Reg.fghCtrl ∧ bitsOf v 27 27 = 1 ∧ (s1.fld Reg.fghStatus 22 22 = 0 ∨ s.fgh.faultStuck = true)) ∧
    (let s : State := base
    let m : Master := .host
    let v : Word := 0x80000000
    s.Open m Reg.fghPinClear ∧ bitsOf v 31 31 = 1 ∧ bitsOf v 30 30 = 0) ∧
    (let s : State := base
    let m : Master := .host
    let v : Word := 0xC0000000
    s.Open m Reg.fghPinClear ∧ bitsOf v 31 31 = 1 ∧ bitsOf v 30 30 = 1) ∧
    (let s : State := base
    let m : Master := .host
    let v : Word := 0x80000000
    s.Open m Reg.fghSnapTrig ∧ bitsOf v 31 31 = 1) ∧
    (let s : State := (headed base 23 (cmd 0x12 1 0x0 [0x100000000000000000000000]))
    let d : Desc := (cmd 0x12 1 0x0 [0x100000000000000000000000])
    let rest : List Desc := []
    let t := s.run 23 d
    let dst := t.fld 1 127 80
    let recs := s.recordsAsked t
    s.Ready 23 0x12 [1] d rest ∧ t.zeros [(0, 40, 0), (1, 79, 0)] = true ∧ dst % 32 = 0 ∧ inMemory s.variant dst (32 *
        recs.length) = true) ∧
    (let s : State := (headed base 23 (cmd 0x13 1 0x0 [0x100000000000000000000000]))
    let d : Desc := (cmd 0x13 1 0x0 [0x100000000000000000000000])
    let rest : List Desc := []
    let t := s.run 23 d
    let dst := t.fld 1 127 80
    s.Ready 23 0x13 [1] d rest ∧ t.zeros [(0, 87, 0), (1, 79, 0)] = true ∧ dst % 64 = 0 ∧ inMemory s.variant dst 4160 = true) ∧
    (let s : State := (headed base 23 (cmd 0x14 1 0x0 [0x0]))
    let d : Desc := (cmd 0x14 1 0x0 [0x0])
    let rest : List Desc := []
    let t := s.run 23 d
    s.Ready 23 0x14 [1] d rest ∧ t.zeros [(0, 77, 0), (1, 79, 0)] = true) :=
  by and_intros <;> decide +kernel

theorem test_witness_DomainsHoldAndDozeComplete :
    (let s : State := (headed base 23 (cmd 0x10 1 0x40000002000000000 [0x1000000000000000000000000000]))
    let d : Desc := (cmd 0x10 1 0x40000002000000000 [0x1000000000000000000000000000])
    let rest : List Desc := []
    let t := s.run 23 d
    let on := BitVec.ofNat 30 (t.fld 0 87 58)
    let off := BitVec.ofNat 30 (t.fld 0 57 28)
    let re := BitVec.ofNat 30 (t.fld 1 127 98)
    s.Ready 23 0x10 [1] d rest ∧ s.fgh.pdTag = [] ∧ t.zeros [(0, 27, 0), (1, 97, 0)] = true ∧ on &&& off = 0 ∧ on &&& re = 0 ∧
        off &&& re = 0 ∧ (on ||| off ||| re) &&& 3#30 = 0) ∧
    (let s : State := { base with doms := { base.doms with rising := 0x200 } }
    let d : Fin 30 := 9
    s.Live ∧ s.doms.rising.getLsbD d.val = true) ∧
    (let s : State := (headed base 23 (cmd 0x11 0 0x0 []))
    let d : Desc := (cmd 0x11 0 0x0 [])
    let rest : List Desc := []
    let t := s.run 23 d
    s.Ready 23 0x11 [0] d rest ∧ s.fgh.stateTag = none ∧ s.fgh.resetting = none ∧ t.fld 0 56 0 = 0 ∧ s.powerState = 0 ∧ t.fld 0
        87 87 = 0) ∧
    (let s : State := (headed base 23 (cmd 0x11 0 0x8000000000000000000000 []))
    let d : Desc := (cmd 0x11 0 0x8000000000000000000000 [])
    let rest : List Desc := []
    let t := s.run 23 d
    let off := BitVec.ofNat 30 (t.fld 0 86 57)
    s.Ready 23 0x11 [0] d rest ∧ s.fgh.stateTag = none ∧ s.fgh.resetting = none ∧ t.fld 0 56 0 = 0 ∧ s.powerState = 0 ∧ t.fld 0
        87 87 = 1 ∧ off &&& ~~~holdMask = 0) ∧
    (let s : State := (headed (base.setPowerState 1) 23 (cmd 0x11 0 0x0 []))
    let d : Desc := (cmd 0x11 0 0x0 [])
    let rest : List Desc := []
    let t := s.run 23 d
    s.Ready 23 0x11 [0] d rest ∧ s.fgh.stateTag = none ∧ s.fgh.resetting = none ∧ t.fld 0 56 0 = 0 ∧ s.powerState = 1 ∧ t.fld 0
        87 87 = 0) ∧
    (let s : State := base.setPowerState 2
    let s1 := (((domList s.fgh.offMask).foldl State.powerDown s).setPowerState 1).fire 25
    s.Live ∧ s.powerState = 2 ∧ s.gensLive = false ∧ s.fgh.resetting = none ∧ s1.fgh.stateTag = none) ∧
    (let s : State := { base with fgh := { base.fgh with stateTag := some 5 } }.setPowerState 2
    let s1 := (((domList s.fgh.offMask).foldl State.powerDown s).setPowerState 1).fire 25
    let tag := 5
    s.Live ∧ s.powerState = 2 ∧ s.gensLive = false ∧ s.fgh.resetting = none ∧ s1.fgh.stateTag = some tag) ∧
    (let s : State := base
    let v : Word := 0x80000000
    s.Open .host Reg.fghPower ∧ bitsOf v 31 31 = 1 ∧ s.powerState < 2 ∧ s.fgh.stateTag = none ∧ s.fgh.resetting = none) ∧
    (let s : State := dozing 1
    s.Live ∧ s.fgh.dozeStep = 1 ∧ s.gensLive = false) ∧
    (let s : State := dozing 2
    s.Live ∧ s.fgh.dozeStep = 2) ∧
    (let s : State := dozing 3
    s.Live ∧ s.fgh.dozeStep = 3 ∧ (stackList s.variant).any (fun x => s.stackState x == 1) = false) ∧
    (let s : State := dozing 4
    s.Live ∧ s.fgh.dozeStep = 4) ∧
    (let s : State := dozing 5
    s.Live ∧ s.fgh.dozeStep = 5) ∧
    (let s : State := dozing 6
    let next (s : State) : State := { s with fgh := { s.fgh with dozeStep := s.fgh.dozeStep + 1 } }
    let s1 := (next (s.setFld Reg.bcnStatus 31 31 1)).fire 25
    s.Live ∧ s.fgh.dozeStep = 6 ∧ s1.fgh.wakeHeld = none) ∧
    (let s : State := { base with fgh := { base.fgh with dozeStep := 6, wakeHeld := some .gpio } }
    let next (s : State) : State := { s with fgh := { s.fgh with dozeStep := s.fgh.dozeStep + 1 } }
    let s1 := (next (s.setFld Reg.bcnStatus 31 31 1)).fire 25
    let src := WakeSrc.gpio
    s.Live ∧ s.fgh.dozeStep = 6 ∧ s1.fgh.wakeHeld = some src) ∧
    (let s : State := dozing 8
    s.Live ∧ s.fgh.dozeStep = 8) ∧
    (let s : State := dozing 9
    s.Live ∧ s.fgh.dozeStep = 9) ∧
    (let s : State := dozing 10
    s.Live ∧ s.fgh.dozeStep = 10) ∧
    (let s : State := dozing 11
    s.Live ∧ s.fgh.dozeStep = 11) ∧
    (let s : State := dozing 12
    s.Live ∧ s.fgh.dozeStep = 12) ∧
    (let s : State := dozing 13
    s.Live ∧ s.fgh.dozeStep = 13) ∧
    (let s : State := (dozing 7).setReg Reg.fghWakeCfg 0xFFFFFFFF
    let src : WakeSrc := WakeSrc.gpio
    s.Live ∧ s.fgh.dozeStep = 7 ∧ s.fld Reg.fghWakeCfg (wakeBit src) (wakeBit src) = 1 ∧ (src = .alarm → (s.reg
        Reg.fghWakeTimeLo).toNat + 2 ^ 32 * (s.reg Reg.fghWakeTimeHi).toNat ≤ s.now)) ∧
    (let s : State := (dozing 3).setReg Reg.fghWakeCfg 0xFFFFFFFF
    let src : WakeSrc := WakeSrc.gpio
    s.Live ∧ 1 ≤ s.fgh.dozeStep ∧ s.fgh.dozeStep ≤ 6 ∧ s.fgh.wakeHeld = none ∧ s.fld Reg.fghWakeCfg (wakeBit src) (wakeBit src)
        = 1 ∧ (src = .alarm → (s.reg Reg.fghWakeTimeLo).toNat + 2 ^ 32 * (s.reg Reg.fghWakeTimeHi).toNat ≤ s.now)) :=
  by and_intros <;> decide +kernel

theorem test_witness_ResetsComplete :
    (let s : State := base
    let m : Master := .host
    s.Open m Reg.fghWdog) ∧
    (let s : State := base
    let m : Master := .host
    s.Open m Reg.fghKick) ∧
    (let s : State := ({ base with fgh := { base.fgh with wdogRunning := true } }).setReg Reg.fghWdog 0x80000001
    let s1 := s.fire 11
    s.Live ∧ s.fgh.wdogRunning = true ∧ s.fld Reg.fghWdog 15 0 ≠ 0 ∧ s1.fld Reg.fghWdog 31 31 = 1) ∧
    (let s : State := ({ base with fgh := { base.fgh with wdogRunning := true } }).setReg Reg.fghWdog 1
    let s1 := s.fire 11
    s.Live ∧ s.fgh.wdogRunning = true ∧ s.fld Reg.fghWdog 15 0 ≠ 0 ∧ s1.fld Reg.fghWdog 31 31 = 0) ∧
    (let s : State := base
    let m : Master := .host
    let v : Word := 0x5EED0001
    s.Open m Reg.fghReset ∧ v = 0x5EED0001#32) ∧
    (let s : State := base
    let m : Master := .host
    let v : Word := 0
    s.Open m Reg.fghReset ∧ v ≠ 0x5EED0001#32) ∧
    (let s : State := { base with fgh := { base.fgh with resetting := some .soft } }
    let kind : ResetKind := .soft
    s.Live ∧ s.fgh.resetting = some kind) ∧
    (let s : State := base
    (s.powerState ≠ 5 ∨ s.sensor 0 < 440)) ∧
    (let s : State := (base.setPowerState 5).setReg (Reg.fghTs 0) 440
    s.powerState = 5 ∧ 440 ≤ s.sensor 0) ∧
    (let s : State := { base with inert := true }
    let st : Straps := Straps.none
    s.inert = true ∧ s.powerState ≠ 5 ∧ st.testEn = false) ∧
    (let s : State := { base with inert := true }
    let st : Straps := { Straps.none with testEn := true }
    s.inert = true ∧ s.powerState ≠ 5 ∧ st.testEn = true ∧ s.fld Reg.fghStatus 22 22 = 0) ∧
    (let s : State := ({ base with inert := true }).setFld Reg.fghStatus 22 22 1
    let st : Straps := { Straps.none with testEn := true }
    s.inert = true ∧ s.powerState ≠ 5 ∧ st.testEn = true ∧ s.fld Reg.fghStatus 22 22 = 1) :=
  by and_intros <;> decide +kernel

theorem test_witness_SupplyAndHeatComplete :
    (let s : State := (base.setFld Reg.fghSupplyStatus 31 31 1).setFld Reg.govStatus 9 0 850
    let mv : BitVec 16 := 0
    s.Live ∧ mv.toNat < s.warnLevel ∧ s.supplyWarn = true) ∧
    (let s : State := base
    let mv : BitVec 16 := 0
    s.Live ∧ mv.toNat < s.warnLevel ∧ s.supplyWarn = false) ∧
    (let s : State := base.setFld Reg.fghSupplyStatus 31 31 1
    s.Live ∧ s.supplyWarn = true) ∧
    (let s : State := (base.setFld Reg.fghSupplyStatus 31 31 1).setFld Reg.fghSupplyCfg 23 16 1
    s.Live ∧ s.supplyWarn = true ∧ s.fld Reg.fghSupplyCfg 23 16 ≠ 0 ∧ s.fgh.dwellTaken = false) ∧
    (let s : State := base
    let r : Fin 11 := 1
    let mv : BitVec 16 := 0
    s.Live ∧ mv.toNat < railLevel s.straps r ∧ s.fgh.railWarn.contains r.val = false) ∧
    (let s : State := { base with fgh := { base.fgh with railWarn := [1] } }
    let r : Fin 11 := 1
    let mv : BitVec 16 := 0
    s.Live ∧ mv.toNat < railLevel s.straps r ∧ s.fgh.railWarn.contains r.val = true) ∧
    (let s : State := base
    let l : List (BitVec 16) := List.replicate 16 240
    let s0 := s.takeReadings 16 l
    let s1 := (List.range 16).foldl (State.checkSensor s0) s0
    let t := 240
    s.Live ∧ s.fgh.dozeStep ≠ 7 ∧ s1.hottest 16 = some t) ∧
    (let s : State := base.setReg Reg.fghThermStatus 0xFFFF
    let l : List (BitVec 16) := List.replicate 16 240
    let s0 := s.takeReadings 16 l
    let s1 := (List.range 16).foldl (State.checkSensor s0) s0
    s.Live ∧ s.fgh.dozeStep ≠ 7 ∧ s1.hottest 16 = none) ∧
    (let s : State := { base with inert := true }.setPowerState 5
    s.inert = true ∧ s.powerState = 5) :=
  by and_intros <;> decide +kernel

theorem test_witness_KeeperServicesComplete :
    (let s : State := (headed base 24 (cmd 0x10 1 0x0 [0x100000000000200000000000]))
    let d : Desc := (cmd 0x10 1 0x0 [0x100000000000200000000000])
    let rest : List Desc := []
    let t := s.run 24 d
    let req := t.fld 1 127 80
    let resp := t.fld 1 79 32
    let s1 := (s.taken 24 d rest).meet req 256
    s.Ready 24 0x10 [1] d rest ∧ s.kpr.serving = none ∧ s.kprLoading = false ∧ (s.kpr.hostWait = false ∨ s.kpr.hostLast = true)
        ∧ t.zeros [(0, 87, 0), (1, 31, 0)] = true ∧ req % 16 = 0 ∧ resp % 16 = 0 ∧ inDramComb s.variant req 256 = true ∧
        inDramComb s.variant resp 256 = true ∧ s1.poisonedAt req 256 = false) ∧
    (let s : State := (headed { base with poison := [(256, true)] } 24 (cmd 0x10 1 0x0 [0x100000000000200000000000]))
    let d : Desc := (cmd 0x10 1 0x0 [0x100000000000200000000000])
    let rest : List Desc := []
    let t := s.run 24 d
    let req := t.fld 1 127 80
    let resp := t.fld 1 79 32
    let s1 := (s.taken 24 d rest).meet req 256
    s.Ready 24 0x10 [1] d rest ∧ s.kpr.serving = none ∧ s.kprLoading = false ∧ (s.kpr.hostWait = false ∨ s.kpr.hostLast = true)
        ∧ t.zeros [(0, 87, 0), (1, 31, 0)] = true ∧ req % 16 = 0 ∧ resp % 16 = 0 ∧ inDramComb s.variant req 256 = true ∧
        inDramComb s.variant resp 256 = true ∧ s1.poisonedAt req 256 = true) ∧
    (let s : State := base
    let m : Master := .host
    let v : Word := 0
    s.Open m Reg.kprMbCtrl ∧ bitsOf v 31 31 = 0) ∧
    (let s : State := base.setFld Reg.kprMbCtrl 30 30 1
    let m : Master := .host
    let v : Word := 0x80000000
    let s1 := s.maskedWrite Reg.kprMbCtrl v
    s.Open m Reg.kprMbCtrl ∧ bitsOf v 31 31 = 1 ∧ s1.fld Reg.kprMbCtrl 30 30 = 1) ∧
    (let s : State := base
    let m : Master := .host
    let v : Word := 0x80000000
    let s1 := s.maskedWrite Reg.kprMbCtrl v
    s.Open m Reg.kprMbCtrl ∧ bitsOf v 31 31 = 1 ∧ s1.fld Reg.kprMbCtrl 30 30 = 0) ∧
    (let s : State := (serving base (asked 0x01 []))
    let k : KprServe := (asked 0x01 [])
    s.Serves k 0x01) ∧
    (let s : State := (serving base (asked 0x02 []))
    let k : KprServe := (asked 0x02 [])
    s.Serves k 0x02) ∧
    (let s : State := (serving base (asked 0x03 [16]))
    let k : KprServe := (asked 0x03 [16])
    s.Serves k 0x03 ∧ k.parNum 0 1 ≠ 0 ∧ k.parNum 0 1 ≤ 240) ∧
    (let s : State := (serving base (asked 0x51 [0, 0, 0, 0, 4, 0]))
    let k : KprServe := (asked 0x51 [0, 0, 0, 0, 4, 0])
    s.Serves k 0x51 ∧ k.parNum 4 2 ≤ 184 ∧ k.parNum 0 4 + k.parNum 4 2 ≤ nvGeneralSize) ∧
    (let s : State := (serving base (asked 0x52 [0, 0, 0, 0, 1, 0, 9]))
    let k : KprServe := (asked 0x52 [0, 0, 0, 0, 1, 0, 9])
    s.Serves k 0x52 ∧ k.parNum 4 2 ≤ 184 ∧ k.parNum 0 4 + k.parNum 4 2 ≤ nvGeneralSize ∧ k.len = 6 + k.parNum 4 2) ∧
    (let s : State := (serving base (asked 0x50 []))
    let k : KprServe := (asked 0x50 [])
    s.Serves k 0x50) ∧
    (let s : State := base
    s.Live) ∧
    (let s : State := (serving { base.store combBase firmware with poison := [(combBase / 16, true)] } (asked 0x60 (leBytes 6
        combBase)))
    let k : KprServe := (asked 0x60 (leBytes 6 combBase))
    let a := k.parNum 0 6
    let n := s.num (a + 8) 4
    let s1 := s.meet a n
    s.Serves k 0x60 ∧ combBase ≤ a ∧ n ≤ 256 * 1024 ∧ a + max n 16 ≤ combTop ∧ s1.poisonedAt a n = true) ∧
    (let s : State := (serving base (asked 0x60 (leBytes 6 combBase)))
    let k : KprServe := (asked 0x60 (leBytes 6 combBase))
    let a := k.parNum 0 6
    let n := s.num (a + 8) 4
    let s1 := s.meet a n
    let img := s1.bytes a n
    s.Serves k 0x60 ∧ combBase ≤ a ∧ n ≤ 256 * 1024 ∧ a + max n 16 ≤ combTop ∧ s1.poisonedAt a n = false ∧ s1.firmwareCheck img
        ≠ stSuccess) ∧
    (let s : State := base.setFld Reg.kprStatus 31 28 1
    s.Live ∧ s.kprState = 1) ∧
    (let s : State := ((booting ⟨1, 0x1000, 116, 0⟩).setFld Reg.kprStatus 31 28 0)
    let e := (⟨1, 0x1000, 116, 0⟩ : BootEntry)
    let img := s.flashBytes e.offset (min e.length (256 * 1024))
    s.Live ∧ s.kprState = 0 ∧ s.bootState = 2 ∧ s.hci.entries.find? (fun e => e.type == 1) = some e ∧ s.firmwareCheck img ≠
        stSuccess) :=
  by and_intros <;> decide +kernel

theorem test_witness_KeeperServicesComplete_checked (he : Config.ecdsaOk = fun _ _ _ => true) :
    (let s : State := (serving (base.store combBase firmware) (asked 0x60 (leBytes 6 combBase)))
    let k : KprServe := (asked 0x60 (leBytes 6 combBase))
    let a := k.parNum 0 6
    let n := s.num (a + 8) 4
    let s1 := s.meet a n
    let img := s1.bytes a n
    s.Serves k 0x60 ∧ combBase ≤ a ∧ n ≤ 256 * 1024 ∧ a + max n 16 ≤ combTop ∧ s1.poisonedAt a n = false ∧ s1.firmwareCheck img
        = stSuccess) ∧
    (let s : State := (flashed ((booting ⟨1, 0x1000, 116, 0⟩).setFld Reg.kprStatus 31 28 0) 0x1000 firmware)
    let e := (⟨1, 0x1000, 116, 0⟩ : BootEntry)
    let img := s.flashBytes e.offset (min e.length (256 * 1024))
    s.Live ∧ s.kprState = 0 ∧ s.bootState = 2 ∧ s.hci.entries.find? (fun e => e.type == 1) = some e ∧ s.firmwareCheck img =
        stSuccess) :=
  ⟨⟨by decide +kernel, by decide +kernel, by decide +kernel, by decide +kernel, by decide +kernel, firmware_ok'
      he (by decide +kernel) (by decide +kernel)⟩, ⟨by decide +kernel, by decide +kernel, by decide +kernel, by decide +kernel,
      firmware_ok' he (by decide +kernel) (by decide +kernel)⟩⟩

theorem test_witness_SessionsComplete :
    (let s : State := (serving keyed (asked 0x10 (List.replicate 97 0)))
    let k : KprServe := (asked 0x10 (List.replicate 97 0))
    let i : Nat := 1
    s.Serves k 0x10 ∧ k.parNum 96 1 < 8 ∧ s.slotHas (k.parNum 96 1) 1 = true ∧ [1, 2, 3, 4].find? (fun i => (s.session
        i).isNone) = some i) ∧
    (let s : State := (serving { (inSession (session false)) with kpr := { (inSession (session false)).kpr with slots := [] } }
        (asked 0x11 [1, 0, 1, 0]))
    let k : KprServe := (asked 0x11 [1, 0, 1, 0])
    let x : Session := session false
    let i := k.parNum 0 1
    let scope := k.parNum 1 1
    let idle := k.parNum 2 2
    s.Serves k 0x11 ∧ 1 ≤ i ∧ i ≤ 4 ∧ s.session i = some x ∧ x.proved = false ∧ scope < 8 ∧ 1 ≤ idle ∧ idle ≤ 3600 ∧ s.proofOk
        x scope (k.par 4 96) = false ∧ x.fails < 7) ∧
    (let s : State := (serving
        { (inSession { session false with fails := 7 }) with kpr := { (inSession { session false with fails := 7 }).kpr with slots := [] } } (asked 0x11 [1, 0, 1, 0]))
    let k : KprServe := (asked 0x11 [1, 0, 1, 0])
    let x : Session := { session false with fails := 7 }
    let i := k.parNum 0 1
    let scope := k.parNum 1 1
    let idle := k.parNum 2 2
    s.Serves k 0x11 ∧ 1 ≤ i ∧ i ≤ 4 ∧ s.session i = some x ∧ x.proved = false ∧ scope < 8 ∧ 1 ≤ idle ∧ idle ≤ 3600 ∧ s.proofOk
        x scope (k.par 4 96) = false ∧ 7 ≤ x.fails) ∧
    (let s : State := (serving base (asked 0x12 [1]))
    let k : KprServe := (asked 0x12 [1])
    s.Serves k 0x12) ∧
    (let s : State := (serving base (asked 0x13 [1]))
    let k : KprServe := (asked 0x13 [1])
    let id := k.parNum 0 1
    let r := s.checkTag id (k.parNum 8 8) (k.parNum 16 16) (k.par 0 16 ++ k.par 32 (k.len - 32)) none
    s.Serves k 0x13 ∧ k.parNum 1 7 = 0 ∧ r.2 ≠ stSuccess) ∧
    (let s : State := inSession (session false)
    let i : Fin 4 := 0
    let x : Session := session false
    s.Live ∧ s.session (i.val + 1) = some x ∧ x.proved = false) ∧
    (let s : State := inSession (session true)
    let i : Fin 4 := 0
    let x : Session := session true
    s.Live ∧ s.session (i.val + 1) = some x ∧ x.proved = true) :=
  by and_intros <;> decide +kernel

theorem test_witness_SessionsComplete_checked (he : Config.ecdsaOk = fun _ _ _ => true) :
    let s : State := (serving (inSession (session false)) (asked 0x11 [1, 0, 1, 0]))
    let k : KprServe := (asked 0x11 [1, 0, 1, 0])
    let x : Session := session false
    let i := k.parNum 0 1
    let scope := k.parNum 1 1
    let idle := k.parNum 2 2
    s.Serves k 0x11 ∧ 1 ≤ i ∧ i ≤ 4 ∧ s.session i = some x ∧ x.proved = false ∧ scope < 8 ∧ 1 ≤ idle ∧ idle ≤ 3600 ∧ s.proofOk
        x scope (k.par 4 96) = true :=
  ⟨by decide +kernel, by decide +kernel, by decide +kernel, by decide +kernel, by decide +kernel, by decide +kernel,
      by decide +kernel, by decide +kernel, proof_ok he⟩

theorem test_witness_SessionsComplete_checked2 (hg : Config.gcmTag = fun _ _ _ _ => 0) :
    let s : State := (serving (inSession (session true)) (asked 0x13 (leBytes 8 1 ++ leBytes 8 1)))
    let k : KprServe := (asked 0x13 (leBytes 8 1 ++ leBytes 8 1))
    let id := k.parNum 0 1
    let r := s.checkTag id (k.parNum 8 8) (k.parNum 16 16) (k.par 0 16 ++ k.par 32 (k.len - 32)) none
    let x := { session true with counter := 1 }
    s.Serves k 0x13 ∧ k.parNum 1 7 = 0 ∧ r.2 = stSuccess ∧ r.1.session id = some x :=
  ⟨by decide +kernel, by decide +kernel, congrArg Prod.snd (tag_ok hg), tag_session hg⟩

theorem test_witness_KeysAndFusesComplete :
    (let s : State := (serving { linked base id with kpr := { base.kpr with wk := some 7 } } (asked 0x21 []))
    let k : KprServe := (asked 0x21 [])
    let l := k.parNum 0 1
    s.Serves k 0x21 ∧ wallAbsent s.variant l = false ∧ s.kpr.wk.isSome = true ∧ s.laneUp l = true ∧ (s.lane l).mode ≠ 2 ∧
        s.mgmtRoom l = true) ∧
    (let s : State := { linked base (fun w => { w with mgmt := [.keyx 1 2 1] }) with kpr := { base.kpr with wk := some 7 } }
    let l : Fin 24 := 0
    let key : Nat := 1
    let salt : Nat := 2
    let g : Nat := 1
    let wk : Nat := 7
    let rest : List Mgmt := []
    s.Live ∧ (s.lane l.val).mgmt = .keyx key salt g :: rest ∧ s.kpr.wk = some wk ∧ s.laneUp l.val = true ∧ s.laneScanned l.val
        = false ∧ s.unitStalled 0x3D = false) ∧
    (let s : State := (serving { base with kpr := { base.kpr with sk := some (1, 2) } } (asked 0x22 [0]))
    let k : KprServe := (asked 0x22 [0])
    s.Serves k 0x22 ∧ k.parNum 0 1 < 2 ∧ s.kpr.sk.isSome = true ∧ s.fld Reg.kprStatus 17 17 = k.parNum 0 1) ∧
    (let s : State := (serving { base with kpr := { base.kpr with sk := some (1, 2) } } (asked 0x22 [1]))
    let k : KprServe := (asked 0x22 [1])
    s.Serves k 0x22 ∧ k.parNum 0 1 < 2 ∧ s.kpr.sk.isSome = true ∧ s.fld Reg.kprStatus 17 17 ≠ k.parNum 0 1) ∧
    (let s : State := (serving base (asked 0x30 [0, 1]))
    let k : KprServe := (asked 0x30 [0, 1])
    s.Serves k 0x30 ∧ k.parNum 0 1 < 8 ∧ k.parNum 1 1 < 8 ∧ s.slotState (k.parNum 0 1) = 0) ∧
    (let s : State := (serving keyed (asked 0x31 [0]))
    let k : KprServe := (asked 0x31 [0])
    s.Serves k 0x31 ∧ k.parNum 0 1 < 8 ∧ s.slotState (k.parNum 0 1) = 1) ∧
    (let s : State := (serving (base.setFld Reg.kprFw 15 0 1) (asked 0x32 [0xFF, 1, 0, 0, 0]))
    let k : KprServe := (asked 0x32 [0xFF, 1, 0, 0, 0])
    let slot := k.parNum 0 1
    let v := k.parNum 1 4
    s.Serves k 0x32 ∧ slot = 0xFF ∧ s.kpr.fwFloor ≤ v ∧ v ≤ s.fld Reg.kprFw 15 0 ∧ v ≤ 64) ∧
    (let s : State := (serving keyed (asked 0x32 [0, 0, 0, 0, 0]))
    let k : KprServe := (asked 0x32 [0, 0, 0, 0, 0])
    let slot := k.parNum 0 1
    let v := k.parNum 1 4
    s.Serves k 0x32 ∧ slot < 8 ∧ s.slotHas slot 0 = true ∧ sget 0 s.kpr.floors slot ≤ v ∧ v ≤ sget 0 s.kpr.highest slot) ∧
    (let s : State := (serving base (asked 0x33 [3]))
    let k : KprServe := (asked 0x33 [3])
    s.Serves k 0x33 ∧ k.parNum 0 1 < 4 ∧ s.lifecycle < k.parNum 0 1 ∧ (k.parNum 0 1 = 2 → (List.range 8).any (fun i =>
        s.slotHas i 0) = true ∧ (List.range 8).any (fun i => s.slotHas i 1) = true)) ∧
    (let s : State := { base with kpr := { base.kpr with burning := some (.floor 1) } }
    let f : FuseOp := FuseOp.floor 1
    s.Live ∧ s.kpr.burning = some f) ∧
    (let s : State := (serving base (asked 0x34 [1]))
    let k : KprServe := (asked 0x34 [1])
    s.Serves k 0x34 ∧ k.parNum 0 1 < 2 ∧ k.parNum 65 4 < 2 ^ 20) ∧
    (let s : State := (serving base (asked 0x35 [3]))
    let k : KprServe := (asked 0x35 [3])
    s.Serves k 0x35 ∧ k.parNum 0 1 < 4) ∧
    (let s : State := (serving base (asked 0x36 []))
    let k : KprServe := (asked 0x36 [])
    s.Serves k 0x36) ∧
    (let s : State := (serving base (asked 0x37 []))
    let k : KprServe := (asked 0x37 [])
    s.Serves k 0x37) ∧
    (let s : State := base.setFld Reg.kprTamper 31 30 0
    let s1 := (((s.setFld Reg.kprStatus 24 24 1).kprShow).fire 39).report 0x08 0xFE 0x04 0
    s.Live ∧ s1.fld Reg.kprTamper 31 30 = 0) ∧
    (let s : State := base.setFld Reg.kprTamper 31 30 1
    let s1 := (((s.setFld Reg.kprStatus 24 24 1).kprShow).fire 39).report 0x08 0xFE 0x04 0
    s.Live ∧ s1.fld Reg.kprTamper 31 30 = 1) ∧
    (let s : State := base.setFld Reg.kprTamper 31 30 2
    let s1 := (((s.setFld Reg.kprStatus 24 24 1).kprShow).fire 39).report 0x08 0xFE 0x04 0
    s.Live ∧ s1.fld Reg.kprTamper 31 30 = 2) ∧
    (let s : State := base.setFld Reg.kprTamper 31 30 3
    let s1 := (((s.setFld Reg.kprStatus 24 24 1).kprShow).fire 39).report 0x08 0xFE 0x04 0
    s.Live ∧ s1.fld Reg.kprTamper 31 30 = 3) ∧
    (let s : State := (serving base (asked 0x40 []))
    let k : KprServe := (asked 0x40 [])
    s.Serves k 0x40) ∧
    (let s : State := (serving { base with kpr := { base.kpr with nonce := some [] } } (asked 0x41 [1]))
    let k : KprServe := (asked 0x41 [1])
    let nonce : List Byte := []
    let level := k.parNum 0 1
    s.Serves k 0x41 ∧ s.kpr.nonce = some nonce ∧ (level = 1 ∨ level = 2) ∧ s.unlockOk nonce level (k.par 1 96) = false) ∧
    (let s : State := base
    s.Live) :=
  by and_intros <;> decide +kernel

theorem test_witness_KeysAndFusesComplete_checked (hg : Config.gcmTag = fun _ _ _ _ => 0) :
    (let s : State := (serving base (asked 0x20 [1, 0, 0, 0, 1, 0, 0, 0]))
    let k : KprServe := (asked 0x20 [1, 0, 0, 0, 1, 0, 0, 0])
    s.Serves k 0x20 ∧ k.installOk = true ∧ k.parNum 0 1 = 1 ∧ s.kpr.wkNumber < k.parNum 4 4) ∧
    (let s : State := (serving base (asked 0x20 [2, 0, 0, 0, 1, 0, 0, 0]))
    let k : KprServe := (asked 0x20 [2, 0, 0, 0, 1, 0, 0, 0])
    s.Serves k 0x20 ∧ k.installOk = true ∧ k.parNum 0 1 = 2 ∧ k.parNum 1 1 < 16 ∧ s.kpr.skNumber < k.parNum 4 4) :=
  ⟨⟨by decide +kernel, install_ok hg 1 (by decide), by decide +kernel⟩, ⟨by decide +kernel, install_ok hg 2 (by decide),
      by decide +kernel⟩⟩

theorem test_witness_KeysAndFusesComplete_checked2 (he : Config.ecdsaOk = fun _ _ _ => true) :
    let s : State := (serving { keyed with kpr := { keyed.kpr with nonce := some [] } } (asked 0x41 [1]))
    let k : KprServe := (asked 0x41 [1])
    let nonce : List Byte := []
    let level := k.parNum 0 1
    s.Serves k 0x41 ∧ s.kpr.nonce = some nonce ∧ (level = 1 ∨ level = 2) ∧ s.unlockOk nonce level (k.par 1 96) = true :=
  ⟨by decide +kernel, by decide +kernel, by decide +kernel, unlock_ok he⟩

end

end Sys2Proof.Tests
end

/-!
PROOFS. The cells of the Hive: the ALU's functions, the fields of wide registers, STOP (spec/02_hive.md R62, R63, R84).
-/
namespace Sys2Proof.Machine

/-! The ALU (R62): what its operations answer as numbers, and what a running cell makes of them. -/

theorem shiftLeft_eq_ofNat (a b : Word) : a <<< shiftAmount b = BitVec.ofNat 32 (a.toNat * 2 ^ (b.toNat % 32)) := by
  apply BitVec.eq_of_toNat_eq
  simp [shiftAmount, Nat.shiftLeft_eq]

theorem ushiftRight_eq_ofNat (a b : Word) : a >>> shiftAmount b = BitVec.ofNat 32 (a.toNat / 2 ^ (b.toNat % 32)) := by
  have lt : a.toNat / 2 ^ (b.toNat % 32) < 2 ^ 32 := Nat.lt_of_le_of_lt (Nat.div_le_self ..) a.isLt
  apply BitVec.eq_of_toNat_eq
  rw [BitVec.toNat_ushiftRight, BitVec.toNat_ofNat, Nat.mod_eq_of_lt lt, Nat.shiftRight_eq_div_pow, shiftAmount]

theorem sshiftRight_eq_ofInt (a b : Word) :
    a.sshiftRight (shiftAmount b) = BitVec.ofInt 32 (a.toInt / 2 ^ (b.toNat % 32)) := by
  rw [BitVec.sshiftRight, Int.shiftRight_eq_div_pow, shiftAmount, Nat.cast_pow, Nat.cast_ofNat]

theorem boolWord_decide (p : Prop) [Decidable p] : boolWord (decide p) = if p then 1 else 0 := by
  simp [boolWord]

theorem mul_eq_ofNat (a b : Word) : a * b = BitVec.ofNat 32 (a.toNat * b.toNat) := by
  apply BitVec.eq_of_toNat_eq
  simp

/-- A running cell ends an ALU instruction with the value `v` of its operation in g[rd]. -/
theorem hiveAlu_gives {s : State} {c : Cell} {rs rt : Gr} (h : s.Runs c) (rd : Gr) (op : Word → Word → Word) {v : Word}
    (hv : op (((s.cellFetch c).cell c).getG rs) (((s.cellFetch c).cell c).getG rt) = v) :
    act s (fun s => s.hiveAlu c rd rs rt op) = .next (s.ends ((s.cellFetch c).wrote c rd v)) := by
  subst hv
  rw [act_live _ _ h.1.1]
  simp only [State.hiveAlu, State.hiveG, hiveRun_runs h]
  rfl

/-- The ALU commands of cell `c` in the order of their func (R62). -/
def aluCommands (c : Cell) (rd rs rt : Gr) : List Instr :=
  [Instr.add, .sub, .and, .or, .xor, .nor, .sll, .srl, .sra, .slt, .sltu, .mul, .mulhu, .divu, .remu].map (fun k => k c rd rs rt)

theorem decodeAlu_eq (c : Cell) (rd rs rt : Gr) :
    ∀ func : Nat, decodeAlu c rd rs rt func = (aluCommands c rd rs rt)[func]?
  | 0 | 1 | 2 | 3 | 4 | 5 | 6 | 7 | 8 | 9 | 10 | 11 | 12 | 13 | 14 => rfl
  | _ + 15 => rfl

@[simp] theorem gr_val (r : Gr) : gr r.val = r := by
  apply Fin.ext
  simp [gr]

theorem hiveDecode_alu (c : Cell) (w : Nat) (hw : wMajor w = 0x01) :
    hiveDecode c w = decodeAlu c (gr (wRd w)) (gr (wRs w)) (gr (wRt w)) (wFunc w) := by
  simp only [hiveDecode, hw]

/-- The fields of an instruction word of format R (R60). -/
theorem wordFields_formatR (major : Nat) (rd rs rt : Gr) (func : Nat) (hm : major < 64) (hf : func < 2 ^ 11) :
    let w := major * 2 ^ 26 + rd.val * 2 ^ 21 + rs.val * 2 ^ 16 + rt.val * 2 ^ 11 + func
    wMajor w = major ∧ wRd w = rd.val ∧ wRs w = rs.val ∧ wRt w = rt.val ∧ wFunc w = func := by
  have := rd.isLt
  have := rs.isLt
  have := rt.isLt
  simp only [wMajor, wRd, wRs, wRt, wFunc]
  refine ⟨?_, ?_, ?_, ?_, ?_⟩ <;> omega

/-! Fields of wide registers (R63). -/

theorem decodeField_outside {imm : Nat} (h : 128 < imm % 128 + (imm / 128 % 32 + 1)) : decodeField imm = none := by
  have outside : fieldFits (BitVec.ofNat 7 imm) (BitVec.ofNat 5 (imm / 128)) = false := by
    simp only [fieldFits, BitVec.toNat_ofNat, decide_eq_false_iff_not]
    omega
  simp [decodeField, outside]

theorem fieldFits_iff (p : BitVec 7) (l : BitVec 5) : fieldFits p l = true ↔ ¬ 128 < p.toNat + l.toNat + 1 := by
  simp [fieldFits]

theorem getLsbD_fieldMask (p n : Nat) {k : Nat} (hk : k < 128) :
    (fieldMask p n).getLsbD k = decide (p ≤ k ∧ k < p + n) := by
  simp only [fieldMask, BitVec.getLsbD_ofNat, Nat.testBit_mul_two_pow, Nat.testBit_two_pow_sub_one, hk, decide_true,
    Bool.true_and]
  by_cases hp : p ≤ k
  · simp only [hp, decide_true, Bool.true_and, true_and, decide_eq_decide]
    omega
  · simp [hp]

theorem getLsbD_deposit (w : Quad) (p n : Nat) (v : Word) {k : Nat} (hk : k < 128) :
    (deposit w p n v).getLsbD k = if p ≤ k ∧ k < p + n then v.getLsbD (k - p) else w.getLsbD k := by
  have kp : k - p < 128 := by omega
  have field := getLsbD_fieldMask p n hk
  by_cases inside : p ≤ k ∧ k < p + n
  · have low : ¬ k < p := by omega
    simp only [deposit, BitVec.getLsbD_or, BitVec.getLsbD_and, BitVec.getLsbD_not, BitVec.getLsbD_shiftLeft,
      BitVec.getLsbD_setWidth, field, hk, kp, inside, low]
    simp
  · simp only [deposit, BitVec.getLsbD_or, BitVec.getLsbD_and, BitVec.getLsbD_not, field, hk, inside]
    simp

@[simp] theorem getW_putW_self (c : CellSt) (r : Nat) (v : Quad) : (c.putW r v).getW r = v := by
  simp [CellSt.getW, CellSt.putW]

@[simp] theorem getW_retire (c : CellSt) (r : Nat) : c.retire.getW r = c.getW r := rfl

/-- A running cell ends WDEP with the field, which lies inside the register, deposited in w[rd]. -/
theorem wdep_gives {s : State} {c : Cell} (h : s.Runs c) (rd : Wr) (rs : Gr) {p : BitVec 7} {l : BitVec 5}
    (hf : fieldFits p l = true) :
    Gives (.wdep c rd rs p l) s ((s.cellFetch c).mapCell c (fun x =>
      (x.putW rd (deposit (x.getW rd) p.toNat (l.toNat + 1) (x.getG rs))).retire)) := by
  have run : exec (.wdep c rd rs p l) s = act s (doWdep c rd rs p.toNat l.toNat) := rfl
  rw [Gives, run, act_live _ _ h.1.1, doWdep, hiveRun_runs h, if_neg ((fieldFits_iff p l).mp hf)]

/-! Stops (R84): the barriers that learn of one leave the stopped cell, the registers and the memory as they are. -/

/-- Cell `n` stands as `x`, the registers as `r`, the memory as `m`. -/
structure State.Stands (s : State) (n : Nat) (x : CellSt) (r : Sparse Word) (m : List Host.Cell) : Prop where
  cell : s.cell n = x
  regs : s.regs = r
  mem : s.mem = m

section
variable {s : State} {n : Nat} {x : CellSt} {r : Sparse Word} {m : List Host.Cell}

theorem setBarrier_stands (h : s.Stands n x r m) (b : Nat) (y : Barrier) : (s.setBarrier b y).Stands n x r m :=
  ⟨h.cell, h.regs, h.mem⟩

/-- An instruction of another cell that completes. -/
theorem cellGoes_stands (h : s.Stands n x r m) {k : Nat} (hk : k ≠ n) (f : CellSt → CellSt) :
    (s.cellGoes k f).Stands n x r m :=
  ⟨(cell_mapCell_ne s _ hk.symm).trans h.cell, h.regs, h.mem⟩

theorem barForget_stands (h : s.Stands n x r m) (k : Nat) : (s.barForget k).Stands n x r m := by
  unfold State.barForget
  refine List.foldlRecOn (motive := (State.Stands · n x r m)) _ _ h (fun s h b _ => ?_)
  dsimp only
  split
  · exact setBarrier_stands h _ _
  · exact h

/-- Only cells that wait at a barrier leave it. -/
theorem barLeave_stands (h : s.Stands n x r m) (hx : x.wait = .none) (b : Nat) (v : Word) :
    (s.barLeave b v).Stands n x r m := by
  unfold State.barLeave
  refine setBarrier_stands (List.foldlRecOn (motive := (State.Stands · n x r m)) _ _ h (fun s h k _ => ?_)) _ _
  split
  case h_1 hw =>
    have other : k ≠ n := by
      rintro rfl
      simp [h.cell, hx] at hw
    split
    · exact cellGoes_stands h other _
    · exact h
  case h_2 => exact h

theorem barStopped_stands (h : s.Stands n x r m) (hx : x.wait = .none) (k : Nat) (but : List Nat) :
    (s.barStopped k but).Stands n x r m := by
  unfold State.barStopped
  refine List.foldlRecOn (motive := (State.Stands · n x r m)) _ _ h (fun s h b _ => ?_)
  dsimp only
  split
  · exact barLeave_stands h hx _ _
  · exact h

end

/-- A stop changes the state, the cause and the exit code of its cell, and ends what the cell waits for. -/
theorem halt_stands (s : State) (n st cause exit : Nat) :
    (s.halt n st cause exit).Stands n { s.cell n with state := st, cause := cause, exitCode := exit, wait := .none }
      s.regs s.mem :=
  barStopped_stands (barForget_stands ⟨cell_mapCell_self .., rfl, rfl⟩ n) rfl n []

theorem stop_gives {s : State} {c : Cell} (h : s.Runs c) (imm : BitVec 16) :
    Gives (.stop c imm) s (((s.cellFetch c).halt c 4 0 imm.toNat).fire 73) := by
  have run : exec (.stop c imm) s = act s (doStop c imm.toNat) := rfl
  rw [Gives, run, act_live _ _ h.1.1, doStop, hiveRun_runs h]

end Sys2Proof.Machine

namespace Sys2Proof.Proofs
open Sys2Proof Sys2Proof.Machine

/-- Settles O15: the fields of the word name the command, and each ALU function ends by the one rule `hiveAlu_gives`. -/
theorem aluFunctionsWriteTheirResult : Obligations.AluFunctionsWriteTheirResult := by
  unfold Obligations.AluFunctionsWriteTheirResult
  constructor
  · intro c rd rs rt func hf
    obtain ⟨hmajor, hrd, hrs, hrt, hfunc⟩ := wordFields_formatR 0x01 rd rs rt func (by decide) hf
    rw [hiveDecode_alu c _ hmajor, hrd, hrs, hrt, hfunc, gr_val, gr_val, gr_val]
    exact decodeAlu_eq c rd rs rt func
  · intro s c rd rs rt h
    exact ⟨hiveAlu_gives h rd (· + ·) rfl, hiveAlu_gives h rd (· - ·) rfl, hiveAlu_gives h rd (· &&& ·) rfl,
      hiveAlu_gives h rd (· ||| ·) rfl, hiveAlu_gives h rd (· ^^^ ·) rfl, hiveAlu_gives h rd (fun a b => ~~~(a ||| b)) rfl,
      hiveAlu_gives h rd (fun a b => a <<< shiftAmount b) (shiftLeft_eq_ofNat ..),
      hiveAlu_gives h rd (fun a b => a >>> shiftAmount b) (ushiftRight_eq_ofNat ..),
      hiveAlu_gives h rd (fun a b => a.sshiftRight (shiftAmount b)) (sshiftRight_eq_ofInt ..),
      hiveAlu_gives h rd (fun a b => boolWord (ltS a b)) (boolWord_decide _),
      hiveAlu_gives h rd (fun a b => boolWord (ltU a b)) (boolWord_decide _),
      hiveAlu_gives h rd (· * ·) (mul_eq_ofNat ..),
      hiveAlu_gives h rd mulHigh rfl, hiveAlu_gives h rd divu rfl, hiveAlu_gives h rd remu rfl⟩

/-- Settles O17: a field that does not fit is no field to the decoder, and a deposit is known bit by bit. -/
theorem fieldsLieInsideTheirRegister : Obligations.FieldsLieInsideTheirRegister := by
  unfold Obligations.FieldsLieInsideTheirRegister
  constructor
  · rintro c w (hw | hw) outside
    · simp [hiveDecode, hw, decodeField_outside outside]
    · simp [hiveDecode, hw, decodeField_outside outside]
  · intro s c rd rs p l h s0 hf
    refine ⟨_, wdep_gives h rd rs hf, fun k hk => ?_⟩
    rw [cell_mapCell_self, getW_retire, getW_putW_self]
    exact getLsbD_deposit _ _ _ _ hk

/-- Settles O25: what the stop leaves as it was follows from `halt_stands`. -/
theorem stopEndsTheCell : Obligations.StopEndsTheCell := by
  unfold Obligations.StopEndsTheCell
  constructor
  · intro s c imm h s0 h0
    obtain ⟨cell, regs, mem⟩ := halt_stands s0 c 4 0 imm.toNat
    refine ⟨stop_gives h imm, ?_⟩
    simp only [h0, cell, regs, mem, and_self]
  · intro c w hw
    simp only [hiveDecode, hw]

end Sys2Proof.Proofs

/-!
PROOFS. The placement of DRAM addresses (spec/11_memory.md R404). An address and its pair of pseudo-channel and offset determine
each other (`addrOf_placeOf`, `placeOf_addrOf`), and so do a burst and its pair of pseudo-channel and multiple of 32
(`offset_burstAt`, `burstAt_offset`).
-/
namespace Sys2Proof.Machine

/-! A number cut at a power of two. -/

theorem mul_add_div_two_pow {g low : Nat} (h : low < 2 ^ g) (high : Nat) : (high * 2 ^ g + low) / 2 ^ g = high := by
  rw [Nat.mul_comm, Nat.mul_add_div (Nat.two_pow_pos g), Nat.div_eq_of_lt h, Nat.add_zero]

theorem mod_two_pow_lt (n k : Nat) : n % 2 ^ k < 2 ^ k := Nat.mod_lt _ (Nat.two_pow_pos k)

/-! Addresses and their places. -/

/-- What R404 folds into the pseudo-channel number of a unit whose bits above that number are `hi`. -/
def unitHash (b hi : Nat) : Nat := (hi % 2 ^ b) ^^^ (hi / 2 ^ b % 2 ^ b)

theorem unitHash_lt (b hi : Nat) : unitHash b hi < 2 ^ b := Nat.xor_lt_two_pow (mod_two_pow_lt ..) (mod_two_pow_lt ..)

theorem placeOf_eq (b g a : Nat) :
    placeOf b g a = ((a / 2 ^ g % 2 ^ b) ^^^ unitHash b (a / 2 ^ g / 2 ^ b), a / 2 ^ g / 2 ^ b * 2 ^ g + a % 2 ^ g) := by
  rw [placeOf, Nat.xor_assoc, unitHash]

theorem addrOf_eq (b g pc o : Nat) :
    addrOf b g pc o = (o / 2 ^ g * 2 ^ b + (pc ^^^ unitHash b (o / 2 ^ g))) * 2 ^ g + o % 2 ^ g := by
  rw [addrOf, Nat.xor_assoc, unitHash]

/-- The offset holds the address bits above the pseudo-channel number, so the same exclusive or undoes itself. -/
theorem addrOf_placeOf (b g a : Nat) : addrOf b g (placeOf b g a).1 (placeOf b g a).2 = a := by
  have low := mod_two_pow_lt a g
  rw [placeOf_eq, addrOf_eq]
  simp only [mul_add_div_two_pow low, Nat.mul_add_mod_of_lt low, Nat.xor_xor_cancel_right, Nat.div_add_mod']

theorem placeOf_addrOf {b pc : Nat} (hpc : pc < 2 ^ b) (g o : Nat) : placeOf b g (addrOf b g pc o) = (pc, o) := by
  have low := mod_two_pow_lt o g
  have unit : pc ^^^ unitHash b (o / 2 ^ g) < 2 ^ b := Nat.xor_lt_two_pow hpc (unitHash_lt ..)
  rw [addrOf_eq, placeOf_eq]
  simp only [mul_add_div_two_pow low, Nat.mul_add_mod_of_lt low, mul_add_div_two_pow unit, Nat.mul_add_mod_of_lt unit,
    Nat.xor_xor_cancel_right, Nat.div_add_mod']

theorem placeOf_inj {b g a a' : Nat} : placeOf b g a = placeOf b g a' ↔ a = a' := by
  refine ⟨fun h => ?_, congrArg _⟩
  rw [← addrOf_placeOf b g a, h, addrOf_placeOf]

theorem addrOf_lt {b g pc o n : Nat} (hpc : pc < 2 ^ b) (ho : o < n * 2 ^ g) : addrOf b g pc o < n * 2 ^ b * 2 ^ g := by
  have unit : pc ^^^ unitHash b (o / 2 ^ g) < 2 ^ b := Nat.xor_lt_two_pow hpc (unitHash_lt ..)
  rw [addrOf_eq, ← Nat.div_lt_iff_lt_mul (Nat.two_pow_pos g), mul_add_div_two_pow (mod_two_pow_lt ..),
    ← Nat.div_lt_iff_lt_mul (Nat.two_pow_pos b), mul_add_div_two_pow unit]
  exact Nat.div_lt_of_lt_mul (Nat.mul_comm .. ▸ ho)

/-- The 32-byte units are placed as addresses are at a grain 32 times smaller, for 32 divides every grain. -/
theorem placeOf_div_32 (b g a : Nat) : placeOf b g (a / 32) = ((placeOf b (g + 5) a).1, (placeOf b (g + 5) a).2 / 32) := by
  have grain : 2 ^ (g + 5) = 32 * 2 ^ g := by rw [Nat.pow_add, Nat.mul_comm]
  have unit : a / 32 / 2 ^ g = a / 2 ^ (g + 5) := by rw [grain, Nat.div_div_eq_div_mul]
  have low : a % 2 ^ (g + 5) / 32 = a / 32 % 2 ^ g := by rw [grain, Nat.mod_mul_right_div_self]
  rw [placeOf_eq, placeOf_eq, unit, ← low, grain, Nat.mul_left_comm, Nat.mul_add_div (by decide)]

/-! Places and their bursts. -/

/-- The offset of a burst's first byte in its pseudo-channel. -/
def Burst.offset (x : Burst) : Nat :=
  x.sid * 2 ^ 28 + x.row * 2 ^ 14 + (x.ba ^^^ (x.row / 4 % 4)) * 2 ^ 12 + (x.bg ^^^ (x.row % 4)) * 2 ^ 10 + x.col * 2 ^ 5

/-- The numbers of a burst's row, column, bank group and bank lie in their fields; its pseudo-channel and `sid` are free. -/
def Burst.Fits (x : Burst) : Prop := x.row < 2 ^ 14 ∧ x.col < 32 ∧ x.bg < 4 ∧ x.ba < 4

theorem xor_mod_four_lt {n : Nat} (h : n < 4) (m : Nat) : n ^^^ (m % 4) < 4 :=
  Nat.xor_lt_two_pow (n := 2) h (mod_two_pow_lt m 2)

theorem burstAt_fits (pc o : Nat) : (burstAt pc o).Fits :=
  ⟨mod_two_pow_lt _ 14, mod_two_pow_lt _ 5, xor_mod_four_lt (mod_two_pow_lt _ 2) _, xor_mod_four_lt (mod_two_pow_lt _ 2) _⟩

theorem offset_burstAt (pc o : Nat) : (burstAt pc o).offset = o / 32 * 32 := by
  simp only [burstAt, Burst.offset, Nat.xor_xor_cancel_right]
  omega

theorem burstAt_offset {x : Burst} (h : x.Fits) : burstAt x.pc x.offset = x := by
  obtain ⟨hrow, hcol, hbg, hba⟩ := h
  have bg_lt := xor_mod_four_lt hbg x.row
  have ba_lt := xor_mod_four_lt hba (x.row / 4)
  have sid : x.offset / 2 ^ 28 = x.sid := by unfold Burst.offset; omega
  have row : x.offset / 2 ^ 14 % 0x4000 = x.row := by unfold Burst.offset; omega
  have col : x.offset / 2 ^ 5 % 32 = x.col := by unfold Burst.offset; omega
  have bg : x.offset / 2 ^ 10 % 4 = x.bg ^^^ (x.row % 4) := by unfold Burst.offset; omega
  have ba : x.offset / 2 ^ 12 % 4 = x.ba ^^^ (x.row / 4 % 4) := by unfold Burst.offset; omega
  simp only [burstAt, sid, row, col, bg, ba, Nat.xor_xor_cancel_right]

theorem offset_lt {x : Burst} (h : x.Fits) {n : Nat} (hsid : x.sid < n) : x.offset < n * 2 ^ 28 := by
  obtain ⟨hrow, hcol, hbg, hba⟩ := h
  have bg_lt := xor_mod_four_lt hbg x.row
  have ba_lt := xor_mod_four_lt hba (x.row / 4)
  unfold Burst.offset
  omega

theorem burstAt_inj {pc pc' o o' : Nat} : burstAt pc o = burstAt pc' o' ↔ pc = pc' ∧ o / 32 = o' / 32 := by
  constructor
  · intro h
    have offsets := congrArg Burst.offset h
    rw [offset_burstAt, offset_burstAt] at offsets
    exact ⟨congrArg Burst.pc h, by omega⟩
  · rintro ⟨rfl, h⟩
    calc burstAt pc o
      _ = burstAt pc (burstAt pc o).offset := (burstAt_offset (burstAt_fits pc o)).symm
      _ = burstAt pc (burstAt pc o').offset := by rw [offset_burstAt, offset_burstAt, h]
      _ = burstAt pc o' := burstAt_offset (burstAt_fits pc o')

/-! Addresses and their bursts. -/

/-- The fields of a burst in R404's own terms: the bank bits of the row, read from the offset. -/
theorem burstAt_eq (pc o : Nat) :
    burstAt pc o = ⟨pc, o / 2 ^ 28, o / 2 ^ 14 % 2 ^ 14, o / 2 ^ 5 % 2 ^ 5, (o / 2 ^ 10 % 4) ^^^ (o / 2 ^ 14 % 4),
      (o / 2 ^ 12 % 4) ^^^ (o / 2 ^ 16 % 4)⟩ := by
  have bg : o / 2 ^ 14 % 0x4000 % 4 = o / 2 ^ 14 % 4 := by omega
  have ba : o / 2 ^ 14 % 0x4000 / 4 % 4 = o / 2 ^ 16 % 4 := by omega
  rw [burstAt, bg, ba]
  rfl

theorem burstOf_eq_iff {b g : Nat} (hg : 5 ≤ g) (a a' : Nat) : burstOf b g a = burstOf b g a' ↔ a / 32 = a' / 32 := by
  obtain ⟨k, rfl⟩ := Nat.exists_eq_add_of_le' hg
  rw [burstOf, burstOf, burstAt_inj, ← Prod.mk.injEq, ← placeOf_div_32, ← placeOf_div_32, placeOf_inj]

theorem burstOf_addrOf {b : Nat} {x : Burst} (hpc : x.pc < 2 ^ b) (h : x.Fits) (g : Nat) :
    burstOf b g (addrOf b g x.pc x.offset) = x := by
  rw [burstOf, placeOf_addrOf hpc, burstAt_offset h]

end Sys2Proof.Machine

namespace Sys2Proof.Proofs
open Sys2Proof Sys2Proof.Machine

/-- Settles O6: `addrOf` undoes `placeOf`, addresses share a burst as `burstOf_eq_iff` says, and the address of a burst's own place
is one that it holds. -/
theorem dramAddressesAndBurstsMatch : Obligations.DramAddressesAndBurstsMatch := by
  unfold Obligations.DramAddressesAndBurstsMatch
  intro b g _ hg hg'
  refine ⟨fun a _ => ⟨rfl, addrOf_placeOf b g a, burstAt_eq ..⟩, fun a a' _ _ => burstOf_eq_iff (by omega) a a', ?_⟩
  intro x hpc hsid hrow hcol hbg hba
  have fits : x.Fits := ⟨hrow, hcol, hbg, hba⟩
  have stack : 2 ^ (28 - g) * 2 ^ g = 2 ^ 28 := Nat.pow_sub_mul_pow 2 (by omega)
  refine ⟨addrOf b g x.pc x.offset, ?_, burstOf_addrOf hpc fits g⟩
  calc addrOf b g x.pc x.offset
    _ < 3 * 2 ^ (28 - g) * 2 ^ b * 2 ^ g := addrOf_lt hpc (by rw [Nat.mul_assoc, stack]; exact offset_lt fits hsid)
    _ = 3 * 2 ^ 28 * 2 ^ b := by rw [← stack]; ring

end Sys2Proof.Proofs

/-!
PROOFS. The machine as a whole: every command is carried out by `act`, or by `actAlways` where it reaches a device in reset too
(spec/95_what_each_step_holds.md, spec/14_safety_power_reset.md R511, spec/16_electrical_package.md R557).
-/
namespace Sys2Proof.Machine

/-- The commands that a device in reset carries out (R511, R557): power-on, RESET_N, the release and a reading of the sensors. -/
def reachesReset : Instr → Bool
  | .powerOnReset | .resetNAssert | .resetRelease _ | .sensorRead _ => true
  | _ => false

/-- How a command is carried out: only one that reaches a device in reset goes past `act`. -/
theorem exec_cases (i : Instr) (s : State) :
    (∃ f, exec i s = act s f) ∨ (reachesReset i = true ∧ ∃ f, exec i s = actAlways s f) := by
  cases i
  case powerOnReset => exact .inr ⟨rfl, _, rfl⟩
  case resetNAssert => exact .inr ⟨rfl, _, rfl⟩
  case resetRelease => exact .inr ⟨rfl, _, rfl⟩
  case sensorRead => exact .inr ⟨rfl, _, rfl⟩
  case rxLockGained rx => exact .inl ⟨fun s => (doRxLockGained rx.lane.val rx.bits s).casFollow, rfl⟩
  case rxLockLost rx => exact .inl ⟨fun s => (doRxLockLost rx.lane.val rx.bits s).casFollow, rfl⟩
  case quadPllUnlock q => exact .inl ⟨fun s => (doQuadPllUnlock q.val s).casFollow, rfl⟩
  all_goals exact .inl ⟨_, rfl⟩

/-- The answer is a next state of the same device: the variant and the queue of commands are those of `s`, and nothing is due where
nothing was. -/
def Keeps (s : State) (o : Host.Outcome State Fault Refusal) : Prop :=
  ∃ t, o = .next t ∧ t.variant = s.variant ∧ t.pending = s.pending ∧ (s.Settled → t.Settled)

theorem ends_settled (s t : State) : (s.ends t).Settled := settle_due t

theorem actAlways_keeps (s : State) (f : State → State) : Keeps s (actAlways s f) :=
  ⟨_, rfl, rfl, rfl, fun _ => ends_settled s (f s)⟩

theorem act_keeps (s : State) (f : State → State) : Keeps s (act s f) := by
  cases hr : s.inert
  case false => rw [act_live s f hr]; exact actAlways_keeps s f
  case true => rw [act_inert s f hr]; exact ⟨s, rfl, rfl, rfl, id⟩

theorem exec_keeps (i : Instr) (s : State) : Keeps s (exec i s) := by
  obtain ⟨f, h⟩ | ⟨_, f, h⟩ := exec_cases i s
  · rw [h]; exact act_keeps s f
  · rw [h]; exact actAlways_keeps s f

/-- A step keeps the device as well, but for the command at the front of the queue, which is gone. -/
theorem step_keeps (s : State) : Keeps { s with pending := s.pending.tail } (step s) := by
  unfold step
  split
  next h =>
    have empty : ({ s with pending := s.pending.tail } : State) = s := by rw [h, List.tail_nil, ← h]
    rw [empty]
    exact act_keeps s State.tick
  next c rest h => rw [h]; exact exec_keeps c { s with pending := rest }

theorem exec_inert {i : Instr} {s : State} (h : s.inert = true) (hi : reachesReset i = false) : exec i s = .next s := by
  obtain ⟨f, hf⟩ | ⟨reaches, _⟩ := exec_cases i s
  · rw [hf, act_inert s f h]
  · simp [hi] at reaches

end Sys2Proof.Machine

namespace Sys2Proof.Proofs
open Sys2Proof Sys2Proof.Machine

/-- Settles O1: the two branches of `step`, the second by `act_live`. -/
theorem stepRunsTheFrontCommand : Obligations.StepRunsTheFrontCommand := by
  unfold Obligations.StepRunsTheFrontCommand
  constructor
  · intro s c rest h
    simp only [step, h]
  · intro s live h
    simp only [step, h]
    exact act_live s State.tick live.1

/-- Settles O2, by `step_keeps` and `exec_keeps`. -/
theorem everyStepAnswersAndKeepsTheDevice : Obligations.EveryStepAnswersAndKeepsTheDevice := by
  unfold Obligations.EveryStepAnswersAndKeepsTheDevice
  refine ⟨step_keeps, fun i s => ?_⟩
  obtain ⟨t, answer, variant, pending, _⟩ := exec_keeps i s
  exact ⟨t, answer, variant, pending⟩

/-- Settles O3: the state after reset is a literal, and each clause is evaluated on it. -/
theorem resetHoldsWhatTheSpecStates : Obligations.ResetHoldsWhatTheSpecStates := by
  unfold Obligations.ResetHoldsWhatTheSpecStates
  exact ⟨⟨rfl, rfl⟩, rfl, reset_wf, by decide +kernel, by decide +kernel, by decide +kernel, by decide +kernel, by decide +kernel,
    by decide +kernel, by decide +kernel, rfl, by decide +kernel⟩

/-- Settles O5: the five words are decoded. -/
theorem sampleWordsDecode : Obligations.SampleWordsDecode := by
  unfold Obligations.SampleWordsDecode
  decide +kernel

/-- Settles O8: a command that is none of the four does not reach a device in reset. -/
theorem inertDeviceIgnoresCommands : Obligations.InertDeviceIgnoresCommands := by
  unfold Obligations.InertDeviceIgnoresCommands
  intro s i h hpower hreset hrelease hsensors
  refine exec_inert h ?_
  cases i
  case powerOnReset => exact absurd rfl hpower
  case resetNAssert => exact absurd rfl hreset
  case resetRelease straps => exact absurd rfl (hrelease straps)
  case sensorRead readings => exact absurd rfl (hsensors readings)
  all_goals rfl

end Sys2Proof.Proofs

/-!
PROOFS. The instruction words of the cells (spec/02_hive.md R60 to R84): the fields of a word and the word of its fields determine
each other, and so do a word and the command it decodes to.
-/
namespace Sys2Proof.Machine

/-! The fields of a word (R60). -/

section
variable {major rd rs imm : Nat} (hm : major < 64) (hd : rd < 32) (hs : rs < 32) (hi : imm < 2 ^ 16)
include hm hd hs hi

theorem fields_encI : encI major rd rs imm < 2 ^ 32 ∧ wMajor (encI major rd rs imm) = major ∧ wRd (encI major rd rs imm) = rd ∧
    wRs (encI major rd rs imm) = rs ∧ wImm (encI major rd rs imm) = imm := by
  simp only [encI, wMajor, wRd, wRs, wImm]
  omega

/-- A word of format I decodes as each word with its fields does. -/
theorem decode_encI {c : Cell} {i : Instr}
    (h : ∀ w, wMajor w = major → wRd w = rd → wRs w = rs → wImm w = imm → hiveDecode c w = some i) :
    encI major rd rs imm < 2 ^ 32 ∧ hiveDecode c (encI major rd rs imm) = some i := by
  obtain ⟨lt, h1, h2, h3, h4⟩ := fields_encI hm hd hs hi
  exact ⟨lt, h _ h1 h2 h3 h4⟩
end

section
variable {major rd rs rt func : Nat} (hm : major < 64) (hd : rd < 32) (hs : rs < 32) (ht : rt < 32) (hf : func < 2 ^ 11)
include hm hd hs ht hf

theorem fields_encA : encA major rd rs rt func < 2 ^ 32 ∧ wMajor (encA major rd rs rt func) = major ∧
    wRd (encA major rd rs rt func) = rd ∧ wRs (encA major rd rs rt func) = rs ∧ wRt (encA major rd rs rt func) = rt ∧
    wFunc (encA major rd rs rt func) = func := by
  simp only [encA, wMajor, wRd, wRs, wRt, wFunc]
  omega

theorem decode_encA {c : Cell} {i : Instr}
    (h : ∀ w, wMajor w = major → wRd w = rd → wRs w = rs → wRt w = rt → wFunc w = func → hiveDecode c w = some i) :
    encA major rd rs rt func < 2 ^ 32 ∧ hiveDecode c (encA major rd rs rt func) = some i := by
  obtain ⟨lt, h1, h2, h3, h4, h5⟩ := fields_encA hm hd hs ht hf
  exact ⟨lt, h _ h1 h2 h3 h4 h5⟩
end

theorem fields_encJ {major offset : Nat} (hm : major < 64) (ho : offset < 2 ^ 26) :
    encJ major offset < 2 ^ 32 ∧ wMajor (encJ major offset) = major ∧ wOffset (encJ major offset) = offset := by
  simp only [encJ, wMajor, wOffset]
  omega

theorem encI_fields {w : Nat} (h : w < 2 ^ 32) : encI (wMajor w) (wRd w) (wRs w) (wImm w) = w := by
  simp only [encI, wMajor, wRd, wRs, wImm]
  omega

theorem encA_fields {w : Nat} (h : w < 2 ^ 32) : encA (wMajor w) (wRd w) (wRs w) (wRt w) (wFunc w) = w := by
  simp only [encA, wMajor, wRd, wRs, wRt, wFunc]
  omega

theorem encJ_fields {w : Nat} (h : w < 2 ^ 32) : encJ (wMajor w) (wOffset w) = w := by
  simp only [encJ, wMajor, wOffset]
  omega

/-! From a command to its word. -/

@[simp] theorem imm16_of {w : Nat} {x : BitVec 16} (h : wImm w = x.toNat) : imm16 w = x := by
  simp [imm16, h]

@[simp] theorem wr?_val (r : Wr) : wr? r.val = some r := by
  simp [wr?]

theorem ofNat_of_toNat {n m : Nat} {x : BitVec n} (h : m % 2 ^ n = x.toNat) : BitVec.ofNat n m = x :=
  BitVec.eq_of_toNat_eq (by simpa using h)

theorem decodeShi_enc (c : Cell) (rd rs : Gr) (dir : ShiftDir) (amount : BitVec 5) :
    decodeShi c rd rs (encDir dir * 32 + amount.toNat) = some (.shi c rd rs dir amount) := by
  have dirOf : (encDir dir * 32 + amount.toNat) / 32 = encDir dir := by omega
  have amountOf : BitVec.ofNat 5 (encDir dir * 32 + amount.toNat) = amount := ofNat_of_toNat (by omega)
  rw [decodeShi, dirOf, amountOf]
  cases dir <;> rfl

theorem decodeField_enc {pos : BitVec 7} {lenM1 : BitVec 5} (h : fieldFits pos lenM1 = true) :
    decodeField (encField pos lenM1) = some (pos, lenM1) := by
  have posOf : BitVec.ofNat 7 (encField pos lenM1) = pos := ofNat_of_toNat (by unfold encField; omega)
  have lenOf : BitVec.ofNat 5 (encField pos lenM1 / 128) = lenM1 := ofNat_of_toNat (by unfold encField; omega)
  have short : encField pos lenM1 / 4096 = 0 := by unfold encField; omega
  simp [decodeField, posOf, lenOf, short, h]

theorem finOfNat_val {n m : Nat} [NeZero n] {x : Fin n} (h : m % n = x.val) : Fin.ofNat n m = x := Fin.ext h

theorem decodeArm_arm (c : Cell) (rd rs : Gr) (target : Fin 17) :
    decodeArm c rd rs target = some (.arm c rd rs target) := by
  have targetOf : Fin.ofNat 17 (target.val % 32) = target := finOfNat_val (by omega)
  rw [decodeArm, if_neg (by omega), if_neg (by omega), targetOf]

theorem decodeArm_disarm (c : Cell) (rd rs : Gr) (target : Fin 17) :
    decodeArm c rd rs (32 + target) = some (.disarm c rd rs target) := by
  have targetOf : Fin.ofNat 17 ((32 + target.val) % 32) = target := finOfNat_val (by omega)
  rw [decodeArm, if_neg (by omega), if_pos (by omega), targetOf]

theorem decodeCommit_local (c : Cell) (rd rt : Gr) (group : Fin 16) :
    decodeCommit c rd 0 rt group = some (.commit c rd rt group) := by
  have groupOf : Fin.ofNat 16 group.val = group := finOfNat_val (by omega)
  rw [decodeCommit, if_neg (by omega), if_neg (by omega), if_pos rfl, groupOf, gr_val, gr_val]

theorem decodeCommit_swarm (c : Cell) (rd rs rt : Gr) (group : Fin 16) :
    decodeCommit c rd rs rt (1024 + group) = some (.swarmCommit c rd rs rt group) := by
  have groupOf : Fin.ofNat 16 (1024 + group.val) = group := finOfNat_val (by omega)
  rw [decodeCommit, if_neg (by omega), if_pos (by omega), groupOf, gr_val, gr_val, gr_val]

theorem decodeMbox_send (c : Cell) (rd : Wr) (rs : Gr) (dest : Fin 9) :
    decodeMbox c rd rs dest = some (.mboxSend c rd rs dest) := by
  have destOf : Fin.ofNat 9 dest.val = dest := finOfNat_val (by omega)
  rw [decodeMbox, if_neg (by omega), if_neg (by omega), if_pos dest.isLt, destOf]

theorem decodeMbox_receive (c : Cell) (rd : Wr) (rs : Gr) (sel : BitVec 4) :
    decodeMbox c rd rs (16 + sel.toNat) = some (.mboxReceive c rd rs sel) := by
  have selOf : BitVec.ofNat 4 (16 + sel.toNat) = sel := ofNat_of_toNat (by omega)
  rw [decodeMbox, if_neg (by omega), if_pos (by omega), selOf]

/-- The operation of a CSRW stands above the number of its register. -/
theorem decodeCsrw_enc (c : Cell) (rs : Gr) (op : Nat) (csr : BitVec 12) :
    decodeCsrw c 0 rs (op * 4096 + csr.toNat) =
      [Instr.csrwWrite c rs csr, .csrwSet c rs csr, .csrwClear c rs csr][op]? := by
  have opOf : (op * 4096 + csr.toNat) / 4096 = op := by omega
  have csrOf : BitVec.ofNat 12 (op * 4096 + csr.toNat) = csr := ofNat_of_toNat (by omega)
  rw [decodeCsrw, if_neg (not_not_intro rfl), opOf, csrOf]
  clear opOf csrOf
  match op with
  | 0 | 1 | 2 | _ + 3 => rfl

theorem testBit_of_low {x : BitVec 8} (high : Nat) (k : Cell) (h : x.getLsbD k = true) :
    (high * 256 + x.toNat).testBit k = true := by
  have low := Nat.testBit_mod_two_pow (high * 256 + x.toNat) 8 k
  rw [show (high * 256 + x.toNat) % 2 ^ 8 = x.toNat by omega] at low
  rw [BitVec.getLsbD, low, Bool.and_eq_true] at h
  exact h.2

theorem decode_encode (i : Instr) (c : Cell) (w : Nat) (hwf : i.wf = true) (h : hiveEncode i = some (c, w)) :
    w < 2 ^ 32 ∧ hiveDecode c w = some i := by
  cases i
  case post fault | postm fault =>
    cases fault <;> cases h
    exact decode_encI (by decide) (by omega) (by omega) (by omega) fun w hm hd hs hi => by
      simp [hiveDecode, hm, hd, hs, hi]
  all_goals cases h
  case add | sub | and | or | xor | nor | sll | srl | sra | slt | sltu | mul | mulhu | divu | remu =>
    exact decode_encA (by decide) (Fin.isLt _) (Fin.isLt _) (Fin.isLt _) (by decide) fun w hm hd hs ht hf => by
      simp [hiveDecode, hm, hd, hs, ht, hf, decodeAlu]
  case addi | andi | ori | xori | slti | sltiu | lw | sw | beq | bne | blt | bge | bltu | bgeu | lui | lq | sq =>
    exact decode_encI (by decide) (by omega) (by omega) (by omega) fun w hm hd hs hi => by
      simp [hiveDecode, hm, hd, hs, imm16_of hi]
  case jalr | take | wait | time | snap | swarmSnap | stop =>
    exact decode_encI (by decide) (by omega) (by omega) (by omega) fun w hm hd hs hi => by
      simp [hiveDecode, hm, hd, hs, hi, decodeSnap, imm16]
  case fence | csrr =>
    exact decode_encI (by decide) (by omega) (by omega) (by omega) fun w hm hd hs hi => by
      simp [hiveDecode, hm, hd, hs, hi]
      exact BitVec.isLt _
  case j | jal =>
    refine .imp_right ?_ (fields_encJ (by decide) (by omega))
    rintro ⟨hm, ho⟩
    simp [hiveDecode, hm, ho]
  case wmov clear =>
    cases clear <;> exact decode_encI (by decide) (by omega) (by omega) (by decide) fun w hm hd hs hi => by
      simp [hiveDecode, hm, hd, hs, hi]
  case shi dir amount =>
    exact decode_encI (by decide) (by omega) (by omega) (by cases dir <;> simp only [encDir] <;> omega) fun w hm hd hs hi => by
      simp [hiveDecode, hm, hd, hs, hi, decodeShi_enc]
  case wdep | wext =>
    exact decode_encI (by decide) (by omega) (by omega) (by unfold encField; omega) fun w hm hd hs hi => by
      simp [hiveDecode, hm, hd, hs, hi, decodeField_enc hwf]
  case arm | disarm =>
    exact decode_encI (by decide) (by omega) (by omega) (by omega) fun w hm hd hs hi => by
      simp [hiveDecode, hm, hd, hs, hi, decodeArm_arm, decodeArm_disarm]
  case commit | swarmCommit =>
    exact decode_encA (by decide) (Fin.isLt _) (by omega) (Fin.isLt _) (by omega) fun w hm hd hs ht hf => by
      simp only [hiveDecode, hm, hd, hs, ht, hf, decodeCommit_local, decodeCommit_swarm]
  case bar rd rs barrier mask =>
    have barrierOf : Fin.ofNat 4 ((barrier.val * 256 + mask.toNat) / 256) = barrier := finOfNat_val (by omega)
    have maskOf : BitVec.ofNat 8 (barrier.val * 256 + mask.toNat) = mask := ofNat_of_toNat (by omega)
    exact decode_encI (by decide) (by omega) (by omega) (by omega) fun w hm hd hs hi => by
      simp only [hiveDecode, hm, hd, hs, hi, gr_val, barrierOf, maskOf]
      exact if_pos ⟨by omega, testBit_of_low _ _ hwf⟩
  case mboxSend | mboxReceive =>
    exact decode_encI (by decide) (by omega) (by omega) (by omega) fun w hm hd hs hi => by
      simp [hiveDecode, hm, hd, hs, hi, decodeMbox_send, decodeMbox_receive]
  case csrwWrite csr =>
    exact decode_encI (by decide) (by omega) (by omega) (by omega) fun w hm hd hs hi => by
      simpa [hiveDecode, hm, hd, hs, hi] using decodeCsrw_enc c _ 0 csr
  case csrwSet csr =>
    exact decode_encI (by decide) (by omega) (by omega) (by omega) fun w hm hd hs hi => by
      simpa [hiveDecode, hm, hd, hs, hi] using decodeCsrw_enc c _ 1 csr
  case csrwClear csr =>
    exact decode_encI (by decide) (by omega) (by omega) (by omega) fun w hm hd hs hi => by
      simpa [hiveDecode, hm, hd, hs, hi] using decodeCsrw_enc c _ 2 csr

/-! From a word to its command. -/

theorem encode_decodeAlu {c : Cell} {rd rs rt : Gr} {func : Nat} {i : Instr} (h : decodeAlu c rd rs rt func = some i) :
    hiveEncode i = some (c, encA 0x01 rd rs rt func) := by
  unfold decodeAlu at h
  split at h <;> cases h <;> rfl

theorem encode_decodeShi {c : Cell} {rd rs : Gr} {imm : Nat} {i : Instr} (h : decodeShi c rd rs imm = some i) :
    hiveEncode i = some (c, encI 0x08 rd rs imm) := by
  have dirAmount (dir : ShiftDir) (hd : imm / 32 = encDir dir) : encDir dir * 32 + (BitVec.ofNat 5 imm).toNat = imm := by
    rw [← hd, BitVec.toNat_ofNat]
    omega
  unfold decodeShi at h
  split at h
  next hd => cases h; rw [hiveEncode, dirAmount .left hd]
  next hd => cases h; rw [hiveEncode, dirAmount .rightLogical hd]
  next hd => cases h; rw [hiveEncode, dirAmount .rightArith hd]
  next => cases h

theorem encField_decodeField {imm : Nat} {f : BitVec 7 × BitVec 5} (h : decodeField imm = some f) :
    encField f.1 f.2 = imm := by
  unfold decodeField at h
  dsimp only at h
  split at h
  next short =>
    cases h
    simp only [encField, BitVec.toNat_ofNat]
    omega
  next => cases h

theorem encode_decodeArm {c : Cell} {rd rs : Gr} {imm : Nat} {i : Instr} (h : decodeArm c rd rs imm = some i) :
    hiveEncode i = some (c, encI 0x24 rd rs imm) := by
  unfold decodeArm at h
  split at h
  next => cases h
  next small =>
    have target : (Fin.ofNat 17 (imm % 32)).val = imm % 32 := Nat.mod_eq_of_lt (by omega)
    split at h
    next => cases h; rw [hiveEncode, target, show 32 + imm % 32 = imm by omega]
    next => cases h; rw [hiveEncode, target, show imm % 32 = imm by omega]

theorem encode_decodeCommit {c : Cell} {rd rs rt func : Nat} {i : Instr} (hd : rd < 32) (hs : rs < 32) (ht : rt < 32)
    (hf : func < 2 ^ 11) (h : decodeCommit c rd rs rt func = some i) :
    hiveEncode i = some (c, encA 0x26 rd rs rt func) := by
  have number {n : Nat} (hn : n < 32) : (gr n).val = n := Nat.mod_eq_of_lt hn
  have group : (Fin.ofNat 16 func).val = func % 16 := rfl
  unfold decodeCommit at h
  split at h
  next => cases h
  next => 
    split at h
    next => cases h; rw [hiveEncode, number hd, number hs, number ht, group, show 1024 + func % 16 = func by omega]
    next =>
      split at h
      next zero => cases h; rw [hiveEncode, number hd, number ht, group, zero, show func % 16 = func by omega]
      next => cases h

theorem encode_decodeSnap {c : Cell} {rd rs imm : Nat} {i : Instr} (hd : rd < 32) (hs : rs < 32)
    (h : decodeSnap c rd rs imm = some i) : hiveEncode i = some (c, encI 0x27 rd rs imm) := by
  have number {n : Nat} (hn : n < 32) : (gr n).val = n := Nat.mod_eq_of_lt hn
  unfold decodeSnap at h
  split at h
  next zero => cases h; rw [hiveEncode, number hd, zero.1, zero.2]
  next =>
    split at h
    next one => cases h; rw [hiveEncode, number hd, number hs, one]
    next => cases h

theorem encode_decodeMbox {c : Cell} {rd : Wr} {rs : Gr} {imm : Nat} {i : Instr} (h : decodeMbox c rd rs imm = some i) :
    hiveEncode i = some (c, encI 0x2A rd rs imm) := by
  unfold decodeMbox at h
  split at h
  next => cases h
  next =>
    split at h
    next => cases h; rw [hiveEncode, BitVec.toNat_ofNat, show 16 + imm % 2 ^ 4 = imm by omega]
    next =>
      split at h
      next small => cases h; rw [hiveEncode, show (Fin.ofNat 9 imm).val = imm from Nat.mod_eq_of_lt small]
      next => cases h

theorem encode_decodeCsrw {c : Cell} {rd : Nat} {rs : Gr} {imm : Nat} {i : Instr} (h : decodeCsrw c rd rs imm = some i) :
    hiveEncode i = some (c, encI 0x2C rd rs imm) := by
  unfold decodeCsrw at h
  split at h
  next => cases h
  next zero =>
    rw [Classical.not_not.mp zero]
    split at h
    next => cases h; rw [hiveEncode, BitVec.toNat_ofNat, show imm % 2 ^ 12 = imm by omega]
    next => cases h; rw [hiveEncode, BitVec.toNat_ofNat, show 4096 + imm % 2 ^ 12 = imm by omega]
    next => cases h; rw [hiveEncode, BitVec.toNat_ofNat, show 8192 + imm % 2 ^ 12 = imm by omega]
    next => cases h

theorem wr?_eq_some {n : Nat} {r : Wr} (h : wr? n = some r) : r.val = n := by
  unfold wr? at h
  split at h
  next small => cases h; exact Nat.mod_eq_of_lt small
  next => cases h

theorem encode_decode (i : Instr) (c : Cell) (w : Nat) (hw : w < 2 ^ 32) (h : hiveDecode c w = some i) :
    hiveEncode i = some (c, w) := by
  have eqI := encI_fields hw
  have eqA := encA_fields hw
  have eqJ := encJ_fields hw
  have rdOf : (gr (wRd w)).val = wRd w := Nat.mod_mod ..
  have rsOf : (gr (wRs w)).val = wRs w := Nat.mod_mod ..
  have rtOf : (gr (wRt w)).val = wRt w := Nat.mod_mod ..
  have immOf : (imm16 w).toNat = wImm w := Nat.mod_mod ..
  have offsetOf : (BitVec.ofNat 26 (wOffset w)).toNat = wOffset w := Nat.mod_mod ..
  have rdFits : wRd w < 32 := mod_two_pow_lt _ 5
  have rsFits : wRs w < 32 := mod_two_pow_lt _ 5
  have rtFits : wRt w < 32 := mod_two_pow_lt _ 5
  have funcFits : wFunc w < 2 ^ 11 := mod_two_pow_lt _ 11
  unfold hiveDecode at h
  dsimp only at h
  split at h
  all_goals rename_i hm
  case h_40 => cases h
  all_goals rw [hm] at eqI eqA eqJ
  case h_2 | h_3 | h_4 | h_5 | h_6 | h_7 | h_10 | h_11 | h_17 | h_18 | h_19 | h_20 | h_21 | h_22 =>
    cases h
    rw [hiveEncode, rdOf, rsOf, immOf, eqI]
  case h_1 => rw [encode_decodeAlu h, rdOf, rsOf, rtOf, eqA]
  case h_8 => rw [encode_decodeShi h, rdOf, rsOf, eqI]
  case h_23 | h_24 =>
    cases h
    rw [hiveEncode, offsetOf, eqJ]
  case h_30 => rw [encode_decodeArm h, rdOf, rsOf, eqI]
  case h_32 => rw [encode_decodeCommit rdFits rsFits rtFits funcFits h, eqA]
  case h_33 => rw [encode_decodeSnap rdFits rsFits h, eqI]
  case h_38 => rw [encode_decodeCsrw h, rsOf, eqI]
  case h_9 | h_25 | h_29 =>
    simp only [Option.ite_none_right_eq_some, Option.some.injEq] at h
    obtain ⟨zero, rfl⟩ := h
    rw [zero] at eqI
    simp only [hiveEncode, rdOf, rsOf, immOf, eqI]
  case h_31 | h_39 =>
    simp only [Option.ite_none_right_eq_some, Option.some.injEq] at h
    obtain ⟨⟨zero, zero'⟩, rfl⟩ := h
    rw [zero, zero'] at eqI
    simp only [hiveEncode, rdOf, immOf, eqI]
  case h_12 | h_13 =>
    simp only [Option.map_eq_some_iff] at h
    obtain ⟨r, hr, rfl⟩ := h
    rw [hiveEncode, wr?_eq_some hr, rsOf, immOf, eqI]
  case h_14 | h_15 =>
    simp only [Option.map_eq_some_iff, Option.bind_eq_some_iff] at h
    obtain ⟨r, hr, f, hf, rfl⟩ := h
    simp only [hiveEncode, wr?_eq_some hr, rdOf, rsOf, encField_decodeField hf, eqI]
  case h_16 =>
    simp only [Option.map_eq_some_iff, Option.bind_eq_some_iff, Option.ite_none_left_eq_some] at h
    obtain ⟨small, r, hr, x, hx, rfl⟩ := h
    have clear : (wImm w == 1).toNat = wImm w := by
      match h : wImm w, small with
      | 0, _ | 1, _ => rfl
      | _ + 2, small => exact absurd (Nat.le_add_left 2 _) small
    rw [hiveEncode, wr?_eq_some hr, wr?_eq_some hx, clear, eqI]
  case h_26 =>
    simp only [Option.ite_none_right_eq_some, Option.map_eq_some_iff] at h
    obtain ⟨⟨zero, small⟩, r, hr, rfl⟩ := h
    rw [zero] at eqI
    rw [hiveEncode, wr?_eq_some hr, show (Fin.ofNat 64 (wImm w)).val = wImm w from Nat.mod_eq_of_lt small, eqI]
  case h_27 =>
    simp only [Option.ite_none_right_eq_some, Option.some.injEq] at h
    obtain ⟨⟨zero, small⟩, rfl⟩ := h
    rw [zero] at eqI
    rw [hiveEncode, rsOf, show (Fin.ofNat 64 (wImm w)).val = wImm w from Nat.mod_eq_of_lt small, eqI]
  case h_28 =>
    simp only [Option.ite_none_right_eq_some, Option.map_eq_some_iff] at h
    obtain ⟨small, r, hr, rfl⟩ := h
    rw [hiveEncode, wr?_eq_some hr, rsOf, show (Fin.ofNat 64 (wImm w)).val = wImm w from Nat.mod_eq_of_lt small, eqI]
  case h_34 =>
    simp only [Option.ite_none_right_eq_some, Option.some.injEq] at h
    obtain ⟨small, rfl⟩ := h
    rw [hiveEncode, rdOf, rsOf, BitVec.toNat_ofNat, Nat.mod_eq_of_lt small, eqI]
  case h_35 =>
    simp only [Option.ite_none_right_eq_some, Option.some.injEq] at h
    obtain ⟨⟨small, _⟩, rfl⟩ := h
    have barrierMask : (Fin.ofNat 4 (wImm w / 256)).val * 256 + (BitVec.ofNat 8 (wImm w)).toNat = wImm w := by
      rw [BitVec.toNat_ofNat, show (Fin.ofNat 4 (wImm w / 256)).val = wImm w / 256 % 4 from rfl]
      omega
    rw [hiveEncode, rdOf, rsOf, barrierMask, eqI]
  case h_36 =>
    simp only [Option.bind_eq_some_iff] at h
    obtain ⟨r, hr, h⟩ := h
    rw [encode_decodeMbox h, wr?_eq_some hr, rsOf, eqI]
  case h_37 =>
    simp only [Option.ite_none_right_eq_some, Option.some.injEq] at h
    obtain ⟨⟨zero, small⟩, rfl⟩ := h
    rw [zero] at eqI
    rw [hiveEncode, rdOf, BitVec.toNat_ofNat, Nat.mod_eq_of_lt small, eqI]

end Sys2Proof.Machine

namespace Sys2Proof.Proofs
open Sys2Proof Sys2Proof.Machine

/-- Settles O4: `decode_encode` and `encode_decode`. -/
theorem cellInstructionsEncodeBothWays : Obligations.CellInstructionsEncodeBothWays := by
  unfold Obligations.CellInstructionsEncodeBothWays
  exact ⟨decode_encode, encode_decode⟩

end Sys2Proof.Proofs

/-!
PROOFS. Memory (spec/01_fabric.md R26, R27, spec/11_memory.md R406, R421, R423): what a store leaves in it, and which bytes it discards.
-/
namespace Sys2Proof.Machine

theorem bytes_eq_of_byte (s : State) (a : Nat) (bs : List Byte) (h : ∀ i (hi : i < bs.length), s.byte (a + i) = bs[i]) :
    s.bytes a bs.length = bs := by
  induction bs generalizing a with
  | nil => rfl
  | cons b t ih =>
    have head : s.byte a = b := h 0 (Nat.zero_lt_succ _)
    have tail : s.bytes (a + 1) t.length = t := ih (a + 1) fun i hi => by
      rw [Nat.add_assoc, Nat.add_comm 1 i]
      exact h (i + 1) (Nat.succ_lt_succ hi)
    rw [List.length_cons, State.bytes, head, tail]

/-! Poison. -/

theorem mem_markOf (w : Nat) : w ∈ markOf w := by
  unfold markOf
  split
  · simp only [List.mem_cons, List.not_mem_nil, or_false]
    omega
  · exact List.mem_singleton_self w

/-- Marking the words of `l` marks them, and unmarks none. -/
theorem sget_foldl_mark (l : List Nat) (p : Sparse Bool) (x : Nat) (h : x ∈ l ∨ sget false p x = true) :
    sget false (l.foldl (fun q y => sset false q y true) p) x = true := by
  induction l generalizing p with
  | nil => exact h.resolve_left List.not_mem_nil
  | cons y t ih =>
    refine ih _ ?_
    rw [List.mem_cons] at h
    rw [sget_sset]
    by_cases hx : x = y
    · exact .inr (if_pos hx)
    · rw [if_neg hx]
      exact h.imp_left (Or.resolve_left · hx)

/-- Poisoned data marks every word it touches. -/
theorem poisonPut_marks (p : Sparse Bool) (a len : Nat) {w : Nat} (hw : w ∈ wordsOf a len) :
    sget false (poisonPut p a len true) w = true := by
  simp only [poisonPut, Bool.true_or, if_true]
  suffices h : ∀ (l : List Nat) (p : Sparse Bool), w ∈ l ∨ sget false p w = true →
      sget false (l.foldl (fun q y => (markOf y).foldl (fun q x => sset false q x true) q) p) w = true from h _ p (.inl hw)
  intro l
  induction l with
  | nil => exact fun p h => h.resolve_left List.not_mem_nil
  | cons y t ih =>
    intro p h
    refine ih _ ?_
    rw [List.mem_cons] at h
    obtain (rfl | ht) | hp := h
    · exact .inr (sget_foldl_mark _ _ _ (.inl (mem_markOf w)))
    · exact .inl ht
    · exact .inr (sget_foldl_mark _ _ _ (.inr hp))

/-! Discarded bytes. A word is discarded whole or not at all: no boundary of a memory or of an interleaving unit lies inside it. -/

theorem pcOf_word (s : State) (a : Nat) : s.pcOf (a / 16 * 16) = s.pcOf a := by
  have grain : 2 ^ s.gbits = 16 * 2 ^ (4 + min 4 (s.fld Reg.memMap 2 0)) := by
    rw [State.gbits, show 8 + min 4 (s.fld Reg.memMap 2 0) = 4 + (4 + min 4 (s.fld Reg.memMap 2 0)) by omega, Nat.pow_add]
  have unit : a / 16 * 16 / 2 ^ s.gbits = a / 2 ^ s.gbits := by
    rw [grain, ← Nat.div_div_eq_div_mul, ← Nat.div_div_eq_div_mul, Nat.mul_div_cancel _ (by decide)]
  simp only [State.pcOf, placeOf, unit]

theorem discards_word (s : State) (a : Nat) : s.discards (a / 16 * 16) = s.discards a := by
  have dram : a / 16 * 16 < dramTop s.variant ↔ a < dramTop s.variant := by
    unfold dramTop
    split <;> omega
  have comb : combBase ≤ a / 16 * 16 ∧ a / 16 * 16 < combTop ↔ combBase ≤ a ∧ a < combTop := by
    unfold combBase combTop
    omega
  simp only [State.discards, State.onFailed, State.memGone, pcOf_word, dram, comb]

theorem word_mem_wordsOf {a len i : Nat} (h : i < len) : (a + i) / 16 ∈ wordsOf a len := by
  rw [wordsOf, if_neg (by omega), List.mem_map]
  refine ⟨(a + i) / 16 - a / 16, List.mem_range.mpr ?_, ?_⟩ <;> omega

/-- A store that everything discards changes no byte. -/
theorem byte_storeP_discarded (s : State) (a : Nat) (bs : List Byte) (bad : Bool)
    (h : (wordsOf a bs.length).all (fun w => s.discards (w * 16)) = true) (x : Nat) :
    (s.storeP a bs bad).byte x = s.byte x := by
  have each {i : Nat} (hi : i < bs.length) : s.discards (a + i) = true := by
    rw [← discards_word]
    exact List.all_eq_true.mp h _ (word_mem_wordsOf hi)
  by_cases out : x < a ∨ a + bs.length ≤ x
  · exact byte_storeP_out s a x bs bad out
  · have touched : (wordsOf a bs.length).any (fun w => s.discards (w * 16)) = true := by
      have first := word_mem_wordsOf (a := a) (show 0 < bs.length by omega)
      exact List.any_eq_true.mpr ⟨_, first, List.all_eq_true.mp h _ first⟩
    simp only [State.storeP, State.byte, writeFlaws_discards, writeFlaws_mem, touched, if_true]
    refine congrArg (sget 0 · x) (List.foldlRecOn (motive := (· = s.mem)) bs.zipIdx _ rfl fun m hm p hp => ?_)
    rw [if_pos (each (by simpa using List.snd_lt_of_mem_zipIdx hp)), hm]

end Sys2Proof.Machine

namespace Sys2Proof.Proofs
open Sys2Proof Sys2Proof.Machine

/-- Settles O7. -/
theorem storedBytesAreReadBack : Obligations.StoredBytesAreReadBack := by
  unfold Obligations.StoredBytesAreReadBack
  refine ⟨fun s a bs bad taken => ⟨?_, fun x => byte_storeP_out s a x bs bad, storeP_wf s a bs bad, ?_⟩, byte_storeP_discarded⟩
  · exact bytes_eq_of_byte _ _ _ fun i hi => byte_storeP_in s a i bs bad hi taken
  · rintro rfl w hw
    simp only [State.storeP, writeFlaws_discards, taken, Bool.false_eq_true, if_false]
    exact poisonPut_marks _ a bs.length hw

end Sys2Proof.Proofs

/-!
PROOFS. Accesses of the host and of other masters (spec/01_fabric.md R4, R50, spec/13_host_control_buses.md R465, R466,
spec/15_security.md R535).
-/
namespace Sys2Proof.Machine

/-- How a command of a device that does not stand in reset ends: by the effect that `act` carries out. -/
theorem gives_act {i : Instr} {s t : State} {f : State → State} (hi : exec i s = act s f) (hs : s.Live) (ht : f s = t) :
    Gives i s t := by
  rw [Gives, hi, act_live s f hs.1, ht]

/-- As `gives_act`, where the effect asks for nothing and touches neither the variant nor the queue of commands. -/
theorem act_quiet {i : Instr} {s t : State} {f : State → State} (hi : exec i s = act s f) (hs : s.Live) (ht : f s = t)
    (hd : t.due = Due.none) (hv : t.variant = s.variant) (hp : t.pending = s.pending) : exec i s = .next t := by
  rw [hi, act_live s f hs.1, ht, ends_of_none s t hd hv hp]

/-! Register writes. -/

theorem leBytes_length (n v : Nat) : (leBytes n v).length = n := by
  induction n generalizing v with
  | zero => rfl
  | succ n ih => rw [leBytes, List.length_cons, ih]

theorem ofLe_leBytes (n v : Nat) : ofLe (leBytes n v) = v % 256 ^ n := by
  induction n generalizing v with
  | zero => rw [leBytes, ofLe, Nat.pow_zero, Nat.mod_one]
  | succ n ih =>
    have low : (BitVec.ofNat 8 v).toNat = v % 256 := BitVec.toNat_ofNat v 8
    rw [leBytes, ofLe, ih, low, Nat.pow_succ', Nat.mod_mul]

/-- The number of a register's four bytes. -/
theorem ofLe_word (v : Word) : BitVec.ofNat 32 (ofLe (leBytes 4 v.toNat)) = v := by
  rw [ofLe_leBytes, Nat.mod_eq_of_lt (show v.toNat < 256 ^ 4 from v.isLt), BitVec.ofNat_toNat, BitVec.setWidth_eq]

theorem regParts_word {k : Nat} (hk : k % 4 = 0) : regParts k 4 = [(k, 0, 4)] := by
  simp [regParts, hk, Nat.div_mul_cancel (Nat.dvd_of_mod_eq_zero hk)]

theorem writeRegs_word (s : State) (m : Master) {k : Nat} (v : Word) (hk : k % 4 = 0) :
    s.writeRegs m k (leBytes 4 v.toNat) = s.writeReg m k v := by
  simp only [State.writeRegs, leBytes_length, regParts_word hk, List.foldl_cons, List.foldl_nil, if_true,
    List.take_of_length_le (Nat.le_of_eq (leBytes_length 4 _)), ofLe_word]

theorem registerWrite_gives {s : State} (hs : s.Live) (m : Master) {k : Nat} (v : Word) (hk : k % 4 = 0)
    (hr : regsBase + k < regsTop) :
    Gives (.registerWrite m (regsBase + k) 4 (v.setWidth 64)) s (s.writeReg m k v) := by
  have number : (v.setWidth 64).toNat = v.toNat := by
    rw [BitVec.toNat_setWidth]
    exact Nat.mod_eq_of_lt (by omega)
  refine gives_act rfl hs ?_
  rw [doRegisterWrite, if_neg (by omega), Nat.add_sub_cancel_left, number, writeRegs_word s m v hk]

/-! content_lock (R535). -/

theorem gateWrite_locked {s : State} {k : Nat} (f : State → State) (ho : s.hostOut = false)
    (ha : windowAbsent s.variant (k / 65536) = false) (hc : s.contentLock = true) (hl : lockedWindow (k / 65536) = true) :
    s.gateWrite .host k f = s.protectedWrite (regsBase + k) := by
  simp only [State.gateWrite, ho, ha, hc, hl, Bool.and_false, Bool.and_true, Bool.false_eq_true, if_false, BEq.rfl, if_true]

theorem lockedWindow_bounds {w : Nat} (h : lockedWindow w = true) : 0x0C ≤ w ∧ w ≤ 0x3F := by
  unfold lockedWindow at h
  simp only [Bool.or_eq_true, decide_eq_true_eq] at h
  omega

/-- The state `t` is what the gate of register `k` makes of some write of `s`. -/
def State.GatedAt (s : State) (m : Master) (k : Nat) (t : State) : Prop := ∃ f, t = s.gateWrite m k f

theorem gatedAt_of_eq (s : State) (m : Master) {j k : Nat} (h : j = k) (f : State → State) : s.GatedAt m k (s.gateWrite m j f) :=
  ⟨f, h ▸ rfl⟩

theorem gatedAt_ite {s : State} {m : Master} {k : Nat} {c : Prop} [Decidable c] {t u : State} (ht : c → s.GatedAt m k t)
    (hu : ¬ c → s.GatedAt m k u) : s.GatedAt m k (if c then t else u) := iteInduction ht hu

theorem writeCommon_gated (s : State) (m : Master) {k : Nat} (v : Word) (hk : k % 4 = 0) :
    s.GatedAt m k (s.writeCommon m (k / 65536) (k % 65536) v) := by
  refine gatedAt_ite (fun h => ?_) fun _ => gatedAt_ite (fun h => ?_) fun _ => gatedAt_ite (fun h => ?_) fun _ => ?_
  · exact gatedAt_of_eq s m (by unfold Reg.cbEccThresh; omega) _
  · exact gatedAt_of_eq s m (by unfold Reg.cbPaceCtrl; omega) _
  · exact gatedAt_of_eq s m (by unfold Reg.cbEcc; omega) _
  · exact gatedAt_of_eq s m (by omega) _

theorem writeBcn_gated (s : State) (m : Master) {k : Nat} (v : Word) (hw : k / 65536 = 0x0C) :
    s.GatedAt m k (s.writeBcn m k v) := by
  refine gatedAt_ite (fun h => ?_) fun _ => gatedAt_ite (fun h => ?_) fun _ => gatedAt_ite (fun _ => ⟨_, rfl⟩) fun _ =>
    gatedAt_ite (fun h => ?_) fun _ => gatedAt_ite (fun h => ?_) fun _ => gatedAt_ite (fun _ => ⟨_, rfl⟩) fun _ => ⟨_, rfl⟩
  · exact gatedAt_of_eq s m h.symm _
  · exact gatedAt_of_eq s m h.symm _
  · exact gatedAt_of_eq s m h.symm _
  · exact gatedAt_of_eq s m (by unfold Reg.bcnTrigArm; omega) _

/-- In a window that content_lock protects every write passes the gate of its own register. -/
theorem writeReg_gated (s : State) (m : Master) {k : Nat} (v : Word) (hl : lockedWindow (k / 65536) = true) (hk : k % 4 = 0) :
    s.GatedAt m k (s.writeReg m k v) := by
  have window := lockedWindow_bounds hl
  refine gatedAt_ite (fun _ => ⟨_, rfl⟩) fun _ => gatedAt_ite (fun _ => writeCommon_gated s m v hk) fun _ =>
    gatedAt_ite (fun h => ?_) fun _ => gatedAt_ite (fun h => ?_) fun _ => gatedAt_ite (fun h => ?_) fun _ =>
    gatedAt_ite (fun h => writeBcn_gated s m v h) fun _ => gatedAt_ite (fun h => ?_) fun _ => gatedAt_ite (fun h => ?_) fun _ =>
    gatedAt_ite (fun h => ?_) fun _ => gatedAt_ite (fun h => ?_) fun _ => gatedAt_ite (fun h => ?_) fun _ =>
    gatedAt_ite (fun h => gatedAt_of_eq s m h.symm _) fun _ => ⟨_, rfl⟩
  · omega
  · omega
  · unfold Reg.kprMbCtrl at h
    omega
  · exact gatedAt_of_eq s m (by unfold Reg.rfeTblData; omega) _
  · exact gatedAt_of_eq s m (by unfold Reg.clrTblData; omega) _
  · exact gatedAt_of_eq s m (by unfold Reg.cmpTblData; omega) _
  · omega
  · omega

end Sys2Proof.Machine

namespace Sys2Proof.Proofs
open Sys2Proof Sys2Proof.Machine

/-- Settles O9: a register write passes the gate, which content_lock shuts; a write of memory is looked at before anything else. -/
theorem contentLockStopsTheHost : Obligations.ContentLockStopsTheHost := by
  unfold Obligations.ContentLockStopsTheHost
  constructor
  · intro s k v hs hc ho hk hl ha
    have bounds := lockedWindow_bounds hl
    obtain ⟨f, hf⟩ := writeReg_gated s .host v hl hk
    have gives := registerWrite_gives hs .host v hk (by unfold regsBase regsTop; omega)
    rwa [hf, gateWrite_locked f ho ha hc hl] at gives
  · intro s bar4 off bs hs hc ho hp hm hb hr
    have fits : barFits bar4 off bs.length = true := decide_eq_true hb
    have ready : (bar4 && !s.memReady) = false := by cases bar4 <;> simp_all
    refine gives_act rfl hs ?_
    simp only [doHostMemoryWrite, hp, ho, ready, fits, hc, hr, Bool.not_true, Bool.or_false, Bool.and_self, Bool.false_eq_true,
      if_false, if_true]

/-- Refutes O10: WLO_CTRL_B lists the bit `lock` that only WLO_CTRL_A has (R274), so the write that would set it changes nothing. -/
theorem not_registerWriteSetsRwAndClearsW1c : ¬ Obligations.RegisterWriteSetsRwAndClearsW1c := by
  unfold Obligations.RegisterWriteSetsRwAndClearsW1c
  rintro ⟨-, -, plain⟩
  obtain ⟨row, -, -⟩ := plain State.reset .keeper (Reg.wloCtrl 1) 0x810001F4 ⟨⟨rfl, rfl⟩, rfl, rfl, rfl⟩ (by decide) (by decide) (by decide)
  have unchanged : exec (.registerWrite .keeper (regsBase + Reg.wloCtrl 1) 4 (BitVec.setWidth 64 (0x810001F4 : Word))) State.reset =
      .next State.reset := rfl
  obtain ⟨t, ht, -, hreg⟩ := row _ rfl
  cases unchanged.symm.trans ht
  revert hreg
  decide +kernel

end Sys2Proof.Proofs

/-! PROOFS. Host accesses that complete (spec/00_scope.md R4, spec/13_host_control_buses.md R465, R466). -/
namespace Sys2Proof.Machine

/-- A store of a master to memory that is there, unguarded and without flaws. -/
theorem masterStore_plain {s : State} (m : Master) {a : Nat} {bs : List Byte} (hf : s.flaws = []) (hg : s.memGone a = false)
    (h0 : s.reg (Reg.memPcFailed 0) = 0) (h1 : s.reg (Reg.memPcFailed 1) = 0) (hi : inImem s.variant a = false)
    (hh : guardHit a bs.length = none) : s.masterStore m a bs = s.store a bs := by
  simp [State.masterStore, State.goneAccess, State.touchFailed, State.meetEdges, hf, hg, h0, h1, hi, hh]

theorem meet_plain {s : State} {a : Nat} (len : Nat) (hf : s.flaws = []) (h0 : s.reg (Reg.memPcFailed 0) = 0)
    (h1 : s.reg (Reg.memPcFailed 1) = 0) : s.meet a len = s := by
  simp [State.meet, State.touchFailed, hf, h0, h1]

end Sys2Proof.Machine

namespace Sys2Proof.Proofs
open Sys2Proof Sys2Proof.Machine

/-- Settles O11. -/
theorem hostAccessesComplete : Obligations.HostAccessesComplete := by
  unfold Obligations.HostAccessesComplete
  refine ⟨?absent, ?write2, ?write4, ?read2, ?read4, ?plain⟩
  case absent =>
    intro s m a hs hlo hhi ha
    have inWindow : (decide (regsBase ≤ a ∧ a < regsTop) && windowAbsent s.variant ((a - regsBase) / 65536)) = true := by
      rw [decide_eq_true ⟨hlo, hhi⟩, ha]; rfl
    constructor <;> refine gives_act rfl hs ?_ <;> rw [doAbsentAccess, if_pos inWindow] <;> rfl
  case write2 =>
    intro s off bs hs hp hc ho hb hr
    have fits : barFits false off bs.length = true := decide_eq_true hb
    refine gives_act rfl hs ?_
    simp [doHostMemoryWrite, State.barAddr, hp, ho, fits, hc, hr]
  case write4 =>
    intro s off bs hs hp hc ho hm hb ha hr
    have fits : barFits true off bs.length = true := decide_eq_true hb
    have whole : bs.length ≤ dramTop s.variant - s.barAddr true off := by omega
    refine gives_act rfl hs ?_
    simp [doHostMemoryWrite, hp, ho, hm, fits, hc, Nat.min_eq_right whole, hr, List.take_of_length_le whole,
      Nat.not_lt.mpr whole]
  case read2 =>
    intro s off len hs hp ho hb hr
    have fits : barFits false off len = true := decide_eq_true hb
    refine gives_act rfl hs ?_
    simp [doHostMemoryRead, State.barAddr, hp, ho, fits, hr]
  case read4 =>
    intro s off len hs hp ho hm hb ha hr
    have fits : barFits true off len = true := decide_eq_true hb
    have whole : len ≤ dramTop s.variant - s.barAddr true off := by omega
    refine gives_act rfl hs ?_
    simp [doHostMemoryRead, hp, ho, hm, fits, hr, Nat.min_eq_left whole]
  case plain =>
    intro s m a bs hf hg h0 h1
    refine ⟨masterStore_plain m hf hg h0 h1, ?_⟩
    rw [State.goneAccess, hg]
    exact meet_plain _ hf h0 h1

end Sys2Proof.Proofs

/-! PROOFS. The commands of every queue (spec/01_fabric.md R37, R41 to R45). -/
namespace Sys2Proof.Machine

theorem sdel_sins {β : Type} (m : Sparse β) (k : Nat) (x : β) : sdel (sins m k x) k = sdel m k := by
  induction m with
  | nil => simp [sins, sdel]
  | cons p t ih => obtain ⟨a, v⟩ := p; by_cases h : k < a <;> simp [sins, sdel, h, ih]

theorem sdel_sdel {β : Type} (m : Sparse β) (k : Nat) : sdel (sdel m k) k = sdel m k := by
  induction m with
  | nil => rfl
  | cons p t ih => obtain ⟨a, v⟩ := p; by_cases h : a = k <;> simp [sdel, h, ih]

/-- The second write of a key is the one that stands. -/
theorem sset_sset {β : Type} [DecidableEq β] (d : β) (m : Sparse β) (k : Nat) (x y : β) :
    sset d (sset d m k x) k y = sset d m k y := by
  have under : sdel (sset d m k x) k = sdel m k := by
    unfold sset
    split
    · exact sdel_sdel m k
    · rw [sdel_sins, sdel_sdel]
  rw [sset, under, ← sset]

@[simp] theorem setQueue_setQueue (s : State) (q : Nat) (c d : CmdQueue) : (s.setQueue q c).setQueue q d = s.setQueue q d := by
  simp [State.setQueue, sset_sset]

theorem getD_zero_eq_headD (l : List Quad) : l.getD 0 0 = l.headD 0 := by
  cases l <;> rfl

@[simp] theorem run_w0 (s : State) (q : Nat) (d : Desc) (hi lo : Nat) : (s.run q d).fld 0 hi lo = qbits d.w0 hi lo := by
  rw [run_fld, getD_zero_eq_headD, Desc.w0]

/-- The head of a ready queue is carried out, and what stands at the head after it is settled. -/
theorem gives_takeAs {i : Instr} {s t : State} {q op : Nat} {lens : List Nat} {run : Taken → State → State} {d : Desc}
    {rest : List Desc} (hi : exec i s = act s (fun s => s.takeAs q op lens run)) (h : s.Ready q op lens d rest)
    (ht : run (s.run q d) (s.taken q d rest) = t) : Gives i s (t.settleHead q) :=
  gives_act hi h.1 (by rw [takeAs_ready h run, ht])

/-- A descriptor of a port whose setup awaits no map clears none (R128). -/
theorem lapse_of_mapped {s : State} {q : Nat} (op : Nat) (h : q ≤ 3 → (s.port q).awaitMap = false) : s.lapse q op = s := by
  unfold State.lapse State.gangLapse
  split
  next hq => rw [h hq.1]; rfl
  next => rfl

theorem commonTake_queue {s : State} {q : Nat} (op : Nat) (run : Taken → State → State) (hq : q < 60) :
    s.commonTake q op run = s.takeAs q op [0] (fun t s => run t (s.lapse q op)) := if_pos hq

theorem gives_commonTake {i : Instr} {s t : State} {q op : Nat} {run : Taken → State → State} {d : Desc} {rest : List Desc}
    (hi : exec i s = act s (fun s => s.commonTake q op run)) (hq : q < 25) (h : s.Ready q op [0] d rest)
    (hmap : q ≤ 3 → (s.port q).awaitMap = false) (ht : run (s.run q d) (s.taken q d rest) = t) : Gives i s (t.settleHead q) := by
  refine gives_act hi h.1 ?_
  have mapped : (s.taken q d rest).lapse q op = s.taken q d rest := lapse_of_mapped op hmap
  rw [commonTake_queue op run (by omega), takeAs_ready h, mapped, ht]

@[simp] theorem taken_queue (s : State) (q : Nat) (d : Desc) (rest : List Desc) : (s.taken q d rest).queue q =
    { s.queue q with waiting := rest, taken := (s.queue q).taken ++ [s.run q d] } := queue_setQueue_self ..

end Sys2Proof.Machine

namespace Sys2Proof.Proofs
open Sys2Proof Sys2Proof.Machine

/-- Settles O12. -/
theorem commonCommandsComplete : Obligations.CommonCommandsComplete := by
  unfold Obligations.CommonCommandsComplete
  refine ⟨?resume, ?nop, ?release, ?abort, fun s k hs => gives_act rfl hs rfl⟩
  case resume =>
    intro s q d rest hq h hmap epoch
    have matching : BitVec.ofNat 8 ((s.run q d).fld 0 119 112) = (s.taken q d rest).epoch (queueDomain q) := by
      rw [run_w0]
      exact epoch
    refine gives_commonTake rfl hq h hmap ?_
    exact if_pos matching
  case nop =>
    intro s q d rest hq h hmap
    constructor <;> intro before <;> refine gives_commonTake rfl hq h hmap ?_
    · simp [before]
    · simp [before]
  case release =>
    intro s q t l hs ht op running
    refine gives_act rfl hs ?_
    simp [doNopRelease, ht, op, running]
  case abort =>
    intro s q a d hq hs hb hmap hw hop hflt hcheck hlen hd hdup target hown
    have found : (s.queue q).waiting.find? (fun d => w0Opcode d.w0 == 0x02 && !d.flt.lost) = some a := by
      simp [hw, hd, hop, hflt, DescFault.lost]
    have left : (s.queue q).waiting.erase a = [d] := by
      have other : ¬ (d == a) := fun h => hd (eq_of_beq h ▸ hop)
      simp [hw, other]
    obtain ⟨s1, hs1⟩ : ∃ s1, s.setQueue q { s.queue q with waiting := [d] } = s1 := ⟨_, rfl⟩
    have check : s1.commonCheck q a = none := hs1 ▸ hcheck
    have mapped : s1.lapse q 0x02 = s1 := lapse_of_mapped 0x02 (hs1 ▸ hmap)
    have aborted : s1.abortTarget q (w0Tag a.w0) (qbits a.w0 87 72) (w0Cq a.w0) a.cell =
        (s.setQueue q { s.queue q with
          waiting := [], taken := (s.queue q).taken ++ [{ s.run q d with done := some (stAborted, 0) }] }, some stSuccess) := by
      simp [State.abortTarget, target, hown, hdup, ← hs1]
      rfl
    refine gives_act rfl hs ?_
    have small : q.val < 60 := by omega
    simp only [doAbort, hb, State.abortQueue, found, hflt, left, small, hs1, check, mapped, hlen, aborted, queue_setQueue_self,
      setQueue_setQueue, if_true, if_false, Bool.false_eq_true, reduceCtorEq, ne_eq, not_true_eq_false]
    rfl

end Sys2Proof.Proofs

/-! PROOFS. Stages, pace meters, the governor and the counts of the common code (spec/01_fabric.md R12 to R29, R51). -/
namespace Sys2Proof.Machine

/-- A register write that the gate lets through ends by the write. -/
theorem gives_gateWrite {i : Instr} {s t : State} {m : Master} {k : Nat} {f : State → State}
    (hi : exec i s = act s (fun s => s.gateWrite m k f)) (h : s.Open m k) (ht : f s = t) : Gives i s t :=
  gives_act hi h.1 (by rw [gateWrite_of_open h, ht])

theorem maskedWrite_rateMade (s : State) (k : Nat) (v : Word) : (s.maskedWrite k v).rateMade = s.rateMade := by
  unfold State.maskedWrite
  split <;> rfl

theorem lowest_eq (low : Option Nat) (pace : Nat) : (match low with | some l => min l pace | none => pace) = min (low.getD pace) pace := by
  cases low with
  | none => exact (Nat.min_self pace).symm
  | some l => rfl

/-! An evaluation of the governor (R17). -/

/-- What an evaluation does once the limits are judged, as `doGovernorEvaluation` has it. -/
def State.govern (s : State) : State :=
  let ms := s.partMeters
  let ok := s.fld Reg.govStatus 28 28 == 0
  let calm := !s.gov.warnSeen && !s.supplyWarn
  let high := !ms.isEmpty && ms.all (fun p => decide (1155 * p.1 < 1000 * p.2)) && calm && ok
  let count := if high then s.gov.count + 1 else 0
  let s := (s.mapGov (fun g => { g with count := count })).newPeriod
  if !ok then s.setFld Reg.govStatus 31 31 0
  else if ms.isEmpty then (s.setFld Reg.govStatus 31 31 0).keepRange
  else if ms.any (fun p => decide (p.2 < p.1)) then s.raise 20
  else if ms.any (fun p => decide (10 * p.2 < 11 * p.1)) then s.raise 5
  else if max 1 (s.fld Reg.govCtrl 23 16) ≤ count ∧ calm then s.lower
  else (s.setFld Reg.govStatus 31 31 0).keepRange

theorem doGovernorEvaluation_able {s : State} (hon : s.fld Reg.govCtrl 31 31 = 1) (hsettle : s.gov.settling = false)
    (hxfer : s.gov.xfer = .none) (herr : s.fld Reg.govStatus 29 29 = 0) (hheld : s.gov.heldSetpoint = none) :
    doGovernorEvaluation s = (s.judgeLimits.setFld Reg.govStatus 30 30 0).govern :=
  if_neg (by simp [hon, hsettle, hxfer, herr, hheld])

/-- The new period that an evaluation begins with the count `n`. -/
def State.period (s : State) (n : Nat) : State := ({ s with gov := { s.gov with count := n } } : State).newPeriod

section
variable {s : State}

theorem govern_bad (h : s.fld Reg.govStatus 28 28 ≠ 0) : s.govern = (s.period 0).setFld Reg.govStatus 31 31 0 := by
  simp [State.govern, h]
  rfl

theorem govern_idle (h : s.fld Reg.govStatus 28 28 = 0) (hm : s.partMeters = []) :
    s.govern = ((s.period 0).setFld Reg.govStatus 31 31 0).keepRange := by
  simp [State.govern, h, hm]
  rfl

/-- A lowest pace that is below 1.1 of the declared one is not above 1.155 of it. -/
theorem not_high_of_low {ms : List (Nat × Nat)} (h : ms.any (fun p => decide (10 * p.2 < 11 * p.1)) = true) :
    ms.all (fun p => decide (1155 * p.1 < 1000 * p.2)) = false := by
  obtain ⟨p, hp, low⟩ := List.any_eq_true.mp h
  refine List.all_eq_false.mpr ⟨p, hp, ?_⟩
  rw [decide_eq_true_eq] at low ⊢
  omega

theorem low_of_below {ms : List (Nat × Nat)} (h : ms.any (fun p => decide (p.2 < p.1)) = true) :
    ms.any (fun p => decide (10 * p.2 < 11 * p.1)) = true := by
  obtain ⟨p, hp, below⟩ := List.any_eq_true.mp h
  refine List.any_eq_true.mpr ⟨p, hp, ?_⟩
  rw [decide_eq_true_eq] at below ⊢
  omega

theorem not_low_of_high {ms : List (Nat × Nat)} (h : ms.all (fun p => decide (1155 * p.1 < 1000 * p.2)) = true) :
    ms.any (fun p => decide (10 * p.2 < 11 * p.1)) = false :=
  Bool.eq_false_iff.mpr fun hl => by simp [not_high_of_low hl] at h

theorem not_low_of_fair {ms : List (Nat × Nat)} (h : ms.all (fun p => decide (11 * p.1 ≤ 10 * p.2)) = true) :
    ms.any (fun p => decide (10 * p.2 < 11 * p.1)) = false := by
  simpa [List.all_eq_true, List.any_eq_false] using h

theorem not_high_of_fair {ms : List (Nat × Nat)} (h : ms.any (fun p => decide (1000 * p.2 ≤ 1155 * p.1)) = true) :
    ms.all (fun p => decide (1155 * p.1 < 1000 * p.2)) = false := by
  simpa [List.any_eq_true, List.all_eq_false] using h

theorem isEmpty_of_any {α : Type} {l : List α} {p : α → Bool} (h : l.any p = true) : l.isEmpty = false := by
  cases l with
  | nil => cases h
  | cons => rfl

theorem govern_below (h : s.fld Reg.govStatus 28 28 = 0) (hb : s.partMeters.any (fun p => decide (p.2 < p.1)) = true) :
    s.govern = (s.period 0).raise 20 := by
  simp only [State.govern, h, hb, not_high_of_low (low_of_below hb), isEmpty_of_any hb, BEq.rfl, Bool.not_true, Bool.and_false, 
    Bool.false_and, Bool.false_eq_true, if_false, if_true]
  rfl

theorem govern_low (h : s.fld Reg.govStatus 28 28 = 0) (hb : s.partMeters.any (fun p => decide (p.2 < p.1)) = false)
    (hl : s.partMeters.any (fun p => decide (10 * p.2 < 11 * p.1)) = true) : s.govern = (s.period 0).raise 5 := by
  simp only [State.govern, h, hb, hl, not_high_of_low hl, isEmpty_of_any hl, BEq.rfl, Bool.not_true, Bool.and_false,
    Bool.false_and, Bool.false_eq_true, if_false, if_true]
  rfl

/-- No meter is below 1.1 of its declared pace. -/
theorem govern_fair (h : s.fld Reg.govStatus 28 28 = 0) (hm : s.partMeters ≠ [])
    (hl : s.partMeters.any (fun p => decide (10 * p.2 < 11 * p.1)) = false) :
    let calm := !s.gov.warnSeen && !s.supplyWarn
    let n := if s.partMeters.all (fun p => decide (1155 * p.1 < 1000 * p.2)) && calm then s.gov.count + 1 else 0
    s.govern = if max 1 (s.fld Reg.govCtrl 23 16) ≤ n ∧ calm then (s.period n).lower
      else ((s.period n).setFld Reg.govStatus 31 31 0).keepRange := by
  have hb : s.partMeters.any (fun p => decide (p.2 < p.1)) = false :=
    Bool.eq_false_iff.mpr fun hb => by simp [low_of_below hb] at hl
  have he : s.partMeters.isEmpty = false := by simpa using hm
  simp only [State.govern, h, hb, hl, he, BEq.rfl, Bool.not_true, Bool.not_false, Bool.true_and, Bool.and_true,
    Bool.false_eq_true, if_false]
  rfl
end

end Sys2Proof.Machine

namespace Sys2Proof.Proofs
open Sys2Proof Sys2Proof.Machine

/-- Settles O13. -/
theorem stagesAndMetersComplete : Obligations.StagesAndMetersComplete := by
  unfold Obligations.StagesAndMetersComplete
  refine ⟨?code, ?stall, ?window, ?clear⟩
  case code =>
    intro s w g hs hw hg
    refine gives_act rfl hs ?_
    simp [doInvalidCode, hw, hg]
  case stall =>
    intro s w g hs hw hst
    refine gives_act rfl hs ?_
    simp [doStallWatchdogExpiry, hw, hst]
  case window =>
    intro s w n given busy hs hw hm m busy' pace s1 s2 s3
    have runs : ¬ (!hasMeter w n || !s.unitRuns w) = true := by simp [hw, hm]
    have ctrl : s3.reg (Reg.cbPaceCtrl w n) = s.reg (Reg.cbPaceCtrl w n) := by
      have now : Reg.cbPaceCtrl w n ≠ Reg.cbPaceNow w n := by unfold Reg.cbPaceCtrl Reg.cbPaceNow; omega
      have least : Reg.cbPaceCtrl w n ≠ Reg.cbPaceMin w n := by unfold Reg.cbPaceCtrl Reg.cbPaceMin; omega
      have r1 : s1.reg (Reg.cbPaceCtrl w n) = s.reg (Reg.cbPaceCtrl w n) := reg_setReg_ne _ _ now
      have r2 : s2.reg (Reg.cbPaceCtrl w n) = s.reg (Reg.cbPaceCtrl w n) := by
        rw [← r1]
        exact iteInduction (motive := fun t : State => t.reg _ = s1.reg _) (fun _ => rfl) (fun _ => reg_setReg_ne _ _ least)
      rw [← r2]
      exact iteInduction (motive := fun t : State => t.reg _ = s2.reg _) (fun _ => rfl) (fun _ => rfl)
    refine gives_act rfl hs ?_
    rw [doPaceWindowEnd, if_neg runs, ← ctrl, ← lowest_eq] <;> rfl
  case clear =>
    intro s m w n v h hm hv
    refine gives_gateWrite rfl h ?_
    simp [hm, hv]

/-- Settles O14. -/
theorem governorAndCountsComplete : Obligations.GovernorAndCountsComplete := by
  unfold Obligations.GovernorAndCountsComplete
  refine ⟨?eval, ?settle, ?vout, ?mode, ?clear, fun s m v h => gives_gateWrite rfl h rfl, fun s m w v h => gives_gateWrite rfl h rfl, ?count⟩
  case eval =>
    intro s hs hon hsettle hxfer herr hheld s1 ms s2
    have run : doGovernorEvaluation s = s1.govern := doGovernorEvaluation_able hon hsettle hxfer herr hheld
    refine ⟨fun hbad => gives_act rfl hs (run.trans (govern_bad hbad)), fun hok =>
      ⟨fun hm => gives_act rfl hs (run.trans (govern_idle hok hm)), fun hb => gives_act rfl hs (run.trans (govern_below hok hb)),
        fun hb hl => gives_act rfl hs (run.trans (govern_low hok hb hl)), ?high, ?fair⟩⟩
    case high =>
      intro hm hall hwarn hsupply s3
      have run' := run.trans (govern_fair hok hm (not_low_of_high hall))
      have all : s1.partMeters.all (fun p => decide (1155 * p.1 < 1000 * p.2)) = true := hall
      simp only [all, hwarn, hsupply, Bool.not_false, Bool.and_self, if_true, and_true] at run'
      refine ⟨fun hn => gives_act rfl hs (run'.trans (if_pos hn)), fun hn => gives_act rfl hs (run'.trans (if_neg ?_))⟩
      omega
    case fair =>
      intro hall hany
      have run' := run.trans (govern_fair hok (by rintro hm; simp [ms, hm] at hany) (not_low_of_fair hall))
      have notAll : s1.partMeters.all (fun p => decide (1155 * p.1 < 1000 * p.2)) = false := not_high_of_fair hany
      simp only [notAll, Bool.false_and, Bool.false_eq_true, if_false] at run'
      exact gives_act rfl hs (run'.trans (if_neg (by omega)))
  case settle =>
    intro s hs hsettle
    refine gives_act rfl hs ?_
    rw [doGovernorSettleEnd, if_pos hsettle]
    rfl
  case vout =>
    intro s mv n hs hx
    refine ⟨gives_act rfl hs ?_, fun hn => gives_act rfl hs ?_, fun hn => gives_act rfl hs ?_⟩
    · simp only [doVoutCommandTransferDone, hx, if_true]
      rfl
    · simp [doVoutCommandTransferDone, State.govFailed, hx, hn]
    · simp [doVoutCommandTransferDone, State.govFailed, hx, Nat.not_lt.mpr hn]
      rfl
  case mode =>
    intro s n mode hs hx
    refine ⟨fun hk => gives_act rfl hs ?_, fun hk => gives_act rfl hs ?_, fun hn => gives_act rfl hs ?_⟩
    · simp only [doVoutModeReadDone, hx]
      exact if_neg hk
    · simp only [doVoutModeReadDone, hx]
      exact if_pos hk
    · simp [doVoutModeReadDone, State.govFailed, hx, hn]
  case clear =>
    intro s m v h herr s1 hcleared
    refine gives_gateWrite rfl h ?_
    exact if_pos ⟨herr, hcleared⟩
  case count =>
    intro s m w n v h s1
    refine ⟨fun hz => gives_gateWrite rfl h ?_, fun hz => gives_gateWrite rfl h ?_⟩
    · rw [← maskedWrite_rateMade s (Reg.cbEcc w n) v]
      exact if_pos hz
    · exact if_neg hz

end Sys2Proof.Proofs

/-! PROOFS. The cells of the Hive: immediates, wide registers, branches and jumps (spec/02_hive.md R59 to R63). -/
namespace Sys2Proof.Machine

/-- A running cell carries out its instruction on the state that the fetch left. -/
theorem gives_hiveRun {i : Instr} {s t : State} {n : Nat} {f : State → State} (hi : exec i s = act s (fun s => s.hiveRun n f))
    (h : s.Runs n) (ht : f (s.cellFetch n) = t) : Gives i s t :=
  gives_act hi h.1 ((hiveRun_runs h f).trans ht)

/-- A running cell ends an instruction that writes g[rd] with the value `v`. -/
theorem hiveG_gives {i : Instr} {s : State} {n rd : Nat} {g : CellSt → Word} {v : Word}
    (hi : exec i s = act s (fun s => s.hiveG n rd g)) (h : s.Runs n) (hv : g ((s.cellFetch n).cell n) = v) :
    exec i s = .next (s.ends ((s.cellFetch n).wrote n rd v)) := by
  subst hv
  exact gives_hiveRun hi h rfl

/-! Values of immediates and of shifts by a fixed amount. -/

theorem add_sext16 (a : Word) (i : BitVec 16) : a + sext16 i = BitVec.ofInt 32 (a.toInt + i.toInt) := by
  rw [BitVec.ofInt_add, BitVec.ofInt_toInt, sext16, BitVec.signExtend]

theorem sext16_toInt (i : BitVec 16) : (sext16 i).toInt = i.toInt := by
  rw [sext16, BitVec.toInt_signExtend_of_le (by decide)]

theorem zext16_eq_ofNat (i : BitVec 16) : zext16 i = BitVec.ofNat 32 i.toNat := (BitVec.ofNat_toNat ..).symm

theorem lui_value (i : BitVec 16) : zext16 i <<< 16 = BitVec.ofNat 32 (i.toNat * 65536) := by
  apply BitVec.eq_of_toNat_eq
  rw [BitVec.toNat_shiftLeft, BitVec.toNat_ofNat, Nat.shiftLeft_eq, zext16, BitVec.toNat_setWidth]
  omega

theorem shiftLeft_eq (a : Word) (n : Nat) : a <<< n = BitVec.ofNat 32 (a.toNat * 2 ^ n) := by
  apply BitVec.eq_of_toNat_eq
  rw [BitVec.toNat_shiftLeft, BitVec.toNat_ofNat, Nat.shiftLeft_eq]

theorem ushiftRight_eq (a : Word) (n : Nat) : a >>> n = BitVec.ofNat 32 (a.toNat / 2 ^ n) := by
  apply BitVec.eq_of_toNat_eq
  have small : a.toNat / 2 ^ n < 2 ^ 32 := Nat.lt_of_le_of_lt (Nat.div_le_self ..) a.isLt
  rw [BitVec.toNat_ushiftRight, BitVec.toNat_ofNat, Nat.mod_eq_of_lt small, Nat.shiftRight_eq_div_pow]

theorem sshiftRight_eq (a : Word) (n : Nat) : a.sshiftRight n = BitVec.ofInt 32 (a.toInt / 2 ^ n) := by
  rw [BitVec.sshiftRight, Int.shiftRight_eq_div_pow, Nat.cast_pow, Nat.cast_ofNat]

/-- WEXT reads the field as a number. -/
theorem extract_eq_ofNat (w : Quad) (p : Nat) {n : Nat} (hn : n ≤ 32) :
    extract w p n = BitVec.ofNat 32 (w.toNat / 2 ^ p % 2 ^ n) := by
  have small : 2 ^ n - 1 < 2 ^ 32 := by
    have := Nat.pow_le_pow_right (show 0 < 2 by decide) hn
    have := Nat.two_pow_pos n
    omega
  apply BitVec.eq_of_toNat_eq
  rw [extract, BitVec.toNat_and, BitVec.toNat_setWidth, BitVec.toNat_ushiftRight, BitVec.toNat_ofNat, BitVec.toNat_ofNat,
    Nat.mod_eq_of_lt small, Nat.and_two_pow_sub_one_eq_mod, Nat.shiftRight_eq_div_pow, Nat.mod_mod_of_dvd _ (pow_dvd_pow 2 hn),
    Nat.mod_eq_of_lt (Nat.lt_of_lt_of_le (Nat.mod_lt _ (Nat.two_pow_pos n)) (Nat.pow_le_pow_right (by decide) hn))]

theorem wext_gives {s : State} {c : Cell} (h : s.Runs c) (rd : Gr) (rs : Wr) {p : BitVec 7} {l : BitVec 5}
    (hf : fieldFits p l = true) :
    Gives (.wext c rd rs p l) s ((s.cellFetch c).wrote c rd
      (BitVec.ofNat 32 ((((s.cellFetch c).cell c).getW rs).toNat / 2 ^ p.toNat % 2 ^ (l.toNat + 1)))) := by
  refine gives_hiveRun rfl h ?_
  rw [if_neg ((fieldFits_iff p l).mp hf), ← extract_eq_ofNat _ _ (show l.toNat + 1 ≤ 32 by omega)]
  rfl

/-! Branches and jumps. -/

/-- The target of a branch or a jump by `o` words. -/
theorem target_eq_ofInt {n : Nat} (pc : Word) (o : BitVec n) :
    pc + 4 + o.signExtend 32 * 4 = BitVec.ofInt 32 (pc.toInt + 4 + 4 * o.toInt) := by
  rw [BitVec.ofInt_add, BitVec.ofInt_add, BitVec.ofInt_mul, BitVec.ofInt_toInt, BitVec.signExtend, BitVec.mul_comm]
  rfl

/-- A branch goes to its target where its condition holds, else to the next instruction. -/
theorem hiveBranch_gives {i : Instr} {s : State} {n rd rs : Nat} {imm : BitVec 16} {cond : Word → Word → Bool}
    (hi : exec i s = act s (fun s => s.hiveBranch n rd rs imm cond)) (h : s.Runs n) (taken : Prop) [Decidable taken]
    (hc : cond (((s.cellFetch n).cell n).getG rd) (((s.cellFetch n).cell n).getG rs) = decide taken) :
    exec i s = .next (s.ends ((s.cellFetch n).mapCell n (fun x => x.goto
      (if taken then BitVec.ofInt 32 (((s.cellFetch n).cell n).pc.toInt + 4 + 4 * imm.toInt)
        else ((s.cellFetch n).cell n).pc + 4)))) := by
  refine gives_hiveRun hi h ?_
  simp only [State.mapCell, hc, branchTarget, sext16, target_eq_ofInt]
  by_cases ht : taken
  · simp [ht]
  · simp [ht, CellSt.retire, CellSt.goto]

theorem ltS_eq (a b : Word) : ltS a b = decide (a.toInt < b.toInt) := BitVec.slt_eq_decide

theorem geS_eq (a b : Word) : geS a b = decide (b.toInt ≤ a.toInt) := by
  simp only [geS, BitVec.slt_eq_decide, ← decide_not, Int.not_lt]

theorem ltU_eq (a b : Word) : ltU a b = decide (a.toNat < b.toNat) := rfl

theorem geU_eq (a b : Word) : geU a b = decide (b.toNat ≤ a.toNat) := by
  simp only [geU, BitVec.ult_eq_decide, ← decide_not, Nat.not_lt]

end Sys2Proof.Machine

namespace Sys2Proof.Proofs
open Sys2Proof Sys2Proof.Machine

/-- Settles O16. -/
theorem immediateAndWideInstructionsWriteTheirResult : Obligations.ImmediateAndWideInstructionsWriteTheirResult := by
  unfold Obligations.ImmediateAndWideInstructionsWriteTheirResult
  refine ⟨fun s c rd rs i h => ?_, fun s c rd rs p l h hf => wdep_gives h rd rs hf, fun s c rd rs p l h hf => wext_gives h rd rs hf,
    fun s c rd rs h => ⟨gives_hiveRun rfl h rfl, gives_hiveRun rfl h rfl⟩⟩
  simp only [← zext16_eq_ofNat]
  refine ⟨hiveG_gives rfl h (add_sext16 ..), hiveG_gives rfl h rfl, hiveG_gives rfl h rfl, hiveG_gives rfl h rfl, ?_,
    hiveG_gives rfl h (boolWord_decide _), hiveG_gives rfl h (lui_value i),
    fun n => ⟨hiveG_gives rfl h (shiftLeft_eq ..), hiveG_gives rfl h (ushiftRight_eq ..), hiveG_gives rfl h (sshiftRight_eq ..)⟩⟩
  refine hiveG_gives rfl h ?_
  rw [ltS_eq, sext16_toInt, boolWord_decide]

/-- Settles O18. -/
theorem branchesAndJumpsSetPc : Obligations.BranchesAndJumpsSetPc := by
  unfold Obligations.BranchesAndJumpsSetPc
  refine ⟨fun s c rd rs i h => ?_, fun s c o h => ?_, fun s c rd rs h => ?_⟩
  · exact ⟨hiveBranch_gives rfl h _ rfl, hiveBranch_gives rfl h _ (decide_not ..).symm, hiveBranch_gives rfl h _ (ltS_eq ..),
      hiveBranch_gives rfl h _ (geS_eq ..), hiveBranch_gives rfl h _ (ltU_eq ..), hiveBranch_gives rfl h _ (geU_eq ..)⟩
  · constructor <;> refine gives_hiveRun rfl h ?_ <;> simp only [State.mapCell, jumpTarget, target_eq_ofInt]
  · exact ⟨fun aligned => gives_hiveRun rfl h (if_neg (not_not_intro aligned)), fun odd => gives_hiveRun rfl h (if_pos odd)⟩

end Sys2Proof.Proofs

/-! PROOFS. The cells of the Hive: what a fetch may change, loads and stores (spec/02_hive.md R55 to R58). -/
namespace Sys2Proof.Machine

/-! Signals: what a report, an event or a latched snapshot may change. -/

/-- `t` is `s` but for the registers, the events and barriers of the Hive, Foghorn's own state, what is due, what is emitted and the
error rates made. -/
structure State.Signals (s t : State) : Prop where
  eq : t = { s with regs := t.regs, hive := t.hive, fgh := t.fgh, due := t.due, out := t.out, rateMade := t.rateMade }

theorem signals_refl (s : State) : s.Signals s := ⟨rfl⟩

theorem State.Signals.trans {s t u : State} (h : s.Signals t) (k : t.Signals u) : s.Signals u := by
  constructor
  rw [k.eq, h.eq]

theorem signals_ite {s t u : State} {c : Prop} [Decidable c] (ht : s.Signals t) (hu : s.Signals u) :
    s.Signals (if c then t else u) := iteInduction (fun _ => ht) (fun _ => hu)

theorem signals_foldl {α : Type} {s t : State} {f : State → α → State} (h : s.Signals t) (hf : ∀ (t : State) (a : α), t.Signals (f t a))
    (l : List α) : s.Signals (l.foldl f t) :=
  List.foldlRecOn (motive := s.Signals) l f h fun t h a _ => h.trans (hf t a)

theorem setReg_signals (s : State) (k : Nat) (v : Word) : s.Signals (s.setReg k v) := ⟨rfl⟩

theorem setFld_signals (s : State) (k hi lo x : Nat) : s.Signals (s.setFld k hi lo x) := ⟨rfl⟩

theorem emit_signals (s : State) (e : Emission) : s.Signals (s.emit e) := ⟨rfl⟩

theorem mapCell_signals (s : State) (n : Nat) (f : CellSt → CellSt) : s.Signals (s.mapCell n f) := ⟨rfl⟩

theorem withDue_signals (s : State) (d : Due) : s.Signals { s with due := d } := ⟨rfl⟩

theorem recordRequest_signals (s : State) (e : Nat) : s.Signals (s.recordRequest e) := signals_ite ⟨rfl⟩ ⟨rfl⟩

theorem fireCore_signals (s : State) (e : Nat) : s.Signals (s.fireCore e) := by
  unfold State.fireCore
  extract_lets r asked own pended
  have h1 : s.Signals asked := signals_ite (recordRequest_signals s e) (signals_refl s)
  have h2 : s.Signals pended := signals_foldl h1 (fun t n => signals_ite (mapCell_signals ..) (signals_refl t)) _
  exact signals_ite (signals_ite (h2.trans (setFld_signals ..)) (h2.trans (emit_signals ..))) h2

theorem latchWindow_signals (s : State) (w : Nat) : s.Signals (s.latchWindow w) := by
  unfold State.latchWindow
  extract_lets ok
  split
  · exact signals_ite (signals_foldl (setReg_signals ..) (fun t p => setReg_signals ..) _) (signals_refl s)
  · exact signals_refl s

theorem latchSnap_signals (s : State) (cause origin : Nat) : s.Signals (s.latchSnap cause origin) := by
  unfold State.latchSnap
  refine signals_ite (signals_refl s) ?_
  have swarm : ∀ t : State, s.Signals t → s.Signals (if (t.reg (Reg.hivRoute 13)).getLsbD 12
      then { t with due := { t.due with swarmSnap := true } } else t) :=
    fun t h => signals_ite (h.trans (withDue_signals ..)) h
  refine State.Signals.trans (swarm _ (signals_foldl ?_ latchWindow_signals snapWindows)) (fireCore_signals _ 13)
  have stamped : s.Signals { s with fgh := { s.fgh with snapUs := some (s.now / 1000) } } := ⟨rfl⟩
  exact (((stamped.trans (setReg_signals ..)).trans (setReg_signals ..)).trans (setReg_signals ..)).trans (setReg_signals ..)

theorem fire_signals (s : State) (e : Nat) : s.Signals (s.fire e) := by
  have fired := fireCore_signals s e
  exact signals_ite (fired.trans (withDue_signals ..)) (signals_ite (fired.trans (latchSnap_signals ..)) fired)

theorem loseReports_signals (s : State) (sev n : Nat) : s.Signals (s.loseReports sev n) := by
  unfold State.loseReports
  extract_lets r counted
  have h1 : s.Signals { counted with fgh := { counted.fgh with lostOwed := true } } := ⟨rfl⟩
  exact h1.trans (fire_signals ..)

theorem openEntry_signals (s : State) (e : Entry) : s.Signals (s.openEntry e) := by
  unfold State.openEntry
  refine signals_ite ⟨rfl⟩ (signals_ite (loseReports_signals ..) ?_)
  dsimp only
  split
  · exact loseReports_signals ..
  · split
    · exact loseReports_signals ..
    · refine State.Signals.trans ?_ (loseReports_signals ..)
      exact ⟨rfl⟩

theorem reportSev_signals (s : State) (source sub code sev detail : Nat) : s.Signals (s.reportSev source sub code sev detail) := by
  unfold State.reportSev
  refine signals_ite ⟨rfl⟩ ?_
  extract_lets now intake entered severe event fault snapped
  have h1 : s.Signals entered := signals_ite ⟨rfl⟩ (openEntry_signals ..)
  have h2 : s.Signals severe := signals_ite (h1.trans (fire_signals ..)) (signals_ite (h1.trans (fire_signals ..)) h1)
  have h3 : s.Signals event := by
    unfold event
    split
    · exact h2.trans (fire_signals ..)
    · exact h2
  have h4 : s.Signals fault := h3.trans ⟨rfl⟩
  have h5 : s.Signals snapped := signals_ite (h4.trans (latchSnap_signals ..)) h4
  refine signals_ite ?_ h3
  split
  · exact signals_ite (h5.trans (withDue_signals ..)) h5
  · exact h5

theorem rateCheck_signals (s : State) (w n : Nat) : s.Signals (s.rateCheck w n) := by
  unfold State.rateCheck
  refine signals_ite (State.Signals.trans ?_ (reportSev_signals ..)) (signals_refl s)
  exact ⟨rfl⟩

theorem eccCorrected_signals (s : State) (w n : Nat) : s.Signals (s.eccCorrected w n) := by
  refine signals_ite (State.Signals.trans ?_ (rateCheck_signals ..)) (signals_refl s)
  exact ⟨rfl⟩

theorem meetAt_signals (s : State) (win n key addr : Nat) : s.Signals (s.meetAt win n key addr) := by
  refine signals_ite (signals_refl s) ?_
  split
  · exact signals_refl s
  · exact eccCorrected_signals ..
  · refine State.Signals.trans ?_ (reportSev_signals ..)
    exact signals_ite ⟨rfl⟩ ⟨rfl⟩

theorem cellFetch_signals (s : State) (n : Nat) : s.Signals (s.cellFetch n) := meetAt_signals ..

theorem cellFetch_variant (s : State) (n : Nat) : (s.cellFetch n).variant = s.variant := by
  rw [(cellFetch_signals s n).eq]

theorem cellFetch_bcn (s : State) (n : Nat) : (s.cellFetch n).bcn = s.bcn := by
  rw [(cellFetch_signals s n).eq]

/-! Loads and stores (R55 to R58). -/

section
variable {s : State} {c : Cell} {a len : Nat}

theorem cellLoad_misaligned (n : Nat) (run : Nat → State → State) (h : a % len ≠ 0) : s.cellLoad n a len run = s.cellFault n 0x02 :=
  if_pos h

theorem cellStore_misaligned (n v : Nat) (h : a % len ≠ 0) : s.cellStore n a len v = s.cellFault n 0x02 := if_pos h

theorem cellLoad_outside {n : Nat} (run : Nat → State → State) (h : a % len = 0)
    (at_ : cellTarget s.variant n (s.cell n).dramBase a = .none) : s.cellLoad n a len run = s.cellFault n 0x03 := by
  rw [State.cellLoad, if_neg (not_not_intro h), at_]

theorem cellStore_outside {n : Nat} (v : Nat) (h : a % len = 0)
    (at_ : cellTarget s.variant n (s.cell n).dramBase a = .none) : s.cellStore n a len v = s.cellFault n 0x03 := by
  rw [State.cellStore, if_neg (not_not_intro h), at_]

theorem cellLoad_wide_register {n k : Nat} (run : Nat → State → State) (h : a % len = 0) (wide : len ≠ 4)
    (at_ : cellTarget s.variant n (s.cell n).dramBase a = .reg k) : s.cellLoad n a len run = s.cellFault n 0x03 := by
  rw [State.cellLoad, if_neg (not_not_intro h), at_]
  exact if_pos wide

theorem cellStore_wide_register {n k : Nat} (v : Nat) (h : a % len = 0) (wide : len ≠ 4)
    (at_ : cellTarget s.variant n (s.cell n).dramBase a = .reg k) : s.cellStore n a len v = s.cellFault n 0x03 := by
  rw [State.cellStore, if_neg (not_not_intro h), at_]
  exact if_pos wide

theorem cellLoad_memory {x : Nat} (run : Nat → State → State) (h : a % len = 0)
    (at_ : cellTarget s.variant c (s.cell c).dramBase a = .mem x) (there : s.rangeThere x len = true) :
    s.cellLoad c a len run =
      if ((s.goneAccess (.cell c) false x).meet x len).poisonedAt x len = true
      then ((s.goneAccess (.cell c) false x).meet x len).cellFault c 0x09
      else run (((s.goneAccess (.cell c) false x).meet x len).num x len) ((s.goneAccess (.cell c) false x).meet x len) := by
  have self : Fin.ofNat 8 c.val = c := Fin.ofNat_val_eq_self c
  rw [State.cellLoad, if_neg (not_not_intro h), at_]
  simp only [there, self, Bool.not_true, Bool.false_eq_true, if_false]

theorem cellStore_memory {x : Nat} (v : Nat) (h : a % len = 0)
    (at_ : cellTarget s.variant c (s.cell c).dramBase a = .mem x) (there : s.rangeThere x len = true) :
    s.cellStore c a len v = (s.mapCell c CellSt.retire).masterStore (.cell c) x (leBytes len v) := by
  have self : Fin.ofNat 8 c.val = c := Fin.ofNat_val_eq_self c
  rw [State.cellStore, if_neg (not_not_intro h), at_]
  simp only [there, self, Bool.not_true, Bool.false_eq_true, if_false]

theorem cellLoad_register {k : Nat} (run : Nat → State → State) (h : a % 4 = 0)
    (at_ : cellTarget s.variant c (s.cell c).dramBase a = .reg k) :
    s.cellLoad c a 4 run = run (s.readReg (.cell c) k).1.toNat (s.readReg (.cell c) k).2 := by
  rw [State.cellLoad, if_neg (not_not_intro h), at_]
  simp

theorem cellStore_register {k : Nat} (v : Word) (h : a % 4 = 0)
    (at_ : cellTarget s.variant c (s.cell c).dramBase a = .reg k) :
    s.cellStore c a 4 v.toNat = (s.mapCell c CellSt.retire).writeReg (.cell c) k v := by
  rw [State.cellStore, if_neg (not_not_intro h), at_]
  simp

end

end Sys2Proof.Machine

namespace Sys2Proof.Proofs
open Sys2Proof Sys2Proof.Machine

/-- Settles O19: each clause is a case of `cellLoad` and `cellStore`. -/
theorem loadsAndStoresReachMemory : Obligations.LoadsAndStoresReachMemory := by
  unfold Obligations.LoadsAndStoresReachMemory
  intro s c rs i h s0 a at_
  have target : cellTarget s0.variant c (s0.cell c).dramBase a = at_ := congrArg (cellTarget · c _ a) (cellFetch_variant s c)
  dsimp only
  refine ⟨fun x hx there aligned rd => ⟨fun clean => ?_, fun bad => ?_, ?_⟩,
    fun x hx there aligned rd => ⟨fun clean => ?_, fun bad => ?_, ?_⟩,
    fun k hk aligned rd => ⟨?_, ?_⟩, fun rd odd => ⟨?_, ?_⟩, fun rd odd => ⟨?_, ?_⟩, fun rd aligned hn => ⟨?_, ?_⟩,
    fun rd aligned outside => ?_⟩
  · exact gives_hiveRun rfl h ((cellLoad_memory _ aligned (target.trans hx) there).trans (if_neg (Bool.eq_false_iff.mp clean)))
  · exact gives_hiveRun rfl h ((cellLoad_memory _ aligned (target.trans hx) there).trans (if_pos bad))
  · exact gives_hiveRun rfl h (cellStore_memory _ aligned (target.trans hx) there)
  · exact gives_hiveRun rfl h ((cellLoad_memory _ aligned (target.trans hx) there).trans (if_neg (Bool.eq_false_iff.mp clean)))
  · exact gives_hiveRun rfl h ((cellLoad_memory _ aligned (target.trans hx) there).trans (if_pos bad))
  · exact gives_hiveRun rfl h (cellStore_memory _ aligned (target.trans hx) there)
  · refine gives_hiveRun rfl h ((cellLoad_register _ aligned (target.trans hk)).trans ?_)
    rw [BitVec.ofNat_toNat, BitVec.setWidth_eq]
    rfl
  · exact gives_hiveRun rfl h (cellStore_register _ aligned (target.trans hk))
  · exact gives_hiveRun rfl h (cellLoad_misaligned _ _ odd)
  · exact gives_hiveRun rfl h (cellStore_misaligned _ _ odd)
  · exact gives_hiveRun rfl h (cellLoad_misaligned _ _ odd)
  · exact gives_hiveRun rfl h (cellStore_misaligned _ _ odd)
  · exact gives_hiveRun rfl h (cellLoad_outside _ aligned (target.trans hn))
  · exact gives_hiveRun rfl h (cellStore_outside _ aligned (target.trans hn))
  · obtain hn | ⟨k, hk⟩ := outside
    · exact ⟨gives_hiveRun rfl h (cellLoad_outside _ aligned (target.trans hn)),
        gives_hiveRun rfl h (cellStore_outside _ aligned (target.trans hn))⟩
    · exact ⟨gives_hiveRun rfl h (cellLoad_wide_register _ aligned (by decide) (target.trans hk)),
        gives_hiveRun rfl h (cellStore_wide_register _ aligned (by decide) (target.trans hk))⟩

end Sys2Proof.Proofs

/-! PROOFS. The cells of the Hive: posting, taking, waiting and alarms (spec/02_hive.md R64 to R72). -/
namespace Sys2Proof.Machine

/-! Descriptors in a cell's data memory (R65). -/

theorem w0Len_lt (w : Quad) : w0Len w < 4 := Nat.mod_lt _ (show 0 < 4 by decide)

theorem wordsOf_aligned {x : Nat} (n : Nat) (h : x % 16 = 0) : wordsOf x (16 * n) = (List.range n).map (· + x / 16) := by
  unfold wordsOf
  split
  next none =>
    have : n = 0 := by omega
    rw [this]
    rfl
  next some =>
    have count : (x + 16 * n - 1) / 16 - x / 16 + 1 = n := by omega
    rw [count]

theorem wordsOf_one {x : Nat} (h : x % 16 = 0) : wordsOf x 16 = [x / 16] := by
  have one := wordsOf_aligned 1 h
  simpa using one

theorem regionOf_high (v : Variant) {a : Nat} (h : regsBase ≤ a) : regionOf v a ≠ .dram ∧ regionOf v a ≠ .comb := by
  have comb : ¬ (combBase ≤ a ∧ a < combTop) := by
    unfold combTop
    unfold regsBase at h
    omega
  have dram : ¬ a < dramTop v := by
    unfold regsBase at h
    unfold dramTop
    split <;> omega
  rw [regionOf, if_neg dram, if_neg comb]
  have ite : ∀ {c : Prop} [Decidable c] {x y : Region}, (x ≠ .dram ∧ x ≠ .comb) → (y ≠ .dram ∧ y ≠ .comb) →
      (if c then x else y) ≠ .dram ∧ (if c then x else y) ≠ .comb := fun hx hy => by split <;> assumption
  exact ite ⟨nofun, nofun⟩ (ite (ite ⟨nofun, nofun⟩ (ite ⟨nofun, nofun⟩ ⟨nofun, nofun⟩)) ⟨nofun, nofun⟩)

/-- Memory above Comb and the DRAM always answers. -/
theorem memThere_high (s : State) {a : Nat} (h : regsBase ≤ a) : s.memThere a = true := by
  obtain ⟨dram, comb⟩ := regionOf_high s.variant h
  unfold State.memThere
  split
  · contradiction
  · contradiction
  · exact Bool.or_true _

theorem rangeThere_high (s : State) {x : Nat} (h : x % 16 = 0) (hx : regsBase ≤ x) : s.rangeThere x 16 = true := by
  rw [State.rangeThere, wordsOf_one h, List.all_cons, List.all_nil, Bool.and_true]
  exact memThere_high s (by omega)

/-- Words of which none is poisoned, one by one. -/
theorem poisonedAt_word {s : State} {x n i : Nat} (h : x % 16 = 0) (clean : s.poisonedAt x (16 * n) = false) (hi : i < n) :
    s.poisonedAt (x + 16 * i) 16 = false := by
  have word : i + x / 16 = (x + 16 * i) / 16 := by omega
  rw [State.poisonedAt, wordsOf_aligned n h, List.any_eq_false] at clean
  rw [State.poisonedAt, wordsOf_one (by omega), ← word, List.any_cons, List.any_nil, Bool.or_false]
  exact Bool.eq_false_iff.mpr (clean _ (List.mem_map_of_mem (List.mem_range.mpr hi)))

theorem cellTarget_dmem (v : Variant) (n : Nat) (base : Word) {a : Nat} (h : a < 0x4_0000) :
    cellTarget v n base a = .mem (dmemBase n + a) := if_pos h

theorem postWords_room {s : State} {n q : Nat} {words : List Quad} {flt : DescFault} (h : s.hasRoom q words.length = true) :
    s.postWords n q words flt = (s.mapCell n CellSt.retire).enter q n words flt := if_pos h

theorem postWords_waits {s : State} {n q : Nat} {words : List Quad} {flt : DescFault} (h : s.hasRoom q words.length = false) :
    s.postWords n q words flt = s.cellWaits n 3 (.post q words flt) := if_neg (by rw [h]; decide)

/-- A POSTM whose words lie in the cell's data memory and are not poisoned posts them. -/
theorem postm_gives {s t : State} {c : Cell} {rs : Gr} {q : Fin 64} {flt : DescFault} (h : s.Runs c) {a x : Nat} {s1 s2 : State}
    (ha : (((s.cellFetch c).cell c).getG rs).toNat = a) (hx : x = dmemBase c + a) (h1 : s1 = (s.cellFetch c).meet x 16)
    (h2 : s2 = (List.range (w0Len (s1.quadAt x))).foldl (fun s i => s.meet (x + 16 * (i + 1)) 16) s1)
    (aligned : a % 16 = 0) (inside : a < 0x3_0000) (clean1 : s1.poisonedAt x 16 = false)
    (clean2 : s2.poisonedAt x (16 * (w0Len (s1.quadAt x) + 1)) = false)
    (ht : s2.postWords c q ((List.range (w0Len (s1.quadAt x) + 1)).map (fun i => s2.quadAt (x + 16 * i))) flt = t) :
    Gives (.postm c rs q flt) s t := by
  have short := w0Len_lt (s1.quadAt x)
  generalize hn : w0Len (s1.quadAt x) = n at *
  have base : regsBase ≤ x ∧ x % 16 = 0 := by
    unfold regsBase
    unfold dmemBase at hx
    omega
  obtain ⟨high, even⟩ := base
  refine gives_hiveRun rfl h ?_
  have target : ∀ i, i < n + 1 → cellTarget (s.cellFetch c).variant c ((s.cellFetch c).cell c).dramBase (a + 16 * i) =
      .mem (x + 16 * i) := by
    intro i hi
    rw [cellTarget_dmem _ _ _ (by omega), hx, Nat.add_assoc]
  have first : cellTarget (s.cellFetch c).variant c ((s.cellFetch c).cell c).dramBase (a + 16 * 0) = .mem x := target 0 (by omega)
  simp only [ha, aligned, first, rangeThere_high _ even high, ← h1, clean1, hn]
  generalize found : List.map _ (List.range (n + 1)) = addrs
  have places : addrs = ((List.range (n + 1)).map (fun i => x + 16 * i)).map some := by
    rw [← found, List.map_map]
    exact List.map_congr_left fun i hi => by simp only [target i (List.mem_range.mp hi), Function.comp]
  have defined : ¬ (addrs.any Option.isNone = true) := by simp [places]
  have xs : addrs.filterMap id = (List.range (n + 1)).map (fun i => x + 16 * i) := by
    rw [places, List.filterMap_map]
    exact List.filterMap_some
  have there : ¬ (((List.range (n + 1)).map (fun i => x + 16 * i)).any (fun y => !s1.rangeThere y 16) = true) := by
    simp only [List.any_map, List.any_eq_true, not_exists, not_and]
    intro i _
    rw [Function.comp, rangeThere_high s1 (by omega) (by omega)]
    decide
  have read : (((List.range (n + 1)).map (fun i => x + 16 * i)).drop 1).foldl (fun s y => s.meet y 16) s1 = s2 := by
    rw [h2, List.range_succ_eq_map, List.map_cons, List.drop_one, List.tail_cons, List.map_map, List.foldl_map]
    rfl
  have clean : ¬ (((List.range (n + 1)).map (fun i => x + 16 * i)).any (fun y => s2.poisonedAt y 16) = true) := by
    simp only [List.any_map, List.any_eq_true, not_exists, not_and]
    intro i hi
    rw [Function.comp, poisonedAt_word even clean2 (List.mem_range.mp hi)]
    decide
  simp only [defined, xs, there, read, clean, if_false, Bool.false_eq_true, ne_eq, not_true_eq_false, Bool.not_true]
  rw [← ht, List.map_map]
  rfl
/-! Alarms (R71). -/

/-- A time that is not reached only arms the alarm. -/
theorem armAlarm_later {s : State} {n : Nat} {t : Word} (h : reached s.bcn.ns t = false) :
    s.armAlarm n t = (s.mapCell n (fun x => { x with alarm := .armed, alarmTime := t }), 0) := by
  exact if_neg (Bool.eq_false_iff.mp h)

/-- How ARM and DISARM end with their state and result. -/
def armEnds (n rd : Nat) (r : State × Nat) : State := r.1.mapCell n (fun c => (c.putG rd (BitVec.ofNat 32 r.2)).retire)

end Sys2Proof.Machine

namespace Sys2Proof.Proofs
open Sys2Proof Sys2Proof.Machine

/-- Settles O20. -/
theorem postAndTakeComplete : Obligations.PostAndTakeComplete := by
  unfold Obligations.PostAndTakeComplete
  refine ⟨?post, ?postm, ?room, ?take⟩
  case post =>
    intro s c rd q flt h s0 len words inside
    have size : words.length = len + 1 := by simp [words]
    have fits : ¬ 7 < rd.val + w0Len (((s.cellFetch c).cell c).getW rd) := Nat.not_lt.mpr inside
    constructor <;> intro room <;> refine gives_hiveRun rfl h ((if_neg fits).trans ?_)
    · exact postWords_room (words := words) (by rw [size]; exact room)
    · exact postWords_waits (words := words) (by rw [size]; exact room)
  case postm =>
    intro s c rs q flt h s0 a x s1 len s2 aligned inside clean1 clean2
    constructor <;> intro room <;> refine postm_gives h rfl rfl rfl rfl aligned inside clean1 clean2 ?_
    · exact postWords_room (by rw [List.length_map, List.length_range]; exact room)
    · exact postWords_waits (by rw [List.length_map, List.length_range]; exact room)
  case room =>
    intro s c q words flt hs hw room
    refine gives_act rfl hs ?_
    rw [doPostQueueRoom, hw]
    exact if_pos room
  case take =>
    intro s c rd rs q h
    dsimp only
    refine ⟨fun own => ⟨fun i rest some => ?_, fun none => ?_⟩, fun other => gives_hiveRun rfl h (if_pos other)⟩
    · refine gives_hiveRun rfl h ((if_neg (not_not_intro own)).trans ?_)
      simp only [some]
    · refine gives_hiveRun rfl h ((if_neg (not_not_intro own)).trans ?_)
      simp only [none]

/-- Settles O21. -/
theorem waitsAndAlarmsComplete : Obligations.WaitsAndAlarmsComplete := by
  unfold Obligations.WaitsAndAlarmsComplete
  refine ⟨?wait, ?event, ?timeout, ?time, ?arm, ?disarm, ?fire⟩
  case wait =>
    intro s c rd rs h
    refine ⟨fun e hit => gives_hiveRun rfl h ?_, fun hit => gives_hiveRun rfl h ?_⟩ <;> simp only [hit]
  case event =>
    intro s c rd b e hs hw hit
    refine act_quiet rfl hs ?_ hs.2 rfl rfl
    rw [doWaitEvent, hw, hit]
  case timeout =>
    intro s c rd hs hw hit
    refine act_quiet rfl hs ?_ hs.2 rfl rfl
    rw [doWaitTimeout, hw, hit]
  case time => exact fun s c rd h => hiveG_gives rfl h (congrArg Beacon.ns (cellFetch_bcn s c)).symm
  case arm =>
    intro s c rd rs h s0 later
    refine gives_hiveRun rfl h ?_
    refine (if_neg Bool.false_ne_true).trans ?_
    exact congrArg (armEnds c rd) ((if_pos rfl).trans (armAlarm_later later))
  case disarm =>
    intro s c rd rs h s0
    refine gives_hiveRun rfl h ?_
    refine (if_neg Bool.false_ne_true).trans ?_
    refine (congrArg (armEnds c rd) (if_pos rfl)).trans ?_
    cases halarm : (s0.cell c).alarm <;> simp only [armEnds, disarmResult, s0] <;> rfl
  case fire =>
    intro s c hs armed past powered
    refine gives_act rfl hs ?_
    simp [doCellAlarmFire, armed, past, powered]

end Sys2Proof.Proofs

/-! PROOFS. The cells of the Hive: commits, snapshots, ordering, mailboxes, CSRs and stops (spec/02_hive.md R53, R58, R60, R73 to
R88, R94). -/
namespace Sys2Proof.Machine

/-! Commits (R74 to R76). -/

/-- A local COMMIT ends with the status and the frame that `commitLocal` answers. -/
theorem commit_gives {s t : State} {c : Cell} {rd rt : Gr} {g : Fin 16} {st frame : Nat} (h : s.Runs c)
    (hr : (s.cellFetch c).commitLocal g = (t, st, frame)) :
    Gives (.commit c rd rt g) s (t.mapCell c (fun x => ((x.putG rt (BitVec.ofNat 32 st)).putG rd (BitVec.ofNat 32 frame)).retire)) :=
  gives_hiveRun rfl h (congrArg (fun r : State × Nat × Nat => r.1.commitEnds c rd rt r.2.1 r.2.2) hr)

/-- A swarm COMMIT of a swarm group that is present, with the pair locked where it needs it. -/
theorem swarmCommit_gives {s t : State} {c : Cell} {rd rs rt : Gr} {g : Fin 16} (h : s.Runs c) (hg : g.val ≤ 4)
    (here : groupAbsent (s.cellFetch c).variant g = false) (locked : g.val = 4 → (s.cellFetch c).locked = true)
    (ht : (if (s.cellFetch c).commitTooLate g (((s.cellFetch c).cell c).getG rs).toNat = true
      then (s.cellFetch c).commitEnds c rd rt 0x0D 0
      else ((s.cellFetch c).cellWaits c 2 (.swarm rd rt g (((s.cellFetch c).cell c).getG rs).toNat)).askCommit g
        (((s.cellFetch c).cell c).getG rs).toNat) = t) :
    Gives (.swarmCommit c rd rs rt g) s t := by
  have listed : ¬ groupReserved g = true := by
    rw [groupReserved, decide_eq_true_eq]
    omega
  have swarm : ¬ (!groupSwarm g) = true := by
    rw [groupSwarm, decide_eq_true hg]
    decide
  have pair : ¬ (g.val = 4 ∧ (!(s.cellFetch c).locked) = true) := by
    rintro ⟨four, loose⟩
    rw [locked four] at loose
    exact absurd loose (by decide)
  refine gives_hiveRun rfl h ?_
  rw [if_neg listed, if_neg (Bool.eq_false_iff.mp here), if_neg swarm, if_neg pair, ht]

/-- Bit 31 of a swarm snapshot's answer says that the time is later than asked. -/
theorem getLsbD_late {seq : Nat} (h : seq < 2 ^ 31) (late : Prop) [Decidable late] :
    late ↔ (BitVec.ofNat 32 (seq + (if late then 2 ^ 31 else 0))).getLsbD 31 = true := by
  rw [BitVec.getLsbD_ofNat]
  by_cases hl : late
  · rw [if_pos hl, Nat.add_comm, Nat.testBit_two_pow_add_eq, Nat.testBit_lt_two_pow h]
    simp [hl]
  · rw [if_neg hl, Nat.add_zero, Nat.testBit_lt_two_pow h]
    simp [hl]

/-- As `gives_gateWrite`, where the effect asks for nothing and touches neither the variant nor the queue of commands. -/
theorem quiet_gateWrite {i : Instr} {s t : State} {m : Master} {k : Nat} {f : State → State}
    (hi : exec i s = act s (fun s => s.gateWrite m k f)) (h : s.Open m k) (ht : f s = t) (hd : t.due = Due.none)
    (hv : t.variant = s.variant) (hp : t.pending = s.pending) : exec i s = .next t :=
  act_quiet hi h.1 ((gateWrite_of_open h f).trans ht) hd hv hp

/-! Barriers and mailboxes (R80, R81, R94). -/

/-- The last arrival frees the cells of a barrier's mask. -/
theorem all_arrived_iff (mask : BitVec 8) (arrived : List Nat) :
    ((List.range 8).all (fun c => !mask.getLsbD c || arrived.contains c) = true) ↔
      ∀ n, n < 8 → mask.getLsbD n = true → n ∈ arrived := by
  simp only [List.all_eq_true, List.mem_range, Bool.or_eq_true, Bool.not_eq_true', List.contains_iff_mem,
    ← Bool.not_eq_true, ← Decidable.imp_iff_not_or]

theorem mailCell_room {s : State} {n : Nat} (m : Quad) (hp : s.isPowered (cellDomain n) = true) (hn : (s.cell n).inbox.length < 16) :
    s.mailCell n m = some ((s.mapCell n (fun c => { c with inbox := c.inbox ++ [m] })).fire (64 + n)) := by
  refine if_neg ?_
  have room : ¬ 16 ≤ (s.cell n).inbox.length := by omega
  simp [hp, Config.mailboxDepth, room]

theorem mailCell_full {s : State} {n : Nat} (m : Quad) (hn : 16 ≤ (s.cell n).inbox.length) : s.mailCell n m = none :=
  if_pos (by simp [Config.mailboxDepth, hn])

theorem mailHost_room {s : State} (m : Quad) (hn : s.hive.hostBox.length < 16) :
    s.mailHost m = some (({ s with hive := { s.hive with hostBox := s.hive.hostBox ++ [m] } }).fire 72) :=
  if_neg (Nat.not_le.mpr hn)

/-- A message of four registers, its sender in place of its four high bits. -/
theorem withSender_ofNat (n sender : Nat) :
    withSender (BitVec.ofNat 128 n) sender = BitVec.ofNat 128 (n % 2 ^ 124 + sender * 2 ^ 124) := by
  rw [withSender, BitVec.toNat_ofNat, Nat.mod_mod_of_dvd n (pow_dvd_pow 2 (by decide))]

theorem sum_range_four (f : Nat → Nat) : (List.range 4).foldl (fun a i => a + f i) 0 = f 0 + f 1 + f 2 + f 3 := by
  simp [List.range_succ]

/-- How MBOX_SEND ends with what the mailbox made of the message. -/
theorem mboxSend_gives {s : State} {c : Cell} {rd : Wr} {rs : Gr} {dest : Fin 9} (h : s.Runs c) {r : Option State}
    (hr : (if dest.val = 8 then (s.cellFetch c).mailHost (withSender (((s.cellFetch c).cell c).getW rd) c)
      else (s.cellFetch c).mailCell dest (withSender (((s.cellFetch c).cell c).getW rd) c)) = r) :
    Gives (.mboxSend c rd rs dest) s ((r.getD (s.cellFetch c)).mapCell c (fun x => (x.putG rs (if r.isSome then 0 else 1)).retire)) := by
  refine gives_hiveRun rfl h ?_
  dsimp only
  rw [hr]
  cases r <;> rfl

end Sys2Proof.Machine

namespace Sys2Proof.Proofs
open Sys2Proof Sys2Proof.Machine

/-- Settles O22. -/
theorem commitsAndSnapshotsComplete : Obligations.CommitsAndSnapshotsComplete := by
  unfold Obligations.CommitsAndSnapshotsComplete
  refine ⟨?commit, ?swarm, fun s c rd h => gives_hiveRun rfl h rfl, ?snap⟩
  case commit =>
    intro s c rd rt g h
    dsimp only
    have listed : g.val < 9 → ¬ groupReserved g = true := fun hg => by
      rw [groupReserved, decide_eq_true_eq]
      omega
    refine ⟨fun hg => commit_gives h (if_pos (decide_eq_true hg)), fun hg absent => commit_gives h ?_,
      fun hg here loose => commit_gives h ?_, fun hg here locked => commit_gives h ?_⟩
    · rw [State.commitLocal, if_neg (listed hg), if_pos absent]
    · rw [State.commitLocal, if_neg (listed (by omega)), if_neg (Bool.eq_false_iff.mp here), if_pos ⟨hg, by rw [loose]; rfl⟩]
    · have pair : ¬ (g.val = 4 ∧ (!(s.cellFetch c).locked) = true) := fun p => by
        have no := p.2
        rw [locked p.1] at no
        exact absurd no (by decide)
      rw [State.commitLocal, if_neg (listed hg), if_neg (Bool.eq_false_iff.mp here), if_neg pair]
      rfl
  case swarm =>
    intro s c rd rs rt g h s0 hg here locked f
    refine ⟨fun late => swarmCommit_gives h hg here locked (if_pos late),
      fun soon => swarmCommit_gives h hg here locked (if_neg (Bool.eq_false_iff.mp soon))⟩
  case snap =>
    intro s c rd rs h
    dsimp only
    exact ⟨_, gives_hiveRun rfl h rfl, _, getLsbD_late (Nat.mod_lt _ (by decide)) _, rfl⟩

/-- Settles O23. -/
theorem orderingAndMailboxesComplete : Obligations.OrderingAndMailboxesComplete := by
  unfold Obligations.OrderingAndMailboxesComplete
  refine ⟨?fence, ?release, ?bar, ?timeout, ?send, ?receive, ?hostSend, ?hostPop⟩
  case fence =>
    intro s c rd rs k h s0
    have waits : k.toNat / 2 = 1 ↔ k.getLsbD 1 = true := by
      revert k
      decide
    refine ⟨fun go => gives_hiveRun rfl h (if_neg ?_), fun kind busy => gives_hiveRun rfl h (if_pos ⟨waits.mpr kind, ?_⟩)⟩
    · rintro ⟨kind, busy⟩
      obtain off | drained := go
      · exact absurd (waits.mp kind) (by rw [off]; decide)
      · exact absurd busy (by rw [drained]; decide)
    · rw [busy]
      rfl
  case release =>
    intro s c hs hw drained
    refine act_quiet rfl hs (if_pos ?_) hs.2 rfl rfl
    rw [hw, drained]
    rfl
  case bar =>
    intro s c rd rs b mask h s0 mine same arrived t
    have admitted : ¬ (!mask.getLsbD c) = true := by rw [mine]; decide
    have joins : ¬ (!(s0.barrier b).arrived.isEmpty && (s0.barrier b).mask != mask) = true := by
      obtain none | eq := same
      · simp [none]
      · simp [eq]
    refine ⟨fun last => gives_hiveRun rfl h ?_, fun ⟨n, hn, member, missing⟩ => gives_hiveRun rfl h ?_⟩ <;>
      refine (if_neg admitted).trans ((if_neg joins).trans ?_)
    · exact if_pos ((all_arrived_iff mask arrived).mpr last)
    · exact if_neg fun all => missing ((all_arrived_iff mask arrived).mp all n hn member)
  case timeout =>
    intro s c b rd hs hw
    refine gives_act rfl hs ?_
    rw [doBarTimeout, hw]
  case send =>
    intro s c rd rs dest h s0 msg
    refine ⟨fun host room => mboxSend_gives h ((if_pos host).trans (mailHost_room _ room)), fun cell powered room => ?_,
      fun cell full => ?_⟩
    · exact mboxSend_gives h ((if_neg (by omega)).trans (mailCell_room _ powered room))
    · exact mboxSend_gives h ((if_neg (by omega)).trans (mailCell_full _ full))
  case receive =>
    intro s c rd rs sel h
    refine ⟨fun m rest waits => gives_hiveRun rfl h ?_, fun none => gives_hiveRun rfl h ?_⟩
    · simp only [State.mapCell, waits]
    · simp only [State.mapCell, none]
  case hostSend =>
    intro s m c v h powered room word msg
    refine gives_gateWrite rfl h ?_
    dsimp only
    rw [sum_range_four, withSender_ofNat, mailCell_room _ powered room]
  case hostPop =>
    intro s m v h
    exact quiet_gateWrite rfl h rfl h.1.2 rfl rfl

/-- Settles O24. -/
theorem csrsStopsAndFaultsComplete : Obligations.CsrsStopsAndFaultsComplete := by
  unfold Obligations.CsrsStopsAndFaultsComplete
  refine ⟨?read, ?write, fun s c i h => stop_gives h i, fun s c h => ⟨gives_hiveRun rfl h rfl, gives_hiveRun rfl h rfl⟩, ?faults, ?host⟩
  case read =>
    intro s c rd csr h
    refine ⟨fun v hv => gives_hiveRun rfl h ?_, fun none => gives_hiveRun rfl h ?_⟩
    · simp only [hv]
      rfl
    · simp only [none]
  case write =>
    intro s c rs csr h
    refine ⟨fun x hx => gives_hiveRun rfl h ?_, fun x hx => gives_hiveRun rfl h ?_, fun x hx => gives_hiveRun rfl h ?_⟩ <;>
      simp only [hx]
  case faults =>
    intro s c hs live powered
    refine ⟨gives_act rfl hs (if_pos (by rw [live, powered]; rfl)), fun wdog => gives_act rfl hs (if_pos ?_)⟩
    rw [live, powered, bne_iff_ne.mpr wdog]
    rfl
  case host =>
    intro s m c h
    refine ⟨fun live => ?_, fun image still load unload powered => ?_, fun load unload => ⟨fun drained => ?_, fun busy => ?_⟩⟩
    · refine gives_gateWrite rfl h ?_
      exact (if_neg (by decide)).trans ((if_neg (by decide)).trans ((if_pos (by decide)).trans (if_pos live)))
    · refine quiet_gateWrite rfl h ?_ h.1.2 rfl rfl
      refine (if_neg (by decide)).trans ((if_neg (by decide)).trans ((if_neg (by decide)).trans (if_pos ?_)))
      exact ⟨by decide, image, by rw [still]; rfl, by rw [load]; simpa using unload, powered⟩
    · refine gives_gateWrite rfl h ((if_neg (by decide)).trans ((if_pos (by decide)).trans ?_))
      simp [load, unload, drained]
    · refine gives_gateWrite rfl h ((if_neg (by decide)).trans ((if_pos (by decide)).trans ?_))
      simp [load, unload, busy]

end Sys2Proof.Proofs

/-! PROOFS. The loading of images (spec/02_hive.md R95 to R98). -/
namespace Sys2Proof.Machine

/-- Declarations change registers and meters only. -/
theorem redeclare_eq (s : State) : ∃ (r : Sparse Word) (m : Sparse Meter), s.redeclare = { s with regs := r, meters := m } := by
  unfold State.redeclare
  refine List.foldlRecOn (motive := fun t => ∃ (r : Sparse Word) (m : Sparse Meter), t = { s with regs := r, meters := m }) _ _ ⟨s.regs, s.meters, rfl⟩ ?_
  rintro t ⟨r, m, rfl⟩ w _
  exact iteInduction (motive := fun x : State => ∃ (r : Sparse Word) (m : Sparse Meter), x.setFld _ _ _ _ = { s with regs := r, meters := m })
    (fun _ => ⟨_, _, rfl⟩) (fun _ => ⟨_, _, rfl⟩)

/-- The state in which a verified image is installed (R96, step 7). -/
def State.installed (s : State) (l : Loader) (h : ImgHead) (slot : Nat) : State :=
  let s := s.mapKpr (fun k => { k with highest := sset 0 k.highest slot (max h.version (sget 0 k.highest slot)) })
  let s := s.mapCell l.cell (fun c =>
    { c with state := 1, image := true, entry := h.entry, build := BitVec.ofNat 128 h.build, trigClaims := BitVec.ofNat 16 h.trigs,
             domClaims := BitVec.ofNat 32 h.doms, decls := readDecls l.image h.decls, hostStopped := false,
             framePeriod := BitVec.ofNat 32 (if h.frame then h.period else 0) })
  let s := s.mapCell l.cell (fun c => { c with wdog := c.wdogInit })
  s.redeclare

/-- The cell of an image that is installed, and what else stands. -/
theorem installed_cell (s : State) (l : Loader) (h : ImgHead) (slot : Nat) :
    let t := s.installed l h slot
    (t.cell l.cell).image = true ∧ (t.cell l.cell).entry = h.entry ∧ (t.cell l.cell).domClaims = BitVec.ofNat 32 h.doms ∧
      (t.cell l.cell).state = 1 ∧ t.mem = s.mem ∧ t.doms = s.doms := by
  unfold State.installed
  extract_lets s1 s2 s3
  obtain ⟨r, m, eq⟩ := redeclare_eq s3
  have cell : s3.redeclare.cell l.cell = s3.cell l.cell := by rw [eq]; rfl
  have mem : s3.redeclare.mem = s.mem := by rw [eq]; rfl
  have doms : s3.redeclare.doms = s.doms := by rw [eq]; rfl
  rw [cell, mem, doms]
  simp [s3, s2]

/-- A verified image is installed, and its cell started where the image asks for it. -/
theorem imageVerified_gives {s : State} (hs : s.Live) (hstep : s.hive.loader.step = .verifying)
    (ok : s.verifyImage s.hive.loader.image = 0) :
    let l := s.hive.loader
    let h := readHead l.image
    let t := s.installed l h (imgNum (l.image.drop (h.length - 100)) 0 1)
    Gives .imageLoadVerified s ((if h.auto && t.isPowered (cellDomain l.cell) then t.startCell l.cell 0 else t).loadEnds 0x01) := by
  refine gives_act rfl hs ((if_neg ?_).trans ((if_neg (not_not_intro ok)).trans rfl))
  rw [hstep]
  decide

end Sys2Proof.Machine

namespace Sys2Proof.Proofs
open Sys2Proof Sys2Proof.Machine

/-- Settles O26. -/
theorem imageLoadCompletes : Obligations.ImageLoadCompletes := by
  unfold Obligations.ImageLoadCompletes
  refine ⟨?start, ?drained, ?busy, ?copy, ?verified⟩
  case start =>
    intro s m h idle
    refine gives_gateWrite rfl h (if_neg ?_)
    simp only [idle]
    decide
  case drained =>
    intro s hs unloads step drained
    refine gives_act rfl hs ?_
    simp [doImageLoadDrained, unloads, step, drained]
  case busy =>
    intro s hs unloads step busy
    refine gives_act rfl hs ?_
    simp [doImageLoadBusyTags, unloads, step, busy]
  case copy =>
    intro s hs step keeper l h there inside whole s1 img at_ s2
    have begins : ¬ (l.step != .copying || !(s.kprState == 2 || s.kprState == 3) || !s.rangeThere l.src 0x40) = true := by
      obtain two | three := keeper
      · simp [l, step, two, there]
      · simp [l, step, three, there]
    have answers : ¬ (inDramComb s.variant l.src h.length = true ∧ (!s.rangeThere l.src h.length) = true) := by
      rw [whole]
      exact fun p => absurd p.2 (by decide)
    have read : (if inDramComb s.variant l.src h.length = true then s.meet l.src h.length else s) = s1 := if_pos inside
    refine ⟨fun clean checked same => ?_, fun poisoned => ?_⟩ <;>
      refine gives_act rfl hs ((if_neg begins).trans ((if_neg answers).trans ?_)) <;> dsimp only
    · have good : (s1.poisonedAt l.src h.length || s1.checkHead l.src != 0 || h.cell != l.cell) = false := by
        simp [clean, checked, same]
      simp only [l, h, read] at good ⊢
      rw [good]
      rfl
    · have bad : (s1.poisonedAt l.src h.length || s1.checkHead l.src != 0 || h.cell != l.cell) = true := by
        simp [poisoned]
      simp only [l, h, read] at bad ⊢
      rw [bad]
      rfl
  case verified =>
    intro s hs step l
    refine ⟨fun refused => gives_act rfl hs ?_, fun ok => ⟨_, imageVerified_gives hs step ok, ?_⟩⟩
    · refine (if_neg ?_).trans (if_pos refused)
      rw [step]
      decide
    · obtain ⟨image, entry, doms, state, mem, powers⟩ := installed_cell s l (readHead l.image)
        (imgNum (l.image.drop ((readHead l.image).length - 100)) 0 1)
      generalize s.installed l _ _ = t at *
      have powered : t.isPowered (cellDomain l.cell) = s.isPowered (cellDomain l.cell) :=
        congrArg (fun d : Doms => d.powered.getLsbD _) powers
      by_cases starts : ((readHead l.image).auto && t.isPowered (cellDomain l.cell)) = true
      · have auto := (Bool.and_eq_true_iff.mp starts).1
        rw [if_pos starts, State.startCell, cell_mapCell_self]
        exact ⟨image, entry, doms, mem, fun manual => absurd (auto.symm.trans manual) (by decide), fun _ _ => rfl⟩
      · rw [if_neg starts]
        refine ⟨image, entry, doms, mem, fun _ => state, fun auto on => absurd ?_ starts⟩
        rw [powered, on, auto]
        rfl

end Sys2Proof.Proofs

/-! PROOFS. The descriptors of a sensor port (spec/03_sensor_intake.md R113 to R130). -/
namespace Sys2Proof.Machine

/-- As `gives_takeAs`, for a head that its command may take now. -/
theorem gives_takeWhen {i : Instr} {s t : State} {f : State → State} {q op : Nat} {lens : List Nat} {ok : Taken → Bool}
    {run : Taken → State → State} {d : Desc} {rest : List Desc} (hi : exec i s = act s f)
    (hf : f s = s.takeWhen q op lens ok run) (h : s.Ready q op lens d rest) (hok : ok (d.taken 0) = true)
    (ht : run (s.run q d) (s.taken q d rest) = t) : Gives i s (t.settleHead q) :=
  gives_act hi h.1 (by rw [hf, takeWhen_ready h ok run hok, ht])

/-- A port whose setup awaits no map clears none when a descriptor is taken (R128). -/
theorem gangLapse_mapped {s : State} {n : Nat} (h : (s.port n).awaitMap = false) : s.gangLapse n = s :=
  if_neg (Bool.eq_false_iff.mp h)

end Sys2Proof.Machine

namespace Sys2Proof.Proofs
open Sys2Proof Sys2Proof.Machine

/-- Settles O27. -/
theorem sensorDescriptorsComplete : Obligations.SensorDescriptorsComplete := by
  unfold Obligations.SensorDescriptorsComplete
  refine ⟨?setup, ?map, ?frame, ?xtrig, ?mclk, ?stop⟩
  case setup =>
    intro s n d rest h armed frame mapped partner split t v u ok overlap gang second s0
    have lapse : s0.gangLapse n = s0 := gangLapse_mapped mapped
    refine gives_takeWhen rfl rfl h ?_ ?_
    · simp [armed, frame]
    have h1 : ¬ s0.gangPartner n = true := Bool.eq_false_iff.mp partner
    have h2 : ¬ (2 ≤ n.val ∧ s0.splitOn = true) := fun p => absurd p.2 (Bool.eq_false_iff.mp (split p.1))
    have h3 : ¬ (!setupOk n s0.variant t (decodeSetup t)) = true := by
      rw [Bool.not_eq_true', Bool.not_eq_false]
      exact ok
    have h4 : ¬ (u.gang && (s0.port (n.val + 1)).setup.isSome) = true := by
      simp only [Bool.and_eq_true]
      exact fun p => absurd p.2 (by rw [show (s0.port (n.val + 1)).setup = none from (gang p.1).1]; decide)
    have h5 : ¬ (u.gang && !s0.isPowered (n.val + 3)) = true := by
      simp only [Bool.and_eq_true]
      exact fun p => absurd p.2 (by rw [show s0.isPowered (n.val + 3) = true from (gang p.1).2]; decide)
    have h6 : ¬ (u.split && ((s0.port 2).setup.isSome || (s0.port 3).setup.isSome)) = true := by
      simp only [Bool.and_eq_true]
      refine fun p => absurd p.2 ?_
      obtain ⟨two, three, -⟩ := second p.1
      rw [show (s0.port 2).setup = none from two, show (s0.port 3).setup = none from three]
      decide
    have h7 : ¬ (u.split && (!s0.isPowered 7 || !s0.isPowered 9)) = true := by
      simp only [Bool.and_eq_true]
      refine fun p => absurd p.2 ?_
      obtain ⟨-, -, seven, nine⟩ := second p.1
      rw [show s0.isPowered 7 = true from seven, show s0.isPowered 9 = true from nine]
      decide
    have h8 : ¬ s0.bufferOverlaps n u = true := Bool.eq_false_iff.mp overlap
    dsimp only
    rw [lapse]
    exact (if_neg h1).trans ((if_neg h2).trans ((if_neg h3).trans ((if_neg h4).trans ((if_neg h5).trans ((if_neg h6).trans
      ((if_neg h7).trans (if_neg h8)))))))
  case map =>
    intro s n d rest u h partner setup await t map zeros
    refine gives_takeAs rfl h ?_
    have h1 : ¬ (s.taken n d rest).gangPartner n = true := Bool.eq_false_iff.mp partner
    have hsetup : ((s.taken n d rest).port n).setup = some u := setup
    have hawait : ((s.taken n d rest).port n).awaitMap = true := await
    rw [if_neg h1, hsetup, hawait]
    exact if_pos (by rw [map, zeros]; rfl)
  case frame =>
    intro s n d rest u h armed frame mapped partner split setup t report embed zeros aligned inside embeds cmd
    have lapse : (s.taken n d rest).gangLapse n = (s.taken n d rest) := gangLapse_mapped mapped
    refine gives_takeWhen rfl rfl h ?_ ?_
    · simp [armed, frame]
    have h1 : ¬ (s.taken n d rest).gangPartner n = true := Bool.eq_false_iff.mp partner
    have h2 : ¬ (2 ≤ n.val ∧ (s.taken n d rest).splitOn = true) := fun p => absurd p.2 (Bool.eq_false_iff.mp (split p.1))
    have h3 : ¬ (!t.zeros [(0, 23, 0), (1, 31, 0)] || report % 64 != 0) = true := by simp [zeros, aligned]
    have h4 : ¬ (u.embedded != 0 && embed % 64 != 0) = true := by
      simp only [Bool.and_eq_true, bne_iff_ne]
      exact fun p => p.2 (embeds p.1).1
    have h5 : ¬ (!inMemory s.variant report 64 || (u.embedded != 0 && !inMemory s.variant embed (u.embedded * u.w * 2))) = true := by
      simp only [inside, Bool.not_true, Bool.false_or, Bool.and_eq_true, bne_iff_ne]
      exact fun p => absurd p.2 (by rw [(embeds p.1).2]; decide)
    have hsetup : ((s.taken n d rest).port n).setup = some u := setup
    dsimp only
    rw [lapse]
    refine (if_neg h1).trans ((if_neg h2).trans ((if_neg h3).trans ?_))
    rw [hsetup]
    exact (if_neg h4).trans (if_neg h5)
  case xtrig =>
    intro s n d rest h mapped t some zeros x p s0
    have lapse : (s.taken n d rest).gangLapse n = (s.taken n d rest) := gangLapse_mapped mapped
    have good : ¬ (t.fld 0 80 57 = 0 ∨ t.fld 0 56 0 ≠ 0) := fun b => b.elim some (fun b => b zeros)
    refine ⟨fun pulse => ?_, fun pulse same => ?_, fun pulse other => ?_⟩ <;> refine gives_takeAs rfl h ?_ <;> dsimp only <;>
      rw [lapse] <;> refine (if_neg good).trans ?_
    · exact congrArg (State.complete · n t.tag stSuccess 0) (if_pos pulse)
    · exact congrArg (State.complete · n t.tag stSuccess 0) ((if_neg (Bool.eq_false_iff.mp pulse)).trans (if_pos same))
    · exact congrArg (State.complete · n t.tag stSuccess 0) ((if_neg (Bool.eq_false_iff.mp pulse)).trans (if_neg other))
  case mclk =>
    intro s n d rest h mapped t f low high zeros
    have lapse : (s.taken n d rest).gangLapse n = (s.taken n d rest) := gangLapse_mapped mapped
    refine gives_takeAs rfl h ?_
    dsimp only
    rw [lapse]
    exact if_neg (not_or.mpr ⟨Nat.not_lt.mpr low, not_or.mpr ⟨Nat.not_lt.mpr high, not_not_intro zeros⟩⟩)
  case stop =>
    intro s n d rest h mapped zeros
    have lapse : (s.taken n d rest).gangLapse n = (s.taken n d rest) := gangLapse_mapped mapped
    have good := not_not_intro zeros
    refine ⟨fun armed frame => ?_, fun busy => ?_⟩ <;> refine gives_takeAs rfl h ?_ <;> dsimp only <;> rw [lapse] <;>
      refine (if_neg good).trans ?_
    · refine if_neg ?_
      rw [show ((s.taken n d rest).port n).armed = none from armed, show ((s.taken n d rest).port n).frame = none from frame]
      decide
    · exact if_pos (Bool.or_eq_true_iff.mpr busy)

end Sys2Proof.Proofs

/-! PROOFS. What arrives at a sensor port, its timeouts and triggers (spec/03_sensor_intake.md R102 to R120). -/
namespace Sys2Proof.Machine

/-! SLVS lines (R104 to R107). -/

section
variable {s : State} {n : Nat} {u : PortSetup} {ls : List (LaneLine × Nat)}

/-- How far the lanes of a line lie apart. -/
def laneSkew (ls : List (LaneLine × Nat)) : Nat :=
  (ls.map (fun p => p.1.skew)).foldl max 0 - (ls.map (fun p => p.1.skew)).foldl min ((ls.map (fun p => p.1.skew)).headD 0)

theorem deskew_hunting (h : ls.all (fun p => (sget LaneSt.empty (s.port n).lanes p.2).locked) = false) :
    s.deskew n u ls = (s, false) := if_pos (by rw [h]; rfl)

theorem deskew_wide (h : ls.all (fun p => (sget LaneSt.empty (s.port n).lanes p.2).locked) = true) (wide : 32 < laneSkew ls) :
    s.deskew n u ls =
      (let s := ((s.setFld (Reg.spLaneLock n) 31 16 (min (laneSkew ls) 65535)).mapPort n
          (fun p => { p with aligned := false, lanes := [] })).spLanes n n 0
       (((if u.gang then s.spLanes (n + 1) n 16 else s).spState n 3).fire (80 + n), false)) := by
  rw [State.deskew, if_neg (by rw [h]; decide)]
  exact if_pos wide

theorem deskew_aligned (h : ls.all (fun p => (sget LaneSt.empty (s.port n).lanes p.2).locked) = true) (near : laneSkew ls ≤ 32)
    (aligned : (s.port n).aligned = true) :
    s.deskew n u ls = (s.setFld (Reg.spLaneLock n) 31 16 (min (laneSkew ls) 65535), true) := by
  rw [State.deskew, if_neg (by rw [h]; decide)]
  exact (if_neg (Nat.not_lt.mpr near)).trans (if_pos aligned)

theorem tallyLanes_port (s : State) (n : Nat) (u : PortSetup) (ls : List (LaneLine × Nat)) (k : Nat) :
    (s.tallyLanes n u ls).port k = s.port k := by
  have tally : ∀ (s : State) (w i : Nat), (s.tally w i).port k = s.port k := fun s w i =>
    iteInduction (motive := fun t : State => t.port k = s.port k) (fun _ => rfl) (fun _ => rfl)
  refine iteInduction (motive := fun t : State => t.port k = s.port k) (fun _ => ?_) (fun _ => tally ..)
  rw [tally, tally]

/-- What follows the deskew of a line: the line is taken, or not, and the sequence at its end moves the locks. -/
def State.afterDeskew (n : Nat) (u : PortSetup) (ls : List (LaneLine × Nat)) (cut : Bool) (r : State × Bool) : State :=
  let s := match r.2, startCode u ls with
    | true, some (code, e) =>
      if code = 7 ∨ code = 5 ∨ code = 6 then r.1
      else if u.exposures ≤ e then r.1.strayData n
      else r.1.takeSlvs n u ls cut code e
    | _, _ => r.1
  if (s.port n).setup = some u then s.lockLanes n u ls (fun l => hasSequence u l.endPre l.endCode) else s

theorem afterDeskew_takes {cut : Bool} {code e : Nat} (start : startCode u ls = some (code, e)) (pixels : ¬ (code = 7 ∨ code = 5 ∨ code = 6))
    (known : ¬ u.exposures ≤ e) : State.afterDeskew n u ls cut (s, true) =
      (let s := s.takeSlvs n u ls cut code e
       if (s.port n).setup = some u then s.lockLanes n u ls (fun l => hasSequence u l.endPre l.endCode) else s) := by
  simp only [State.afterDeskew, start, if_neg pixels, if_neg known]

end

/-- A port that is set up takes its lines. -/
theorem slvsLine_gives {s t : State} {n : Fin 4} {line : SlvsLine} {u : PortSetup} (hs : s.Live) (setup : (s.port n).setup = some u)
    (mode : u.mode = 0) (mapped : (s.port n).awaitMap = false) (powered : s.isPowered (n.val + 2) = true)
    (fence : s.isFenced (n.val + 2) = false) (works : s.unitStalled (0x20 + n) = false) {ls : List (LaneLine × Nat)}
    (hls : (List.range (if u.gang then 2 * u.lanes else u.lanes)).map (logicalLane u line.lanes) = ls) {r : State × Bool}
    (hr : ((s.intake n line.cut).lockLanes n u ls (fun l => hasSequence u l.pre l.code)).deskew n u ls = r)
    (ht : State.afterDeskew n u ls line.cut r = t) : Gives (.slvsLine n line) s t := by
  refine gives_act rfl hs ?_
  have open_ : ¬ (u.mode ≠ 0 ∨ (s.port n).awaitMap = true ∨ s.isPowered (n.val + 2) = false ∨ s.isFenced (n.val + 2) = true) := by
    simp [mode, mapped, powered, fence]
  simp only [doSlvsLine, setup, open_, works, if_false, Bool.false_eq_true, hls, hr]
  exact ht

end Sys2Proof.Machine

namespace Sys2Proof.Proofs
open Sys2Proof Sys2Proof.Machine

/-- Settles O28. -/
theorem sensorEventsComplete : Obligations.SensorEventsComplete := by
  unfold Obligations.SensorEventsComplete
  refine ⟨⟨?slvs, ?take, ?short, ?long, ?packet⟩, ?lock, ?sof, fun s n hs => gives_act rfl hs rfl, ?pulse, ?beacon⟩
  case slvs =>
    intro s n line u hs setup mode mapped powered fence works ls s1 finish
    have run := fun {t r} => slvsLine_gives (line := line) (t := t) (r := r) hs setup mode mapped powered fence works rfl
    refine ⟨fun hunting => run (deskew_hunting hunting) rfl, fun locked => ?_⟩
    refine ⟨fun wide => run (deskew_wide locked wide) rfl, fun code e near aligned start pixels exposure => ?_⟩
    refine run (deskew_aligned locked near aligned) ?_
    have line_ : ¬ (code = 7 ∨ code = 5 ∨ code = 6) := by omega
    have known : ¬ u.exposures ≤ e := by omega
    exact afterDeskew_takes start line_ known
  case take =>
    intro s n u ls cut e fr live crc line_ none
    have live' : ((s.tallyLanes n u ls).port n).live = some fr := by
      rw [tallyLanes_port]
      exact live
    simp [State.takeSlvs, none, live', crc, line_]
  case short =>
    intro s n u vc num e h hs setup ok works exposure s1
    subst ok
    refine ⟨gives_act rfl hs ?_, gives_act rfl hs ?_, act_quiet rfl hs ?_ hs.2 rfl rfl⟩ <;>
      simp [doCsi2ShortPacket, setup, works, State.csiHeader, exposure] <;> rfl
  case long =>
    intro s n u pkt e fr hs setup link ok works exposure width s1 live
    refine gives_act rfl hs ?_
    have link' : ¬ (u.mode = 1 ∧ pkt.link.val = 1) := fun p => by
      have zero := link p.1
      rw [zero] at p
      exact absurd p.2 (by decide)
    have pixels : (pkt.dt == 0x12 && u.vc.getD 3 16 == pkt.vc) = false := by
      have raw : pkt.dt ≠ 0x12 := fun dt => by
        rw [dt] at width
        exact absurd width (by simp [rawWidth])
      simp [raw]
    simp only [doCsi2LongPacket, setup, link', works, ok, State.csiHeader, pixels, exposure, width, decide_true, if_false,
      Bool.false_eq_true]
    dsimp only [s1] at live ⊢
    simp only [live]
  case packet =>
    intro s n u pkt e fr one
    exact if_pos one
  case lock =>
    intro s n k hs alone locked
    refine gives_act rfl hs ?_
    simp [doLaneLockTimeout, alone, locked]
  case sof =>
    intro s n cmd hs armed timeout
    refine gives_act rfl hs ?_
    rw [doSofTimeout, armed]
    exact if_neg timeout
  case pulse =>
    intro s n x hs pulse
    constructor
    · intro setup next
      refine act_quiet rfl hs ?_ hs.2 rfl rfl
      simp [doXtrigPulseEnd, pulse, next, Port.xtrigRest, setup]
    · intro next
      refine act_quiet rfl hs ?_ hs.2 rfl rfl
      simp [doXtrigPulseEnd, pulse, next, Port.xtrigRest]
  case beacon =>
    intro s n hs armed past
    refine gives_act rfl hs ?_
    simp [doBeaconTriggerAct, armed, past]

end Sys2Proof.Proofs

/-!
PROOFS. What reads, stores and completions may change: a read meets the errors of memory, a store and a completion reach memory and
the queues, the room of a port its line buffers (spec/01_fabric.md R25 to R43, spec/03_sensor_intake.md R119 to R126).
-/
namespace Sys2Proof.Machine

/-! Reads. -/

/-- `t` is `s` but for signals, poison and flaws. -/
structure State.Meets (s t : State) : Prop where
  eq : t = { s with regs := t.regs, hive := t.hive, fgh := t.fgh, due := t.due, out := t.out, rateMade := t.rateMade,
                    poison := t.poison, flaws := t.flaws }

theorem State.Signals.meets {s t : State} (h : s.Signals t) : s.Meets t := ⟨by rw [h.eq]⟩

theorem meets_refl (s : State) : s.Meets s := ⟨rfl⟩

theorem State.Meets.trans {s t u : State} (h : s.Meets t) (k : t.Meets u) : s.Meets u := by
  constructor
  rw [k.eq, h.eq]

theorem meets_ite {s t u : State} {c : Prop} [Decidable c] (ht : s.Meets t) (hu : s.Meets u) : s.Meets (if c then t else u) :=
  iteInduction (fun _ => ht) (fun _ => hu)

theorem meets_foldl {α : Type} {s t : State} {f : State → α → State} (h : s.Meets t) (hf : ∀ (t : State) (a : α), t.Meets (f t a))
    (l : List α) : s.Meets (l.foldl f t) :=
  List.foldlRecOn (motive := s.Meets) l f h fun t h a _ => h.trans (hf t a)

theorem bump_signals (s : State) (k hi lo n : Nat) : s.Signals (s.bump k hi lo n) := ⟨rfl⟩

theorem eccUncorrectable_signals (s : State) (w n k : Nat) : s.Signals (s.eccUncorrectable w n k) :=
  signals_ite (bump_signals ..) (signals_refl s)

theorem report_signals (s : State) (source sub code detail : Nat) : s.Signals (s.report source sub code detail) :=
  reportSev_signals ..

theorem fixWords_signals (s : State) (w n : Nat) : ∀ k, s.Signals (s.fixWords w n k)
  | 0 => signals_refl s
  | k + 1 => (eccCorrected_signals s w n).trans (fixWords_signals _ w n k)

theorem mendBurst_meets (s : State) (a : Nat) : s.Meets (s.mendBurst a) := ⟨rfl⟩

theorem mend_meets (s : State) (w : Nat) : s.Meets (s.mend w) := ⟨rfl⟩

theorem poisonRange_meets (s : State) (a len : Nat) : s.Meets (s.poisonRange a len) := ⟨rfl⟩

theorem burstRead_meets (s : State) (a : Nat) (e again : BurstErr) : s.Meets (s.burstRead a e again).1 := by
  unfold State.burstRead
  extract_lets a e again p x n mended retried counted low high reported poisoned
  split
  · exact meets_refl s
  split
  · exact (fixWords_signals ..).meets.trans (mendBurst_meets ..)
  split
  · exact ((bump_signals ..).trans (fixWords_signals ..)).meets.trans (mendBurst_meets ..)
  have h1 : s.Meets counted := ((mendBurst_meets ..).trans (bump_signals ..).meets).trans
    ((fixWords_signals ..).trans (eccUncorrectable_signals ..)).meets
  have h2 : s.Meets high := (h1.trans (setFld_signals ..).meets).trans ((setFld_signals ..).trans (setFld_signals ..)).meets
  have h3 : s.Meets reported := meets_ite (h2.trans ((bump_signals ..).trans (report_signals ..)).meets) (h2.trans (report_signals ..).meets)
  exact (h3.trans (poisonRange_meets ..)).trans (fire_signals ..).meets

theorem combRead_meets (s : State) (a : Nat) (e : WordErr) : s.Meets (s.combRead a e).1 := by
  unfold State.combRead State.combMeet
  extract_lets a n
  split
  · exact meets_refl s
  split
  · exact meets_refl s
  · exact (eccCorrected_signals ..).meets.trans (mend_meets ..)
  · exact ((((eccUncorrectable_signals ..).trans (report_signals ..)).meets.trans (mend_meets ..)).trans (poisonRange_meets ..)).trans
      (fire_signals ..).meets

theorem meetWord_meets (s : State) (w : Nat) : s.Meets (s.meetWord w) := by
  unfold State.meetWord
  dsimp only
  split
  · exact meets_ite (meets_refl s) (burstRead_meets ..)
  · exact combRead_meets ..
  · exact (meetAt_signals ..).meets
  · exact (meetAt_signals ..).meets
  · exact meets_refl s

theorem touchFailed_signals (s : State) (a len : Nat) : s.Signals (s.touchFailed a len) :=
  signals_ite (signals_refl s)
    (signals_foldl (signals_refl s) (fun t _ => signals_ite (eccUncorrectable_signals ..) (signals_refl t)) _)

theorem meet_meets (s : State) (a len : Nat) : s.Meets (s.meet a len) := by
  have touched := (touchFailed_signals s a len).meets
  exact meets_ite touched (meets_foldl touched meetWord_meets _)

theorem meetEdges_meets (s : State) (a len : Nat) : s.Meets (s.meetEdges a len) :=
  meets_ite (meets_refl s) (meets_foldl (meets_refl s) meetWord_meets _)

theorem accessFault_signals (s : State) (m : Master) (write : Bool) (a : Nat) : s.Signals (s.accessFault m write a) :=
  report_signals ..

theorem goneAccess_signals (s : State) (m : Master) (write : Bool) (a : Nat) : s.Signals (s.goneAccess m write a) :=
  signals_ite (accessFault_signals ..) (signals_refl s)

/-! Stores and completions. -/

/-- `t` is `s` but for what reads meet, the memory, the queues and the sensor ports. -/
structure State.Moves (s t : State) : Prop where
  eq : t = { s with regs := t.regs, hive := t.hive, fgh := t.fgh, due := t.due, out := t.out, rateMade := t.rateMade,
                    poison := t.poison, flaws := t.flaws, mem := t.mem, queues := t.queues, cqs := t.cqs, ports := t.ports }

theorem State.Meets.moves {s t : State} (h : s.Meets t) : s.Moves t := ⟨by rw [h.eq]⟩

theorem State.Signals.moves {s t : State} (h : s.Signals t) : s.Moves t := h.meets.moves

theorem moves_refl (s : State) : s.Moves s := ⟨rfl⟩

theorem State.Moves.trans {s t u : State} (h : s.Moves t) (k : t.Moves u) : s.Moves u := by
  constructor
  rw [k.eq, h.eq]

theorem moves_ite {s t u : State} {c : Prop} [Decidable c] (ht : s.Moves t) (hu : s.Moves u) : s.Moves (if c then t else u) :=
  iteInduction (fun _ => ht) (fun _ => hu)

theorem moves_foldl {α : Type} {s t : State} {f : State → α → State} (h : s.Moves t) (hf : ∀ (t : State) (a : α), t.Moves (f t a))
    (l : List α) : s.Moves (l.foldl f t) :=
  List.foldlRecOn (motive := s.Moves) l f h fun t h a _ => h.trans (hf t a)

/-- A step that may not be: what it gives, where it is, moves. -/
def State.MovesTo (s : State) (o : Option State) : Prop := ∀ t, o = some t → s.Moves t

theorem movesTo_none (s : State) : s.MovesTo none := fun _ h => absurd h (Option.some_ne_none _).symm

theorem movesTo_some {s t : State} (h : s.Moves t) : s.MovesTo (some t) := by
  rintro _ ⟨⟩
  exact h

theorem setQueue_moves (s : State) (q : Nat) (c : CmdQueue) : s.Moves (s.setQueue q c) := ⟨rfl⟩

theorem setCq_moves (s : State) (k : Nat) (l : List CqItem) : s.Moves (s.setCq k l) := ⟨rfl⟩

theorem mapPort_moves (s : State) (n : Nat) (f : Port → Port) : s.Moves (s.mapPort n f) := ⟨rfl⟩

theorem storeP_moves (s : State) (a : Nat) (bs : List Byte) (bad : Bool) : s.Moves (s.storeP a bs bad) := by
  constructor
  rw [storeP_eq]

theorem store_moves (s : State) (a : Nat) (bs : List Byte) : s.Moves (s.store a bs) := storeP_moves ..

theorem masterStore_moves (s : State) (m : Master) (a : Nat) (bs : List Byte) : s.Moves (s.masterStore m a bs) := by
  unfold State.masterStore
  refine moves_ite (accessFault_signals ..).moves ?_
  extract_lets met
  have h : s.Moves met := ((goneAccess_signals ..).trans (touchFailed_signals ..)).moves.trans (meetEdges_meets ..).moves
  split
  · exact (moves_foldl h (fun t _ => moves_ite (moves_refl t) (store_moves ..)) _).trans (accessFault_signals ..).moves
  · exact h.trans (store_moves ..)

theorem unitStore_moves (s : State) (w a : Nat) (bs : List Byte) : s.Moves (s.unitStore w a bs) := masterStore_moves ..

theorem endItemTag_moves (s : State) (i : CqItem) : s.Moves (s.endItemTag i) := moves_ite (setQueue_moves ..) (moves_refl s)

theorem discardItem_moves (s : State) (n : Nat) (i : CqItem) : s.Moves (s.discardItem n i) :=
  ((bump_signals ..).moves.trans (endItemTag_moves ..)).trans (fire_signals ..).moves

theorem postItem_moves (s : State) (k : Nat) (i : CqItem) : s.MovesTo (s.postItem k i) := by
  unfold State.postItem
  dsimp only
  split
  · exact movesTo_some (discardItem_moves ..)
  split
  · exact movesTo_some ((setCq_moves ..).trans (fire_signals ..).moves)
  split
  · exact movesTo_some (discardItem_moves ..)
  · exact movesTo_none s

theorem hostRingPost_moves (s : State) (n : Nat) (i : Quad) : s.MovesTo (s.hostRingPost n i) := by
  unfold State.hostRingPost
  dsimp only
  split
  · exact movesTo_none s
  · exact movesTo_some ((unitStore_moves ..).trans ((setFld_signals ..).trans (fire_signals ..)).moves)

theorem postFrom_moves (s : State) (q k : Nat) (i : CqItem) : s.MovesTo (s.postFrom q k i) := by
  unfold State.postFrom
  split
  · exact postItem_moves s k i
  · exact hostRingPost_moves s (q - 60) i.word

theorem flush_moves (q : Nat) : ∀ (f : Nat) (s : State), s.Moves (State.flush q f s)
  | 0, s => moves_refl s
  | f + 1, s => by
    unfold State.flush
    dsimp only
    split
    · split
      next posted => exact ((postFrom_moves _ _ _ _ _ posted).trans (setQueue_moves ..)).trans (flush_moves q f _)
      next => exact moves_refl s
    · split
      · exact moves_refl s
      · split
        · exact moves_refl s
        · split
          · exact moves_refl s
          next posted =>
            exact (((postFrom_moves _ _ _ _ _ posted).trans (setQueue_moves ..)).trans
              (signals_foldl (signals_refl _) fire_signals _).moves).trans (flush_moves q f _)

theorem settleQueue_moves (s : State) (q : Nat) : s.Moves (s.settleQueue q) := flush_moves ..

theorem complete_moves (s : State) (q tag st : Nat) (res : BitVec 64) : s.Moves (s.complete q tag st res) :=
  (setQueue_moves ..).trans (settleQueue_moves ..)

/-! The frames of a port (R119 to R126). -/

theorem bufPut_moves (s : State) (n : Nat) (it : Nat → BufItem) : s.Moves (s.bufPut n it) := by
  unfold State.bufPut
  split
  · exact moves_refl s
  · exact mapPort_moves ..

theorem deliver_moves (n : Nat) (u : PortSetup) : ∀ (f : Nat) (s : State), s.Moves (State.deliver n u f s)
  | 0, s => moves_refl s
  | f + 1, s => moves_ite (((mapPort_moves ..).trans (bufPut_moves ..)).trans (deliver_moves n u f _)) (moves_refl s)

theorem storeLine_moves (s : State) (n e : Nat) (u : PortSetup) (l : List Nat) : s.Moves (s.storeLine n e u l) :=
  ((moves_foldl (moves_refl s) (fun _ _ => unitStore_moves ..) _).trans (mapPort_moves ..)).trans (deliver_moves ..)

theorem padOn_moves (n : Nat) (u : PortSetup) : ∀ (f : Nat) (s : State), s.Moves (State.padOn n u f s)
  | 0, s => moves_refl s
  | f + 1, s => by
    unfold State.padOn
    split
    · exact moves_refl s
    · exact moves_ite (moves_refl s) (((mapPort_moves ..).trans (storeLine_moves ..)).trans (padOn_moves n u f _))

theorem clearSetup_moves (s : State) (n : Nat) : s.Moves (s.clearSetup n) := by
  unfold State.clearSetup
  extract_lets gang split cleared shown unlocked partner
  have h1 : s.Moves unlocked := (mapPort_moves ..).trans (((setFld_signals ..).trans (setFld_signals ..)).trans (setReg_signals ..)).moves
  have h2 : s.Moves partner := moves_ite (h1.trans ((setReg_signals ..).trans (setReg_signals ..)).moves) h1
  exact moves_ite (h2.trans ((setFld_signals ..).trans (setFld_signals ..)).moves) h2

theorem stopEnds_moves (s : State) (n : Nat) : s.Moves (s.stopEnds n) := by
  unfold State.stopEnds
  split
  · exact moves_refl s
  · exact moves_foldl ((mapPort_moves ..).trans (clearSetup_moves ..)) (fun _ _ => complete_moves ..) _

theorem finishFrame_moves (s : State) (n : Nat) (u : PortSetup) (fr : OpenFrame) (reason time arrived : Nat) :
    s.Moves (s.finishFrame n u fr reason time arrived) := by
  unfold State.finishFrame
  extract_lets quiet marked c adjusted status first rep stored closed shown dropped dropLine done
  have h1 : s.Moves closed := ((bufPut_moves ..).trans (unitStore_moves ..)).trans (mapPort_moves ..)
  have h2 : s.Moves shown := h1.trans ((setFld_signals ..).trans (setFld_signals ..)).moves
  have h3 : s.Moves dropped := moves_ite (h2.trans ((bump_signals ..).trans (fire_signals ..)).moves) h2
  have h4 : s.Moves done := h3.trans (complete_moves ..)
  exact (moves_ite (h4.trans (fire_signals ..).moves) h4).trans (stopEnds_moves ..)

theorem portRoom_moves (s : State) (n : Nat) : s.Moves (s.portRoom n) := by
  unfold State.portRoom
  split
  · split
    · exact moves_refl s
    · dsimp only
      split
      · exact padOn_moves ..
      · exact moves_ite ((padOn_moves ..).trans (finishFrame_moves ..)) (padOn_moves ..)
  · exact moves_refl s

end Sys2Proof.Machine

/-! PROOFS. The raw front end (spec/04_raw_front_end.md R152 to R164) and the tables of the image units. -/
namespace Sys2Proof.Machine

/-! Tables. -/

section
variable {s : State} {q tag win t b first count size src denied ev : Nat} {ok : Bool}

/-- A table load that nothing refuses. -/
theorem tableLoad_of (hok : ok = true) (hsize : first + count ≤ size) (hsrc : inMemory s.variant src (16 * count) = true) :
    s.tableLoad q tag win t b first count size src denied ev ok false =
      if (s.meet src (16 * count)).poisonedAt src (16 * count) then (s.meet src (16 * count)).complete q tag stPoisoned 0
      else ((List.range count).foldl (fun s i => s.setTbl win t b (first + i) (s.quadAt (src + 16 * i))) (s.meet src (16 * count))).complete
        q tag stSuccess (BitVec.ofNat 64 count) := by
  have fits : ¬ size < first + count := by omega
  simp [State.tableLoad, hok, fits, hsrc]

theorem tableLoad_good (hok : ok = true) (hsize : first + count ≤ size) (hsrc : inMemory s.variant src (16 * count) = true)
    (clean : (s.meet src (16 * count)).poisonedAt src (16 * count) = false) :
    s.tableLoad q tag win t b first count size src denied ev ok false =
      ((List.range count).foldl (fun s i => s.setTbl win t b (first + i) (s.quadAt (src + 16 * i))) (s.meet src (16 * count))).complete
        q tag stSuccess (BitVec.ofNat 64 count) :=
  (tableLoad_of hok hsize hsrc).trans (if_neg (Bool.eq_false_iff.mp clean))

theorem tableLoad_poisoned (hok : ok = true) (hsize : first + count ≤ size) (hsrc : inMemory s.variant src (16 * count) = true)
    (bad : (s.meet src (16 * count)).poisonedAt src (16 * count) = true) :
    s.tableLoad q tag win t b first count size src denied ev ok false = (s.meet src (16 * count)).complete q tag stPoisoned 0 :=
  (tableLoad_of hok hsize hsrc).trans (if_pos bad)

/-- The last data register of a table, whose word is inside it and not in use. -/
theorem tblDataWrite_of {word wHi data addr : Nat} {v : Word} (hsize : word < size) :
    s.tblDataWrite win t b word size wHi data addr denied ev false v =
      ((s.setReg (data + 12) v).setTbl win t b word (BitVec.ofNat 128
        ((((s.setReg (data + 12) v).reg (data + 4 * 0)).toNat * 2 ^ (32 * 0) + ((s.setReg (data + 12) v).reg (data + 4 * 1)).toNat * 2 ^ (32 * 1) +
          ((s.setReg (data + 12) v).reg (data + 4 * 2)).toNat * 2 ^ (32 * 2)) +
          ((s.setReg (data + 12) v).reg (data + 4 * 3)).toNat * 2 ^ (32 * 3)))).setFld addr wHi 0 (word + 1) := by
  rw [State.tblDataWrite, if_neg (by omega), if_neg Bool.false_ne_true, sum_range_four]

end

/-! The slots of a front end. -/

theorem meet_bcn (s : State) (a len : Nat) : (s.meet a len).bcn = s.bcn := by
  rw [(meet_meets s a len).eq]

/-- A slot that takes a frame: none is armed, and none open where it comes from memory. -/
theorem rfe_free {r : RfeSlot} {memory : Nat} (armed : r.armed = none) (open_ : memory = 1 → r.frame = none) :
    (r.armed.isNone && !(memory == 1 && r.frame.isSome)) = true := by
  by_cases m : memory = 1
  · simp [armed, open_ m]
  · simp [armed, m]

/-- Taking the head of a port's line buffer leaves the slots as they are. -/
theorem rfePop_slot (s : State) (x sl y k : Nat) : (s.rfePop x sl).rfeSlot y k = s.rfeSlot y k := by
  have moves : s.Moves (s.rfePop x sl) := by
    unfold State.rfePop
    split
    · exact (mapPort_moves ..).trans (portRoom_moves ..)
    · exact moves_refl s
  rw [State.rfeSlot, moves.eq]
  rfl

end Sys2Proof.Machine

namespace Sys2Proof.Proofs
open Sys2Proof Sys2Proof.Machine

/-- Settles O29. -/
theorem frontEndCommandsComplete : Obligations.FrontEndCommandsComplete := by
  unfold Obligations.FrontEndCommandsComplete
  refine ⟨?frame, ?load, ?data, ?fetch⟩
  case frame =>
    intro s x d rest c h t sl s0 armed open_ parsed s1
    constructor <;> intro source <;> refine gives_takeWhen rfl (by unfold doRfeFrame; rfl) h ?_ ?_
    · exact rfe_free armed open_
    · simp only [show (s.taken (4 + x.val) d rest).rfeParse x (s.run (4 + x.val) d) = .ok c from parsed]
      rw [if_pos source, meet_bcn]
      rfl
    · exact rfe_free armed open_
    · simp only [show (s.taken (4 + x.val) d rest).rfeParse x (s.run (4 + x.val) d) = .ok c from parsed]
      rw [if_neg (Bool.eq_false_iff.mp source)]
  case load =>
    intro s x d rest h t tab sl b first count src s0 known zeros high size inside idle s1
    have ok : (tab != 3 && t.fld 0 7 0 == 0 && t.fld 0 11 8 == 0) = true := by simp [known, zeros, high]
    constructor <;> intro poison <;> refine gives_takeAs rfl h ?_ <;> dsimp only
    · refine (congrArg _ idle).trans (tableLoad_good ok size inside poison)
    · refine (congrArg _ idle).trans (tableLoad_poisoned ok size inside poison)
  case data =>
    intro s m x v h a tab s1 lane size idle
    refine gives_gateWrite rfl h ?_
    exact (congrArg (fun u => s.tblDataWrite _ _ _ _ _ _ _ _ _ _ u v) idle).trans (tblDataWrite_of size)
  case fetch =>
    intro s x sl f hs open_ runs memory more y line there
    refine gives_act rfl hs ?_
    have all : (List.range f.exposures).all (fun k => s.rangeThere (line k) (2 * f.w)) = true :=
      List.all_eq_true.mpr fun k hk => there k (List.mem_range.mp hk)
    have late : ¬ f.h ≤ y := Nat.not_le.mpr more
    have free : ¬ (!s.rfeRuns x || !f.cmd.memory || decide (f.h ≤ y) ||
        !(List.range f.exposures).all (fun k => s.rangeThere (line k) (2 * f.w))) = true := by
      rw [all, runs, memory, decide_eq_false late]
      decide
    unfold doRfeMemoryLineFetch
    dsimp only
    split
    next none => exact absurd (none.symm.trans open_) nofun
    next g frame =>
      obtain rfl := Option.some.inj (frame.symm.trans open_)
      exact if_neg free

/-- Settles O30. -/
theorem frontEndFramesComplete : Obligations.FrontEndFramesComplete := by
  unfold Obligations.FrontEndFramesComplete
  refine ⟨?lineSet, ?start, ?finish, ?memory⟩
  case lineSet =>
    intro s x sl a f residue hs runs arb open_ s1 noted
    have on : ¬ (!s.rfeRuns x) = true := by rw [runs]; decide
    refine ⟨fun y slots k port held => gives_act rfl hs ?_, fun y exps rest memory feed ready => gives_act rfl hs ?_⟩ <;>
      rw [doRfeLineSet, if_neg on, arb] <;> refine congrArg noted ?_ <;> dsimp only <;> split
    next none => exact absurd (none.symm.trans open_) nofun
    next g some =>
      obtain rfl := Option.some.inj (some.symm.trans open_)
      simp only [s1] at held
      simp only [port, held]
      rfl
    next none => exact absurd (none.symm.trans open_) nofun
    next g some =>
      obtain rfl := Option.some.inj (some.symm.trans open_)
      have feed' : (s1.rfeSlot x sl).feed = .set y exps :: rest := feed
      have go : (!g.cmd.toClr || s1.clrAccepts x sl) = true := by
        by_cases clr : g.cmd.toClr = true
        · simp [ready clr]
        · simp [clr]
      simp only [s1] at go feed'
      simp only [memory, feed', go, if_true]
      rfl
  case start =>
    intro s x sl w h e width number sof split hs runs head
    have on : ¬ (!s.rfeRuns x) = true := by rw [runs]; decide
    refine ⟨fun c armed free => gives_act rfl hs ?_, fun busy => gives_act rfl hs ?_⟩ <;> rw [doRfeFrameStartMark, if_neg on, head] <;>
      dsimp only
    · simp only [rfePop_slot, armed, free]
    · rw [rfePop_slot]
      split
      next c armed free => simp [armed, free] at busy
      next => rfl
  case finish =>
    intro s x sl f dropped hs runs open_ port claimed head
    have on : ¬ (!s.rfeRuns x) = true := by rw [runs]; decide
    refine gives_act rfl hs ?_
    rw [doRfeFrameEndMark, if_neg on]
    simp only [open_, port, head, claimed]
    rfl
  case memory =>
    intro s x sl f b rest hs runs open_ memory feed
    have on : ¬ (!s.rfeRuns x) = true := by rw [runs]; decide
    refine gives_act rfl hs ?_
    rw [doRfeFrameEndMark, if_neg on]
    simp only [open_, memory, feed]

end Sys2Proof.Proofs

/-! PROOFS. The colour engine (spec/05_colour_engine.md R187 to R202). -/
namespace Sys2Proof.Machine

/-- Taking an item off the engine's input leaves the slots as they are. -/
theorem clrPop_slot (s : State) (x sl y k : Nat) : (s.clrPop x sl).clrSlot y k = s.clrSlot y k := by
  unfold State.clrPop
  split <;> rfl

theorem clrHead_front {s : State} {x sl : Nat} {it : ClrItem} {rest : List (Nat × ClrItem)} (h : s.clrQueue x = (sl, it) :: rest) :
    s.clrHead x sl = some it := by
  simp [State.clrHead, h]

/-- A line of the engine's input, balanced (R190). -/
def balanced (f : ClrOpen) (y : Nat) (row : List Smp) : List Smp :=
  row.zipIdx.map (fun p =>
    let g : Int := (f.cmd.wb.getD (cfaPhase f.cmd.cfa (f.first + p.2) y) 0 : Nat)
    { p.1 with v := clampS (ashr (p.1.v * g + 2048) 12) })

/-- A line at the front of the input, on a slot that does not wait, goes through the engine. -/
theorem clrLine_front {s : State} {x sl y : Nat} {row : List Smp} {rest : List (Nat × ClrItem)} {f : ClrOpen} (residue : Bool)
    (runs : s.clrRuns x = true) (free : s.clrWaits x sl = false) (front : s.clrQueue x = (sl, .line y row) :: rest)
    (open_ : (s.clrSlot x sl).frame = some f) :
    doClrLine x residue s =
      (let t := ((s.clrPop x sl).tally (0x26 + x) row.length).clrGo x sl { f with taken := y + 1, win := f.win ++ [(y, balanced f y row)] }
       if residue then (t.report (0x26 + x) 0 0x08 0).fire 118 else t) := by
  have head := clrHead_front front
  simp only [doClrLine, runs, front, List.find?_cons, free, head, clrPop_slot, open_, Bool.not_true, Bool.not_false, Bool.and_true,
    Bool.false_eq_true, if_false]
  rfl

end Sys2Proof.Machine

namespace Sys2Proof.Proofs
open Sys2Proof Sys2Proof.Machine

/-- Settles O31. -/
theorem colourEngineCommandsComplete : Obligations.ColourEngineCommandsComplete := by
  unfold Obligations.ColourEngineCommandsComplete
  refine ⟨?frame, ?load, ?data, ?start, ?finish, ?line, ?room, ?threshold⟩
  case frame =>
    intro s x d rest c h t sl s0 armed parsed
    refine gives_takeWhen rfl (by unfold doClrFrame; rfl) h ?_ ?_
    · exact congrArg Option.isNone armed
    · simp only [show (s.taken (6 + x.val) d rest).clrParse (s.run (6 + x.val) d) = .ok c from parsed]
      rfl
  case load =>
    intro s x d rest h t id b first count src s0 known zeros size inside idle s1
    have ok : (id % 4 != 3 && t.fld 0 2 0 == 0) = true := by simp [known, zeros]
    constructor <;> intro poison <;> refine gives_takeAs rfl h ?_ <;> dsimp only
    · refine (congrArg _ idle).trans (tableLoad_good ok size inside poison)
    · refine (congrArg _ idle).trans (tableLoad_poisoned ok size inside poison)
  case data =>
    intro s m x v h a id s1 lane size idle
    refine gives_gateWrite rfl h ?_
    exact (congrArg (fun u => s.tblDataWrite _ _ _ _ _ _ _ _ _ _ u v) idle).trans (tblDataWrite_of size)
  case start =>
    intro s x sl w h first ownFirst ownCols port split hs runs free head
    have on : ¬ (!s.clrRuns x || s.clrWaits x sl) = true := by rw [runs, free]; decide
    refine ⟨fun c armed idle fits => gives_act rfl hs ?_, fun busy => gives_act rfl hs ?_⟩ <;>
      rw [doClrFrameStartMark, if_neg on, head] <;> dsimp only <;> rw [clrPop_slot]
    · simp only [armed, idle, fits]
      rfl
    · split
      next c armed idle => simp [armed, idle] at busy
      next => rfl
  case finish =>
    intro s x sl f hs runs free open_
    have on : ¬ (!s.clrRuns x || s.clrWaits x sl) = true := by rw [runs, free]; decide
    constructor <;> intro head <;> refine gives_act rfl hs ?_ <;> rw [doClrFrameEndMark, if_neg on, head] <;> dsimp only <;>
      rw [clrPop_slot] <;> simp only [open_] <;> rfl
  case line =>
    intro s x sl y row rest f hs runs free front open_ bal s1
    exact ⟨gives_act rfl hs (clrLine_front false runs free front open_), gives_act rfl hs (clrLine_front true runs free front open_)⟩
  case room =>
    intro s x sl f hs runs open_ waits
    refine gives_act rfl hs ?_
    simp only [doClrRingRoom, open_, waits, runs]
    rfl
  case threshold =>
    intro s x sl hs waits made on
    refine gives_act rfl hs (if_pos ?_)
    simp [waits, made, on]

end Sys2Proof.Proofs

/-! PROOFS. The descriptors of the wall output (spec/07_wall_output.md R254 to R264). -/
namespace Sys2Proof.Machine

theorem meet_variant (s : State) (a len : Nat) : (s.meet a len).variant = s.variant := by
  rw [(meet_meets s a len).eq]

end Sys2Proof.Machine

namespace Sys2Proof.Proofs
open Sys2Proof Sys2Proof.Machine

/-- Settles O33. -/
theorem wallDescriptorsComplete : Obligations.WallDescriptorsComplete := by
  unfold Obligations.WallDescriptorsComplete
  refine ⟨?map, ?cal, ?start, ?hold, ?report⟩
  case map =>
    intro s g d rest h t b count src s0 r es zeros inside idle clean
    have inside' : ¬ (!inMemory s0.variant src (16 * count)) = true := by
      rw [show inMemory s0.variant src (16 * count) = true from inside]
      decide
    have clean' := Bool.eq_false_iff.mp clean
    have idle' := Bool.eq_false_iff.mp idle
    have device : r.variant = s.variant := meet_variant s0 _ _
    dsimp only
    refine ⟨fun good => ?_, fun i bad => ?_⟩ <;> refine gives_takeAs rfl h ?_ <;>
      refine (if_neg (not_not_intro zeros)).trans ((if_neg inside').trans ((if_neg idle').trans ((if_neg clean').trans ?_)))
    · have good' : mapFirstBad r.variant [] es = none := device.symm ▸ good
      simp only [es, r, s0, src, count, t] at good' ⊢
      rw [good']
      rfl
    · have bad' : mapFirstBad r.variant [] es = some i := device.symm ▸ bad
      simp only [es, r, s0, src, count, t] at bad' ⊢
      rw [bad']
      rfl
  case cal =>
    intro s g d rest h t b first count src s0 zeros size inside idle r clean
    have inside' : ¬ (!inMemory s0.variant src (32 * count)) = true := by
      rw [show inMemory s0.variant src (32 * count) = true from inside]
      decide
    refine gives_takeAs rfl h ?_
    exact (if_neg (not_or.mpr ⟨not_not_intro zeros, Nat.not_lt.mpr size⟩)).trans ((if_neg inside').trans
      ((if_neg (Bool.eq_false_iff.mp idle)).trans (if_neg (Bool.eq_false_iff.mp clean))))
  case start =>
    intro s g d rest h free zeros lead s0 w
    have lead' : ¬ (s0.locked = true ∧ g.val = 1) := lead
    refine ⟨fun later => ?_, fun low high no => ?_, fun off => ?_⟩ <;>
      refine gives_takeWhen rfl (by unfold doStart; rfl) h (by rw [free]; rfl) ?_ <;>
      refine (if_neg (not_not_intro zeros)).trans ((if_neg lead').trans ?_)
    · exact if_pos later
    · have running : ¬ (s0.genState g = 4 ∨ (1 ≤ s0.genState g ∧ s0.genState g ≤ 3 ∧ (s0.gen g).holdAsked = true)) := by
        rintro (four | ⟨-, -, asked⟩)
        · have high' : s0.genState g ≤ 3 := high
          omega
        · have no' : (s0.gen g).holdAsked = false := no
          rw [no'] at asked
          exact absurd asked (by decide)
      exact (if_neg running).trans (if_pos ⟨low, high⟩)
    · have off' : s0.genState g = 0 ∨ s0.genState g = 5 := off
      have waits : ¬ (s0.genState g = 4 ∨ (1 ≤ s0.genState g ∧ s0.genState g ≤ 3 ∧ (s0.gen g).holdAsked = true)) := by omega
      have running : ¬ (1 ≤ s0.genState g ∧ s0.genState g ≤ 3) := by omega
      exact (if_neg waits).trans (if_neg running)
  case hold =>
    intro s g d rest h zeros lead low high no
    refine gives_takeAs rfl h ?_
    have lead' : ¬ ((s.taken (9 + g.val) d rest).locked = true ∧ g.val = 1) := lead
    refine (if_neg (not_not_intro zeros)).trans ((if_neg lead').trans (if_neg ?_))
    have low' : 1 ≤ (s.taken (9 + g.val) d rest).genState g := low
    have high' : (s.taken (9 + g.val) d rest).genState g ≤ 3 := high
    have no' : ((s.taken (9 + g.val) d rest).gen g).holdAsked = false := no
    rw [no']
    rintro (zero | four | five | asked)
    · omega
    · omega
    · omega
    · exact absurd asked (by decide)
  case report =>
    intro s g d rest h t addr free zeros aligned runs inside
    refine gives_takeWhen rfl (by unfold doWloReport; rfl) h (by rw [free]; rfl) ?_
    have zeros' : ¬ ((!t.zeros [(0, 87, 0), (1, 79, 0)]) = true ∨ addr % 64 ≠ 0) := by simp [zeros, aligned]
    have runs' : ¬ (!(s.taken (9 + g.val) d rest).genRuns g) = true := by
      rw [show (s.taken (9 + g.val) d rest).genRuns g = true from runs]
      decide
    have inside' : ¬ (!inMemory (s.taken (9 + g.val) d rest).variant addr 64) = true := by
      rw [show inMemory (s.taken (9 + g.val) d rest).variant addr 64 = true from inside]
      decide
    exact (if_neg zeros').trans ((if_neg runs').trans (if_neg inside'))

end Sys2Proof.Proofs

/-!
PROOFS. The compositor (spec/06_compositor.md R225 to R238): its statement fails where a completion leaves for a queue number that no
descriptor's word 0 can name, which a state of the model may hold.
-/
namespace Sys2Proof.Machine

/-- A device with every domain powered and its memory ready. -/
def onDevice : State :=
  ({ State.reset with
      doms := { State.reset.doms with powered := 0x3FFFFFFF, fenced := 0 }
      memx := { State.reset.memx with combInit := false } }.setStackState 0 2).setStackState 1 2

/-- The event whose pending bit is bit `b` of register `k`. -/
def pendingEvent (k b : Nat) : Nat := (k - 0x11000) / 4 * 32 + b

/-- A running descriptor of tag `tag` whose completion goes to the queue that fires `pendingEvent k b`. -/
def strayTaken (k b tag : Nat) : Taken :=
  { words := [], cell := 0, tag := tag, cq := 8 * (pendingEvent k b - 48), epoch := 0, endsTag := true, done := none, aborts := [] }

/-- `s` with that descriptor running in queue `q`, and its event routed to a vector that is masked. -/
def strayed (s : State) (q k b tag : Nat) : State :=
  ((s.setReg (Reg.hivRoute (pendingEvent k b)) 0x200).setReg (Reg.msixTable (pendingEvent k b) 3) 1).setQueue q
    { s.queue q with taken := [strayTaken k b tag] }

/-- A CMP_COMPOSE of a frame of 16 by 16 pixels for output 0. -/
def composeDesc : Desc :=
  { words := [BitVec.ofNat 128 (0x12 * 2 ^ 120 + 5 * 2 ^ 96 + 2 * 2 ^ 94 + 0x10000100000000), 0x100000000200000000000000#128,
      0x1000010000000000000000#128], cell := 0, dup := false, flt := .ok }

/-- The compose waits; a report of output 0 is open, whose completion sets bit 0 of CMP_FRAMES_0. -/
def composing : State :=
  let s := (strayed onDevice 8 (Reg.cmpFrames 0) 0 9).mapCmpOut 0 (fun c => { c with repOpen := some (9, 0) })
  s.setQueue 8 { s.queue 8 with waiting := [composeDesc] }

/-- The number of the write-back that an answer leaves open on output 0. -/
def openNumber (o : Host.Outcome State Fault Refusal) : Option Nat :=
  match o with
  | .next t => (t.cmpOut 0).wbOpen.map (·.number)
  | _ => none

end Sys2Proof.Machine

namespace Sys2Proof.Proofs
open Sys2Proof Sys2Proof.Machine

/-- Refutes O32: before CMP_COMPOSE reads CMP_FRAMES_0, the report that it ends is posted. Nothing bounds the completion queue that a
running descriptor of a state names; here its event's pending bit is bit 0 of CMP_FRAMES_0, so that the frame's number is 1, not the 0
that stood there when the command came. -/
theorem not_compositorCommandsComplete : ¬ Obligations.CompositorCommandsComplete := by
  unfold Obligations.CompositorCommandsComplete
  rintro ⟨-, compose, -⟩
  have stated := compose composing composeDesc [] (by decide +kernel) (by decide +kernel) (by decide +kernel) (by decide +kernel)
    (by decide +kernel)
  have numbers := congrArg openNumber stated
  revert numbers
  decide +kernel

end Sys2Proof.Proofs

/-!
PROOFS. Generators and wall reports (spec/07_wall_output.md R264, R272): their statement fails where the end of a Hold posts a
completion to a queue number that no descriptor's word 0 can name.
-/
namespace Sys2Proof.Machine

/-- Generator A holds, with one receiver at lane 0 and position 0 and a HOLD whose completion sets bit 30 of WLO_STATUS_B. -/
def holdingPair : State :=
  let s := (strayed onDevice 9 (Reg.wloStatus 1) 30 7).mapGen 0 (fun x => { x with holds := [⟨9, 7⟩] })
  let s := (s.setFld (Reg.wloStatus 0) 31 28 4).setReg (Reg.wloShMap 0) 0x80000001
  ((s.setFld (Reg.lnxWlStatus 0) 31 28 2).setFld (Reg.lnxWlStatus 0) 24 24 1).store (mapBase 0)
    (leBytes 16 (16 * 2 ^ 80 + 1 * 2 ^ 64 + 2 ^ 60))

/-- The state of generator B in an answer. -/
def stateOfB (o : Host.Outcome State Fault Refusal) : Option Nat :=
  match o with
  | .next t => some (t.genState 1)
  | _ => none

end Sys2Proof.Machine

namespace Sys2Proof.Proofs
open Sys2Proof Sys2Proof.Machine

/-- Refutes O34: the last report of a Hold posts the completion of its HOLD before the model looks at generator B. Nothing bounds the
completion queue that a running descriptor of a state names; here its event's pending bit is the one that turns the state of generator
B from 0 to 4, so that its Hold ends too. -/
theorem not_generatorsAndWallReportsComplete : ¬ Obligations.GeneratorsAndWallReportsComplete := by
  unfold Obligations.GeneratorsAndWallReportsComplete
  rintro ⟨-, -, -, -, -, lastHeld, -⟩
  have stated := lastHeld holdingPair 0 0 0 (by decide +kernel) (by decide +kernel) (by decide +kernel) (by decide +kernel)
    (by decide +kernel) (by decide +kernel) (by decide +kernel) (by decide +kernel)
  have states := congrArg stateOfB stated
  revert states
  decide +kernel

end Sys2Proof.Proofs

/-! PROOFS. The lane complex and the tile link (spec/08_lanes_tile_link.md R278 to R307). -/
namespace Sys2Proof.Machine

/-- The blocks at the head of a management queue, up to eight of them, leave in one control group (R295). -/
theorem takeWhile_blocks (blocks : List (Nat × Nat)) (rest : List Mgmt) (few : blocks.length ≤ 8)
    (all : blocks.length = 8 ∨ rest = []) :
    ((blocks.map (fun b => Mgmt.block b.1 b.2) ++ rest).takeWhile Mgmt.plain).take 8 = blocks.map (fun b => Mgmt.block b.1 b.2) := by
  have plain : ∀ m ∈ blocks.map (fun b => Mgmt.block b.1 b.2), m.plain = true := by
    intro m hm
    obtain ⟨b, -, rfl⟩ := List.mem_map.mp hm
    rfl
  rw [List.takeWhile_append_of_pos plain]
  obtain eight | rfl := all
  · exact List.take_left' (by rw [List.length_map, eight])
  · rw [List.takeWhile_nil, List.append_nil, List.take_of_length_le (by rw [List.length_map]; exact few)]

/-- A descriptor that needs room in a lane's management queue and finds it. -/
theorem mgmtOk_of_room {s : State} {t : Taken} (room : s.mgmtRoom (t.fld 0 87 83) = true) : s.mgmtOk t = true := by
  simp [State.mgmtOk, room]

/-- PCIe lane 0 runs, the cascade is enabled, and lane 40 of its link 0 has its lock, which CAS_LINK_STATUS_0 does not show yet. -/
def unfollowedLock : State :=
  ((onDevice.mapCas (fun c => { c with enable := true })).setReg (Reg.lnxStatus 0) 0x80000000).setReg (Reg.lnxStatus 10) 0x10

/-- CAS_LINK_STATUS_0 in an answer. -/
def linkShown (o : Host.Outcome State Fault Refusal) : Option Nat :=
  match o with
  | .next t => some (t.reg (Reg.casLinkStatus 0)).toNat
  | _ => none

end Sys2Proof.Machine

namespace Sys2Proof.Proofs
open Sys2Proof Sys2Proof.Machine

/-- Settles O35. -/
theorem laneDescriptorsComplete : Obligations.LaneDescriptorsComplete := by
  unfold Obligations.LaneDescriptorsComplete
  refine ⟨?setup, ?enumerate, ?write, ?read, ?scan, ?scanned, ?group⟩
  case setup =>
    intro s d rest h t l mode guard s0 present known post zeros legacy free key
    have fields : ¬ (wallAbsent s0.variant l || mode == 3 || decide (24 ≤ t.fld 0 72 68) || t.fld 0 48 0 != 0 || (mode == 2 && guard)) = true := by
      simpa [show wallAbsent s0.variant l = false from present, known, post, zeros] using legacy
    have keyed : ¬ (guard && s0.fld Reg.kprStatus 19 19 == 0) = true := by
      simpa using (show guard = true → s0.fld Reg.kprStatus 19 19 ≠ 0 from key)
    refine gives_takeAs rfl h ?_
    exact (if_neg fields).trans ((if_neg (Bool.eq_false_iff.mp free)).trans (if_neg keyed))
  case enumerate =>
    intro s d rest h t l dest s0 present zeros aligned up room inside
    have fields : ¬ (wallAbsent s0.variant l || !t.zeros [(0, 66, 0), (1, 79, 0)] || dest % 64 != 0) = true := by
      simp [show wallAbsent s0.variant l = false from present, zeros, aligned]
    have on : ¬ (!s0.laneUp l) = true := by rw [show s0.laneUp l = true from up]; decide
    have within : ¬ (!inMemory s0.variant dest 2048) = true := by
      rw [show inMemory s0.variant dest 2048 = true from inside]; decide
    refine gives_takeWhen rfl rfl h (mgmtOk_of_room room) ?_
    exact (if_neg fields).trans ((if_neg on).trans (if_neg within))
  case write =>
    intro s d rest h t l s0 present zeros up room
    have fields : ¬ (wallAbsent s0.variant l || t.fld 0 26 0 != 0) = true := by
      simp [show wallAbsent s0.variant l = false from present, zeros]
    have on : ¬ (!s0.laneUp l) = true := by rw [show s0.laneUp l = true from up]; decide
    refine gives_takeWhen rfl rfl h (mgmtOk_of_room room) ?_
    exact (if_neg fields).trans (if_neg on)
  case read =>
    intro s d rest h t l pos reg s0 present zeros up room
    have fields : ¬ (wallAbsent s0.variant l || t.fld 0 43 0 != 0) = true := by
      simp [show wallAbsent s0.variant l = false from present, zeros]
    have on : ¬ (!s0.laneUp l) = true := by rw [show s0.laneUp l = true from up]; decide
    refine gives_takeWhen rfl rfl h (mgmtOk_of_room room) ?_
    exact (if_neg fields).trans (if_neg on)
  case scan =>
    intro s d rest h t n dest s0 lane present count zeros aligned powered inside
    have fields : ¬ (decide (52 ≤ n) || laneAbsent s0.variant n || decide (10 < t.fld 0 81 78) || !t.zeros [(0, 77, 0), (1, 79, 0)] ||
        dest % 64 != 0) = true := by
      simp [show laneAbsent s0.variant n = false from present, zeros, aligned, lane, count]
    have on : ¬ (!s0.isPowered (quadDomain (n / 4))) = true := by
      rw [show s0.isPowered (quadDomain (n / 4)) = true from powered]; decide
    have within : ¬ (!inMemory s0.variant dest 16256) = true := by
      rw [show inMemory s0.variant dest 16256 = true from inside]; decide
    refine gives_takeAs rfl h ?_
    exact (if_neg fields).trans ((if_neg on).trans (if_neg within))
  case scanned =>
    intro s n counts tag dest hs running c width height s1
    refine gives_act rfl hs ?_
    unfold doEyeScanDone
    simp only [running]
    rfl
  case group =>
    intro s l blocks rest hs up some few all queued idle stall
    have head : ((s.lane l).mgmt.takeWhile Mgmt.plain).take 8 = blocks.map (fun b => Mgmt.block b.1 b.2) :=
      by rw [queued, takeWhile_blocks blocks rest few all]
    refine gives_act rfl hs ?_
    unfold doManagementGroupSend
    simp only [head]
    have go : ¬ ((blocks.map (fun b => Mgmt.block b.1 b.2)).isEmpty || !s.laneUp l || s.laneScanned l || s.unitStalled 0x3D) = true := by
      simp [up, idle, stall, some]
    rw [if_neg go, queued, List.drop_left, List.map_map]
    rfl

/-- Refutes O36: a lock search on a lane that has no blocks finds nothing, but the cascade then looks at its links (R438): one whose
locks CAS_LINK_STATUS does not show yet is shown, so that the state is not the one before. -/
theorem not_laneAndTileEventsComplete : ¬ Obligations.LaneAndTileEventsComplete := by
  unfold Obligations.LaneAndTileEventsComplete
  rintro ⟨-, locks, -⟩
  have stated := (locks unfollowedLock 0 (by decide +kernel) (by decide +kernel)).2.1 [] (Or.inl (by decide))
  have shown := congrArg linkShown stated
  revert shown
  decide +kernel

end Sys2Proof.Proofs

/-! PROOFS. The codec and the light packer (spec/09_codec.md R316 to R350). -/
namespace Sys2Proof.Machine

/-- A context that is no encode context is a decode context. -/
theorem dec_of_enc?_none {v : Vcx} {c : Nat} {k : VcxCtx} (made : v.ctx c = some k) (none : v.enc? c = none) : ∃ d, k = .dec d := by
  unfold Vcx.enc? at none
  rw [made] at none
  cases k with
  | enc e => exact absurd none nofun
  | dec d => exact ⟨d, rfl⟩

end Sys2Proof.Machine

namespace Sys2Proof.Proofs
open Sys2Proof Sys2Proof.Machine

/-- Settles O37. -/
theorem codecDescriptorsComplete : Obligations.CodecDescriptorsComplete := by
  unfold Obligations.CodecDescriptorsComplete
  refine ⟨?setup, ?encode, ?decode, ?release, ?clear⟩
  case setup =>
    intro s x d rest h idle t s0 s1
    refine ⟨fun good => gives_takeWhen rfl (by unfold doCtxSetup; rfl) h idle ?_,
      fun st bad => gives_takeWhen rfl (by unfold doCtxSetup; rfl) h idle ?_⟩ <;> dsimp only
    · simp only [show ((s.taken (12 + x.val) d rest).meet ((s.run (12 + x.val) d).fld 1 127 80) 128).ctxRefused x (s.run (12 + x.val) d) =
        none from good]
      rfl
    · simp only [show ((s.taken (12 + x.val) d rest).meet ((s.run (12 + x.val) d).fld 1 127 80) 128).ctxRefused x (s.run (12 + x.val) d) =
        some st from bad]
      rfl
  case encode =>
    intro s x d rest e h idle alone t c s0 s1 context taken e'
    refine gives_takeWhen rfl (by unfold doEncFrame; rfl) h idle ?_
    refine (if_neg (Bool.eq_false_iff.mp (show s0.isPartner x = false from alone))).trans ?_
    have made : (s0.vcx x).ctx c = some (.enc e) := context
    simp only [s0, c, t] at made
    simp only [made]
    simp only [s1, s0, t] at taken
    simp only [taken]
    rfl
  case decode =>
    intro s x d rest c residue h idle alone t s0 context taken
    refine gives_takeWhen rfl (by unfold doDecAu; rfl) h idle ?_
    refine (if_neg (Bool.eq_false_iff.mp (show s0.isPartner x = false from alone))).trans ?_
    have made : (s0.vcx x).ctx (t.fld 0 87 83) = some (.dec c) := context
    simp only [s0, t] at made taken
    simp only [made, taken]
    rfl
  case release =>
    intro s x d rest c h alone t b context own zeros held c'
    refine gives_takeAs rfl h ?_
    refine (if_neg (Bool.eq_false_iff.mp (show (s.taken (12 + x.val) d rest).isPartner x = false from alone))).trans ?_
    have made : ((s.taken (12 + x.val) d rest).vcx x).ctx (t.fld 0 87 83) = some (.dec c) := context
    simp only [t] at made
    simp only [made]
    refine if_neg ?_
    rintro (mirror | high | free)
    · exact absurd (own.symm.trans mirror) Bool.false_ne_true
    · exact high zeros
    · exact absurd (held.symm.trans ((Bool.not_eq_true' _).mp free)) (by decide)
  case clear =>
    intro s x d rest k h idle t s0 drop context zeros
    have made : (s0.vcx x).ctx (t.fld 0 87 83) = some k := context
    simp only [s0, t] at made
    have fields : ¬ t.fld 0 81 0 ≠ 0 := not_not.mpr zeros
    refine ⟨fun quiet => gives_takeWhen rfl (by unfold doCtxClear; rfl) h ?_ ?_,
      fun e enc eos room => gives_takeWhen rfl (by unfold doCtxClear; rfl) h ?_ ?_⟩
    · refine Bool.and_eq_true_iff.mpr ⟨idle, Bool.or_eq_true_iff.mpr (quiet.symm.imp (fun zero => beq_iff_eq.mpr zero) fun none => ?_)⟩
      rw [show (s.vcx x).enc? ((d.taken 0).fld 0 87 83) = _ from none]
    · refine (if_neg fields).trans ?_
      simp only [made]
      cases k with
      | dec c => rfl
      | enc e =>
        have zero : t.fld 0 82 82 = 0 := quiet.resolve_left fun none => (dec_of_enc?_none context none).elim nofun
        exact congrArg (fun u : State => ((u.dropCtx x (t.fld 0 87 83)).complete (12 + x.val) (w0Tag d.w0) stSuccess 0).vcxShow)
          (if_neg (by rw [beq_iff_eq]; exact fun one => absurd (zero.symm.trans one) (by decide)))
    · subst enc
      refine Bool.and_eq_true_iff.mpr ⟨idle, Bool.or_eq_true_iff.mpr (Or.inr ?_)⟩
      have found : (s.vcx x).enc? ((d.taken 0).fld 0 87 83) = some e := by
        unfold Vcx.enc?
        rw [show (s.vcx x).ctx ((d.taken 0).fld 0 87 83) = _ from context]
      rw [found]
      exact room
    · subst enc
      refine (if_neg fields).trans ?_
      simp only [made]
      exact congrArg (fun u : State => ((u.dropCtx x (t.fld 0 87 83)).complete (12 + x.val) (w0Tag d.w0) stSuccess 0).vcxShow)
        (if_pos (beq_iff_eq.mpr eos))

/-- Settles O38. -/
theorem codecRunsComplete : Obligations.CodecRunsComplete := by
  unfold Obligations.CodecRunsComplete
  refine ⟨?encode, ?wait, ?decode, ?mirror⟩
  case encode =>
    intro s x p e hs running context
    refine ⟨fun waiting => gives_act rfl hs ?_, fun row started put more source stall => gives_act rfl hs ?_,
      fun out => gives_act rfl hs ?_⟩
    · unfold doEncSourceFrameOpen
      simp only [running, context, waiting, if_true]
    · unfold doEncRow
      simp only [running, context]
      refine if_neg ?_
      simp [started, put, more, source, stall]
    · unfold doNalRingRoom
      simp only [running, context]
      exact if_neg (mt List.isEmpty_iff.mp out)
  case wait =>
    intro s x hs threshold
    refine ⟨fun p running out first => gives_act rfl hs ?_, fun c running waiting first => gives_act rfl hs ?_⟩ <;>
      refine (if_neg threshold).trans ?_ <;> simp only [running] <;> refine if_neg ?_
    · simp [out, first]
    · simp [waiting, first]
  case decode =>
    intro s x r c residue hs running context waiting stall
    refine gives_act rfl hs ?_
    unfold doDecodeBufferFree
    simp only [running, context, waiting, stall]
    rfl
  case mirror =>
    intro s x c d e residue hs powered fence stall idle due
    refine gives_act rfl hs ?_
    unfold doMirrorSlice
    rw [if_neg (by simp [powered, fence, stall, idle])]
    simp only [due]

end Sys2Proof.Proofs

/-! PROOFS. The light packer (spec/10_recording_replay.md R357 to R372). -/
namespace Sys2Proof.Machine

theorem meetChain_variant (s : State) (c : List (Nat × Nat)) (pos n : Nat) : (s.meetChain c pos n).variant = s.variant := by
  rw [State.meetChain, (meets_foldl (f := fun t p => t.meet p.1 p.2) (meets_refl s) (fun t p => meet_meets t p.1 p.2) (chainParts c pos n)).eq]

end Sys2Proof.Machine

namespace Sys2Proof.Proofs
open Sys2Proof Sys2Proof.Machine

/-- Settles O39. -/
theorem losslessPackerCommandsComplete : Obligations.LosslessPackerCommandsComplete := by
  unfold Obligations.LosslessPackerCommandsComplete
  refine ⟨?pack, ?block, ?unpack⟩
  case pack =>
    intro s n d rest r h idle s0 t s1 good clean
    refine gives_takeWhen rfl rfl h (by rw [idle]; rfl) ?_
    simp only [s1, s0, t] at good clean
    simp only [good, clean]
    rfl
  case block =>
    intro s n r mismatch hs powered fence stall packing
    refine gives_act rfl hs ?_
    unfold doLpkBlockCoded
    rw [if_neg (by simp [powered, fence, stall]), packing]
  case unpack =>
    intro s n d rest c h idle t s0 dest stride s1 chain zeros aligned s2 clean header total
    have fields : ¬ (t.fld 0 87 0 ≠ 0 ∨ dest % 64 ≠ 0) := by simp [zeros, aligned]
    simp only [s1, s0, t] at chain
    refine ⟨fun good lines inside => gives_takeWhen rfl (by unfold doLpkUnpack; rfl) h (by rw [idle]; rfl) ?_,
      fun bad => gives_takeWhen rfl (by unfold doLpkUnpack; rfl) h (by rw [idle]; rfl) ?_⟩ <;>
      simp only [chain] <;> refine (if_neg fields).trans ((if_neg (Bool.eq_false_iff.mp clean)).trans ?_)
    · have fits : ¬ (stride * 64 < 2 * hdrField header.1 12 2 ∨
          (total ≠ 0 ∧ inMemory s2.variant dest ((total - 1) * stride * 64 + 2 * hdrField header.1 12 2) = false)) := by
        rw [show s2.variant = s.variant from (meetChain_variant ..).trans (meet_variant ..)]
        rintro (short | ⟨some, beyond⟩)
        · omega
        · exact inside.elim some fun within => absurd (within.symm.trans beyond) (by decide)
      exact (if_neg (Bool.eq_false_iff.mp good)).trans (if_neg fits)
    · exact if_pos bad

end Sys2Proof.Proofs

/-! PROOFS. Recording and replay (spec/10_recording_replay.md R374 to R401). -/
namespace Sys2Proof.Machine

theorem storeTakes_live {s s0 : State} {src : ClsSrc} {op : Nat} {lens : List Nat} {t : Taken} (h : s.StoreTakes src op lens t s0) :
    s.Live := by
  obtain ⟨-, h⟩ := h
  cases src with
  | device =>
    obtain ⟨d, rest, ready, -, -⟩ := h
    exact ready.1
  | hostPair n => exact h.1

/-- A command that the store takes (R373, R385). -/
theorem gives_clsTake {i : Instr} {s s0 u : State} {src : ClsSrc} {op : Nat} {lens : List Nat} {t : Taken}
    {run : Taken → State → State} (hi : exec i s = act s (fun s => s.clsTake src op lens run)) (h : s.StoreTakes src op lens t s0)
    (ht : run t s0 = u) : Gives i s (u.storeEnd src) :=
  gives_act hi (storeTakes_live h) (by rw [clsTake_of h, ht])

/-- A command on a clip that there is (R397). -/
theorem onClip_of {s : State} {src : ClsSrc} {t : Taken} {ok : Bool} {k : Clip} {run : Nat → Clip → State} (ready : s.clsReady = true)
    (fields : ok = true) (there : s.clip (t.fld 0 87 78) = some k) : s.onClip src t ok run = run (t.fld 0 87 78) k := by
  unfold State.onClip
  simp only [ready, fields, there]
  rfl

theorem fld_setFld_ne (s : State) {k j : Nat} (hi lo x a b : Nat) (h : j ≠ k) : (s.setFld k hi lo x).fld j a b = s.fld j a b := by
  unfold State.fld
  rw [reg_setFld, if_neg h]

/-- Whether the store fetches lies in its status register and its domain alone (R374, R391). -/
theorem clsFetches_setFld (s : State) {k : Nat} (hi lo x : Nat) (h : Reg.clsStatus ≠ k) :
    (s.setFld k hi lo x).clsFetches = s.clsFetches := by
  unfold State.clsFetches State.clsState
  rw [fld_setFld_ne s hi lo x 31 28 h]
  rfl

/-- A power of two between 16 and 4096 is a size that a ring may have (R386). -/
theorem ringSize_pow {i : Nat} (low : 4 ≤ i) (high : i ≤ 12) :
    (decide (16 ≤ 2 ^ i ∧ 2 ^ i ≤ 4096) && 2 ^ i == 2 ^ Nat.log2 (2 ^ i)) = true := by
  have small : 2 ^ 4 ≤ 2 ^ i := Nat.pow_le_pow_right (by decide) low
  have large : 2 ^ i ≤ 2 ^ 12 := Nat.pow_le_pow_right (by decide) high
  rw [Nat.log2_two_pow, decide_eq_true (by omega), beq_self_eq_true]
  rfl

end Sys2Proof.Machine

namespace Sys2Proof.Proofs
open Sys2Proof Sys2Proof.Machine

/-- Settles O40. -/
theorem clipCommandsComplete : Obligations.ClipCommandsComplete := by
  unfold Obligations.ClipCommandsComplete
  intro s s0 src t q
  refine ⟨?openClip, ?write, ?read, ?index, ?flush, ?close, ?drop, ?query, ?age, ?threshold⟩
  case openClip =>
    intro h good
    refine gives_clsTake rfl h ?_
    simp only [good]
    rfl
  case write =>
    intro k h ready fields there open_
    exact gives_clsTake rfl h ((onClip_of ready fields there).trans (if_neg (not_not.mpr open_)))
  case read =>
    intro k h ready zeros some inside there
    exact gives_clsTake rfl h (onClip_of ready (by simp [zeros, some, inside]) there)
  case index =>
    intro k h ready zeros some aligned inside there
    exact gives_clsTake rfl h (onClip_of ready (by simp [zeros, some, aligned, inside]) there)
  case flush =>
    intro h ready zeros writes dirty
    exact gives_clsTake rfl h ((if_neg (by rw [ready]; decide)).trans (if_neg (not_not.mpr zeros)))
  case close =>
    intro k h ready zeros there writes
    exact gives_clsTake rfl h (onClip_of ready (beq_iff_eq.mpr zeros) there)
  case drop =>
    intro k h ready zeros there
    exact gives_clsTake rfl h (onClip_of ready (beq_iff_eq.mpr zeros) there)
  case query =>
    intro k h ready zeros aligned inside there word
    exact gives_clsTake rfl h (onClip_of ready (by simp [zeros, aligned, inside]) there)
  case age =>
    intro a h zeros old
    refine gives_clsTake rfl h ((if_neg (not_not.mpr zeros)).trans ?_)
    simp only [old]
    rfl
  case threshold =>
    intro tag age a hs old found on late fresh
    refine gives_act rfl hs ?_
    unfold doClsAgeThreshold
    simp only [q] at old found
    simp only [old, found]
    refine if_neg ?_
    rintro (off | under | fired)
    · exact on off
    · exact absurd under (Nat.not_le.mpr late)
    · exact absurd (fresh.symm.trans fired) (by decide)

/-- Settles O41. -/
theorem storageDevicesComplete : Obligations.StorageDevicesComplete := by
  unfold Obligations.StorageDevicesComplete
  refine ⟨?setup, ?devices, ?nvme, ?buffer⟩
  case setup =>
    intro s s0 src t h good
    refine gives_clsTake rfl h ?_
    simp only [good]
  case devices =>
    intro s r hs powered
    have rising (up : s.ssd r = 1 ∨ s.ssd r = 2) : ¬ (!s.isPowered 18 || !(s.ssd r == 1 || s.ssd r == 2)) = true := by
      obtain up | up := up <;> simp [powered, up]
    have polled (up : 2 ≤ s.ssd r ∧ s.ssd r ≤ 5) : ¬ (!s.isPowered 18 || !(decide (2 ≤ s.ssd r ∧ s.ssd r ≤ 5))) = true := by
      rw [powered, decide_eq_true up]
      decide
    refine ⟨fun speed width up => gives_act rfl hs ((if_neg (rising (Or.inl up))).trans (if_pos up)),
      fun blocks queues lba4k vwc up => gives_act rfl hs ((if_neg (rising (Or.inr up))).trans (if_pos up)),
      fun up => ⟨gives_act rfl hs (if_neg (rising up)), gives_act rfl hs (if_neg (rising up)), gives_act rfl hs ?_⟩,
      fun ready => gives_act rfl hs ?_,
      fun temperature low high => gives_act rfl hs ((if_neg (polled ⟨low, high⟩)).trans (if_pos rfl)),
      fun temperature warning ready warned => gives_act rfl hs ?_⟩
    · have live : ¬ (!s.isPowered 18 || s.ssd r == 0 || s.ssd r == 5 || s.ssd r == 6) = true := by
        obtain up | up := up <;> simp [powered, up]
      exact (if_neg live).trans (if_pos up)
    · have live : ¬ (!s.isPowered 18 || s.ssd r == 0 || s.ssd r == 5 || s.ssd r == 6) = true := by
        obtain up | up := ready <;> simp [powered, up]
      exact (if_neg live).trans (if_neg (by omega))
    · exact (if_neg (polled (by omega))).trans ((if_neg warned).trans ((if_neg (by omega)).trans (if_neg (by omega))))
  case nvme =>
    intro s r cid data n u hs made found s1 s2
    have open_ (ok : Bool) (t : State) (h : (if ok then (if n.write then s1.nvmeWritten n else s1.nvmeRead u n data).clsGo
        else if !n.write then (s2.readError n.keys).clsGo else if n.retried then (s2.mediumError r).clsGo
        else (n.keys.foldl (fun s k => s.flushPage k.1 k.2.1 true) (s2.bump (Reg.clsRpErrors r) 15 0 1)).clsShow) = t) :
        doNvmeCompletion r cid ok data s = t := by
      unfold doNvmeCompletion
      simp only [found, made]
      exact h
    refine ⟨fun write => gives_act rfl hs (open_ _ _ ?_), fun read => gives_act rfl hs (open_ _ _ ?_),
      fun read => gives_act rfl hs (open_ _ _ ?_), fun write again => gives_act rfl hs (open_ _ _ ?_),
      fun write first => gives_act rfl hs (open_ _ _ ?_), fun ready => gives_act rfl hs (if_pos ?_)⟩
    · rw [if_pos rfl, if_pos write]
    · rw [if_pos rfl, if_neg (Bool.eq_false_iff.mp read)]
    · rw [if_neg Bool.false_ne_true, read]
      rfl
    · rw [if_neg Bool.false_ne_true, write, again]
      rfl
    · rw [if_neg Bool.false_ne_true, write, first]
      rfl
    · have there : s.cls.nvme.any (fun n => n.port == r.val && n.cid == cid) = true :=
        List.any_eq_true.mpr ⟨n, List.mem_of_find?_eq_some found, List.find?_some (p := fun k : NvmeCmd => k.port == r.val && k.cid == cid) found⟩
      rw [there, ready]
      rfl
  case buffer =>
    intro s clip page hs
    exact ⟨gives_act rfl hs rfl, fun powered => gives_act rfl hs (if_pos powered)⟩

/-- Settles O42. -/
theorem storeControlsComplete : Obligations.StoreControlsComplete := by
  unfold Obligations.StoreControlsComplete
  refine ⟨?writes, ?ready, ?reset⟩
  case writes =>
    intro s m n v
    have ctrl : ∀ k, Reg.clsStatus ≠ Reg.clsHqCtrl k := fun k => by simp only [Reg.clsStatus, Reg.clsHqCtrl]; omega
    have tail : ∀ k, Reg.clsStatus ≠ Reg.clsHqSqTail k := fun k => by simp only [Reg.clsStatus, Reg.clsHqSqTail]; omega
    refine ⟨?tail, ?head, ?enable, ?control⟩
    case tail =>
      intro h
      refine ⟨fun inside fetches => gives_gateWrite rfl h ((if_neg (Nat.not_le.mpr inside)).trans (if_pos ?_)),
        fun beyond => gives_gateWrite rfl h (if_pos beyond)⟩
      exact (clsFetches_setFld s 11 0 v.toNat (tail n)).trans fetches
    case head =>
      intro h
      exact ⟨fun inside => gives_gateWrite rfl h (if_neg (Nat.not_le.mpr inside)), fun beyond => gives_gateWrite rfl h (if_pos beyond)⟩
    case enable =>
      intro h
      refine ⟨fun off => gives_gateWrite rfl h (if_pos off), fun i j sq cq on sqSize cqSize iLow iHigh jLow jHigh sqAt cqAt sqIn cqIn
        fetches => gives_gateWrite rfl h ((if_neg (by omega)).trans ((if_pos ?_).trans (if_pos ?_))),
        fun on small => gives_gateWrite rfl h ((if_neg (by omega)).trans (if_neg ?_))⟩
      · simp only [← sqAt, ← cqAt, sqSize, cqSize, sqIn, cqIn, ringSize_pow iLow iHigh, ringSize_pow jLow jHigh]
        rfl
      · exact (clsFetches_setFld s 31 31 1 (ctrl n)).trans fetches
      · simp [Nat.not_le.mpr small]
    case control =>
      intro h
      refine ⟨fun ask powered other => gives_gateWrite rfl h (if_pos ⟨ask, powered, other⟩),
        fun ask powered open_ => gives_gateWrite rfl h ((if_pos ask).trans (if_pos ?_)),
        fun ask ready => gives_gateWrite rfl h ((if_pos ask).trans (if_pos (beq_iff_eq.mpr ready)))⟩
      rw [powered, decide_eq_true open_]
      rfl
  case ready =>
    intro s hs active setup idle
    refine gives_act rfl hs (if_pos ?_)
    have none : s.cls.jobs.any s.holdsActivation = false := List.any_eq_false.mpr fun j hj => Bool.eq_false_iff.mp (idle j hj)
    rw [active, setup, none]
    rfl
  case reset =>
    intro s hs resetting written step s1 s2 s3 s4 again resetting2 step2
    have go (t : State) (h : (if s3.resetOwed then s3 else s3.resetUp) = t) : doClsResetFlushDone s = t := by
      have run : s2.resetGo = t := (if_neg (by rintro (a | b); exacts [a resetting2, b step2])).trans h
      refine (if_neg ?_).trans run
      rintro (a | b | c)
      · exact a resetting
      · exact absurd (written.symm.trans b) (by decide)
      · exact c step
    refine ⟨fun owed => gives_act rfl hs (go _ (if_pos owed)),
      fun served all => gives_act rfl hs (go _ ((if_neg (Bool.eq_false_iff.mp served)).trans (if_pos ?_))),
      fun served some => gives_act rfl hs (go _ ((if_neg (Bool.eq_false_iff.mp served)).trans (if_neg ?_)))⟩
    · exact List.isEmpty_iff.mpr all
    · exact mt List.isEmpty_iff.mp some

end Sys2Proof.Proofs

/-! PROOFS. The memory (spec/11_memory.md R403 to R425). -/
namespace Sys2Proof.Machine

theorem signed_toNat {w : Nat} (t : BitVec w) : signed w t.toNat = t.toInt := by
  unfold signed
  rw [Nat.mod_eq_of_lt t.isLt, BitVec.toInt_eq_toNat_cond]
  have below := t.isLt
  cases w with
  | zero => simp_all
  | succ n =>
    have double : 2 ^ (n + 1) = 2 * 2 ^ n := by ring
    simp only [Nat.add_sub_cancel]
    split <;> split <;> push_cast <;> omega

/-- The stacks of which only the first is in training. -/
theorem firstInTraining {s : State} (first : s.stackState 0 = 1) (second : s.stackState 1 ≠ 1) :
    (stackList s.variant).filter (fun x => s.stackState x == 1) = [0] := by
  unfold stackList
  split <;> simp [first, second]

end Sys2Proof.Machine

namespace Sys2Proof.Proofs
open Sys2Proof Sys2Proof.Machine

/-- Settles O43. -/
theorem memoryCommandsComplete : Obligations.MemoryCommandsComplete := by
  unfold Obligations.MemoryCommandsComplete
  refine ⟨?fill, ?scrub, ?retrain, ?map⟩
  case fill =>
    intro s d rest h t a len s0 range ready r
    have fields : ¬ (!memRangeOk s0.variant t) = true := by rw [show memRangeOk s0.variant t = true from range]; decide
    have on : ¬ (!s0.rangeReady a len) = true := by rw [ready]; decide
    exact gives_takeAs rfl h ((if_neg fields).trans (if_neg on))
  case scrub =>
    intro s d rest errs h t a len s0 range ready r
    have fields : ¬ (!memRangeOk s0.variant t) = true := by rw [show memRangeOk s0.variant t = true from range]; decide
    have on : ¬ (!s0.rangeReady a len) = true := by rw [ready]; decide
    exact gives_takeAs rfl h ((if_neg fields).trans (if_neg on))
  case retrain =>
    intro s d rest passed repaired h t x mask zeros there ready
    have fields : ¬ (t.fld 0 54 0 ≠ 0 ∨ (!(stackList (s.taken 19 d rest).variant).contains x) = true) := by
      rw [show (stackList (s.taken 19 d rest).variant).contains x = true from there]
      exact fun p => p.elim (fun high => high zeros) nofun
    have on : ¬ ((s.taken 19 d rest).stackState x ≠ 2 ∧ (s.taken 19 d rest).stackState x ≠ 4) :=
      fun p => ready.elim p.1 p.2
    exact gives_takeAs rfl h ((if_neg fields).trans (if_neg on))
  case map =>
    intro s m v h
    exact ⟨fun open_ => gives_gateWrite rfl h (if_neg (by omega)), fun locked => gives_gateWrite rfl h (if_pos locked)⟩

/-- Settles O44. -/
theorem memoryRequestsComplete : Obligations.MemoryRequestsComplete := by
  unfold Obligations.MemoryRequestsComplete
  intro s r hs bs p s0 host
  have out : ¬ (r.master = .host ∧ s.hostOut = true) := fun q => absurd ((host q.1).symm.trans q.2) (by decide)
  refine ⟨fun beyond => ?_, fun dram here ready sound => ?_, fun dram here ready failed read => ?_, fun comb powered ready => ?_⟩
  · have effect (t : State) (h : (if r.write then s.accessFault r.master r.write r.addr else
        (s.accessFault r.master r.write r.addr).emit (.memData r.master (bs.map (fun _ => 0)) false)) = t) :
        Gives (.memRequest r) s t := by
      refine gives_act rfl hs ((if_neg out).trans ?_)
      simp only [beyond]
      exact h
    exact ⟨fun write => effect _ (by rw [if_pos write, write]), fun read => effect _ (by rw [if_neg (by simp [read]), read])⟩
  · have effect (t : State) (h : (if s0.pcFailed p then
          if r.write then s0.countFailed p
          else (s0.countFailed p).emit (.memData r.master ((s0.countFailed p).bytes r.addr bs.length) true)
        else if r.write then
          if bs.length = 32 then s0.store r.addr bs else (s0.burstRead r.addr r.err r.retryErr).1.store r.addr bs
        else (s0.burstRead r.addr r.err r.retryErr).1.emit (.memData r.master
          ((s0.burstRead r.addr r.err r.retryErr).1.bytes r.addr bs.length)
          ((s0.burstRead r.addr r.err r.retryErr).1.poisonedAt r.addr bs.length))) = t) : Gives (.memRequest r) s t := by
      refine gives_act rfl hs ((if_neg out).trans ?_)
      simp only [dram]
      exact (if_neg (Bool.eq_false_iff.mp here)).trans ((if_neg fun q => q.1 ready).trans h)
    have good : ¬ s0.pcFailed p = true := Bool.eq_false_iff.mp sound
    exact ⟨fun write whole => effect _ ((if_neg good).trans ((if_pos write).trans (if_pos whole))),
      fun write part => effect _ ((if_neg good).trans ((if_pos write).trans (if_neg part))),
      fun read => effect _ ((if_neg good).trans (if_neg (Bool.eq_false_iff.mp read)))⟩
  · refine gives_act rfl hs ((if_neg out).trans ?_)
    simp only [dram]
    exact (if_neg (Bool.eq_false_iff.mp here)).trans ((if_neg fun q => ready.elim q.1 q.2).trans ((if_pos failed).trans
      (if_neg (Bool.eq_false_iff.mp read))))
  · have effect (t : State) (h : (if r.write then s.masterStore r.master r.addr bs else
        ((s.combRead r.addr r.err.lower).1.meet r.addr bs.length).emit (.memData r.master
          (((s.combRead r.addr r.err.lower).1.meet r.addr bs.length).bytes r.addr bs.length)
          (((s.combRead r.addr r.err.lower).1.meet r.addr bs.length).poisonedAt r.addr bs.length))) = t) : Gives (.memRequest r) s t := by
      refine gives_act rfl hs ((if_neg out).trans ?_)
      simp only [comb]
      exact (if_neg (by rw [powered]; decide)).trans ((if_neg (Bool.eq_false_iff.mp ready)).trans h)
    exact ⟨fun write => effect _ (if_pos write), fun read => effect _ (if_neg (Bool.eq_false_iff.mp read))⟩

/-- Settles O45. -/
theorem memoryUpkeepCompletes : Obligations.MemoryUpkeepCompletes := by
  unfold Obligations.MemoryUpkeepCompletes
  refine ⟨?channels, ?heat, ?training, ?wake, ?patrol, ?comb⟩
  case channels =>
    intro s x pc hs
    have sound (ready : s.stackState x = 2) (good : s.pcFailed (32 * x.val + pc.val) = false) :
        ¬ (s.stackState x ≠ 2 ∨ s.pcFailed (32 * x.val + pc.val) = true) :=
      fun p => p.elim (fun off => off ready) (Bool.eq_false_iff.mp good)
    refine ⟨?aged, ?refresh, ?retrain, ?parity⟩
    case aged =>
      intro there good
      exact gives_act rfl hs (if_pos (by rw [there, good]; rfl))
    case refresh =>
      intro waiting ahead ready good p b owed left
      exact gives_act rfl hs (if_neg (sound ready good))
    case retrain =>
      intro ok retrained repaired ready good
      refine ⟨fun pass => act_quiet rfl hs (if_pos (Or.inr (Or.inr pass))) hs.2 rfl rfl, fun bad => gives_act rfl hs (if_neg ?_)⟩
      rintro (off | failed | pass)
      · exact off ready
      · exact absurd (good.symm.trans failed) (by decide)
      · exact absurd (bad.symm.trans pass) (by decide)
    case parity =>
      intro again trained repaired ready good run put
      refine ⟨fun few => ?_, fun third => ?_, fun fourth => ?_⟩ <;>
        refine gives_act rfl hs ((if_neg (sound ready good)).trans ?_)
      · have more : ¬ run = 3 := by omega
        have once : ¬ run + 1 = 3 := by omega
        exact (if_neg more).trans (if_neg once)
      · have more : ¬ run = 3 := by omega
        have last : run + 1 = 3 := by omega
        refine (if_neg more).trans ((if_pos last).trans ?_)
        rw [show (if again = true then sget 0 s.memx.alerts (32 * x.val + pc.val) else 0) = 2 from third]
        rfl
      · exact if_pos fourth
  case heat =>
    intro s x t hs there s1 hot
    have effect (u : State) (h : (if hot = 0 ∧ 85 ≤ t.toInt then (s1.setFld (Reg.memStatus x) 27 27 1).fire 233
        else if hot = 1 ∧ t.toInt < 82 then (s1.setFld (Reg.memStatus x) 27 27 0).fire 233 else s1) = u) :
        Gives (.stackTemperatureRead x t) s u := by
      refine gives_act rfl hs ((if_neg (by rw [there]; decide)).trans ?_)
      simp only [signed_toNat]
      exact h
    refine ⟨fun cold high => effect _ (if_pos ⟨cold, high⟩),
      fun warm low => effect _ ((if_neg fun p => by omega).trans (if_pos ⟨warm, low⟩)),
      fun cold low => effect _ ((if_neg fun p => by omega).trans (if_neg fun p => by omega)),
      fun warm high => effect _ ((if_neg fun p => by omega).trans (if_neg fun p => by omega))⟩
  case training =>
    intro s f0 f1 r0 r1 hs first second s1
    refine gives_act rfl hs ?_
    unfold doMemTrainingDone
    rw [firstInTraining first second]
    dsimp only [List.isEmpty_cons, List.foldl_cons, List.foldl_nil]
    simp only [Nat.mul_zero, Nat.zero_add, if_true, BitVec.ofNat_toNat, BitVec.setWidth_eq]
    exact if_neg Bool.false_ne_true
  case wake =>
    intro s x failed repaired hs asleep powered s1
    exact gives_act rfl hs (if_pos ⟨asleep, powered⟩)
  case patrol =>
    intro s x e e' hs there on ready cool at_ p good more s1 s2
    refine gives_act rfl hs ?_
    have go : ¬ (s.fld Reg.memScrub 31 31 = 0 ∨ s.stackState x ≠ 2 ∨ s.fld (Reg.memStatus x) 27 27 = 1 ∨ 32 * pcBursts ≤ at_) := by
      rintro (off | off | hot | done)
      · omega
      · exact off ready
      · omega
      · omega
    refine (if_neg go).trans ?_
    rw [if_neg (Bool.eq_false_iff.mp good)]
    have same : s1.variant = s.variant := by
      simp only [s1]
      rw [(burstRead_meets ..).eq]
    have early : (stackList s2.variant).all (fun y => decide (32 * pcBursts ≤ sget 0 s2.memx.patrol y)) = false := by
      refine List.all_eq_false.mpr ⟨x.val, ?_, ?_⟩
      · rw [show s2.variant = s.variant from same]
        exact List.contains_iff_mem.mp there
      · rw [show sget 0 s2.memx.patrol x.val = at_ + 1 from sget_sset_self 0 s1.memx.patrol x.val (at_ + 1)]
        exact fun late => absurd (of_decide_eq_true late) (Nat.not_le.mpr more)
    exact if_neg (Bool.eq_false_iff.mp early)
  case comb =>
    intro s e hs powered
    refine ⟨fun on ready => gives_act rfl hs (if_neg ?_), act_quiet rfl hs (if_pos powered) hs.2 rfl rfl⟩
    rintro (off | dark | init)
    · omega
    · rw [powered] at dark
      exact absurd dark (by decide)
    · exact absurd (ready.symm.trans init) (by decide)

end Sys2Proof.Proofs

/-! PROOFS. The Beacon and the Ethernet ports (spec/12_time_cascade.md R428 to R442). -/
namespace Sys2Proof.Machine

theorem foldl_eq_self {α β : Type} {f : β → α → β} {b : β} : ∀ {l : List α}, (∀ a ∈ l, f b a = b) → l.foldl f b = b
  | [], _ => rfl
  | a :: l, h => by
    rw [List.foldl_cons, h a List.mem_cons_self]
    exact foldl_eq_self fun c hc => h c (List.mem_cons_of_mem a hc)

/-! Events leave the alarms of the cells as they are. -/

/-- Every cell of `t` has the alarm that it has in `s`. -/
structure State.Alarms (s t : State) : Prop where
  eq : ∀ n, (t.cell n).alarm = (s.cell n).alarm

theorem alarms_refl (s : State) : s.Alarms s := ⟨fun _ => rfl⟩

theorem State.Alarms.trans {s t u : State} (h : s.Alarms t) (k : t.Alarms u) : s.Alarms u := ⟨fun n => (k.eq n).trans (h.eq n)⟩

theorem alarms_of_hive {s t : State} (h : t.hive = s.hive) : s.Alarms t := by
  constructor
  intro n
  rw [State.cell, h]
  rfl

theorem setReg_alarms (s : State) (k : Nat) (v : Word) : s.Alarms (s.setReg k v) := alarms_of_hive rfl

theorem alarms_ite {s t u : State} {c : Prop} [Decidable c] (ht : s.Alarms t) (hu : s.Alarms u) : s.Alarms (if c then t else u) :=
  iteInduction (fun _ => ht) (fun _ => hu)

theorem alarms_foldl {α : Type} {s t : State} {f : State → α → State} (h : s.Alarms t) (hf : ∀ (t : State) (a : α), t.Alarms (f t a))
    (l : List α) : s.Alarms (l.foldl f t) :=
  List.foldlRecOn (motive := s.Alarms) l f h fun t h a _ => h.trans (hf t a)

theorem mapCell_alarms {s : State} {n : Nat} {f : CellSt → CellSt} (h : (f (s.cell n)).alarm = (s.cell n).alarm) :
    s.Alarms (s.mapCell n f) := by
  constructor
  intro m
  by_cases same : m = n
  · subst same
    rw [cell_mapCell_self, h]
  · rw [cell_mapCell_ne s f same]

theorem recordRequest_alarms (s : State) (e : Nat) : s.Alarms (s.recordRequest e) :=
  alarms_ite (alarms_refl s) (alarms_of_hive rfl)

theorem fireCore_alarms (s : State) (e : Nat) : s.Alarms (s.fireCore e) := by
  unfold State.fireCore
  extract_lets r asked own pended
  have h1 : s.Alarms asked := alarms_ite (recordRequest_alarms s e) (alarms_refl s)
  have h2 : s.Alarms pended := alarms_foldl h1 (fun t n => alarms_ite (mapCell_alarms rfl) (alarms_refl t)) _
  exact alarms_ite (alarms_ite (h2.trans (alarms_of_hive rfl)) (h2.trans (alarms_of_hive rfl))) h2

theorem latchWindow_alarms (s : State) (w : Nat) : s.Alarms (s.latchWindow w) := by
  unfold State.latchWindow
  extract_lets ok
  split
  · exact alarms_ite (alarms_foldl (setReg_alarms ..) (fun t p => setReg_alarms ..) _) (alarms_refl s)
  · exact alarms_refl s

theorem latchSnap_alarms (s : State) (cause origin : Nat) : s.Alarms (s.latchSnap cause origin) := by
  unfold State.latchSnap
  refine alarms_ite (alarms_refl s) ?_
  have swarm : ∀ t : State, s.Alarms t → s.Alarms (if (t.reg (Reg.hivRoute 13)).getLsbD 12
      then { t with due := { t.due with swarmSnap := true } } else t) :=
    fun t h => alarms_ite (h.trans (alarms_of_hive rfl)) h
  refine State.Alarms.trans (swarm _ (alarms_foldl ?_ latchWindow_alarms snapWindows)) (fireCore_alarms _ 13)
  have stamped : s.Alarms { s with fgh := { s.fgh with snapUs := some (s.now / 1000) } } := alarms_of_hive rfl
  exact (((stamped.trans (setReg_alarms ..)).trans (setReg_alarms ..)).trans (setReg_alarms ..)).trans (setReg_alarms ..)

theorem fire_alarms (s : State) (e : Nat) : s.Alarms (s.fire e) := by
  have fired := fireCore_alarms s e
  exact alarms_ite (fired.trans (alarms_of_hive rfl)) (alarms_ite (fired.trans (latchSnap_alarms ..)) fired)

theorem trig_of_trigs {s t : State} {n : Nat} (h : t.bcn.trigs = s.bcn.trigs) : t.trig n = s.trig n := by
  rw [State.trig, h]
  rfl

section
variable {s : State} {b : Beacon} {k hi lo x k' hi' lo' x' : Nat}

/-- A step of time (R431) leaves the triggers as they are. -/
theorem stepped_trig {n : Nat} (h : b.trigs = s.bcn.trigs) :
    ((({ s with bcn := b } : State).setFld k hi lo x).setFld k' hi' lo' x').trig n = s.trig n := trig_of_trigs h

/-- A step of time leaves the cells as they are. -/
theorem stepped_cell (n : Nat) : ((({ s with bcn := b } : State).setFld k hi lo x).setFld k' hi' lo' x').cell n = s.cell n := rfl

end

/-- An event leaves the triggers of the Beacon as they are. -/
theorem fire_trig (s : State) (e n : Nat) : (s.fire e).trig n = s.trig n := by
  rw [(fire_signals s e).eq]
  rfl

/-- A step of time finds no trigger and no alarm that it could pass where none is armed (R431). -/
theorem foldl_unarmed {s : State} {passed : Word → Bool} (trigs : ∀ n, n < 16 → (s.trig n).st ≠ .armed)
    (alarms : ∀ n, n < 8 → (s.cell n).alarm ≠ .armed) :
    (List.range 8).foldl (fun s n => if (s.cell n).alarm == .armed && passed (s.cell n).alarmTime then s.alarmAct n else s)
      ((List.range 16).foldl (fun s n => if (s.trig n).st == .armed && passed (s.trig n).time then s.trigAct n true else s) s) = s := by
  rw [foldl_eq_self (l := List.range 16), foldl_eq_self (l := List.range 8)]
  · intro n hn
    refine if_neg fun p => alarms n (List.mem_range.mp hn) ?_
    exact beq_iff_eq.mp (Bool.and_eq_true_iff.mp p).1
  · intro n hn
    refine if_neg fun p => trigs n (List.mem_range.mp hn) ?_
    exact beq_iff_eq.mp (Bool.and_eq_true_iff.mp p).1

theorem ite_bne {α : Type} (a b : Nat) (x y : α) : (if (a != b) = true then x else y) = if a = b then y else x := by
  by_cases same : a = b <;> simp [same]

/-- The events of a step of time leave it so that it passes no trigger and no alarm where none is armed (R431). -/
theorem foldl_fires_unarmed {s : State} {passed : Word → Bool} {a b : Nat}
    (trigs : ∀ n, n < 16 → (s.trig n).st ≠ .armed) (alarms : ∀ n, n < 8 → (s.cell n).alarm ≠ .armed) :
    (List.range 8).foldl (fun s n => if (s.cell n).alarm == .armed && passed (s.cell n).alarmTime then s.alarmAct n else s)
      ((List.range 16).foldl (fun s n => if (s.trig n).st == .armed && passed (s.trig n).time then s.trigAct n true else s)
        ((if a != b then s.fire 241 else s).fire 239)) = (if a = b then s else s.fire 241).fire 239 := by
  rw [ite_bne]
  have fired : s.Alarms ((if a = b then s else s.fire 241).fire 239) :=
    (alarms_ite (alarms_refl s) (fire_alarms s 241)).trans (fire_alarms ..)
  refine foldl_unarmed (fun n hn => ?_) (fun n hn => ?_)
  · rw [fire_trig]
    split
    · exact trigs n hn
    · rw [fire_trig]
      exact trigs n hn
  · rw [fired.eq]
    exact alarms n hn

/-! A frame that its port takes in (R437). -/

section
variable {s : State} {p stamp : Nat} {bytes : List Byte}

/-- What becomes of a frame that goes to a ring's slot, where there is one. -/
def State.frameTaken (s : State) (p k : Nat) (bytes : List Byte) (stamp : Nat) (r : MemRing) : Option (Nat × Nat) → State
  | none => (s.bump (Reg.ethCount1 p) 31 16 1).fire 238
  | some (w, a) => s.frameIn p k bytes stamp r w a

/-- What becomes of a frame that filter `k` takes, where one does. -/
def State.frameFiltered (s : State) (p : Nat) (bytes : List Byte) (stamp : Nat) : Option Nat → State
  | none => s.bump (Reg.ethCount0 p) 15 0 1
  | some k =>
    match s.bcn.ring with
    | none => (s.bump (Reg.ethCount1 p) 31 16 1).fire 238
    | some r => (s.meet (r.ctrl + 16) 16).frameTaken p k bytes stamp r ((s.meet (r.ctrl + 16) 16).ringSlot r 2048)

section
variable (there : ethAbsent s.variant p = false) (up : s.ethUp p = true) (short : bytes.length ≤ 2016)
  (data : ¬ ((etherType bytes).1 = 0x8808 ∧ be16 bytes (etherType bytes).2 = 1)) (stall : s.unitStalled 0x0E = false)
include there up short data stall

theorem ethFrameReceived_filtered : doEthFrameReceived p bytes true stamp s = s.frameFiltered p bytes stamp
    ((List.range 16).find? (fun k => (sget ⟨false, 0, 0, 0⟩ s.bcn.filters k).matches p bytes)) := by
  have on : ¬ (ethAbsent s.variant p || !s.ethUp p) = true := by rw [there, up]; decide
  rw [doEthFrameReceived, if_neg on, if_neg (by decide), if_neg (Nat.not_lt.mpr short), if_neg data,
    if_neg (Bool.eq_false_iff.mp stall)]
  obtain ⟨slot, read⟩ : ∃ f : MemRing → Option (Nat × Nat), ∀ r, (s.meet (r.ctrl + 16) 16).ringSlot r 2048 = f r :=
    ⟨_, fun _ => rfl⟩
  unfold State.frameFiltered
  simp only [read]
  generalize (List.range 16).find? (fun k => (sget ⟨false, 0, 0, 0⟩ s.bcn.filters k).matches p bytes) = filter
  cases filter with
  | none => rfl
  | some k =>
    cases s.bcn.ring with
    | none => rfl
    | some r => 
      dsimp only
      unfold State.frameTaken
      cases slot r <;> rfl

end

end

end Sys2Proof.Machine

namespace Sys2Proof.Proofs
open Sys2Proof Sys2Proof.Machine

/-- Settles O46. -/
theorem beaconCommandsComplete : Obligations.BeaconCommandsComplete := by
  unfold Obligations.BeaconCommandsComplete
  refine ⟨?now, ?writes, ?triggers, ?pulse⟩
  case now =>
    intro s m hs
    exact ⟨act_quiet rfl hs rfl hs.2 rfl rfl, gives_act rfl hs rfl⟩
  case writes =>
    intro s m v
    refine ⟨fun h => ⟨fun low high => gives_gateWrite rfl h ?_, fun beyond => gives_gateWrite rfl h ?_⟩, fun h => quiet_gateWrite rfl h rfl h.1.2 rfl rfl,
      fun h trigs alarms => ?_⟩
    · dsimp only
      rw [if_pos ⟨low, high⟩]
    · dsimp only
      rw [if_neg fun p => by omega]
    rw [Nat.add_assoc s.now]
    intro e' s1 s2
    have trigs2 : ∀ n, n < 16 → (s2.trig n).st ≠ .armed := fun n hn =>
      ne_of_eq_of_ne (congrArg Trig.st (stepped_trig (s := s) rfl)) (trigs n hn)
    have alarms2 : ∀ n, n < 8 → (s2.cell n).alarm ≠ .armed := fun n hn =>
      ne_of_eq_of_ne (congrArg CellSt.alarm (stepped_cell (s := s) n)) (alarms n hn)
    let d := v.toNat * 2 ^ 32 + (s.reg Reg.bcnStepLo).toNat
    let passed (t : Word) : Bool := decide (d < 2 ^ 63) && decide (s.now < extendNear s.now t ∧ extendNear s.now t ≤ s.now + d)
    exact gives_gateWrite rfl h (foldl_fires_unarmed (passed := passed) trigs2 alarms2)
  case triggers =>
    intro s m n v h time
    refine ⟨fun free => ⟨fun arm past => ?_, fun arm future => ?_, fun disarm => ?_⟩, fun owned => ?_⟩ <;>
      refine gives_gateWrite (f := fun s => if (s.trigOwner n).isSome then s.accessFault m true (regsBase + Reg.bcnTrigArm n)
        else if bitsOf v 31 30 = 2 then (s.armTrig n (s.reg (Reg.bcnTrigTime n))).1
        else if bitsOf v 31 30 = 1 then (s.disarmTrig n).1 else s) rfl h ?_
    · exact (if_neg (by rw [free]; exact Bool.false_ne_true)).trans ((if_pos arm).trans (congrArg Prod.fst (if_pos past)))
    · exact (if_neg (by rw [free]; exact Bool.false_ne_true)).trans ((if_pos arm).trans
        (congrArg Prod.fst (if_neg (Bool.eq_false_iff.mp future))))
    · exact (if_neg (by rw [free]; exact Bool.false_ne_true)).trans ((if_neg (by omega)).trans (if_pos disarm))
    · exact if_pos owned
  case pulse =>
    intro s n hs high s1
    exact gives_act rfl hs (if_neg (by rw [high]; decide))

/-- Settles O47. -/
theorem ethernetCommandsComplete : Obligations.EthernetCommandsComplete := by
  unfold Obligations.EthernetCommandsComplete
  refine ⟨?setup, ?filter, ?ring, ?send, ?departure, ?stream, ?rtp, ?received, ?link⟩
  case setup =>
    intro s d rest h t p there zeros e s0 s1 s2
    have fields : ¬ (ethAbsent s0.variant p || !t.zeros [(0, 67, 0), (1, 79, 0)]) = true := by
      rw [show ethAbsent s0.variant p = false from there, zeros]; decide
    exact gives_takeAs rfl h (if_neg fields)
  case filter =>
    intro s d rest h t mask zeros kind ports x s0
    refine gives_takeAs rfl h (if_neg ?_)
    rintro (high | third | absent)
    · exact high zeros
    · exact kind third
    · obtain ⟨p, hp, named⟩ := List.any_eq_true.mp absent
      obtain ⟨bit, gone⟩ := Bool.and_eq_true_iff.mp named
      exact absurd ((ports p (List.mem_range.mp hp) bit).symm.trans gone) (by decide)
  case ring =>
    intro s d rest h t base n ctrl zeros aligned size ctrlAligned baseIn ctrlIn s0
    refine gives_takeAs rfl h (if_neg ?_)
    rintro (high | base64 | wrong | ctrl64 | baseOut | ctrlOut)
    · exact high zeros
    · exact base64 aligned
    · exact absurd (size.symm.trans ((Bool.not_eq_true' _).mp wrong)) (by decide)
    · exact ctrl64 ctrlAligned
    · exact absurd (baseIn.symm.trans ((Bool.not_eq_true' _).mp baseOut)) (by decide)
    · exact absurd (ctrlIn.symm.trans ((Bool.not_eq_true' _).mp ctrlOut)) (by decide)
  case send =>
    intro s d rest h t s0 p s1
    refine ⟨fun st refused => ?_, fun st good bad => ?_, fun good fine => ?_⟩ <;> refine gives_takeAs rfl h ?_
    · simp only [show (s.taken 21 d rest).pktRefused (s.run 21 d) = some st from refused]
      rfl
    · simp only [s1, s0, t] at good bad
      simp only [good, bad]
      rfl
    · simp only [s1, s0, t] at good fine
      simp only [good, fine]
      rfl
  case departure =>
    intro s p i rest hs queued stall s0 f s1
    have go : ¬ s.unitStalled 0x0E = true := Bool.eq_false_iff.mp stall
    refine ⟨fun plain => gives_act rfl hs ?_, fun tag tagged => gives_act rfl hs ?_⟩ <;> unfold doPktDeparture <;>
      simp only [queued] <;> refine (if_neg go).trans ?_
    · simp only [plain]
      rfl
    · simp only [tagged]
      rfl
  case stream =>
    intro s d rest h t k there zeros low high r s0 s1
    refine gives_takeAs rfl h (if_neg ?_)
    rw [show ethAbsent (s.taken 21 d rest).variant ((s.run 21 d).fld 0 83 82) = false from there,
      decide_eq_false (not_not.mpr zeros), decide_eq_false (Nat.not_lt.mpr low), decide_eq_false (Nat.not_lt.mpr high)]
    decide
  case rtp =>
    intro s d rest r h t s0 s1 stream good fine
    refine gives_takeAs rfl h ?_
    have made : sget none (s.taken 21 d rest).bcn.rtp (t.fld 0 87 84) = some r := stream
    simp only [s1, s0, t] at made good fine
    simp only [made, good, fine]
    rfl
  case received =>
    intro s p bytes stamp hs there up hit
    have on : ¬ (ethAbsent s.variant p || !s.ethUp p) = true := by rw [there, up]; decide
    have good : ¬ (!true) = true := by decide
    refine ⟨gives_act rfl hs ?_, fun long => gives_act rfl hs ?_, fun short type pause => act_quiet rfl hs ?_ hs.2 rfl rfl,
      fun short data stall => ⟨fun miss => gives_act rfl hs ?_, fun k r found made => ⟨fun full => gives_act rfl hs ?_,
        fun w a slot => gives_act rfl hs ?_⟩⟩⟩
    · rw [doEthFrameReceived, if_neg on, if_pos (by decide)]
    · rw [doEthFrameReceived, if_neg on, if_neg good, if_pos long]
    · rw [doEthFrameReceived, if_neg on, if_neg good, if_neg (Nat.not_lt.mpr short), if_pos ⟨type, pause⟩]
    · rw [ethFrameReceived_filtered there up short data stall]
      exact congrArg (State.frameFiltered s p bytes stamp) miss
    · rw [ethFrameReceived_filtered there up short data stall, show (List.range 16).find? _ = _ from found, State.frameFiltered, made]
      exact congrArg (State.frameTaken _ p k bytes stamp r) full
    · rw [ethFrameReceived_filtered there up short data stall, show (List.range 16).find? _ = _ from found, State.frameFiltered, made]
      exact congrArg (State.frameTaken _ p k bytes stamp r) slot
  case link =>
    intro s p up hs there enabled
    refine gives_act rfl hs (if_neg ?_)
    rw [there, enabled]
    decide

end Sys2Proof.Proofs

/-! PROOFS. The cascade (spec/12_time_cascade.md R443 to R461). -/
namespace Sys2Proof.Machine

end Sys2Proof.Machine

namespace Sys2Proof.Proofs
open Sys2Proof Sys2Proof.Machine

/-- Settles O48. -/
theorem cascadeDescriptorsComplete : Obligations.CascadeDescriptorsComplete := by
  unfold Obligations.CascadeDescriptorsComplete
  refine ⟨?setup, ?export_, ?import_, ?stop, ?message, ?line, ?stamps⟩
  case setup =>
    intro s d rest h t s0 good
    have fields : ¬ casSetupBad s0.variant t = true := Bool.eq_false_iff.mp good
    refine ⟨fun leave => gives_takeAs rfl h ((if_neg fields).trans (if_pos leave)), fun join free => ?_⟩
    have stays : ¬ t.fld 0 87 87 = 0 := by omega
    simp only [s0, t] at free
    refine ⟨fun plain => ?_, fun count => ?_⟩ <;> refine gives_takeAs rfl h ((if_neg fields).trans ((if_neg stays).trans ?_)) <;>
      simp only [free]
    · exact if_neg (show ¬ t.fld 0 85 85 = 1 by omega)
    · exact if_pos count
  case export_ =>
    intro s d rest f w stride ctrl base lines h t k s0 fields noExport noImport usable s1
    simp only [s0, t] at fields
    refine gives_takeAs rfl h ?_
    simp only [fields]
    have free : ¬ ((s0.casExport k).isSome || (s0.casImport k).isSome) = true := by
      rw [show s0.casExport k = none from noExport, show s0.casImport k = none from noImport]; decide
    exact (if_neg free).trans (if_neg (mt List.isEmpty_iff.mp usable))
  case import_ =>
    intro s d rest f w stride ctrl base lines h t k s0 fields zeros noExport noImport usable
    simp only [s0, t] at fields
    refine gives_takeAs rfl h ?_
    simp only [fields]
    have free : ¬ ((s0.casExport k).isSome || (s0.casImport k).isSome) = true := by
      rw [show s0.casExport k = none from noExport, show s0.casImport k = none from noImport]; decide
    exact (if_neg (not_not.mpr zeros)).trans ((if_neg free).trans (if_neg (mt List.isEmpty_iff.mp usable)))
  case stop =>
    intro s d rest h t k s0 zeros
    refine ⟨fun exporter => gives_takeAs rfl h ((if_neg (not_not.mpr zeros)).trans (if_pos exporter)),
      fun importer => gives_takeAs rfl h ((if_neg (not_not.mpr zeros)).trans (if_neg ?_))⟩
    exact show ¬ t.fld 0 81 81 = 0 by omega
  case message =>
    intro s d rest h t zeros enabled assigned inside usable m
    have joined : ¬ (!(s.taken 20 d rest).cas.enable || !(s.taken 20 d rest).casAssigned ||
        decide ((s.taken 20 d rest).ringSize ≤ t.fld 0 87 84) || (s.taken 20 d rest).cas.usable.isEmpty) = true := by
      rw [show (s.taken 20 d rest).cas.enable = true from enabled, show (s.taken 20 d rest).casAssigned = true from assigned,
        decide_eq_false (show ¬ (s.taken 20 d rest).ringSize ≤ t.fld 0 87 84 from Nat.not_le.mpr inside), show (s.taken 20 d rest).cas.usable.isEmpty = false from
          Bool.eq_false_iff.mpr (mt List.isEmpty_iff.mp usable)]
      decide
    exact gives_takeAs rfl h ((if_neg (not_not.mpr zeros)).trans (if_neg joined))
  case line =>
    intro s k x hs open_ runs
    refine gives_act rfl hs ?_
    unfold doCasExportLine
    simp only [open_]
    exact if_pos runs
  case stamps =>
    intro s m k hs s1
    refine ⟨fun first free => act_quiet rfl hs ?_ hs.2 rfl rfl, fun later early => act_quiet rfl hs ?_ hs.2 rfl rfl,
      fun last held => gives_act rfl hs ?_⟩
    · have zero : k.val = 0 := congrArg Fin.val first
      have free' : s1.cas.held = false := free
      simp only [doCasWaggleStampRead, zero, if_true, State.mapCas] at free' ⊢
      simp only [s1, zero] at free' ⊢
      simp only [free', Bool.false_eq_true, if_false]
    · exact (if_neg (by omega)).trans (if_neg fun p => by omega)
    · have five : k.val = 5 := congrArg Fin.val last
      have first : ¬ k.val = 0 := by omega
      exact (if_neg first).trans (if_pos ⟨five, held⟩)

end Sys2Proof.Proofs

/-! PROOFS. The host port and the control buses (spec/13_host_control_buses.md R464 to R487). -/
namespace Sys2Proof.Machine

/-- A port with a run is busy. -/
theorem twBusy_of_run {s : State} {p : Nat} {r : TwRun} (run : s.twRun p = some r) : s.twBusy p = true := by
  rw [State.twBusy, run]
  rfl

/-- An event leaves the runs of the two-wire ports as they are. -/
theorem fire_twRun (s : State) (e p : Nat) : (s.fire e).twRun p = s.twRun p := by
  rw [(fire_signals s e).eq]
  rfl

end Sys2Proof.Machine

namespace Sys2Proof.Proofs
open Sys2Proof Sys2Proof.Machine

/-- Settles O50. -/
theorem twoWireCommandsComplete : Obligations.TwoWireCommandsComplete := by
  unfold Obligations.TwoWireCommandsComplete
  refine ⟨?transfer, ?runs, ?clear, ?control, ?target⟩
  case transfer =>
    intro s d rest h t p s0 s1 free
    have ready : (!s.twBusy ((d.taken 0).fld 0 87 85)) = true := by
      rw [show s.twBusy ((d.taken 0).fld 0 87 85) = false from free]; rfl
    refine ⟨fun st refused => gives_takeWhen rfl rfl h ready ?_, fun st good bad => gives_takeWhen rfl rfl h ready ?_,
      fun good fine => gives_takeWhen rfl rfl h ready ?_⟩
    · simp only [s0, t] at refused
      simp only [refused]
      rfl
    · simp only [s1, s0, t] at good bad
      simp only [good, bad]
      rfl
    · simp only [s1, s0, t] at good fine
      simp only [good, fine]
      rfl
  case runs =>
    intro s p r hs run
    have busy : ¬ (!s.twBusy p) = true := by rw [twBusy_of_run run]; decide
    refine ⟨fun bytes => gives_act rfl hs ?_, gives_act rfl hs ?_, fun i low high => gives_act rfl hs ?_,
      fun b i => ?_, gives_act rfl hs (if_neg busy),
      fun controller timeout powered => gives_act rfl hs (if_neg ?_), fun timeout => gives_act rfl hs (if_neg ?_)⟩
    · simp only [doTwXferComplete, run]
    · simp only [doTwXferComplete, run]
    · simp only [doTwXferComplete, run]
      exact if_neg fun p => by omega
    · intro s1 s2 r'
      have kept : s2.twRun p = some r := (fire_twRun (s1.bump (Reg.twCount p) 31 16 1) 252 p).trans run
      have shown (u : State) (h : (if r'.retry ∧ r'.made ≤ r'.attempts then
            (s2.setTw p (some { r' with made := r'.made + 1 }) false).emit (r'.sends p)
          else s2.twEnds p r' twArbLost (min (b.toNat - 1) r.wr.length) (min (b.toNat - 1 - r.wr.length) r.rdLen) false) = u) :
          Gives (.twArbitrationLost p b i) s u := by
        refine gives_act rfl hs ((if_neg busy).trans ?_)
        dsimp only
        split
        next r'' found =>
          obtain rfl : r = r'' := Option.some.inj (kept.symm.trans found)
          exact h
        next none => exact absurd (kept.symm.trans none) nofun
      exact ⟨fun again left => shown _ (if_pos ⟨again, left⟩), fun last => shown _ (if_neg fun more =>
        last.elim (fun once => absurd (once.symm.trans more.1) (by decide)) fun over_ => Nat.not_lt.mpr more.2 over_)⟩
    · simp [controller, timeout, powered]
    · simp [twBusy_of_run run, timeout]
  case clear =>
    intro s d rest h t p s0 free controller zeros
    have ready : (!s.twBusy ((d.taken 0).fld 0 87 85)) = true := by
      rw [show s.twBusy ((d.taken 0).fld 0 87 85) = false from free]; rfl
    have fields : ¬ (!twController p || t.fld 0 84 0 != 0) = true := by simp [controller, zeros]
    exact ⟨fun k => gives_takeWhen rfl rfl h ready ((if_neg fields).trans (if_pos rfl)),
      fun k => gives_takeWhen rfl rfl h ready ((if_neg fields).trans (if_neg Bool.false_ne_true)),
      gives_takeWhen rfl rfl h ready ((if_neg fields).trans (if_neg Bool.false_ne_true))⟩
  case control =>
    intro s m p v h other x t s1
    refine ⟨fun run => ?_, fun reset => ?_⟩ <;> refine gives_gateWrite rfl h ?_ <;> dsimp only <;> rw [if_neg other]
    · exact if_pos run
    · exact (if_neg (by omega)).trans (if_neg other)
  case target =>
    intro s m v h
    refine ⟨fun run => ?_, fun reset => ?_⟩ <;> refine gives_gateWrite rfl h ?_
    · exact if_pos run
    · exact (if_neg (by omega)).trans (if_pos rfl)

/-- Settles O51. -/
theorem targetPortCommandsComplete : Obligations.TargetPortCommandsComplete := by
  unfold Obligations.TargetPortCommandsComplete
  intro s hs
  refine ⟨fun powered => ⟨fun n ready => gives_act rfl hs ?_, fun p bytes ready => gives_act rfl hs ?_,
    fun bytes ignored => act_quiet rfl hs ?_ hs.2 rfl rfl⟩, fun m v h => gives_gateWrite rfl h ?_,
    fun low high => gives_act rfl hs (if_pos ⟨low, high⟩), fun answering on => gives_act rfl hs (if_pos ⟨answering, on⟩)⟩
  · exact (if_neg (by rw [powered]; decide)).trans (if_neg (Bool.eq_false_iff.mp ready))
  · exact (if_neg (by rw [powered]; decide)).trans (if_neg (Bool.eq_false_iff.mp ready))
  · exact (if_neg (by rw [powered]; decide)).trans (if_pos ignored)
  · rfl

/-- Settles O52. -/
theorem bootFlashCommandsComplete : Obligations.BootFlashCommandsComplete := by
  unfold Obligations.BootFlashCommandsComplete
  refine ⟨?read, ?program, ?erase, ?runs⟩
  case read =>
    intro s d rest h t off n dst s0 idle some zeros inside fits
    refine gives_takeWhen rfl rfl h (by rw [idle]; rfl) (if_neg ?_)
    rintro (none | high | outside | beyond)
    · exact some none
    · exact absurd (zeros.symm.trans high) (by decide)
    · exact absurd (inside.symm.trans outside) (by decide)
    · exact Nat.not_lt.mpr fits beyond
  case program =>
    intro s d rest h t off n src s0 idle some zeros inside fits unlocked clean
    refine gives_takeWhen rfl rfl h (by rw [idle]; rfl) ((if_neg ?_).trans ((if_neg (Bool.eq_false_iff.mp unlocked)).trans
      (if_neg (Bool.eq_false_iff.mp clean))))
    rintro (none | high | outside | beyond)
    · exact some none
    · exact absurd (zeros.symm.trans high) (by decide)
    · exact absurd (inside.symm.trans outside) (by decide)
    · exact Nat.not_lt.mpr fits beyond
  case erase =>
    intro s d rest h t off n s0 idle aligned zeros fits unlocked
    refine gives_takeWhen rfl rfl h (by rw [idle]; rfl) ((if_neg ?_).trans (if_neg ?_))
    · rintro (odd | high | beyond)
      · exact odd aligned
      · exact high zeros
      · exact Nat.not_lt.mpr fits beyond
    · exact fun p => absurd ((unlocked p.1).symm.trans p.2) (by decide)
  case runs =>
    intro s r hs run
    refine ⟨fun erase => ?_, fun program => ?_, gives_act rfl hs ?_⟩
    · refine gives_act rfl hs ?_
      simp only [doFlashPageDone, run, erase, if_true]
      rfl
    · refine gives_act rfl hs ?_
      simp only [doFlashPageDone, run, program, Bool.false_eq_true, if_false]
      rfl
    · simp only [doFlashPollTimeout, run]
      rfl

/-- Settles O53. -/
theorem endpointAndBootComplete : Obligations.EndpointAndBootComplete := by
  unfold Obligations.EndpointAndBootComplete
  refine ⟨?pin, ?link, ?resets, ?vector, ?window, ?directory, ?entry⟩
  case pin =>
    intro s p level hs mask balls s1 e
    refine ⟨fun asleep => gives_act rfl hs (if_neg ?_), fun change edge wake => gives_act rfl hs (if_pos ?_)⟩
    · have quiet : ¬ s1.fld Reg.gpioWake p p = 1 := by omega
      exact fun on => quiet (beq_iff_eq.mp (Bool.and_eq_true_iff.mp on).2)
    · exact Bool.and_eq_true_iff.mpr ⟨Bool.and_eq_true_iff.mpr ⟨bne_iff_ne.mpr change, beq_iff_eq.mpr edge⟩, beq_iff_eq.mpr wake⟩
  case link =>
    intro s up width speed hs powered was shown lit s1
    have effect (t : State) (h : (if was = 1 ∧ (!up) = true then (if was = up.toNat then s1 else s1.fire 250).report 0x00 0 0x0D 0
        else if was = up.toNat then s1 else s1.fire 250) = t) : Gives (.pcieLinkChange up width speed) s t :=
      gives_act rfl hs ((if_neg (by rw [powered]; decide)).trans h)
    refine ⟨fun same => effect _ ((if_neg ?_).trans (if_pos same)), fun down rises => effect _ ((if_neg ?_).trans (if_neg ?_)),
      fun up_ falls => effect _ ((if_pos ?_).trans ?_)⟩
    · rintro ⟨one, low⟩
      cases up
      · exact absurd (one.symm.trans same) (by decide)
      · exact absurd low (by decide)
    · exact fun p => absurd (down.symm.trans p.1) (by decide)
    · rw [rises, down]
      decide
    · exact ⟨up_, by rw [falls]; rfl⟩
    · rw [if_neg (by rw [up_, falls]; decide)]
  case resets =>
    intro s hs
    exact ⟨gives_act rfl hs rfl, gives_act rfl hs rfl⟩
  case vector =>
    intro s v hs
    exact gives_act rfl hs rfl
  case window =>
    intro s m v h
    exact gives_gateWrite rfl h rfl
  case directory =>
    intro s p1 p2 hs early a b load
    have begun : ¬ 2 ≤ s.bootState := by omega
    have second (bad : p1 = true ∨ directoryOk s.variant a = false) : (!p1 && directoryOk s.variant a) = false := by
      obtain bad | bad := bad <;> simp [bad]
    refine ⟨fun read good => gives_act rfl hs ?_, fun bad read good => gives_act rfl hs ?_, fun bad worse => gives_act rfl hs ?_⟩ <;>
      rw [doBootDirectoryReadDone, if_neg begun] <;> dsimp only
    · simp only [a] at good
      simp only [read, good, Bool.not_false, Bool.and_self, Bool.not_true, Bool.false_and, Bool.false_eq_true, if_false, if_true]
      rfl
    · replace bad := second bad
      simp only [a] at bad
      simp only [b] at good
      simp only [bad, read, good, Bool.not_false, Bool.and_self, Bool.not_true, Bool.and_false, Bool.false_eq_true, if_false]
      rfl
    · replace bad := second bad
      simp only [a] at bad
      simp only [b] at worse
      rw [bad]
      obtain worse | worse := worse <;> simp only [worse, Bool.and_false, Bool.false_and, Bool.not_true, Bool.not_false, Bool.and_self, if_true]
  case entry =>
    intro s poisoned e rest hs loading free keeper next ready initialised s1
    have go : ¬ (s.bootState ≠ 2 ∨ s.hci.bootWait = true ∨ s.kprState ≠ 2 ∧ s.kprState ≠ 3) := by
      rintro (other | waits | busy)
      · exact other loading
      · exact absurd (free.symm.trans waits) (by decide)
      · omega
    have there : ¬ ((e.dest < combBase ∧ (!s.memReady) = true) ∨ (combBase ≤ e.dest ∧ s.memx.combInit = true)) := by
      rintro (⟨low, dark⟩ | ⟨high, init⟩)
      · obtain high | up := ready
        · exact absurd low (Nat.not_lt.mpr high)
        · rw [up] at dark
          exact absurd dark (by decide)
      · exact absurd ((initialised high).symm.trans init) (by decide)
    refine ⟨fun data => gives_act rfl hs ?_, fun image loader => gives_act rfl hs ?_⟩ <;>
      rw [doBootEntryCopyDone, if_neg go, next] <;> dsimp only <;> rw [if_neg there]
    · have other : ¬ e.type = 2 := by omega
      rw [if_neg fun p => other p.1, if_neg other]
    · rw [if_neg fun p => p.2 loader, if_pos image]
      rfl

end Sys2Proof.Proofs

/-! PROOFS. Foghorn: records, domains, Hold and Doze (spec/14_safety_power_reset.md R492 to R508). -/
namespace Sys2Proof.Proofs
open Sys2Proof Sys2Proof.Machine

/-- Settles O54. -/
theorem recordsComplete : Obligations.RecordsComplete := by
  unfold Obligations.RecordsComplete
  refine ⟨?close, ?write, ?test, ?clocks, ?mismatch, ?clear, ?pin, ?trigger, ?read, ?copy, ?report⟩
  case close =>
    intro s i e hs entry open_ first
    have go : ¬ (!e.windowOpen || (s.fgh.intake.take i).any (·.windowOpen)) = true := by rw [open_, first]; decide
    refine ⟨fun stays => gives_act rfl hs ?_, fun written once => gives_act rfl hs ?_⟩ <;>
      simp only [doIntakeWindowClose, entry] <;> refine (if_neg go).trans ?_
    · refine if_neg fun p => ?_
      obtain ⟨some, once⟩ := Bool.and_eq_true_iff.mp p
      obtain none | again := stays
      · rw [none] at some
        exact absurd some (by decide)
      · rw [again] at once
        exact absurd once (by decide)
    · refine if_pos (Bool.and_eq_true_iff.mpr ⟨Option.isSome_iff_ne_none.mpr written, ?_⟩)
      rw [once]
      rfl
  case write =>
    intro s i hs good next
    refine gives_act rfl hs ((if_neg (by omega)).trans ?_)
    simp only [next]
  case test =>
    intro s l hs on s1
    refine gives_act rfl hs ((if_neg (by omega)).trans ?_)
    rw [List.length_map, List.foldl_map]
  case clocks =>
    intro s d hs n s1
    refine ⟨fun few => gives_act rfl hs ((if_pos rfl).trans (if_neg fun p => by omega)),
      fun five fresh => gives_act rfl hs ((if_pos rfl).trans (if_pos ⟨five, fresh⟩)),
      fun five old => gives_act rfl hs ((if_pos rfl).trans (if_neg fun p => absurd (old.symm.trans p.2) (by decide))),
      gives_act rfl hs (if_neg Bool.false_ne_true)⟩
  case mismatch =>
    intro s hs s1
    exact gives_act rfl hs rfl
  case clear =>
    intro s m v h s1
    refine ⟨fun stay => gives_gateWrite rfl h (if_neg fun p => by omega),
      fun ask low free => gives_gateWrite rfl h (if_pos ⟨ask, low, free⟩),
      fun ask stuck => gives_gateWrite rfl h (if_neg fun p => ?_)⟩
    obtain ⟨-, low, free⟩ := p
    obtain high | held := stuck
    · exact absurd (high.symm.trans low) (by decide)
    · exact absurd (free.symm.trans held) (by decide)
  case pin =>
    intro s m v h ask s1
    refine ⟨fun only => gives_gateWrite rfl h ?_, fun fatal => gives_gateWrite rfl h ?_⟩ <;> dsimp only <;> rw [if_pos ask]
    · exact if_neg (by omega)
    · exact if_pos fatal
  case trigger =>
    intro s m v h ask
    exact gives_gateWrite rfl h (if_pos ask)
  case read =>
    intro s d rest h t dst recs zeros aligned inside
    refine gives_takeAs rfl h ((if_neg ?_).trans (if_neg ?_))
    · exact fun p => p.elim (fun high => absurd (zeros.symm.trans high) (by decide)) fun odd => odd aligned
    · rw [show inMemory (s.taken 23 d rest).variant dst (32 * ((s.taken 23 d rest).recordsAsked t).length) = true from inside]
      decide
  case copy =>
    intro s d rest torn h t dst zeros aligned inside
    refine gives_takeAs rfl h ((if_neg ?_).trans (if_neg ?_))
    · exact fun p => p.elim (fun high => absurd (zeros.symm.trans high) (by decide)) fun odd => odd aligned
    · rw [show inMemory (s.taken 23 d rest).variant dst 4160 = true from inside]
      decide
  case report =>
    intro s d rest h t zeros
    exact gives_takeAs rfl h (if_neg fun high => absurd (zeros.symm.trans high) (by decide))

/-- Settles O55. -/
theorem domainsHoldAndDozeComplete : Obligations.DomainsHoldAndDozeComplete := by
  unfold Obligations.DomainsHoldAndDozeComplete
  refine ⟨⟨?set, ?up, ?state, ?held⟩, ?entry, ?steps, ?wake, ?early⟩
  case set =>
    intro s d rest h idle t on off re zeros first second third legal s1 s2
    refine gives_takeWhen rfl rfl h (by rw [idle]; rfl) ((if_neg ?_).trans (if_neg (not_not.mpr legal)))
    rintro (high | both | both | both)
    · exact absurd (zeros.symm.trans high) (by decide)
    · exact both first
    · exact both second
    · exact both third
  case up =>
    intro s d hs rising
    exact gives_act rfl hs (if_pos rising)
  case state =>
    intro s d rest h idle calm t off s0 zeros
    have free (power : s.powerState < 2) : ¬ (s0.fgh.stateTag.isSome = true ∨ 2 ≤ s0.powerState ∨ s0.fgh.resetting.isSome = true) := by
      rintro (waits | high | resets)
      · exact absurd (show s.fgh.stateTag.isSome = true from waits) (by rw [idle]; decide)
      · exact absurd (show 2 ≤ s.powerState from high) (by omega)
      · exact absurd (show s.fgh.resetting.isSome = true from resets) (by rw [calm]; decide)
    refine ⟨fun run stay => ?_, fun run hold legal => ?_, fun held leave => ?_⟩ <;>
      refine gives_takeAs rfl h ((if_neg (not_not.mpr zeros)).trans ((if_neg (free (by omega))).trans ?_))
    · exact (if_neg (show ¬ t.fld 0 87 87 = 1 by omega)).trans (if_pos run)
    · exact (if_pos hold).trans ((if_neg (not_not.mpr legal)).trans (if_neg (show ¬ s0.powerState = 1 from
        fun one => absurd (run.symm.trans one) (by decide))))
    · exact (if_neg (show ¬ t.fld 0 87 87 = 1 by omega)).trans (if_neg (show ¬ s0.powerState = 0 from
        fun zero => absurd (held.symm.trans zero) (by decide)))
  case held =>
    intro s hs asked calm free s1
    have go : ¬ (s.powerState ≠ 2 ∨ s.gensLive = true ∨ s.fgh.resetting.isSome = true) := by
      rintro (other | live | resets)
      · exact other asked
      · exact absurd (calm.symm.trans live) (by decide)
      · rw [free] at resets
        exact absurd resets (by decide)
    refine ⟨fun none => ?_, fun tag some => ?_⟩ <;> refine gives_act rfl hs ((if_neg go).trans ?_)
    · simp only [s1] at none
      simp only [none]
      rfl
    · simp only [s1] at some
      simp only [some]
      rfl
  case entry =>
    intro s v h ask power idle calm
    refine gives_gateWrite rfl h (if_neg ?_)
    rintro (other | clear | high | waits | resets)
    · exact other rfl
    · omega
    · omega
    · rw [idle] at waits
      exact absurd waits (by decide)
    · rw [calm] at resets
      exact absurd resets (by decide)
  case steps =>
    intro s hs next
    refine ⟨fun step calm => ?_, fun step => ?_, fun step trained => ?_, fun step => ?_, fun step => ?_,
      fun step => ?_, fun step => ?_, fun step => ?_, fun step => ?_, fun step => ?_,
      fun step => ?_, fun step => ?_⟩
    · refine gives_act rfl hs ?_
      simp only [doDozeStepDone, step]
      exact if_neg (Bool.eq_false_iff.mp calm)
    · refine gives_act rfl hs ?_
      simp only [doDozeStepDone, step]
      rfl
    · refine gives_act rfl hs ?_
      simp only [doDozeStepDone, step]
      exact if_neg (Bool.eq_false_iff.mp trained)
    · refine gives_act rfl hs ?_
      simp only [doDozeStepDone, step]
      rfl
    · refine gives_act rfl hs ?_
      simp only [doDozeStepDone, step]
      rfl
    · intro s1
      have shown (u : State) (h : (match s1.fgh.wakeHeld with | some src => s1.beginWake src | none => s1) = u) : Gives .dozeStepDone s u := by
        refine gives_act rfl hs ?_
        simp only [doDozeStepDone, step]
        exact h
      refine ⟨fun none => shown _ ?_, fun src some => shown _ ?_⟩
      · rw [none]
      · rw [some]
    all_goals
      refine gives_act rfl hs ?_
      simp only [doDozeExitStepDone, step]
      rfl
  case wake =>
    intro s src hs doze on time
    have due : ¬ (src = .alarm ∧ s.now < (s.reg Reg.fghWakeTimeLo).toNat + 2 ^ 32 * (s.reg Reg.fghWakeTimeHi).toNat) :=
      fun p => Nat.not_lt.mpr (time p.1) p.2
    exact gives_act rfl hs ((if_neg due).trans ((if_neg (by omega)).trans (if_pos doze)))
  case early =>
    intro s src hs low high free on time
    have due : ¬ (src = .alarm ∧ s.now < (s.reg Reg.fghWakeTimeLo).toNat + 2 ^ 32 * (s.reg Reg.fghWakeTimeHi).toNat) :=
      fun p => Nat.not_lt.mpr (time p.1) p.2
    exact gives_act rfl hs ((if_neg due).trans ((if_neg (by omega)).trans ((if_neg (by omega)).trans
      (if_pos ⟨low, high, by rw [free]; rfl⟩))))

end Sys2Proof.Proofs

/-! PROOFS. Resets, supply and temperature (spec/14_safety_power_reset.md R504 to R519, R557). -/
namespace Sys2Proof.Machine

/-- A command that a device in reset carries out too, by its effect. -/
theorem gives_always {i : Instr} {s t : State} {f : State → State} (hi : exec i s = actAlways s f) (ht : f s = t) : Gives i s t := by
  rw [Gives, hi, actAlways, ht]

theorem takeReadings_inert (s : State) (n : Nat) (l : List (BitVec 16)) : (s.takeReadings n l).inert = s.inert :=
  List.foldlRecOn (motive := fun t : State => t.inert = s.inert) _ _ rfl fun _ h _ _ => h

end Sys2Proof.Machine

namespace Sys2Proof.Proofs
open Sys2Proof Sys2Proof.Machine

/-- Settles O56. -/
theorem resetsComplete : Obligations.ResetsComplete := by
  unfold Obligations.ResetsComplete
  refine ⟨?write, ?kick, ?expiry, ?soft, ?window, ?cold, ?release⟩
  case write =>
    intro s m v h
    exact gives_gateWrite rfl h rfl
  case kick =>
    intro s m v h
    exact quiet_gateWrite rfl h rfl h.1.2 rfl rfl
  case expiry =>
    intro s hs running timeout s1
    have go : ¬ (s.fgh.wdogRunning = false ∨ s.fld Reg.fghWdog 15 0 = 0) := by simp [running, timeout]
    exact ⟨fun on => gives_act rfl hs ((if_neg go).trans (if_pos on)),
      fun off => gives_act rfl hs ((if_neg go).trans (if_neg (by rw [show State.fld (s.fire 11) Reg.fghWdog 31 31 = 0 from off]; decide)))⟩
  case soft =>
    intro s m v h
    exact ⟨fun key => gives_gateWrite rfl h (if_pos key), fun other => quiet_gateWrite rfl h (if_neg other) h.1.2 rfl rfl⟩
  case window =>
    intro s kind hs resetting
    refine gives_act rfl hs ?_
    simp only [doResetHoldWindowEnd, resetting]
  case cold =>
    intro s
    refine ⟨gives_always rfl rfl, fun cool => gives_always rfl (if_neg ?_), fun shut hot => gives_always rfl (if_pos ⟨shut, hot⟩)⟩
    rintro ⟨shut, hot⟩
    exact cool.elim (fun run => run shut) (fun low => absurd hot (by omega))
  case release =>
    intro s st inert running kept st'
    have go : ¬ (!s.inert || s.powerState == 5) = true := by simp [inert, running]
    exact ⟨fun test => gives_always rfl ((if_neg go).trans (if_neg (Bool.eq_false_iff.mp test))),
      fun test high => gives_always rfl ((if_neg go).trans ((if_pos test).trans (if_neg (by rw [high]; decide)))),
      fun test low => gives_always rfl ((if_neg go).trans ((if_pos test).trans (if_pos low)))⟩

/-- Settles O57. -/
theorem supplyAndHeatComplete : Obligations.SupplyAndHeatComplete := by
  unfold Obligations.SupplyAndHeatComplete
  refine ⟨?warning, ?recovery, ?dwell, ?rail, ?railOver, ?sensors, ?shut, ?trim⟩
  case warning =>
    intro s mv hs low
    exact ⟨fun warned => gives_act rfl hs ((if_neg (Nat.not_le.mpr low)).trans (if_pos warned)),
      fun calm => gives_act rfl hs ((if_neg (Nat.not_le.mpr low)).trans (if_neg (Bool.eq_false_iff.mp calm)))⟩
  case recovery =>
    intro s mv d hs warned low s1
    exact gives_act rfl hs (if_neg (by rw [warned]; decide))
  case dwell =>
    intro s hs warned time fresh s1
    exact gives_act rfl hs (if_neg (by simp [warned, time, fresh]))
  case rail =>
    intro s r mv hs low
    exact ⟨fun calm => gives_act rfl hs ((if_neg (Nat.not_le.mpr low)).trans (if_neg (Bool.eq_false_iff.mp calm))),
      fun warned => gives_act rfl hs ((if_neg (Nat.not_le.mpr low)).trans (if_pos warned))⟩
  case railOver =>
    intro s r mv d hs warned low s1
    exact gives_act rfl hs (if_neg (by rw [warned]; decide))
  case sensors =>
    intro s l hs awake s0 s1
    have live : s.inert = false := hs.1
    have go : ¬ (s.inert = true ∧ s.powerState ≠ 5) := by simp [live]
    have all : (s.inert || s.fgh.dozeStep == 7) = false := by simp [live, awake]
    have kept : ¬ (s.takeReadings 16 l).inert = true := by rw [takeReadings_inert, live]; decide
    have shown (u : State) (h : (match s1.hottest 16 with | none => s1 | some t => s1.judgeDie t) = u) : Gives (.sensorRead l) s u := by
      refine gives_always rfl ?_
      simp only [doSensorRead, all, Bool.false_eq_true, if_false]
      exact (if_neg go).trans ((if_neg kept).trans h)
    refine ⟨fun t some => shown _ ?_, fun none => shown _ ?_⟩
    · rw [some]
    · rw [none]
  case shut =>
    intro s l inert off
    have go : ¬ (s.inert = true ∧ s.powerState ≠ 5) := fun p => p.2 off
    have one : (s.inert || s.fgh.dozeStep == 7) = true := by rw [inert]; rfl
    refine gives_always rfl ?_
    simp only [doSensorRead, one, if_true]
    exact (if_neg go).trans (if_pos ((takeReadings_inert s 1 l).trans inert))
  case trim =>
    intro s hs
    exact gives_act rfl hs rfl

end Sys2Proof.Proofs

/-! PROOFS. The Keeper's services and sessions (spec/15_security.md R524 to R533, R542 to R547). -/
namespace Sys2Proof.Machine

/-- As `gives_act`, for a command that the Keeper serves. -/
theorem gives_serves {i : Instr} {s t : State} {code : Nat} {run : KprServe → State → State} {k : KprServe}
    (hi : exec i s = act s (fun s => s.kprServe code run)) (h : s.Serves k code) (ht : run k s = t) : Gives i s t :=
  gives_act hi h.1 ((kprServe_serves h run).trans ht)

theorem maskedWrite_kpr (s : State) (k : Nat) (v : Word) : (s.maskedWrite k v).kpr = s.kpr := by
  unfold State.maskedWrite
  split <;> rfl

/-- A draw takes free quads alone. -/
theorem draw_kpr (s : State) (n : Nat) : (s.draw n).2.kpr = s.kpr :=
  List.foldlRecOn (motive := fun a : List Byte × State => a.2.kpr = s.kpr) _ _ rfl fun _ h _ _ => h

theorem bytes_of_mem {s t : State} (h : t.mem = s.mem) : ∀ a n, t.bytes a n = s.bytes a n
  | _, 0 => rfl
  | a, n + 1 => by rw [State.bytes, State.bytes, State.byte, h, bytes_of_mem h (a + 1) n]; rfl

theorem num_meet (s : State) (a len x n : Nat) : (s.meet a len).num x n = s.num x n := by
  have same : (s.meet a len).mem = s.mem := by rw [(meet_meets s a len).eq]
  exact congrArg ofLe (bytes_of_mem same x n)

end Sys2Proof.Machine

namespace Sys2Proof.Proofs
open Sys2Proof Sys2Proof.Machine

/-- Settles O58. -/
theorem keeperServicesComplete : Obligations.KeeperServicesComplete := by
  unfold Obligations.KeeperServicesComplete
  refine ⟨?request, ?go, ?info, ?identity, ?random, ?read, ?write, ?test, ?health, ?load, ?verified⟩
  case request =>
    intro s d rest h idle still host t req resp zeros ra pa rm pm s1
    have ok : (s.kpr.serving.isNone && !s.kprLoading && (!s.kpr.hostWait || s.kpr.hostLast)) = true := by
      rw [idle, still]
      exact host.elim (fun p => by rw [p]; rfl) (fun p => by rw [p, Bool.or_true]; rfl)
    have whole : ¬ (!t.zeros [(0, 87, 0), (1, 31, 0)]) = true := by rw [zeros]; decide
    have placed : ¬ (req % 16 ≠ 0 ∨ resp % 16 ≠ 0 ∨ inDramComb s.variant req 256 = false ∨ inDramComb s.variant resp 256 = false) := by
      simp [ra, pa, rm, pm]
    exact ⟨fun good => gives_takeWhen rfl rfl h ok ((if_neg whole).trans ((if_neg placed).trans (if_neg (Bool.eq_false_iff.mp good)))),
      fun bad => gives_takeWhen rfl rfl h ok ((if_neg whole).trans ((if_neg placed).trans (if_pos bad)))⟩
  case go =>
    intro s m v h s1
    refine ⟨fun off => gives_gateWrite rfl h (if_pos off), fun on busy => gives_gateWrite rfl h ((if_neg ?_).trans (if_pos busy)),
      fun on idle => gives_gateWrite rfl h ((if_neg ?_).trans ((if_neg ?_).trans ?_))⟩
    · rw [on]; decide
    · rw [on]; decide
    · rw [show (s.maskedWrite Reg.kprMbCtrl v).fld Reg.kprMbCtrl 30 30 = 0 from idle]; decide
    · rw [← maskedWrite_kpr s Reg.kprMbCtrl v]
      rfl
  case info =>
    intro s k h
    exact gives_serves rfl h rfl
  case identity =>
    intro s k h
    exact gives_serves rfl h rfl
  case random =>
    intro s k h some few
    exact gives_serves rfl h (if_neg (by omega))
  case read =>
    intro s k h few inside
    exact gives_serves rfl h (if_neg (by omega))
  case write =>
    intro s k h few inside whole
    exact gives_serves rfl h (if_neg (by omega))
  case test =>
    intro s k passed h
    exact gives_serves rfl h rfl
  case health =>
    intro s hs
    exact ⟨gives_act rfl hs rfl, gives_act rfl hs rfl⟩
  case load =>
    intro s k h a n low small high s1 img
    have size : min (256 * 1024) n = n := Nat.min_eq_right small
    have still : ¬ 256 * 1024 < s1.num (a + 8) 4 := by
      rw [num_meet]
      exact Nat.not_lt.mpr small
    have placed : ¬ (a < combBase ∨ combTop < a + max n 16) := by omega
    have shown (u : State) (run : (if s1.poisonedAt a n then s1.kprRespond stPoisoned [] else
        (if s1.firmwareCheck img = stSuccess then s1.firmwareStarts img else s1.setFld Reg.kprStatus 31 28 4).kprRespond
          (s1.firmwareCheck img) []) = u) : Gives .fwLoad s u := by
      refine gives_serves rfl h ?_
      show (if a < combBase ∨ combTop < a + max (min (256 * 1024) n) 16 then _ else _) = _
      rw [size]
      refine (if_neg placed).trans ?_
      show (if s1.poisonedAt a n then _ else
        (if (if 256 * 1024 < s1.num (a + 8) 4 then kprBadRequest else s1.firmwareCheck img) = stSuccess then s1.firmwareStarts img
         else s1.setFld Reg.kprStatus 31 28 4).kprRespond
          (if 256 * 1024 < s1.num (a + 8) 4 then kprBadRequest else s1.firmwareCheck img) []) = u
      rw [if_neg still]
      exact run
    refine ⟨fun bad => shown _ (if_pos bad), fun good checked => shown _ ((if_neg (Bool.eq_false_iff.mp good)).trans ?_),
      fun good refused => shown _ ((if_neg (Bool.eq_false_iff.mp good)).trans ?_)⟩
    · rw [if_pos checked, checked]
    · rw [if_neg refused]
  case verified =>
    intro s pass hs
    refine ⟨fun tested => gives_act rfl hs (if_pos tested), ?_⟩
    intro e fresh boot entry img
    have going : ¬ (s.bootState ≠ 2 ∨ s.kprState ≠ 0) := by simp [boot, fresh]
    have shown (u : State) (run : (if s.firmwareCheck img = stSuccess then (((s.firmwareStarts img).selfTestEnds pass).bootSkip).bootSettle
        else (s.setFld Reg.kprStatus 31 28 4).setBootState 5) = u) : Gives (.keeperFirmwareVerified pass) s u := by
      refine gives_act rfl hs ((if_neg (by rw [fresh]; decide)).trans ((if_neg going).trans ?_))
      simp only [entry]
      exact run
    exact ⟨fun checked => shown _ (if_pos checked), fun refused => shown _ (if_neg refused)⟩

/-- Settles O59. -/
theorem sessionsComplete : Obligations.SessionsComplete := by
  unfold Obligations.SessionsComplete
  refine ⟨?opens, ?prove, ?close, ?verify, ?timeouts⟩
  case opens =>
    intro s k i h slot operator free r x
    refine gives_serves rfl h ((if_neg (Nat.not_le.mpr slot)).trans ((if_neg (by rw [operator]; decide)).trans ?_))
    simp only [free]
    rfl
  case prove =>
    intro s k x h i scope idle low high found waits fits some short
    have named : (if 1 ≤ i ∧ i ≤ 4 then s.session i else none) = .some x := (if_pos ⟨low, high⟩).trans found
    have fields : ¬ (8 ≤ scope ∨ idle = 0 ∨ 3600 < idle) := by omega
    have shown (u : State) (run : (if !s.proofOk x scope (k.par 4 96) then
        (if 8 ≤ x.fails + 1 then s.setSession i none else s.setSession i (.some { x with fails := x.fails + 1 })).kprRespond kprAuthFail []
        else (((s.draw 1).2.setSession i (.some (x.prove scope idle))).fire 33).kprRespond stSuccess ((s.draw 1).1.take 4)) = u) :
        Gives .sessionProve s u := by
      refine gives_serves rfl h ?_
      show (match (if 1 ≤ i ∧ i ≤ 4 then s.session i else none) with | none => _ | .some x => _) = _
      rw [named]
      exact (if_neg (by rw [waits]; decide)).trans ((if_neg fields).trans run)
    refine ⟨fun good => shown _ (if_neg (by rw [good]; decide)),
      fun bad left => shown _ ((if_pos (by rw [bad]; rfl)).trans ?_), fun bad last => shown _ ((if_pos (by rw [bad]; rfl)).trans ?_)⟩
    · rw [if_neg (by omega)]
    · rw [if_pos (by omega)]
  case close =>
    intro s k h
    exact gives_serves rfl h rfl
  case verify =>
    intro s k h zeros id r
    have whole : ¬ k.parNum 1 7 ≠ 0 := fun p => p zeros
    refine ⟨fun refused => gives_serves rfl h ((if_neg whole).trans (if_pos refused)), fun x good found =>
      gives_serves rfl h ((if_neg whole).trans ((if_neg fun p => p good).trans ?_))⟩
    show r.1.kprRespond stSuccess [BitVec.ofNat 8 (match r.1.session id with | some x => x.scope | none => 0)] = _
    rw [found]
  case timeouts =>
    intro s i x hs found
    refine ⟨fun waits => gives_act rfl hs ?_, fun proved => gives_act rfl hs ?_, fun proved => gives_act rfl hs ?_⟩
    · simp only [doSessionProveTimeout, found]
      exact if_neg (Bool.eq_false_iff.mp waits)
    · simp only [doSessionIdleTimeout, found]
      exact if_pos proved
    · simp only [doSessionLifetimeExpiry, found]
      exact if_pos proved

end Sys2Proof.Proofs

/-! PROOFS. Keys, fuses, tamper and debug (spec/15_security.md R525 to R529, R535 to R540, R543, R544). -/
namespace Sys2Proof.Machine

/-- Setting a field leaves the fields beside it. -/
theorem bitsOf_putBits_beside (v : Word) {hi lo a b : Nat} (x : Nat) (h : a < lo ∨ hi < b) :
    bitsOf (putBits v hi lo x) a b = bitsOf v a b := by
  refine Nat.eq_of_testBit_eq fun i => ?_
  simp only [bitsOf, nbits, Nat.testBit_mod_two_pow, Nat.testBit_div_two_pow]
  by_cases hi' : i < a + 1 - b
  · have clear : (BitVec.ofNat 32 ((2 ^ (hi + 1 - lo) - 1) * 2 ^ lo)).getLsbD (i + b) = false := by
      rw [BitVec.getLsbD_ofNat, Nat.testBit_mul_two_pow, Nat.testBit_two_pow_sub_one]
      simp only [Bool.and_eq_false_iff, decide_eq_false_iff_not]
      omega
    rw [BitVec.testBit_toNat, BitVec.testBit_toNat, putBits, BitVec.getLsbD_or, BitVec.getLsbD_and, BitVec.getLsbD_and,
      BitVec.getLsbD_not, clear]
    by_cases hw : i + b < 32
    · simp [hw]
    · simp [BitVec.getLsbD_of_ge v (i + b) (by omega)]
  · simp [hi']

theorem fld_setFld_beside (s : State) (k : Nat) {hi lo a b : Nat} (x : Nat) (h : a < lo ∨ hi < b) :
    (s.setFld k hi lo x).fld k a b = s.fld k a b := by
  unfold State.fld
  rw [reg_setFld, if_pos rfl, bitsOf_putBits_beside _ x h]

end Sys2Proof.Machine

namespace Sys2Proof.Proofs
open Sys2Proof Sys2Proof.Machine

/-- Settles O60. -/
theorem keysAndFusesComplete : Obligations.KeysAndFusesComplete := by
  unfold Obligations.KeysAndFusesComplete
  refine ⟨?install, ?lane, ?sent, ?guard, ?program, ?revoke, ?rollback, ?lifecycle, ?burn, ?protect, ?config, ?clear, ?zeroise,
    ?tamper, ?challenge, ?unlock, ?expiry⟩
  case install =>
    intro s k h good
    have tag : ¬ (!k.installOk) = true := by rw [good]; decide
    refine ⟨fun wall higher => gives_serves rfl h ?_, fun swarm member higher => gives_serves rfl h ?_⟩
    · refine (if_neg (by omega)).trans ((if_neg tag).trans ((if_neg ?_).trans ?_))
      · rw [if_pos wall]
        exact Nat.not_le.mpr higher
      · simp only [if_pos wall]
        rfl
    · refine (if_neg (by omega)).trans ((if_neg tag).trans ((if_neg ?_).trans ?_))
      · rw [if_neg (by omega)]
        exact Nat.not_le.mpr higher
      · simp only [if_neg (show ¬ k.parNum 0 1 = 1 by omega)]
        rfl
  case lane =>
    intro s k h l present key up mode room r g
    have same : r.2.kpr = s.kpr := draw_kpr s 3
    refine gives_serves rfl h ((if_neg (Bool.eq_false_iff.mp present)).trans ((if_neg ?_).trans ((if_neg ?_).trans ((if_neg mode).trans
      ((if_neg ?_).trans ?_)))))
    · rw [Option.isNone_eq_false_iff.mpr key]; decide
    · rw [up]; decide
    · rw [room]; decide
    · show ({ r.2 with kpr := { r.2.kpr with gens := sset 0 r.2.kpr.gens l (sget 0 r.2.kpr.gens l + 1), lane := some l } } : State).mgmtPut l
        (.keyx (ofBe (r.1.take 32)) (ofBe ((r.1.drop 32).take 4)) (sget 0 r.2.kpr.gens l + 1)) = _
      rw [same]
  case sent =>
    intro s l key salt g wk rest hs queued installed up scanned stalled r s1 s2 s3 s4
    have go : ¬ (!s.laneUp l.val || s.laneScanned l.val || s.unitStalled 0x3D) = true := by rw [up, scanned, stalled]; decide
    refine gives_act rfl hs ?_
    unfold doKeyxSent
    rw [queued, installed]
    exact if_neg go
  case guard =>
    intro s k h bit key
    have keyed : ¬ s.kpr.sk.isNone = true := by rw [Option.isNone_eq_false_iff.mpr key]; decide
    refine ⟨fun same => gives_serves rfl h ((if_neg (Nat.not_le.mpr bit)).trans ((if_neg keyed).trans (if_pos same))), ?_⟩
    intro other b s1 s2
    have guarded : (if k.parNum 0 1 = 1 then
        (if (s1.mapKpr (fun x => { x with useCount := b })).fld Reg.kprStatus 23 22 = 2 then s1.mapKpr (fun x => { x with useCount := b })
         else (s1.mapKpr (fun x => { x with useCount := b })).mapCas (fun c => { c with guard := some (b, 0) }))
        else s1.mapCas (fun c => { c with guard := none })) = s2 := by
      refine if_congr Iff.rfl ?_ rfl
      rw [show (s1.mapKpr (fun x => { x with useCount := b })).fld Reg.kprStatus 23 22 = s.fld Reg.kprStatus 23 22 from
        fld_setFld_beside s Reg.kprStatus _ (.inr (by decide))]
      by_cases level : s.fld Reg.kprStatus 23 22 = 2
      · simp only [if_pos level]
        rfl
      · simp only [if_neg level]
        rfl
    exact gives_serves rfl h ((if_neg (Nat.not_le.mpr bit)).trans ((if_neg keyed).trans ((if_neg other).trans
      (congrArg (fun u => (([0, 1].foldl (fun s d => if s.linkUpNow d then s.linkDown d else s) u).fire 37).kprRespond stSuccess [])
        guarded))))
  case program =>
    intro s k h slot usage empty
    exact gives_serves rfl h ((if_neg (by omega)).trans (if_neg fun p => p empty))
  case revoke =>
    intro s k h slot full
    exact gives_serves rfl h ((if_neg (by omega)).trans (if_neg fun p => p full))
  case rollback =>
    intro s k h slot v
    refine ⟨fun firmware floor version top => gives_serves rfl h ((if_pos firmware).trans ((if_neg (by omega)).trans (if_neg (by omega)))),
      fun low usage floor highest => gives_serves rfl h ((if_neg (by omega)).trans ((if_neg (by omega)).trans ((if_neg ?_).trans
        (if_neg (not_or.mpr ⟨Nat.not_lt.mpr floor, Nat.not_lt.mpr highest⟩)))))⟩
    rw [usage]; decide
  case lifecycle =>
    intro s k h small higher slots
    refine gives_serves rfl h ((if_neg (Nat.not_le.mpr small)).trans ((if_neg (Nat.not_le.mpr higher)).trans (if_neg ?_)))
    rintro ⟨two, lacks⟩
    obtain ⟨image, operator⟩ := slots two
    rw [image, operator] at lacks
    exact absurd lacks (by decide)
  case burn =>
    intro s f hs burning
    refine ⟨gives_act rfl hs ?_, gives_act rfl hs ?_⟩ <;> unfold doFuseBurnDone <;> rw [burning]
    · rfl
    · rfl
  case protect =>
    intro s k h bit boundary s1
    exact gives_serves rfl h (if_neg (by omega))
  case config =>
    intro s k h action
    exact gives_serves rfl h (if_neg (Nat.not_le.mpr action))
  case clear =>
    intro s k h
    exact gives_serves rfl h rfl
  case zeroise =>
    intro s k h
    exact gives_serves rfl h rfl
  case tamper =>
    intro s hs s1 held
    have shown (u : State) (run : (if s1.fld Reg.kprTamper 31 30 = 0 then s1 else
        if s1.fld Reg.kprTamper 31 30 = 3 then
          held ((if s1.fld Reg.kprTamper 31 30 = 1 then s1.zeroiseVolatile else s1.zeroiseKeys).fire 40)
        else (if s1.fld Reg.kprTamper 31 30 = 1 then s1.zeroiseVolatile else s1.zeroiseKeys).fire 40) = u) : Gives .tamper s u :=
      gives_act rfl hs run
    refine ⟨fun none => shown _ (if_pos none), fun volatile => shown _ ?_, fun keys => shown _ ?_, fun hold => shown _ ?_⟩
    · simp only [volatile, one_ne_zero, OfNat.one_ne_ofNat, if_false, if_true]
    · simp only [keys, two_ne_zero, OfNat.ofNat_ne_one, Nat.reduceEqDiff, if_false]
    · simp only [hold, three_ne_zero, OfNat.ofNat_ne_one, if_false, if_true]
  case challenge =>
    intro s k h
    refine gives_serves rfl h ?_
    rw [← draw_kpr s 2]
    rfl
  case unlock =>
    intro s k nonce h open_ level s1 one
    have given : ¬ (level ≠ 1 ∧ level ≠ 2) := by omega
    have shown (u : State) (run : (if !s.unlockOk nonce level (k.par 1 96) then s1.kprRespond kprAuthFail [] else
        let s2 := if level = 2 then ((s1.eraseLaneKeys).eraseCascade).closeSessions else s1
        let s3 := s2.setFld Reg.kprStatus 23 22 (max level (s2.fld Reg.kprStatus 23 22))
        ((s3.startRise 29).kprShow.fire 41).kprRespond stSuccess []) = u) : Gives .debugUnlock s u := by
      refine gives_serves rfl h ((if_neg given).trans ?_)
      rw [open_]
      exact run
    exact ⟨fun bad => shown _ (if_pos (by rw [bad]; rfl)), fun good => shown _ (if_neg (by rw [good]; decide))⟩
  case expiry =>
    intro s hs
    exact gives_act rfl hs rfl

end Sys2Proof.Proofs

/-!
PROOFS. What reports, events, reads and stores leave of the registers: the status of the cascade, which names the device's position,
stands through them (spec/12_time_cascade.md R443 to R459).
-/
namespace Sys2Proof.Machine

/-- `t` shows the cascade's status as `s` does. -/
def State.KeepsCas (s t : State) : Prop := t.reg Reg.casStatus = s.reg Reg.casStatus

theorem keepsCas_refl (s : State) : s.KeepsCas s := rfl

theorem State.KeepsCas.trans {s t u : State} (h : s.KeepsCas t) (k : t.KeepsCas u) : s.KeepsCas u := Eq.trans k h

theorem keepsCas_ite {s t u : State} {c : Prop} [Decidable c] (ht : s.KeepsCas t) (hu : s.KeepsCas u) :
    s.KeepsCas (if c then t else u) := iteInduction (fun _ => ht) (fun _ => hu)

theorem keepsCas_foldl {α : Type} {s t : State} {f : State → α → State} (h : s.KeepsCas t) (l : List α)
    (hf : ∀ (t : State), ∀ a ∈ l, t.KeepsCas (f t a)) : s.KeepsCas (l.foldl f t) :=
  List.foldlRecOn (motive := s.KeepsCas) l f h fun t h a ha => h.trans (hf t a ha)

theorem setReg_keepsCas (s : State) {k : Nat} (v : Word) (h : Reg.casStatus ≠ k) : s.KeepsCas (s.setReg k v) :=
  reg_setReg_ne s v h

theorem setFld_keepsCas (s : State) {k : Nat} (hi lo x : Nat) (h : Reg.casStatus ≠ k) : s.KeepsCas (s.setFld k hi lo x) :=
  setReg_keepsCas s _ h

theorem bump_keepsCas (s : State) {k : Nat} (hi lo n : Nat) (h : Reg.casStatus ≠ k) : s.KeepsCas (s.bump k hi lo n) :=
  setFld_keepsCas s _ _ _ h

theorem emit_keepsCas (s : State) (e : Emission) : s.KeepsCas (s.emit e) := rfl

theorem mapCell_keepsCas (s : State) (n : Nat) (f : CellSt → CellSt) : s.KeepsCas (s.mapCell n f) := rfl

theorem withDue_keepsCas (s : State) (d : Due) : s.KeepsCas { s with due := d } := rfl

theorem withFgh_keepsCas (s : State) (f : Fgh) : s.KeepsCas { s with fgh := f } := rfl

/-! Events and snapshots. -/

theorem recordRequest_keepsCas (s : State) (e : Nat) : s.KeepsCas (s.recordRequest e) :=
  keepsCas_ite (keepsCas_refl s) (withFgh_keepsCas ..)

theorem fireCore_keepsCas (s : State) (e : Nat) (small : e < 256) : s.KeepsCas (s.fireCore e) := by
  unfold State.fireCore
  extract_lets r asked own pended
  have h1 : s.KeepsCas asked := keepsCas_ite (recordRequest_keepsCas s e) (keepsCas_refl s)
  have h2 : s.KeepsCas pended := keepsCas_foldl h1 _ (fun t n _ => keepsCas_ite (mapCell_keepsCas ..) (keepsCas_refl t))
  refine keepsCas_ite (keepsCas_ite (h2.trans (setFld_keepsCas _ _ _ _ ?_)) (h2.trans (emit_keepsCas ..))) h2
  unfold Reg.casStatus Reg.msixPba
  omega

/-- The snapshot registers of a window, where it has some, are four and lie beside the status of the cascade. -/
def BesideCas (o : Option (Nat × List Word)) : Prop :=
  ∀ k ws, o = some (k, ws) → ws.length = 3 ∧ (k + 16 ≤ Reg.casStatus ∨ Reg.casStatus < k)

theorem besideCas_ite {c : Prop} [Decidable c] {o p : Option (Nat × List Word)} (ho : BesideCas o) (hp : BesideCas p) :
    BesideCas (if c then o else p) := iteInduction (fun _ => ho) (fun _ => hp)

theorem besideCas_below {k : Nat} {x y z : Word} (h : k + 16 ≤ Reg.casStatus) : BesideCas (some (k, [x, y, z])) := by
  rintro _ _ ⟨⟩
  exact ⟨rfl, .inl h⟩

theorem besideCas_above {k : Nat} {x y z : Word} (h : Reg.casStatus < k) : BesideCas (some (k, [x, y, z])) := by
  rintro _ _ ⟨⟩
  exact ⟨rfl, .inr h⟩

theorem besideCas_none : BesideCas none := fun _ _ h => absurd h.symm (Option.some_ne_none _)

theorem snapWords_beside (s : State) (w : Nat) : BesideCas (s.snapWords w) := by
  unfold State.snapWords
  refine besideCas_ite (besideCas_above ?_) (besideCas_ite (besideCas_above ?_) (besideCas_ite (besideCas_above ?_)
    (besideCas_ite (besideCas_above (by decide)) (besideCas_ite (besideCas_above ?_) (besideCas_ite (besideCas_above (by decide))
    (besideCas_ite (besideCas_above ?_) (besideCas_ite (besideCas_above ?_) (besideCas_ite (besideCas_above (by decide))
    (besideCas_ite (besideCas_above ?_) (besideCas_ite (besideCas_below (by decide)) (besideCas_ite (besideCas_above (by decide))
    (besideCas_ite (besideCas_below (by decide)) (besideCas_ite (besideCas_below (by decide)) besideCas_none)))))))))))))
  · unfold Reg.casStatus Reg.spSnap; omega
  · unfold Reg.casStatus Reg.rfeSnap; omega
  · unfold Reg.casStatus Reg.clrSnap; omega
  · unfold Reg.casStatus Reg.wloSnap; omega
  · unfold Reg.casStatus Reg.vcxSnap; omega
  · unfold Reg.casStatus Reg.lpkSnap; omega
  · unfold Reg.casStatus Reg.memSnap; omega

theorem latchWindow_keepsCas (s : State) (w : Nat) : s.KeepsCas (s.latchWindow w) := by
  unfold State.latchWindow
  extract_lets ok
  split
  next k ws found =>
    obtain ⟨four, beside⟩ := snapWords_beside s w k ws found
    refine keepsCas_ite (keepsCas_foldl (setReg_keepsCas s _ (by omega)) _ fun t p hp => setReg_keepsCas t _ ?_) (keepsCas_refl s)
    have := List.snd_lt_of_mem_zipIdx hp
    omega
  · exact keepsCas_refl s

theorem latchSnap_keepsCas (s : State) (cause origin : Nat) : s.KeepsCas (s.latchSnap cause origin) := by
  unfold State.latchSnap
  refine keepsCas_ite (keepsCas_refl s) ?_
  have swarm : ∀ t : State, s.KeepsCas t → s.KeepsCas (if (t.reg (Reg.hivRoute 13)).getLsbD 12
      then { t with due := { t.due with swarmSnap := true } } else t) :=
    fun t h => keepsCas_ite (h.trans (withDue_keepsCas ..)) h
  refine State.KeepsCas.trans (swarm _ (keepsCas_foldl ?_ snapWindows fun t w _ => latchWindow_keepsCas t w))
    (fireCore_keepsCas _ 13 (by decide))
  have stamped := withFgh_keepsCas s { s.fgh with snapUs := some (s.now / 1000) }
  exact (((stamped.trans (setReg_keepsCas _ _ (by decide))).trans (setReg_keepsCas _ _ (by decide))).trans
    (setReg_keepsCas _ _ (by decide))).trans (setReg_keepsCas _ _ (by decide))

theorem fire_keepsCas (s : State) (e : Nat) (small : e < 256) : s.KeepsCas (s.fire e) := by
  have fired := fireCore_keepsCas s e small
  exact keepsCas_ite (fired.trans (withDue_keepsCas ..)) (keepsCas_ite (fired.trans (latchSnap_keepsCas ..)) fired)

/-! Reports. -/

theorem loseReports_keepsCas (s : State) (sev n : Nat) : s.KeepsCas (s.loseReports sev n) := by
  unfold State.loseReports
  extract_lets r counted
  have h1 : s.KeepsCas counted := bump_keepsCas s _ _ _ (by
    unfold r lostReg
    split_ifs <;> decide)
  exact (h1.trans (withFgh_keepsCas ..)).trans (fire_keepsCas _ 4 (by decide))

theorem openEntry_keepsCas (s : State) (e : Entry) : s.KeepsCas (s.openEntry e) := by
  unfold State.openEntry
  refine keepsCas_ite (withFgh_keepsCas ..) (keepsCas_ite (loseReports_keepsCas ..) ?_)
  dsimp only
  split
  · exact loseReports_keepsCas ..
  · split
    · exact loseReports_keepsCas ..
    · exact (withFgh_keepsCas ..).trans (loseReports_keepsCas ..)

theorem codeEvent_small {code e : Nat} (h : codeEvent code = some e) : e < 256 := by
  unfold codeEvent at h
  split_ifs at h <;> obtain rfl := Option.some.inj h <;> decide

theorem reportSev_keepsCas (s : State) (source sub code sev detail : Nat) : s.KeepsCas (s.reportSev source sub code sev detail) := by
  unfold State.reportSev
  refine keepsCas_ite (keepsCas_refl s) ?_
  extract_lets now intake entered severe event fault snapped
  have h1 : s.KeepsCas entered := keepsCas_ite (withFgh_keepsCas ..) (openEntry_keepsCas ..)
  have h2 : s.KeepsCas severe := keepsCas_ite (h1.trans (fire_keepsCas _ 1 (by decide)))
    (keepsCas_ite (h1.trans (fire_keepsCas _ 2 (by decide))) h1)
  have h3 : s.KeepsCas event := by
    unfold event
    split
    next e found => exact h2.trans (fire_keepsCas _ e (codeEvent_small found))
    · exact h2
  have h4 : s.KeepsCas fault := (h3.trans (setFld_keepsCas _ _ _ _ (by decide))).trans (emit_keepsCas ..)
  have h5 : s.KeepsCas snapped := keepsCas_ite (h4.trans (latchSnap_keepsCas ..)) h4
  refine keepsCas_ite ?_ h3
  split
  · exact keepsCas_ite (h5.trans (withDue_keepsCas ..)) h5
  · exact h5

theorem report_keepsCas (s : State) (source sub code detail : Nat) : s.KeepsCas (s.report source sub code detail) :=
  reportSev_keepsCas ..

/-! Error counts. -/

theorem blockEcc_le (w : Nat) : blockEcc w ≤ 64 := by
  unfold blockEcc
  split_ifs <;> decide

theorem cbEcc_beside {w n : Nat} (h : n < blockEcc w) : Reg.casStatus ≠ Reg.cbEcc w n := by
  have := blockEcc_le w
  unfold Reg.casStatus Reg.cbEcc
  omega

theorem rateCheck_keepsCas (s : State) (w n : Nat) : s.KeepsCas (s.rateCheck w n) := by
  unfold State.rateCheck
  refine keepsCas_ite (State.KeepsCas.trans ?_ (report_keepsCas ..)) (keepsCas_refl s)
  rfl

theorem eccCorrected_keepsCas (s : State) (w n : Nat) : s.KeepsCas (s.eccCorrected w n) :=
  iteInduction (fun counted => (bump_keepsCas s _ _ _ (cbEcc_beside counted)).trans (rateCheck_keepsCas ..)) (fun _ => keepsCas_refl s)

theorem eccUncorrectable_keepsCas (s : State) (w n k : Nat) : s.KeepsCas (s.eccUncorrectable w n k) :=
  iteInduction (fun counted => bump_keepsCas s _ _ _ (cbEcc_beside counted)) (fun _ => keepsCas_refl s)

theorem meetAt_keepsCas (s : State) (win n key addr : Nat) : s.KeepsCas (s.meetAt win n key addr) := by
  refine keepsCas_ite (keepsCas_refl s) ?_
  split
  · exact keepsCas_refl s
  · exact eccCorrected_keepsCas ..
  · exact (eccUncorrectable_keepsCas ..).trans (report_keepsCas ..)

theorem fixWords_keepsCas (s : State) (w n : Nat) : ∀ k, s.KeepsCas (s.fixWords w n k)
  | 0 => keepsCas_refl s
  | k + 1 => (eccCorrected_keepsCas s w n).trans (fixWords_keepsCas _ w n k)

/-! Reads and stores. -/

theorem mendBurst_keepsCas (s : State) (a : Nat) : s.KeepsCas (s.mendBurst a) := rfl

theorem mend_keepsCas (s : State) (w : Nat) : s.KeepsCas (s.mend w) := rfl

theorem poisonRange_keepsCas (s : State) (a len : Nat) : s.KeepsCas (s.poisonRange a len) := rfl

theorem memWindow_beside (x j : Nat) : Reg.casStatus ≠ (0x58 + x) * 65536 + j := by
  unfold Reg.casStatus
  omega

theorem burstRead_keepsCas (s : State) (a : Nat) (e again : BurstErr) : s.KeepsCas (s.burstRead a e again).1 := by
  unfold State.burstRead
  extract_lets a e again p x n mended retried counted low high reported poisoned
  split
  · exact keepsCas_refl s
  split
  · exact (fixWords_keepsCas ..).trans (mendBurst_keepsCas ..)
  split
  · exact ((bump_keepsCas s _ _ _ (memWindow_beside _ _)).trans (fixWords_keepsCas ..)).trans (mendBurst_keepsCas ..)
  have h1 : s.KeepsCas counted := ((mendBurst_keepsCas s _).trans (bump_keepsCas _ _ _ _ (memWindow_beside _ _))).trans
    ((fixWords_keepsCas ..).trans (eccUncorrectable_keepsCas ..))
  have h2 : s.KeepsCas high := (h1.trans (setFld_keepsCas _ _ _ _ (memWindow_beside _ _))).trans
    ((setFld_keepsCas _ _ _ _ (memWindow_beside _ _)).trans (setFld_keepsCas _ _ _ _ (memWindow_beside _ _)))
  have h3 : s.KeepsCas reported := keepsCas_ite
    (h2.trans ((bump_keepsCas _ _ _ _ (memWindow_beside _ _)).trans (report_keepsCas ..))) (h2.trans (report_keepsCas ..))
  refine (h3.trans (poisonRange_keepsCas ..)).trans (fire_keepsCas _ _ ?_)
  split <;> decide

theorem combRead_keepsCas (s : State) (a : Nat) (e : WordErr) : s.KeepsCas (s.combRead a e).1 := by
  unfold State.combRead State.combMeet
  extract_lets a n
  split
  · exact keepsCas_refl s
  split
  · exact keepsCas_refl s
  · exact (eccCorrected_keepsCas ..).trans (mend_keepsCas ..)
  · exact ((((eccUncorrectable_keepsCas ..).trans (report_keepsCas ..)).trans (mend_keepsCas ..)).trans (poisonRange_keepsCas ..)).trans
      (fire_keepsCas _ 235 (by decide))

theorem meetWord_keepsCas (s : State) (w : Nat) : s.KeepsCas (s.meetWord w) := by
  unfold State.meetWord
  dsimp only
  split
  · exact keepsCas_ite (keepsCas_refl s) (burstRead_keepsCas ..)
  · exact combRead_keepsCas ..
  · exact meetAt_keepsCas ..
  · exact meetAt_keepsCas ..
  · exact keepsCas_refl s

theorem touchFailed_keepsCas (s : State) (a len : Nat) : s.KeepsCas (s.touchFailed a len) :=
  keepsCas_ite (keepsCas_refl s)
    (keepsCas_foldl (keepsCas_refl s) _ (fun t _ _ => keepsCas_ite (eccUncorrectable_keepsCas ..) (keepsCas_refl t)))

theorem meet_keepsCas (s : State) (a len : Nat) : s.KeepsCas (s.meet a len) := by
  have touched := touchFailed_keepsCas s a len
  exact keepsCas_ite touched (keepsCas_foldl touched _ fun t w _ => meetWord_keepsCas t w)

theorem meetEdges_keepsCas (s : State) (a len : Nat) : s.KeepsCas (s.meetEdges a len) :=
  keepsCas_ite (keepsCas_refl s) (keepsCas_foldl (keepsCas_refl s) _ fun t w _ => meetWord_keepsCas t w)

theorem store_keepsCas (s : State) (a : Nat) (bs : List Byte) : s.KeepsCas (s.store a bs) := by
  unfold State.KeepsCas State.store
  rw [storeP_eq]
  rfl

theorem masterStore_keepsCas (s : State) (m : Master) (a : Nat) (bs : List Byte) : s.KeepsCas (s.masterStore m a bs) := by
  unfold State.masterStore
  refine keepsCas_ite (report_keepsCas ..) ?_
  extract_lets met
  have h : s.KeepsCas met := (State.KeepsCas.trans (keepsCas_ite (report_keepsCas ..) (keepsCas_refl s)) (touchFailed_keepsCas ..)).trans
    (meetEdges_keepsCas ..)
  split
  · exact (keepsCas_foldl h _ (fun t _ _ => keepsCas_ite (keepsCas_refl t) (store_keepsCas ..))).trans (report_keepsCas ..)
  · exact h.trans (store_keepsCas ..)

theorem unitStore_keepsCas (s : State) (w a : Nat) (bs : List Byte) : s.KeepsCas (s.unitStore w a bs) := masterStore_keepsCas ..

end Sys2Proof.Machine

/-! PROOFS. The traffic of the cascade (spec/12_time_cascade.md R443 to R459). -/
namespace Sys2Proof.Machine

section
variable {s : State} {k d : Nat} {p : AdeoftPkt}

/-- A packet of a command's kind on a usable link of a cascade that runs. -/
theorem packet_taken (runs : s.casRuns = true) (usable : s.cas.usable.contains d = true) (kind : p.kind = k) :
    ¬ (!s.casRuns || !s.cas.usable.contains d || p.kind != k) = true := by
  simp only [runs, usable, kind, bne_self_eq_false]
  decide

/-- A packet of a kind on a link that is up of a cascade that runs. -/
theorem packet_local (runs : s.casRuns = true) (up : s.linkUpNow d = true) (kind : p.kind = k) :
    ¬ (!s.casRuns || !s.linkUpNow d || p.kind != k) = true := by
  simp only [runs, up, kind, bne_self_eq_false]
  decide

theorem receive_mine {mine : Bool} {run : State → State × AdeoftPkt} (runs : s.casRuns = true)
    (usable : s.cas.usable.contains d = true) (kind : p.kind = k) (named : mine = true) (new : s.sawPacket p = false) :
    s.receive k d p mine run = (run (s.notePacket p)).1.forward (run (s.notePacket p)).2 := by
  refine (if_neg (packet_taken runs usable kind)).trans (if_pos ?_)
  rw [named, new]
  rfl

theorem imageDone_keeps {t : State} (h : s.KeepsCas t) : t.imageDone p = s.imageDone p := by
  simp only [State.imageDone, State.casAssigned, State.casPos, State.fld]
  rw [h]

/-- A packet of an image for an import of this device alone goes no further than its import. -/
theorem receiveImage_mine {run : Nat → CasImp → State → State} {x : CasImp} {u : State} (runs : s.casRuns = true)
    (usable : s.cas.usable.contains d = true) (kind : p.kind = k) (found : s.casImport (pktByte p 0) = some x)
    (assigned : s.casAssigned = true) (new : s.sawPacket p = false) (done : s.imageDone p = true)
    (ran : run (pktByte p 0) x (s.notePacket p) = u) (kept : s.KeepsCas u) : s.receiveImage k d p run = u := by
  have mine : (s.imports p && !s.sawPacket p) = true := by
    rw [State.imports, found, assigned, new]
    rfl
  refine (if_neg (packet_taken runs usable kind)).trans ?_
  simp only [found, mine, if_true, ran]
  exact if_pos ((imageDone_keeps kept).trans done)

end

theorem setImport_keepsCas (s : State) (k : Nat) (x : Option CasImp) : s.KeepsCas (s.setImport k x) := rfl

theorem importWord0_keepsCas (s : State) (x : CasImp) (number first written : Nat) (dropped closed : Bool) :
    s.KeepsCas (s.importWord0 x number first written dropped closed) := unitStore_keepsCas ..

theorem notePacket_keepsCas (s : State) (p : AdeoftPkt) : s.KeepsCas (s.notePacket p) := rfl

/-- The lanes of a link show no more than that a receiver was seen (R443). -/
theorem eqSeen_reg (s : State) {k j : Nat} (found : Option Nat) (h : j ≠ k) : (s.eqSeen k found).reg j = s.reg j := by
  unfold State.eqSeen
  extract_lets counted
  rw [reg_setFld, if_neg h]
  unfold counted
  split
  · rw [State.bump, reg_setFld, if_neg h]
  · rfl

theorem mapCas_reg (s : State) (f : Cas → Cas) (j : Nat) : (s.mapCas f).reg j = s.reg j := rfl

theorem sendLink_reg (s : State) (d : Nat) (bs : List Block) (j : Nat) : (s.sendLink d bs).reg j = s.reg j := rfl

theorem linkIdle_linkStatus (s : State) (d l : Nat) (small : l < 2) :
    (s.linkIdle d).reg (Reg.casLinkStatus l) = s.reg (Reg.casLinkStatus l) := by
  unfold State.linkIdle
  split
  next q t taken =>
    have same : t.reg (Reg.casLinkStatus l) = s.reg (Reg.casLinkStatus l) := by rw [← (Prod.mk.inj taken).2]; rfl
    refine (List.foldlRecOn (motive := fun u : State => u.reg (Reg.casLinkStatus l) = t.reg (Reg.casLinkStatus l)) _ _
      (sendLink_reg ..) fun u h a _ => (eqSeen_reg u _ ?_).trans h).trans same
    unfold Reg.casLinkStatus Reg.lnxEqTx
    omega

/-- A packet sent on one link leaves the state of the links. -/
theorem sendLocal_linkUpNow (s : State) (d kind l : Nat) (payload : List Byte) (small : l < 2) :
    (s.sendLocal d kind payload).linkUpNow l = s.linkUpNow l := by
  have same : (s.sendLocal d kind payload).reg (Reg.casLinkStatus l) = s.reg (Reg.casLinkStatus l) := by
    unfold State.sendLocal State.leave
    rw [mapCas_reg, sendLink_reg, linkIdle_linkStatus _ _ _ small, mapCas_reg]
  rw [State.linkUpNow, State.linkUpNow, State.fld, State.fld, same]

theorem casShow_cas (s : State) : s.casShow.cas = s.cas := rfl

theorem fire_cas (s : State) (e : Nat) : (s.fire e).cas = s.cas := by rw [(fire_signals s e).eq]

end Sys2Proof.Machine

namespace Sys2Proof.Proofs
open Sys2Proof Sys2Proof.Machine

/-- Settles O49. -/
theorem cascadeTrafficCompletes : Obligations.CascadeTrafficCompletes := by
  unfold Obligations.CascadeTrafficCompletes
  refine ⟨?packets, ⟨?links, ?role, ?timeout, ?latch⟩⟩
  case packets =>
    intro s l p hs runs usable s1
    refine ⟨?waggle, ?request, ?prepare, ?back, ?decide, ?snap, ?message, ?image, ?counted, ?counting⟩
    case waggle =>
      intro kind addressed new c
      have mine : (s.addressed p && !s.sawPacket p) = true := by rw [addressed, new]; rfl
      exact gives_act rfl hs ((if_pos mine).trans (receive_mine runs usable kind rfl new))
    case request =>
      intro kind assigned dest role new
      refine gives_act rfl hs (receive_mine runs usable kind ?_ new)
      rw [assigned, dest, role, BEq.rfl]
      rfl
    case prepare =>
      intro kind other new
      exact gives_act rfl hs ((if_neg (packet_taken runs usable kind)).trans
        ((if_neg (Bool.eq_false_iff.mp other)).trans (if_neg (Bool.eq_false_iff.mp new))))
    case back =>
      intro o kind own out same wraps yes
      refine gives_act rfl hs ((if_neg (packet_taken runs usable kind)).trans ((if_pos own).trans ?_))
      simp only [out]
      refine (if_pos ⟨same, wraps⟩).trans ?_
      simp only [Bool.not_eq_true']
      rfl
    case decide =>
      intro kind addressed new
      exact gives_act rfl hs (receive_mine runs usable kind addressed new)
    case snap =>
      intro kind addressed new
      exact gives_act rfl hs (receive_mine runs usable kind addressed new)
    case message =>
      intro kind assigned dest new
      refine gives_act rfl hs (receive_mine runs usable kind ?_ new)
      rw [assigned, dest, BEq.rfl]
      rfl
    case image =>
      intro x _ found assigned new done k w
      have noted : s.KeepsCas s1 := notePacket_keepsCas s p
      refine ⟨?opens, ?line, ?close⟩
      case opens =>
        intro kind free first
        refine gives_act rfl hs (receiveImage_mine runs usable kind found assigned new done ?_
          ((noted.trans (importWord0_keepsCas ..)).trans (setImport_keepsCas ..)))
        simp only [free, first]
        rfl
      case line =>
        intro n kind opened row place s3 w room last whole s2
        have met : s.KeepsCas s3 := noted.trans (meet_keepsCas ..)
        refine gives_act rfl hs (receiveImage_mine runs usable kind found assigned new done ?_
          (((met.trans (unitStore_keepsCas ..)).trans (importWord0_keepsCas ..)).trans (setImport_keepsCas ..)))
        have fits : ¬ (pktNum p 2 2 ≠ x.line % 65536 ∨ pktNum p 4 4 ≠ x.got ∨
            decide (x.lines ≤ (w + 2 ^ 32 - s3.ringReleased x.ctrl) % 2 ^ 32) = true ∨
            x.width * bytesPerPixel x.format < x.got + (p.payload.drop 8).length ∨
            (pktByte p 1 = 1 ∧ x.got + (p.payload.drop 8).length < x.width * bytesPerPixel x.format)) := by
          rw [row, place, whole, decide_eq_false (Nat.not_le.mpr room)]
          simp
        simp only [opened]
        exact (if_neg fits).trans (if_pos whole)
      case close =>
        intro kind opened got
        refine gives_act rfl hs (receiveImage_mine runs usable kind found assigned new done ?_
          ((noted.trans (importWord0_keepsCas ..)).trans (setImport_keepsCas ..)))
        simp only [opened]
        exact if_neg (by simp [got])
    case counted =>
      intro tag kind waiting wraps s2
      refine gives_act rfl hs ((if_neg (packet_taken runs usable kind)).trans ((if_neg ?_).trans ((if_pos ?_).trans ?_)))
      · rcases wraps with w | w <;> simp [w]
      · rw [waiting]; rfl
      · show (match s2.cas.enumTag with
          | some t => (s2.mapCas (fun c => { c with enumTag := none })).complete 20 t stSuccess (BitVec.ofNat 64 (pktByte p 0))
          | none => s2) = _
        have still : s2.cas.enumTag = some tag := by
          rw [show s2.cas = s.cas from (fire_cas ..).trans (casShow_cas _), waiting]
        rw [still]
        rfl
    case counting =>
      intro kind free new small s2
      refine gives_act rfl hs ((if_neg (packet_taken runs usable kind)).trans ((if_neg ?_).trans ((if_neg ?_).trans
        ((if_neg (Bool.eq_false_iff.mp new)).trans (if_neg (Nat.not_le.mpr small))))))
      · rw [free]; simp
      · rw [free]; decide
  case links =>
    intro s d hs runs
    have enabled : s.cas.enable = true := (Bool.and_eq_true_iff.mp runs).1
    refine ⟨?down, ?up, ?reuse, ?restart, ?packets⟩
    case down =>
      intro up
      exact gives_act rfl hs (if_pos (by rw [enabled, up]; rfl))
    case up =>
      intro down locks guard again s1 s2
      refine gives_act rfl hs (if_neg ?_)
      have unkeyed : (s.cas.guard.isNone && s.fld Reg.kprStatus 17 17 == 1) = false := by
        rcases guard with g | g
        · rw [Option.isNone_eq_false_iff.mpr g]; rfl
        · rw [g, Bool.and_comm]; rfl
      rw [enabled, down, locks, unkeyed]
      decide
    case reuse =>
      intro up fresh s1 s2
      exact gives_act rfl hs (if_pos (by rw [enabled, up, fresh]; rfl))
    case restart =>
      intro off
      exact gives_act rfl hs (if_pos (by rw [enabled, off]; rfl))
    case packets =>
      intro p up z
      have live : ¬ (!s.casRuns || !s.linkUpNow d) = true := by rw [runs, up]; decide
      refine ⟨fun kind => gives_act rfl hs (if_neg (packet_local runs up kind)), ?_, gives_act rfl hs (if_neg live),
        gives_act rfl hs (if_neg live), gives_act rfl hs (if_neg live), gives_act rfl hs (if_neg live)⟩
      intro kind x l l8 s1
      exact gives_act rfl hs (if_neg (packet_local runs up kind))
  case role =>
    intro s hs runs
    refine ⟨?measure, ?send, ?miss⟩
    case measure =>
      intro first second
      refine gives_act rfl hs ((if_neg (by rw [runs]; decide)).trans ?_)
      simp only [List.foldl_cons, List.foldl_nil, first, if_true]
      rw [sendLocal_linkUpNow _ _ _ _ _ (by decide), second]
      rfl
    case send =>
      intro role assigned
      refine gives_act rfl hs (if_pos ?_)
      rw [runs, assigned, bne_iff_ne.mpr role]
      rfl
    case miss =>
      intro role assigned s1 s2
      have enabled : s.cas.enable = true := (Bool.and_eq_true_iff.mp runs).1
      have go : ¬ (!s.cas.enable || !s.casAssigned || s.casRole != 0) = true := by rw [enabled, assigned, role]; decide
      have misses : s2.cas.misses = s.cas.misses + 1 := by rw [show s2.cas = _ from fire_cas ..]; rfl
      have kept : s.KeepsCas s2 :=
        ((bump_keepsCas s _ _ _ (by decide)).trans (mapCas_reg s1 (fun c => { c with misses := c.misses + 1 }) _)).trans
          (fire_keepsCas _ 245 (by decide))
      have shown (u : State) (run : (if 3 ≤ s2.cas.misses ∧ s2.fld Reg.casStatus 11 8 = s2.casPos then s2.takeRole 2 else s2) = u) :
          Gives .waggleMiss s u := gives_act rfl hs ((if_neg go).trans run)
      refine ⟨fun few => shown _ (if_neg fun p => ?_), fun many deputy => shown _ (if_pos ⟨?_, ?_⟩)⟩
      · exact absurd p.1 (by omega)
      · omega
      · simp only [State.casPos, State.fld] at deputy ⊢
        rw [kept]
        exact deputy
  case timeout =>
    intro s o hs out late
    refine gives_act rfl hs ?_
    simp only [doPrepareTimeout, out]
    exact if_pos late
  case latch =>
    intro s t origin hs snaps due
    refine gives_act rfl hs ?_
    have past : s.cas.snaps.filter (fun t => decide (t.1 ≤ s.now)) = [(t, origin)] := by simp [snaps, due]
    have ahead : s.cas.snaps.filter (fun t => decide (s.now < t.1)) = [] := by simp [snaps, due]
    simp only [doSwarmSnapshotLatch, past, State.mapCas, ahead]

end Sys2Proof.Proofs
